-- ==== Sys2Proof/Word.lean ====
section
/-! DEFINITION. The word types of the LX3 and their plainest arithmetic: 64-bit scalars, bytes,
rows of 256 data bytes with a 32-byte side lane (R1, R177), tiles of 256 rows and masks (R295). -/

namespace Sys2Proof

/-- A 64-bit scalar, kind S of R295. -/
abbrev Word := BitVec 64

/-- A byte; all multi-byte values are little-endian (R7). -/
abbrev Byte := BitVec 8

/-- A row: 256 data bytes, byte `j` at bits `[8j+7:8j]`, and the 32-byte side lane (R177, R295 kind W). -/
structure Row where
  data : BitVec 2048
  side : BitVec 256
  deriving DecidableEq, Repr, Inhabited

/-- The row of zero bytes. -/
def Row.zero : Row := ⟨0, 0⟩

/-- A tile: the row of each of the 256 slices, slice `s` at index `s` (R295 kind T). -/
abbrev Tile := List Row

/-- A mask: 256 rows of 256 bits, slice `s` at index `s` (R295 kind M). -/
abbrev Mask := List (BitVec 256)

/-- The tile every byte of which is 0. -/
def Tile.zero : Tile := List.replicate 256 Row.zero

/-- The mask every bit of which is 0. -/
def Mask.zero : Mask := List.replicate 256 0

/-- The mask every bit of which is 1, the value `m0` reads (R296). -/
def Mask.ones : Mask := List.replicate 256 (BitVec.allOnes 256)

/-- Row of slice `s`. -/
def Tile.row (t : Tile) (s : Nat) : Row := t.getD s Row.zero

/-- A value of a port (R295): a scalar (a condition bit is the scalar 0 or 1), a row, a tile or a mask. -/
inductive Value where
  | s (v : Word)
  | w (v : Row)
  | t (v : Tile)
  | m (v : Mask)
  deriving DecidableEq, Repr

/-- A die of the package, 0..2 (R10). -/
abbrev DieId := Fin 3

/-- A context of a die, 0..3 (R154). -/
abbrev CtxId := Fin 4

end Sys2Proof
end

