-- ==== Sys2Proof/Syntax.lean ====
section
/-! DEFINITION. The syntax of the LX3's steps: guards, source and destination ports (Tables 12.3 to
12.11), and `Instr`, one constructor per row of the opcode table. -/

namespace Sys2Proof

/-- The guard of a move (R292): the move takes effect when `c[cond] xor inv = 1`. -/
structure Guard where
  inv : Bool
  cond : BitVec 3
  deriving DecidableEq, Repr

/-- The latency ports of Table 12.4, read under R156. -/
inductive LatPort where
  | ia0q | ia1q | imq | imq2 | syr | vxq | scq | mxq | g0 | g1 | nwq | feq
  deriving DecidableEq, Repr

/-- The queue ports of Table 12.4, read under R157. -/
inductive QPort where
  | lsq | syq | fxq | fxst
  deriving DecidableEq, Repr

/-- The operand latches (R293): ia0.a, ia0.b, ia1.a, im.a, ls.a, ls.m, sy.a, sy.b, sy.sri, fx.a to fx.c,
vx.a to vx.c, sc.f, mx.a, mx.b, nw.a, nw.b, fe.a, fe.b. -/
inductive Latch where
  | ia0a | ia0b | ia1a | ima | lsa | lsm | sya | syb | sysri | fxa | fxb | fxc
  | vxa | vxb | vxc | scf | mxa | mxb | nwa | nwb | fea | feb
  deriving DecidableEq, Repr

/-- A source of a move: an immediate (L = 1), or a source port of Table 12.4. -/
inductive Src where
  | imm (v : BitVec 9)
  | s (r : BitVec 5)
  | t (r : BitVec 5)
  | lat (p : LatPort)
  | queue (p : QPort)
  | stream (n : BitVec 4)
  | c (i : BitVec 3)
  | m (i : BitVec 3)
  | w (i : BitVec 2)
  | rdtick
  | lit
  deriving DecidableEq, Repr

/-- A destination of a move that is not a trigger (R293): a register, an operand latch, a sticky port or a
stream register. -/
inductive Dst where
  | s (r : BitVec 5)
  | t (r : BitVec 5)
  | latch (l : Latch)
  | vxm
  | vxrm
  | stream (n : BitVec 4)
  | c (i : BitVec 3)
  | m (i : BitVec 3)
  | w (i : BitVec 2)
  deriving DecidableEq, Repr


/-- What loses its light at a port (Table 02.6): a data wavelength of its own, a comb laser, λ16's laser, the spare laser; or a
data wavelength that its receiver no longer sees (R55). -/
inductive Light where
  | wave (w : BitVec 4)
  | comb (c : BitVec 2)
  | lambda16
  | spare
  | seen (w : BitVec 4)
  deriving DecidableEq, Repr

/-- What the meters and sensors show at a settlement (R27, R28, R148), powers in tenths of a watt: compute power drawn, scaled to a
full pulse rate, leakage, the compute budget of a thermal limit, the input power in watts, the hottest die sensor, the
hottest sensor of each laser module, and the floors that the ports' firmware asks for (0 where it asks for none). -/
structure Readings where
  draw : Nat
  leakage : Nat
  thermal : Nat
  input : BitVec 12
  dieMax : BitVec 8
  laser : List (BitVec 8)
  floors : List Nat
  deriving DecidableEq, Repr

/-- Who writes a register: a context of a die, whose sy.swr has come to its count; a function through a BAR (0 or 2) at an offset;
the runtime firmware of die 1, a special register of a die (R101), or the address space that it creates for a function; the
board management controller over MCTP, a register of the management window (R39); the host, its own memory as a function
reaches it (log 47); the firmware, an entry of a function's page tables (R85). -/
inductive RegWrite where
  | special (d : DieId) (c : CtxId)
  | bar (fn : BitVec 6) (bar off : Nat) (v : Word)
  | firmware (d : DieId) (n : Nat) (v : Word)
  | space (fn : BitVec 6) (asid : BitVec 8)
  | mctp (off : Nat) (v : Word)
  | hostMem (fn : BitVec 6) (addr : Word) (bs : List Byte)
  | entry (fn : BitVec 6) (level pa : Nat) (w : Word)
  deriving DecidableEq, Repr

/-- The algorithms of Table 03.3, by category, and any other. -/
inductive SpdmAlg where
  | ed25519 | sha512 | measSha512 | secp384r1 | aes256gcm | spdmSchedule | other
  deriving DecidableEq, Repr

/-- What the responder supports (R80). -/
inductive SpdmCap where
  | certificates | challenge | signedMeasurements | keyExchange | encryption | heartbeat | keyUpdate
  deriving DecidableEq, Repr

/-- One step of the LX3: one move of a group (Tables 12.2 to 12.11), or one event of the package that has no encoding. -/
inductive Instr where
  /-- The package supplies are good and PERST# is released, so bring-up begins at stage A. (R34) -/
  | perstRelease
  /-- Die 1's boot ROM completes its self-test, the manifest check and the identity rebuild. (R34) -/
  | stageA
  /-- Die 1's PLL lock, SRAM repair and CAPS load complete, and configuration space answers. (R34) -/
  | stageB
  /-- Die 1's stacks are trained at quarter rate and firmware is measured, reaching service level 1. (R34) -/
  | stageC
  /-- Dies 0 and 2 are released, UCIe and sideband lock, and all stacks retrain, reaching service level 2. (R34) -/
  | stageD (strap0 : Bool) (strap2 : Bool)
  /-- Lasers lock, port optics train, planes stay drained and the pen monitor starts, reaching service level 3. (R34) -/
  | stageE
  /-- A bring-up stage fails or passes its maximum time, and the part stays at the highest level reached. (R37) -/
  | stageFailure (code : BitVec 8)
  /-- A reset of the PF or a hot reset of the link resets every function and restarts bring-up at stage A. (R79) -/
  | pfReset
  /-- An FLR of a VF stops its tasks, discards its undispatched records and resets its event ring registers. (R79) -/
  | functionLevelReset (fn : BitVec 6)
  /-- A die sensor at 115 °C or a laser module at 80 °C makes the package record code 0x41 and remove its own power. (R28) -/
  | thermalPowerOff
  /-- Neighbour TICK rates differing by over 400 ppm for 2^20 tk raise a clock machine check and take the die out of service. (R20) -/
  | clockMachineCheck (d : DieId)
  /-- A soft error in control flops is caught by parity and raised as machine check 0x43. (R274) -/
  | controlParity (d : DieId) (c : CtxId)
  /-- A far-lane frame arrives, and a valid row is written at the tail of the lane's skew buffer. (R44) -/
  | farLaneFrame (d : DieId) (l : BitVec 4) (fixed : Nat) (bad : Bool)
  /-- A flit that fails 8 consecutive retries loses the far path, and both dies take a machine check. (R47) -/
  | farPathLost (b : Bool)
  /-- In each tick with TICK[4:0] = 0 a die sends a count message on the sideband. (R49) -/
  | countMessageSend (d : DieId)
  /-- A received count message updates the die's offset estimate of that partner's SCY. (R50) -/
  | countMessage (d : DieId) (crc : Bool)
  /-- Three consecutive missing count messages from one origin raise a sideband machine check on its fold. (R51) -/
  | countMessagesMissing (d : DieId) (o : DieId)
  /-- A usable freeze event message adds its CYCLES to the member's freeze debt. (R168) -/
  | freezeEventMessage (d : DieId) (crc : Bool)
  /-- A usable stop event message makes a partner stop its timed context at its next group boundary. (R169) -/
  | stopEventMessage (d : DieId) (crc : Bool)
  /-- A die's remaining freeze debt reaches zero and the die issues again. (R168) -/
  | freezeDebtPaid (d : DieId)
  /-- The background scrubber reads a row through slot D. (R195) -/
  | scrubRead (d : DieId) (u : Nat) (new : List (Nat × Nat))
  /-- Loss of light on a data wavelength is detected and the port restripes and replays within 1 µs. (R55) -/
  | lossOfLight (p : Fin 12) (l : Light)
  /-- The spare laser is locked to a failed quad and the port widens its stripe. (R56) -/
  | spareLaserLock (p : Fin 12)
  /-- λ16 is trained into a failed position and the port widens its stripe. (R56) -/
  | spareWavelengthLock (p : Fin 12)
  /-- A data flit is received, accepted in LSEQ order and released through the resequencing window. (R62) -/
  | dataFlit (p : Fin 12) (peer : BitVec 7) (h : BitVec 128) (data : BitVec 2048) (crc : BitVec 64) (tag : BitVec 64)
  /-- An idle flit is received and carries no transaction. (R59) -/
  | idleFlit (p : Fin 12) (lack : BitVec 16)
  /-- A control acknowledgement releases flits covered by its LACK from the replay buffer. (R62) -/
  | acknowledgement (p : Fin 12) (lack : BitVec 16)
  /-- The receiver aligns to a restripe marker and takes the new stripe. (R55) -/
  | restripeMarker (p : Fin 12) (mask : BitVec 16)
  /-- A credit-return control flit restores credits of a virtual channel. (R63) -/
  | creditReturn (p : Fin 12) (vc : BitVec 3) (n : Nat)
  /-- A drain marker control flit is received during a plane drain. (R67) -/
  | drainMarker (p : Fin 12)
  /-- A replay request makes the transmitter resend from the flit after LACK. (R62) -/
  | replayRequest (p : Fin 12) (lack : BitVec 16)
  /-- After 2 µs with unacknowledged flits and no progress the transmitter replays, and after 8 fruitless replays the port goes down. (R62) -/
  | replayTimeout (p : Fin 12)
  /-- The receiver repeats its replay request at most every 1 µs until the missing flit arrives. (R62) -/
  | replayRequestRepeat (p : Fin 12)
  /-- The receiver acknowledges when 100 ns have passed since its last acknowledgement. (R62) -/
  | acknowledgementTimer (p : Fin 12)
  /-- PLANECTL DRAIN stops new flits on an enabled plane's ports and resends the rest elsewhere. (R67) -/
  | planeDrain (k : Fin 4)
  /-- PLANECTL DRAIN with FORCE drains a plane whatever the state of the other planes. (R70) -/
  | planeDrainForce (k : Fin 4)
  /-- PLANECTL ENABLE trains a drained plane's ports and returns it to service under the active table. (R70) -/
  | planeEnable (k : Fin 4)
  /-- PLANECTL ENABLE with COMMIT enables a drained plane and commits the shadow table and group registers. (R70) -/
  | planeEnableCommit (k : Fin 4)
  /-- Every port of a draining plane has an empty replay buffer, so the plane reports drained and event 0x54 follows. (R67) -/
  | planeDrained (k : Fin 4)
  /-- A plane's ports finish training, the plane reports enabled and event 0x55 follows. (R67) -/
  | planeEnabled (k : Fin 4)
  /-- A write to MEMBERSET takes effect only while all four planes are drained, otherwise it sets CFGERR[1]. (R69) -/
  | membersetWrite (v : Word)
  /-- The owner receives a read request, checks it and returns the data in a read response. (R386) -/
  | readRequest (p : Nat) (k : List Nat)
  /-- A read response places the data and status on the requester's fx.q and fx.st. (R383) -/
  | readResponse (p : Nat)
  /-- The owner checks and performs a remote store or row store. (R386) -/
  | writeRequest (p : Nat) (k : List Nat)
  /-- The owner writes an 8-byte flag word. (R393) -/
  | flagRequest (p : Nat)
  /-- A write or flag response delivers the status word to the requester. (R386) -/
  | writeAndFlagResponse (p : Nat)
  /-- The owner applies a plain remote atomic on arrival as one indivisible step. (R387) -/
  | atomicRequest (p : Nat)
  /-- An atomic response delivers the old value and status to the requester. (R387) -/
  | atomicResponse (p : Nat)
  /-- The owner checks an ordered atomic and holds it until its superstep closes. (R388) -/
  | orderedAtomicRequest (p : Nat)
  /-- The requester receives the fetched value of an ordered atomic and writes it to the named local address. (R218) -/
  | orderedFetchedValueWrite (p : Nat)
  /-- The status of an ordered atomic reaches the requester. (R388) -/
  | orderedAtomicStatus (p : Nat)
  /-- Owner B checks A's key and the READ right, reads the range and sends a delivery to C. (R389) -/
  | threePartyRequest (p : Nat) (k : List Nat)
  /-- Consumer C checks the delivery, writes the data, raises ARRCNT and acknowledges to A. (R75) -/
  | delivery (p : Nat) (k : List Nat)
  /-- A three-party status reaches A, which keeps the first and discards later ones. (R390) -/
  | threePartyStatus (p : Nat)
  /-- A member reads its sectors for a load-and-reduce and returns its values. (R392) -/
  | reductionRead (p : Nat) (k : List Nat)
  /-- A member's reduction value reaches the router, which combines values in the fixed tree order. (R392) -/
  | reductionValue (p : Nat)
  /-- A member receives ARRIVE for superstep k and ends phase 1 when it holds one from every member. (R394) -/
  | superstepArrive (p : Nat)
  /-- A member receives READY and enters phase 3 when it holds one from every member. (R394) -/
  | superstepReady (p : Nat)
  /-- An ABORT ends the superstep with its sender's outcome and nothing is applied. (R394) -/
  | superstepAbort (p : Nat)
  /-- A member receives DONE and releases its waiting context when it holds one from every member. (R394) -/
  | superstepDone (p : Nat)
  /-- After 100 µs in phase 1 the member ends the superstep with TIMEOUT and sends ABORT. (R394) -/
  | superstepTimeout (k : Nat)
  /-- A stream row arrives and is buffered, or discarded with a credit returned if its sender does not match. (R397) -/
  | streamRow (p : Nat)
  /-- A returned stream credit lets a blocked push proceed. (R397) -/
  | streamCredit (p : Nat)
  /-- No response within 100 µs of the request leaving its router completes the transaction with TIMEOUT. (R385) -/
  | fabricTimeout (k : Nat)
  /-- A group blocked on a stream for more than WDOG µs raises STREAMTIMEOUT precisely. (R398) -/
  | streamtimeout (d : DieId) (c : CtxId)
  /-- A host write into a queue's staging area fills staged bytes, or is discarded and sets QERR[0]. (R95) -/
  | stageWrite (fn : BitVec 6) (q : BitVec 10) (off : Nat) (bs : List Byte)
  /-- A write of offset 0x038 submits the staged record, which is accepted with a LID or discarded when the queue is full. (R96) -/
  | recordSubmit (fn : BitVec 6) (q : BitVec 10) (off : Nat) (bs : List Byte)
  /-- A write of 1 to FLUSH completes every undispatched earlier record with CANCELLED. (R97) -/
  | flush (fn : BitVec 6) (q : BitVec 10)
  /-- A PF write to QCFG assigns the queue, or is discarded and sets QERR[1]. (R94) -/
  | qcfgWrite (fn : BitVec 6) (q : BitVec 10) (v : Word)
  /-- A write to DMWIN moves the BAR4 window base, is discarded at 432 or more, or moves a TDI to ERROR. (R89) -/
  | dmwinWrite (v : Word)
  /-- A host read through BAR4 returns decrypted HBM, all-ones for tenant pages, or Unsupported Request. (R89) -/
  | bar4Read (off : Nat) (n : Nat)
  /-- A host write through BAR4 writes slot-0 HBM, is discarded for tenant pages, or completes with Unsupported Request. (R89) -/
  | bar4Write (off : Nat) (bs : List Byte)
  /-- A write to PWRLIM sets LIMIT from the next settlement, or sets BADW when out of range. (R26) -/
  | pwrlimWrite (v : Word)
  /-- A write of PWRMODE LOWPWR gives or withdraws a low-power order. (R151) -/
  | lowpwrWrite (v : Word)
  /-- A wake hint starts or restarts a 200 µs hold during which the low-power order is ignored. (R151) -/
  | wake
  /-- The 200 µs wake hold ends, and a still-set LOWPWR order takes effect at the next settlement. (R151) -/
  | wakeHoldEnd
  /-- A write to a register with no behaviour of its own stores its writable fields, or has no effect. (R40) -/
  | registerWrite (r : RegWrite)
  /-- The SPDM GET_VERSION request is answered on the DOE mailbox. (R80) -/
  | getVersion (fn : BitVec 6)
  /-- The SPDM GET_CAPABILITIES request is answered. (R80) -/
  | getCapabilities (fn : BitVec 6)
  /-- The SPDM algorithm negotiation selects the algorithms of Table 03.3 or fails. (R80) -/
  | negotiateAlgorithms (fn : BitVec 6) (offered : List SpdmAlg)
  /-- The SPDM GET_DIGESTS request returns the digest of the slot-0 chain. (R81) -/
  | getDigests (fn : BitVec 6)
  /-- The SPDM GET_CERTIFICATE request returns the slot-0 certificate chain. (R81) -/
  | getCertificate (fn : BitVec 6) (off : Nat) (len : Nat)
  /-- The SPDM CHALLENGE is answered with a response signed by the alias key. (R80) -/
  | challenge (fn : BitVec 6) (nonce : List Byte)
  /-- The SPDM GET_MEASUREMENTS request returns the measurement blocks, signed or unsigned. (R82) -/
  | getMeasurements (fn : BitVec 6) (index : Nat) (sign : Bool) (nonce : List Byte)
  /-- The SPDM KEY_EXCHANGE request starts a secured session. (R80) -/
  | keyExchange (fn : BitVec 6) (req : List Byte)
  /-- The SPDM FINISH request completes session establishment. (R80) -/
  | finish (fn : BitVec 6) (good : Bool)
  /-- The SPDM HEARTBEAT request keeps a session alive. (R80) -/
  | heartbeat (fn : BitVec 6)
  /-- A session that fails its heartbeat ends and moves a bound TDI to ERROR. (R92) -/
  | heartbeatFailure (fn : BitVec 6)
  /-- The SPDM KEY_UPDATE request updates session keys. (R80) -/
  | keyUpdate (fn : BitVec 6)
  /-- The SPDM END_SESSION request ends a session, which moves a bound TDI to ERROR. (R92) -/
  | endSession (fn : BitVec 6)
  /-- A secured IDE key management message programs an IDE selective stream. (R80) -/
  | ideKeyManagement (fn : BitVec 6) (stream : BitVec 3)
  /-- An IDE stream bound to a TDI leaves the secure state and the TDI moves to ERROR. (R92) -/
  | ideStreamInsecure (fn : BitVec 6) (stream : BitVec 3)
  /-- The TDISP LOCK_INTERFACE moves a VF to CONFIG_LOCKED with a fresh tenant key slot, or is refused. (R84) -/
  | lockInterface (fn : BitVec 6)
  /-- The TDISP message moves a locked TDI to RUN, sealing the VF. (R84) -/
  | startInterface (fn : BitVec 6)
  /-- The TDISP STOP_INTERFACE moves a sealed VF out of RUN through the four teardown steps. (R91) -/
  | stopInterface (fn : BitVec 6)
  /-- The loader checks an LXO image in order and places it, returning a handle or a refusal status. (R115) -/
  | loadObject (fn : BitVec 6) (secured : Bool) (req : List Byte)
  /-- An object's slot, program-store space and images are freed, or the request is refused. (R110) -/
  | unloadObject (fn : BitVec 6) (secured : Bool) (handle : BitVec 32)
  /-- A sealed function reads its own attestation log entries with a vendor-defined SPDM request. (R83) -/
  | attestationLogRead (fn : BitVec 6)
  /-- The scheduler makes a dispatch pass over the queue heads, on an event or at least every 10 µs. (R134) -/
  | dispatchPass
  /-- An inbound sealed transfer checks each chunk tag and writes plaintext under the slot key, or zeroes the range on AUTH. (R88) -/
  | sealedTransferIn (lid : BitVec 32)
  /-- An outbound sealed transfer encrypts each chunk to the host buffer and then writes its completion record. (R88) -/
  | sealedTransferOut (lid : BitVec 32)
  /-- Each fold die starts its timed context at the agreed start tick and latches its origin. (R138) -/
  | foldStart (d : DieId)
  /-- A victim's members reach the agreed count and stop, or report when they leave a no-pre-empt window. (R140) -/
  | agreedCount (lid : BitVec 32) (d : DieId)
  /-- A member still inside a window after 1 ms of deferral stops the victim with the no-pre-empt overrun fault. (R141) -/
  | noPreemptOverrun (lid : BitVec 32) (d : DieId)
  /-- A pre-empted context's save finishes, with its header written last. (R280) -/
  | save (lid : BitVec 32)
  /-- A launch's wall-time budget expires, the task is stopped and the launch completes with BUDGET. (R102) -/
  | budgetExpiry (lid : BitVec 32)
  /-- Every 50 µs the governor sets laser powers and the pass fraction f for the next interval. (R148) -/
  | governorSettlement (r : Readings)
  /-- At the start of each 2,000 tk sub-interval a die raises its share of the interval's swallowed pulses as freeze debt. (R149) -/
  | freezeDebtRaise (d : DieId)
  /-- A free context that has issued 256 groups while another was ready stops being current. (R146) -/
  | freeContextSwitch (d : DieId)
  /-- A context that issued exit retires once its commands, queues and timed effects have completed. (R161) -/
  | contextRetire (d : DieId) (c : CtxId)
  /-- A timed context waiting at ALIGN issues once its estimate of every partner's FC reaches X + 1. (R164) -/
  | alignRelease (d : DieId)
  /-- A timed context waiting 2^20 unfrozen tk at one ALIGN raises the alignment timeout and the fold stops. (R166) -/
  | alignmentTimeout (d : DieId)
  /-- A STOPCTL write with action 1 returns every held context of the task as sy.rfe would. (R270) -/
  | stopctlResume (d : DieId) (c : CtxId)
  /-- A STOPCTL write with action 2 ends the held task, and its launch completes with FAULT. (R270) -/
  | stopctlEnd (d : DieId) (c : CtxId)
  /-- A load or store queue entry is performed, or takes a deferred fault that holds its queue. (R203) -/
  | queueEntryPerformed (d : DieId) (c : CtxId) (seq : Nat) (off : Nat)
  /-- At its start count a fill command begins, or is discarded with a token-not-ready fault if a consumed token is not set. (R212) -/
  | fillStart (d : DieId) (k : Nat) (rows : List Nat)
  /-- At bound E the fill command's token is set and its committed bytes are released. (R191) -/
  | fillCompletion (d : DieId) (k : Nat)
  /-- At m + 64 a loaded route, lane pattern or plane entry takes over and its token is set. (R362) -/
  | tableLoadComplete (d : DieId)
  /-- At n + 320 the solved live route takes effect, nw.q receives OK or NOTINJ and the token is set. (R366) -/
  | solveComplete (d : DieId)
  /-- At n + 65,536 a pin completes all or nothing and fe.q receives OK, RANGE or FULL. (R380) -/
  | pinComplete (d : DieId)
  /-- A copy's writes become visible and DONEID passes its identifier. (R193) -/
  | copyComplete (d : DieId) (ch : Fin 16) (blocks : List Nat)
  /-- A failing copy halts its channel, sets ERR, ERRID and CAUSE, and gives its starter a deferred copy fault. (R194) -/
  | copyFailure (d : DieId) (ch : Fin 16)
  /-- Writing 1 to ERR counts the failed copy complete and lets the channel take the next copy. (R194) -/
  | copyErrClear (d : DieId) (c : CtxId) (seq : Nat)
  /-- A write to INVAL drops matching cached translations on every die and completes when earlier walks end. (R188) -/
  | invalWrite (r : RegWrite)
  /-- A write to SLOTMAP moves a range of physical pages to a key slot, zeroing pages that leave a tenant slot. (R90) -/
  | slotmapWrite (r : RegWrite)
  /-- A write of POLGEN raises the policy generation, ignoring values not greater than the current one. (R235) -/
  | polgenWrite (d : DieId) (c : CtxId) (seq : Nat)
  /-- A write of RMODE or vx.rm sets the rounding mode, or raises the illegal-operand fault for 5..7. (R247) -/
  | rmodeWrite (d : DieId) (c : CtxId)
  /-- A supervisor write of a window descriptor word stores it, resolving a scratchpad BASE to the writer's die. (R71) -/
  | windowDescriptorWrite (d : DieId) (c : CtxId) (seq : Nat)
  /-- A write of STREAMCFG discards the stream's receive buffer and resets its credits, or is refused. (R396) -/
  | streamcfgWrite (d : DieId) (c : CtxId) (seq : Nat)
  /-- A pen's store to OBSPOST offers OBSSTAGE as an observation slot and clears the stage. (R239) -/
  | obspost (n : Nat)
  /-- A pen's store to ACTPOP removes the oldest action slot. (R239) -/
  | actpop (n : Nat)
  /-- A pen's WFI waits until ACTCNT is not 0 or the episode ends. (R240) -/
  | wfi (n : Nat)
  /-- An action arrives for a pen waiting at WFI, and the WFI retires once. (R240) -/
  | wfiWake (n : Nat)
  /-- The first write to a pen memory page copies it from the image to pen memory. (R228) -/
  | copyOnWrite (n : Nat) (page : Nat)
  /-- A pen access outside its regions or to a read-only pen-page offset ends the episode with REASON 4. (R227) -/
  | penAccessFault (n : Nat)
  /-- Retiring an instruction would exceed the step budget, so the episode is truncated with REASON 1. (R238) -/
  | stepBudget (n : Nat)
  /-- Retiring an instruction would exceed the episode budget, so the episode is truncated with REASON 2. (R238) -/
  | episodeBudget (n : Nat)
  /-- The wall backstop expires and the episode is truncated with REASON 3. (R238) -/
  | wallBackstop (n : Nat)
  /-- An uncorrectable error in a hart or paddock cache truncates the pen with REASON 5 and posts event 0x23. (R234) -/
  | paddockHardwareError (n : Nat)
  /-- CREATE takes the lowest free pen, reads its descriptor and starts episode 0. (R230) -/
  | penCreate (d : DieId) (c : CtxId) (seq : Nat)
  /-- RESET ends any episode, empties the mailboxes and starts the next episode. (R230) -/
  | penReset (d : DieId) (c : CtxId) (seq : Nat)
  /-- HALT moves a running pen to ENDED, truncating its episode with REASON 6. (R229) -/
  | penHalt (d : DieId) (c : CtxId) (seq : Nat)
  /-- SNAP writes an ended pen's hart state and memory as a pen image. (R229) -/
  | penSnap (d : DieId) (c : CtxId) (seq : Nat)
  /-- READREC copies the pen's episode record to the named address. (R241) -/
  | penReadrec (d : DieId) (c : CtxId) (seq : Nat)
  /-- DESTROY ends any episode, empties both mailboxes and frees the pen. (R229) -/
  | penDestroy (d : DieId) (c : CtxId) (seq : Nat)
  /-- The pen monitor returns 0x0200_0000. (R225) -/
  | sbiGetSpecVersion (n : Nat)
  /-- The pen monitor returns 0x4156_5452. (R225) -/
  | sbiGetImplId (n : Nat)
  /-- The pen monitor returns the version of its image. (R225) -/
  | sbiGetImplVersion (n : Nat)
  /-- The pen monitor returns 1 for the base extension and 0 for every other ID. (R225) -/
  | sbiProbeExtension (n : Nat)
  /-- The pen monitor returns 0. (R225) -/
  | sbiGetMvendorid (n : Nat)
  /-- The pen monitor returns 0. (R225) -/
  | sbiGetMarchid (n : Nat)
  /-- The pen monitor returns 1. (R225) -/
  | sbiGetMimpid (n : Nat)
  /-- An ecall with any other extension ID returns SBI_ERR_NOT_SUPPORTED. (R225) -/
  | sbiNotSupported (n : Nat)
  /-- A move copies a source port to a register, latch, sticky port or stream register. (R292) -/
  | move (g : Guard) (h : Bool) (src : Src) (dst : Dst)
  /-- The move 0 > s0 issues as a group of its own and does nothing. (R292) -/
  | nop
  /-- a + v on ia0. (R313) -/
  | ia0Add (g : Guard) (src : Src)
  /-- a − v on ia0. (R313) -/
  | ia0Sub (g : Guard) (src : Src)
  /-- a AND v on ia0. (R313) -/
  | ia0And (g : Guard) (src : Src)
  /-- a OR v on ia0. (R313) -/
  | ia0Or (g : Guard) (src : Src)
  /-- a XOR v on ia0. (R313) -/
  | ia0Xor (g : Guard) (src : Src)
  /-- a AND NOT v on ia0. (R313) -/
  | ia0Andn (g : Guard) (src : Src)
  /-- a OR NOT v on ia0. (R313) -/
  | ia0Orn (g : Guard) (src : Src)
  /-- a shifted left by v[5:0] on ia0. (R313) -/
  | ia0Shl (g : Guard) (src : Src)
  /-- a shifted right logically by v[5:0] on ia0. (R313) -/
  | ia0Shr (g : Guard) (src : Src)
  /-- a shifted right arithmetically by v[5:0] on ia0. (R313) -/
  | ia0Sar (g : Guard) (src : Src)
  /-- a rotated left by v[5:0]. (R313) -/
  | ia0Rol (g : Guard) (src : Src)
  /-- a rotated right by v[5:0]. (R313) -/
  | ia0Ror (g : Guard) (src : Src)
  /-- Signed minimum of a and v. (R313) -/
  | ia0Min (g : Guard) (src : Src)
  /-- Signed maximum of a and v. (R313) -/
  | ia0Max (g : Guard) (src : Src)
  /-- Unsigned minimum of a and v. (R313) -/
  | ia0Minu (g : Guard) (src : Src)
  /-- Unsigned maximum of a and v. (R313) -/
  | ia0Maxu (g : Guard) (src : Src)
  /-- Leading zero bits of v. (R313) -/
  | ia0Clz (g : Guard) (src : Src)
  /-- Trailing zero bits of v. (R313) -/
  | ia0Ctz (g : Guard) (src : Src)
  /-- Number of 1 bits of v. (R313) -/
  | ia0Popc (g : Guard) (src : Src)
  /-- v[7:0] sign-extended. (R313) -/
  | ia0Sext8 (g : Guard) (src : Src)
  /-- v[15:0] sign-extended. (R313) -/
  | ia0Sext16 (g : Guard) (src : Src)
  /-- v[31:0] sign-extended. (R313) -/
  | ia0Sext32 (g : Guard) (src : Src)
  /-- v[31:0] zero-extended. (R313) -/
  | ia0Zext32 (g : Guard) (src : Src)
  /-- Extracts a bit field of a under the field control v. (R314) -/
  | ia0Bext (g : Guard) (src : Src)
  /-- Replaces a bit field of a with bits of b under the field control v. (R314) -/
  | ia0Bins (g : Guard) (src : Src)
  /-- 1 when a = v. (R313) -/
  | ia0Ceq (g : Guard) (src : Src)
  /-- 1 when a ≠ v. (R313) -/
  | ia0Cne (g : Guard) (src : Src)
  /-- 1 when a < v signed. (R313) -/
  | ia0Clt (g : Guard) (src : Src)
  /-- 1 when a < v unsigned. (R313) -/
  | ia0Cltu (g : Guard) (src : Src)
  /-- 1 when a ≤ v signed. (R313) -/
  | ia0Cle (g : Guard) (src : Src)
  /-- 1 when a ≤ v unsigned. (R313) -/
  | ia0Cleu (g : Guard) (src : Src)
  /-- Signed 128-bit product, low half on im.q and high half on im.q2. (R315) -/
  | imMul (g : Guard) (src : Src)
  /-- Unsigned 128-bit product. (R315) -/
  | imMulhu (g : Guard) (src : Src)
  /-- Signed × unsigned 128-bit product. (R315) -/
  | imMulhsu (g : Guard) (src : Src)
  /-- Signed quotient and remainder with defined division by zero. (R315) -/
  | imDiv (g : Guard) (src : Src)
  /-- Unsigned quotient and remainder. (R315) -/
  | imDivu (g : Guard) (src : Src)
  /-- a + v on ia1. (R313) -/
  | ia1Add (g : Guard) (src : Src)
  /-- a − v on ia1. (R313) -/
  | ia1Sub (g : Guard) (src : Src)
  /-- a AND v on ia1. (R313) -/
  | ia1And (g : Guard) (src : Src)
  /-- a OR v on ia1. (R313) -/
  | ia1Or (g : Guard) (src : Src)
  /-- a XOR v on ia1. (R313) -/
  | ia1Xor (g : Guard) (src : Src)
  /-- a AND NOT v on ia1. (R313) -/
  | ia1Andn (g : Guard) (src : Src)
  /-- Left shift on ia1. (R313) -/
  | ia1Shl (g : Guard) (src : Src)
  /-- Logical right shift on ia1. (R313) -/
  | ia1Shr (g : Guard) (src : Src)
  /-- Arithmetic right shift on ia1. (R313) -/
  | ia1Sar (g : Guard) (src : Src)
  /-- 1 when a = v, on ia1. (R313) -/
  | ia1Ceq (g : Guard) (src : Src)
  /-- 1 when a < v signed, on ia1. (R313) -/
  | ia1Clt (g : Guard) (src : Src)
  /-- 1 when a < v unsigned, on ia1. (R313) -/
  | ia1Cltu (g : Guard) (src : Src)
  /-- Branches to bundle v after two delay groups. (R316) -/
  | brJmp (g : Guard) (src : Src)
  /-- Branches to v and writes the link into s15. (R319) -/
  | brCall (g : Guard) (src : Src)
  /-- Decrements LC, advances ROFS and branches while LC is not 0. (R320) -/
  | brLoop (g : Guard) (src : Src)
  /-- Sets RSZ and RFILE of the rotating files and clears ROFS. (R321) -/
  | brRotcfg (g : Guard) (src : Src)
  /-- The timed context gives away the next v cycles. (R160) -/
  | brYield (g : Guard) (src : Src)
  /-- The timed context waits until every partner's FC estimate reaches its next count. (R164) -/
  | brAlign (g : Guard) (src : Src)
  /-- The context stops issuing and retires once its work has completed. (R161) -/
  | brExit (g : Guard) (src : Src)
  /-- Exit that discards commands not yet started. (R162) -/
  | brExitAbandon (g : Guard) (src : Src)
  /-- Commits, writes v into FADDR and raises the software trap 0x30. (R318) -/
  | brTrap (g : Guard) (src : Src)
  /-- Queued load of one byte, sign-extended. (R322) -/
  | lsLdb (g : Guard) (src : Src)
  /-- Queued load of one byte, zero-extended. (R322) -/
  | lsLdbu (g : Guard) (src : Src)
  /-- Queued load of two bytes, sign-extended. (R322) -/
  | lsLdh (g : Guard) (src : Src)
  /-- Queued load of two bytes, zero-extended. (R322) -/
  | lsLdhu (g : Guard) (src : Src)
  /-- Queued load of four bytes, sign-extended. (R322) -/
  | lsLdw (g : Guard) (src : Src)
  /-- Queued load of four bytes, zero-extended. (R322) -/
  | lsLdwu (g : Guard) (src : Src)
  /-- Queued load of eight bytes. (R322) -/
  | lsLdd (g : Guard) (src : Src)
  /-- Stores v[7:0] at the address in ls.a. (R322) -/
  | lsStb (g : Guard) (src : Src)
  /-- Stores v[15:0]. (R322) -/
  | lsSth (g : Guard) (src : Src)
  /-- Stores v[31:0], or starts a copy at a copy-channel aperture. (R322) -/
  | lsStw (g : Guard) (src : Src)
  /-- Stores v[63:0]. (R322) -/
  | lsStd (g : Guard) (src : Src)
  /-- Queued load of one row as a W value. (R322) -/
  | lsLdrow (g : Guard) (src : Src)
  /-- Stores a whole row. (R322) -/
  | lsStrow (g : Guard) (src : Src)
  /-- Stores the row bytes selected by the mask in ls.m. (R322) -/
  | lsStrowm (g : Guard) (src : Src)
  /-- Orders every earlier queue entry before every later one. (R205) -/
  | lsQmark (g : Guard) (src : Src)
  /-- 32-bit atomic add. (R325) -/
  | syAmoAddW (g : Guard) (src : Src)
  /-- 64-bit atomic add. (R325) -/
  | syAmoAddD (g : Guard) (src : Src)
  /-- 32-bit atomic and. (R325) -/
  | syAmoAndW (g : Guard) (src : Src)
  /-- 64-bit atomic and. (R325) -/
  | syAmoAndD (g : Guard) (src : Src)
  /-- 32-bit atomic or. (R325) -/
  | syAmoOrW (g : Guard) (src : Src)
  /-- 64-bit atomic or. (R325) -/
  | syAmoOrD (g : Guard) (src : Src)
  /-- 32-bit atomic xor. (R325) -/
  | syAmoXorW (g : Guard) (src : Src)
  /-- 64-bit atomic xor. (R325) -/
  | syAmoXorD (g : Guard) (src : Src)
  /-- 32-bit atomic signed minimum. (R325) -/
  | syAmoMinW (g : Guard) (src : Src)
  /-- 64-bit atomic signed minimum. (R325) -/
  | syAmoMinD (g : Guard) (src : Src)
  /-- 32-bit atomic signed maximum. (R325) -/
  | syAmoMaxW (g : Guard) (src : Src)
  /-- 64-bit atomic signed maximum. (R325) -/
  | syAmoMaxD (g : Guard) (src : Src)
  /-- 32-bit atomic unsigned minimum. (R325) -/
  | syAmoMinuW (g : Guard) (src : Src)
  /-- 64-bit atomic unsigned minimum. (R325) -/
  | syAmoMinuD (g : Guard) (src : Src)
  /-- 32-bit atomic unsigned maximum. (R325) -/
  | syAmoMaxuW (g : Guard) (src : Src)
  /-- 64-bit atomic unsigned maximum. (R325) -/
  | syAmoMaxuD (g : Guard) (src : Src)
  /-- 32-bit atomic swap. (R325) -/
  | syAmoSwapW (g : Guard) (src : Src)
  /-- 64-bit atomic swap. (R325) -/
  | syAmoSwapD (g : Guard) (src : Src)
  /-- 32-bit atomic compare-and-swap. (R325) -/
  | syAmoCasW (g : Guard) (src : Src)
  /-- 64-bit atomic compare-and-swap. (R325) -/
  | syAmoCasD (g : Guard) (src : Src)
  /-- Range fence over loads. (R326) -/
  | syFenceR (g : Guard) (src : Src)
  /-- Range fence over stores. (R326) -/
  | syFenceW (g : Guard) (src : Src)
  /-- Range fence over loads and stores. (R326) -/
  | syFenceRw (g : Guard) (src : Src)
  /-- The free context waits until the token is set. (R327) -/
  | syTokWait (g : Guard) (src : Src)
  /-- Reports whether the token is set, and faults in timed code when it is not. (R327) -/
  | syTokTest (g : Guard) (src : Src)
  /-- Makes a token pending until a copy channel's DONEID passes an identifier. (R328) -/
  | syTokId (g : Guard) (src : Src)
  /-- Clears a token, faulting BUSY when it is pending. (R327) -/
  | syTokClr (g : Guard) (src : Src)
  /-- Raises the context's barrier epoch at the given level. (R329) -/
  | syBarArrive (g : Guard) (src : Src)
  /-- Blocks until every context of the level has arrived. (R329) -/
  | syBarWait (g : Guard) (src : Src)
  /-- Checks and makes a phase set current. (R330) -/
  | syPhase (g : Guard) (src : Src)
  /-- Remote 4-byte load. (R386) -/
  | fxRldW (g : Guard) (h : Bool) (src : Src)
  /-- Remote 8-byte load. (R386) -/
  | fxRldD (g : Guard) (h : Bool) (src : Src)
  /-- Remote row load. (R386) -/
  | fxRldrow (g : Guard) (h : Bool) (src : Src)
  /-- Remote 4-byte store. (R386) -/
  | fxRstW (g : Guard) (h : Bool) (src : Src)
  /-- Remote 8-byte store. (R386) -/
  | fxRstD (g : Guard) (h : Bool) (src : Src)
  /-- Remote row store. (R386) -/
  | fxRstrow (g : Guard) (h : Bool) (src : Src)
  /-- Remote 64-bit atomic add. (R387) -/
  | fxRamoAdd (g : Guard) (h : Bool) (src : Src)
  /-- Remote atomic and. (R387) -/
  | fxRamoAnd (g : Guard) (h : Bool) (src : Src)
  /-- Remote atomic or. (R387) -/
  | fxRamoOr (g : Guard) (h : Bool) (src : Src)
  /-- Remote atomic xor. (R387) -/
  | fxRamoXor (g : Guard) (h : Bool) (src : Src)
  /-- Remote atomic signed minimum. (R387) -/
  | fxRamoMin (g : Guard) (h : Bool) (src : Src)
  /-- Remote atomic signed maximum. (R387) -/
  | fxRamoMax (g : Guard) (h : Bool) (src : Src)
  /-- Remote atomic swap. (R387) -/
  | fxRamoSwap (g : Guard) (h : Bool) (src : Src)
  /-- Remote atomic compare-and-swap. (R387) -/
  | fxRamoCas (g : Guard) (h : Bool) (src : Src)
  /-- Ordered remote add applied at the superstep close. (R388) -/
  | fxRamoAddOrd (g : Guard) (h : Bool) (src : Src)
  /-- Ordered remote and. (R388) -/
  | fxRamoAndOrd (g : Guard) (h : Bool) (src : Src)
  /-- Ordered remote or. (R388) -/
  | fxRamoOrOrd (g : Guard) (h : Bool) (src : Src)
  /-- Ordered remote xor. (R388) -/
  | fxRamoXorOrd (g : Guard) (h : Bool) (src : Src)
  /-- Ordered remote minimum. (R388) -/
  | fxRamoMinOrd (g : Guard) (h : Bool) (src : Src)
  /-- Ordered remote maximum. (R388) -/
  | fxRamoMaxOrd (g : Guard) (h : Bool) (src : Src)
  /-- Ordered remote swap. (R388) -/
  | fxRamoSwapOrd (g : Guard) (h : Bool) (src : Src)
  /-- Ordered remote compare-and-swap. (R388) -/
  | fxRamoCasOrd (g : Guard) (h : Bool) (src : Src)
  /-- Three-party read from owner B delivered to consumer C. (R389) -/
  | fxRdel (g : Guard) (h : Bool) (src : Src)
  /-- Three-party read delivered to every member of an address group. (R391) -/
  | fxRdelg (g : Guard) (h : Bool) (src : Src)
  /-- Load-and-reduce FP32 sum over a group. (R392) -/
  | fxMlrAddF32 (g : Guard) (h : Bool) (src : Src)
  /-- Load-and-reduce BF16 sum into FP32. (R392) -/
  | fxMlrAddBf16 (g : Guard) (h : Bool) (src : Src)
  /-- Load-and-reduce FP32 maximum. (R392) -/
  | fxMlrMaxF32 (g : Guard) (h : Bool) (src : Src)
  /-- Load-and-reduce BF16 maximum. (R392) -/
  | fxMlrMaxBf16 (g : Guard) (h : Bool) (src : Src)
  /-- Load-and-reduce FP32 minimum. (R392) -/
  | fxMlrMinF32 (g : Guard) (h : Bool) (src : Src)
  /-- Load-and-reduce BF16 minimum. (R392) -/
  | fxMlrMinBf16 (g : Guard) (h : Bool) (src : Src)
  /-- Load-and-reduce INT32 sum. (R392) -/
  | fxMlrAddI32 (g : Guard) (h : Bool) (src : Src)
  /-- Load-and-reduce INT64 sum. (R392) -/
  | fxMlrAddI64 (g : Guard) (h : Bool) (src : Src)
  /-- Writes a flag word after the context's earlier remote work to that member. (R393) -/
  | fxFlag (g : Guard) (h : Bool) (src : Src)
  /-- Arrives at the next superstep of an address group. (R394) -/
  | fxSstep (g : Guard) (h : Bool) (src : Src)
  /-- Pushes a row onto the stream named in fx.a. (R397) -/
  | fxSpush (g : Guard) (src : Src)
  /-- Pops a row of the named stream onto fx.q. (R397) -/
  | fxSpop (g : Guard) (src : Src)
  /-- Offers an action slot to a pen's action mailbox. (R399) -/
  | fxMbsend (g : Guard) (h : Bool) (src : Src)
  /-- Removes and delivers the oldest observation slot, waiting while empty. (R400) -/
  | fxMbrecv (g : Guard) (h : Bool) (src : Src)
  /-- Delivers the oldest observation slot without removing it. (R400) -/
  | fxMbpeek (g : Guard) (h : Bool) (src : Src)
  /-- Issues a pen-control operation selected by fx.a[12:10]. (R401) -/
  | fxPen (g : Guard) (h : Bool) (src : Src)
  /-- FP32 a + v. (R343) -/
  | vxFaddF32 (g : Guard) (src : Src)
  /-- FP32 a − v. (R343) -/
  | vxFsubF32 (g : Guard) (src : Src)
  /-- FP32 a × v. (R343) -/
  | vxFmulF32 (g : Guard) (src : Src)
  /-- FP32 a × b + v, rounded once. (R343) -/
  | vxFmaF32 (g : Guard) (src : Src)
  /-- FP32 a × b − v. (R343) -/
  | vxFmsF32 (g : Guard) (src : Src)
  /-- FP32 −(a × b) + v. (R343) -/
  | vxFnmaF32 (g : Guard) (src : Src)
  /-- FP32 −(a × b) − v. (R343) -/
  | vxFnmsF32 (g : Guard) (src : Src)
  /-- FP32 minimum under R252. (R343) -/
  | vxFminF32 (g : Guard) (src : Src)
  /-- FP32 maximum under R252. (R343) -/
  | vxFmaxF32 (g : Guard) (src : Src)
  /-- FP32 minimum ignoring a single NaN. (R343) -/
  | vxFminNumF32 (g : Guard) (src : Src)
  /-- FP32 maximum ignoring a single NaN. (R343) -/
  | vxFmaxNumF32 (g : Guard) (src : Src)
  /-- FP32 equality compare per lane. (R344) -/
  | vxFcmpEqF32 (g : Guard) (src : Src)
  /-- FP32 less-than compare per lane. (R344) -/
  | vxFcmpLtF32 (g : Guard) (src : Src)
  /-- FP32 less-or-equal compare per lane. (R344) -/
  | vxFcmpLeF32 (g : Guard) (src : Src)
  /-- FP32 unordered compare per lane. (R344) -/
  | vxFcmpUnF32 (g : Guard) (src : Src)
  /-- BF16 a + v. (R343) -/
  | vxFaddBf16 (g : Guard) (src : Src)
  /-- BF16 a − v. (R343) -/
  | vxFsubBf16 (g : Guard) (src : Src)
  /-- BF16 a × v. (R343) -/
  | vxFmulBf16 (g : Guard) (src : Src)
  /-- BF16 a × b + v. (R343) -/
  | vxFmaBf16 (g : Guard) (src : Src)
  /-- BF16 a × b − v. (R343) -/
  | vxFmsBf16 (g : Guard) (src : Src)
  /-- BF16 −(a × b) + v. (R343) -/
  | vxFnmaBf16 (g : Guard) (src : Src)
  /-- BF16 −(a × b) − v. (R343) -/
  | vxFnmsBf16 (g : Guard) (src : Src)
  /-- BF16 minimum. (R343) -/
  | vxFminBf16 (g : Guard) (src : Src)
  /-- BF16 maximum. (R343) -/
  | vxFmaxBf16 (g : Guard) (src : Src)
  /-- FP16 a + v. (R343) -/
  | vxFaddF16 (g : Guard) (src : Src)
  /-- FP16 a × v. (R343) -/
  | vxFmulF16 (g : Guard) (src : Src)
  /-- FP16 a × b + v. (R343) -/
  | vxFmaF16 (g : Guard) (src : Src)
  /-- FP16 maximum. (R343) -/
  | vxFmaxF16 (g : Guard) (src : Src)
  /-- E4M3 a × v on encoded values. (R343) -/
  | vxFmulE4m3 (g : Guard) (src : Src)
  /-- E5M2 a × v. (R343) -/
  | vxFmulE5m2 (g : Guard) (src : Src)
  /-- E2M1 a × v. (R343) -/
  | vxFmulE2m1 (g : Guard) (src : Src)
  /-- INT32 wrapping add. (R345) -/
  | vxIaddI32 (g : Guard) (src : Src)
  /-- INT32 wrapping subtract. (R345) -/
  | vxIsubI32 (g : Guard) (src : Src)
  /-- INT32 saturating add. (R345) -/
  | vxIaddSI32 (g : Guard) (src : Src)
  /-- INT32 saturating subtract. (R345) -/
  | vxIsubSI32 (g : Guard) (src : Src)
  /-- INT32 multiply, low 32 bits. (R345) -/
  | vxImulI32 (g : Guard) (src : Src)
  /-- INT32 multiply-add, low 32 bits. (R345) -/
  | vxImadI32 (g : Guard) (src : Src)
  /-- INT32 signed minimum. (R345) -/
  | vxIminI32 (g : Guard) (src : Src)
  /-- INT32 signed maximum. (R345) -/
  | vxImaxI32 (g : Guard) (src : Src)
  /-- INT32 unsigned minimum. (R345) -/
  | vxIminuI32 (g : Guard) (src : Src)
  /-- INT32 unsigned maximum. (R345) -/
  | vxImaxuI32 (g : Guard) (src : Src)
  /-- INT32 equality compare. (R345) -/
  | vxIcmpEqI32 (g : Guard) (src : Src)
  /-- INT32 signed less-than compare. (R345) -/
  | vxIcmpLtI32 (g : Guard) (src : Src)
  /-- INT32 unsigned less-than compare. (R345) -/
  | vxIcmpLtuI32 (g : Guard) (src : Src)
  /-- INT32 left shift. (R345) -/
  | vxShlI32 (g : Guard) (src : Src)
  /-- INT32 logical right shift. (R345) -/
  | vxShrI32 (g : Guard) (src : Src)
  /-- INT32 arithmetic right shift. (R345) -/
  | vxSarI32 (g : Guard) (src : Src)
  /-- INT32 population count. (R345) -/
  | vxPopcI32 (g : Guard) (src : Src)
  /-- INT32 leading-zero count. (R345) -/
  | vxClzI32 (g : Guard) (src : Src)
  /-- INT16 wrapping add. (R345) -/
  | vxIaddI16 (g : Guard) (src : Src)
  /-- INT8 wrapping add. (R345) -/
  | vxIaddI8 (g : Guard) (src : Src)
  /-- INT8 saturating add. (R345) -/
  | vxIaddSI8 (g : Guard) (src : Src)
  /-- Bitwise a AND v. (R346) -/
  | vxAnd (g : Guard) (src : Src)
  /-- Bitwise a OR v. (R346) -/
  | vxOr (g : Guard) (src : Src)
  /-- Bitwise a XOR v. (R346) -/
  | vxXor (g : Guard) (src : Src)
  /-- Bitwise a AND NOT v. (R346) -/
  | vxAndn (g : Guard) (src : Src)
  /-- Three-input bitwise lookup through an 8-bit table. (R346) -/
  | vxLut3 (g : Guard) (src : Src)
  /-- Byte select between a and b by v. (R346) -/
  | vxSel (g : Guard) (src : Src)
  /-- Rotates each row by k bits. (R346) -/
  | vxRot (g : Guard) (src : Src)
  /-- Funnel shift of b above a by k bits. (R346) -/
  | vxFsh (g : Guard) (src : Src)
  /-- Narrows FP32 to BF16. (R347) -/
  | vxCvtF32Bf16 (g : Guard) (src : Src)
  /-- Narrows FP32 to FP16. (R347) -/
  | vxCvtF32F16 (g : Guard) (src : Src)
  /-- Widens BF16 to FP32. (R347) -/
  | vxCvtBf16F32 (g : Guard) (src : Src)
  /-- Widens FP16 to FP32. (R347) -/
  | vxCvtF16F32 (g : Guard) (src : Src)
  /-- Narrows FP32 to E4M3, saturating. (R347) -/
  | vxCvtF32E4m3Sat (g : Guard) (src : Src)
  /-- Narrows FP32 to E4M3, overflowing to NaN. (R347) -/
  | vxCvtF32E4m3Nan (g : Guard) (src : Src)
  /-- Narrows FP32 to E5M2, saturating. (R347) -/
  | vxCvtF32E5m2Sat (g : Guard) (src : Src)
  /-- Narrows FP32 to E5M2, overflowing to infinity. (R347) -/
  | vxCvtF32E5m2Inf (g : Guard) (src : Src)
  /-- Narrows FP32 to E2M1, saturating. (R347) -/
  | vxCvtF32E2m1 (g : Guard) (src : Src)
  /-- Narrows BF16 to E4M3, saturating. (R347) -/
  | vxCvtBf16E4m3Sat (g : Guard) (src : Src)
  /-- Narrows BF16 to E5M2, saturating. (R347) -/
  | vxCvtBf16E5m2Sat (g : Guard) (src : Src)
  /-- Widens E4M3 to FP32. (R347) -/
  | vxCvtE4m3F32 (g : Guard) (src : Src)
  /-- Widens E5M2 to FP32. (R347) -/
  | vxCvtE5m2F32 (g : Guard) (src : Src)
  /-- Widens E2M1 to FP32. (R347) -/
  | vxCvtE2m1F32 (g : Guard) (src : Src)
  /-- Widens E4M3 to BF16. (R347) -/
  | vxCvtE4m3Bf16 (g : Guard) (src : Src)
  /-- Converts FP32 to INT32. (R347) -/
  | vxCvtF32I32 (g : Guard) (src : Src)
  /-- Converts INT32 to FP32. (R347) -/
  | vxCvtI32F32 (g : Guard) (src : Src)
  /-- Widens INT8 to FP32. (R347) -/
  | vxCvtI8F32 (g : Guard) (src : Src)
  /-- Narrows FP32 to INT8, saturating. (R347) -/
  | vxCvtF32I8 (g : Guard) (src : Src)
  /-- Sign-extends INT4 to INT8. (R347) -/
  | vxCvtI4I8 (g : Guard) (src : Src)
  /-- Narrows INT32 to INT8, saturating. (R347) -/
  | vxCvtI32I8S (g : Guard) (src : Src)
  /-- Narrows FP32 to E4M3 and updates AMAX K. (R348) -/
  | vxCvtF32E4m3SatAmax (g : Guard) (src : Src)
  /-- Narrows FP32 to E5M2 and updates AMAX K. (R348) -/
  | vxCvtF32E5m2SatAmax (g : Guard) (src : Src)
  /-- Narrows FP32 to BF16 and updates AMAX K. (R348) -/
  | vxCvtF32Bf16Amax (g : Guard) (src : Src)
  /-- Stochastically rounds FP32 to E4M3. (R348) -/
  | vxCvtSrF32E4m3Sat (g : Guard) (src : Src)
  /-- Stochastically rounds FP32 to E5M2. (R348) -/
  | vxCvtSrF32E5m2Sat (g : Guard) (src : Src)
  /-- Stochastically rounds FP32 to BF16. (R348) -/
  | vxCvtSrF32Bf16 (g : Guard) (src : Src)
  /-- Correctly rounded FP32 reciprocal. (R349) -/
  | vxRcpF32 (g : Guard) (src : Src)
  /-- Correctly rounded FP32 reciprocal square root. (R349) -/
  | vxRsqrtF32 (g : Guard) (src : Src)
  /-- Correctly rounded FP32 square root. (R349) -/
  | vxSqrtF32 (g : Guard) (src : Src)
  /-- Correctly rounded FP32 base-2 exponential. (R349) -/
  | vxExp2F32 (g : Guard) (src : Src)
  /-- Correctly rounded FP32 base-2 logarithm. (R349) -/
  | vxLog2F32 (g : Guard) (src : Src)
  /-- Tree sum of FP32 row lanes. (R350) -/
  | vxRsumF32 (g : Guard) (src : Src)
  /-- Tree sum of BF16 row lanes into FP32. (R350) -/
  | vxRsumBf16 (g : Guard) (src : Src)
  /-- Tree maximum of FP32 row lanes. (R350) -/
  | vxRmaxF32 (g : Guard) (src : Src)
  /-- Tree maximum of BF16 row lanes. (R350) -/
  | vxRmaxBf16 (g : Guard) (src : Src)
  /-- Tree minimum of FP32 row lanes. (R350) -/
  | vxRminF32 (g : Guard) (src : Src)
  /-- Tree minimum of BF16 row lanes. (R350) -/
  | vxRminBf16 (g : Guard) (src : Src)
  /-- Wrapping sum of INT32 row lanes. (R350) -/
  | vxRsumI32 (g : Guard) (src : Src)
  /-- Wrapping sum of INT8 row lanes into INT32. (R350) -/
  | vxRsumI8 (g : Guard) (src : Src)
  /-- Computes E4M3 block scales into the side lane. (R351) -/
  | vxBscaleE4m3 (g : Guard) (src : Src)
  /-- Computes E5M2 block scales. (R351) -/
  | vxBscaleE5m2 (g : Guard) (src : Src)
  /-- Computes E2M1 block scales. (R351) -/
  | vxBscaleE2m1 (g : Guard) (src : Src)
  /-- Quantises FP32 blocks to E4M3 under b's scales. (R352) -/
  | vxBquantE4m3 (g : Guard) (src : Src)
  /-- Quantises FP32 blocks to E5M2. (R352) -/
  | vxBquantE5m2 (g : Guard) (src : Src)
  /-- Quantises FP32 blocks to E2M1. (R352) -/
  | vxBquantE2m1 (g : Guard) (src : Src)
  /-- Inclusive FP32 row scan by addition. (R353) -/
  | scScanAddF32 (g : Guard) (src : Src)
  /-- Inclusive INT32 row scan by addition. (R353) -/
  | scScanAddI32 (g : Guard) (src : Src)
  /-- Inclusive FP32 row scan by maximum. (R353) -/
  | scScanMaxF32 (g : Guard) (src : Src)
  /-- Inclusive FP32 row scan by minimum. (R353) -/
  | scScanMinF32 (g : Guard) (src : Src)
  /-- Segmented FP32 scan across slices by addition. (R354) -/
  | scXscanAddF32 (g : Guard) (src : Src)
  /-- Segmented INT32 scan across slices. (R354) -/
  | scXscanAddI32 (g : Guard) (src : Src)
  /-- Segmented FP32 scan across slices by maximum. (R354) -/
  | scXscanMaxF32 (g : Guard) (src : Src)
  /-- FP32 reduction across slices, broadcast to all. (R354) -/
  | scXredAddF32 (g : Guard) (src : Src)
  /-- INT32 reduction across slices. (R354) -/
  | scXredAddI32 (g : Guard) (src : Src)
  /-- FP32 maximum across slices. (R354) -/
  | scXredMaxF32 (g : Guard) (src : Src)
  /-- Pushes an E4M3 column into the shadow B buffer. (R372) -/
  | mxPushE4m3 (g : Guard) (src : Src)
  /-- Pushes an E5M2 column. (R372) -/
  | mxPushE5m2 (g : Guard) (src : Src)
  /-- Pushes an E2M1 column. (R372) -/
  | mxPushE2m1 (g : Guard) (src : Src)
  /-- Pushes a BF16 column. (R372) -/
  | mxPushBf16 (g : Guard) (src : Src)
  /-- Pushes an FP16 column. (R372) -/
  | mxPushF16 (g : Guard) (src : Src)
  /-- Pushes an INT8 column. (R372) -/
  | mxPushI8 (g : Guard) (src : Src)
  /-- Pushes a 2:4 sparse column. (R373) -/
  | mxPushSp (g : Guard) (src : Src)
  /-- Pushes sparse index rows into the shadow buffer. (R373) -/
  | mxPushIx (g : Guard) (src : Src)
  /-- Exchanges the active and shadow B buffers at the end of m + 1. (R371) -/
  | mxSwap (g : Guard) (src : Src)
  /-- E4M3 accumulator beat. (R374) -/
  | mxAccE4m3 (g : Guard) (src : Src)
  /-- E5M2 accumulator beat. (R374) -/
  | mxAccE5m2 (g : Guard) (src : Src)
  /-- E2M1 accumulator beat. (R374) -/
  | mxAccE2m1 (g : Guard) (src : Src)
  /-- BF16 accumulator beat. (R374) -/
  | mxAccBf16 (g : Guard) (src : Src)
  /-- FP16 accumulator beat. (R374) -/
  | mxAccF16 (g : Guard) (src : Src)
  /-- INT8 accumulator beat. (R374) -/
  | mxAccI8 (g : Guard) (src : Src)
  /-- 2:4 sparse accumulator beat with A's upper half from g1. (R373) -/
  | mxAccSp (g : Guard) (src : Src)
  /-- Drains four accumulator rows as 32-bit lanes to mx.q. (R375) -/
  | mxDrain4 (g : Guard) (src : Src)
  /-- Drains eight accumulator rows rounded to BF16. (R375) -/
  | mxDrain8Bf16 (g : Guard) (src : Src)
  /-- Drains sixteen accumulator rows as block-scaled E4M3. (R375) -/
  | mxDrainE4m3 (g : Guard) (src : Src)
  /-- Sets a range of accumulator rows to +0. (R376) -/
  | mxZero (g : Guard) (src : Src)
  /-- Loads generator ag0's descriptor from an even-odd scalar pair. (R358) -/
  | ag0Set (g : Guard) (r : BitVec 5)
  /-- ag0 reads one row per bank through the G0 route into g0. (R358) -/
  | ag0Rd (g : Guard) (src : Src)
  /-- Advances ag0's STEP by v modulo COUNT. (R358) -/
  | ag0Step (g : Guard) (src : Src)
  /-- Loads generator ag1's descriptor. (R358) -/
  | ag1Set (g : Guard) (r : BitVec 5)
  /-- ag1 reads one row per bank through the G1 route into g1. (R358) -/
  | ag1Rd (g : Guard) (src : Src)
  /-- Advances ag1's STEP. (R358) -/
  | ag1Step (g : Guard) (src : Src)
  /-- Loads generator ag2's descriptor. (R358) -/
  | ag2Set (g : Guard) (r : BitVec 5)
  /-- ag2 writes a tile through the scatter route, one row per bank. (R358) -/
  | ag2Wr (g : Guard) (src : Src)
  /-- Advances ag2's STEP. (R358) -/
  | ag2Step (g : Guard) (src : Src)
  /-- Loads generator ag3's descriptor. (R358) -/
  | ag3Set (g : Guard) (r : BitVec 5)
  /-- ag3 writes a tile through the scatter route. (R358) -/
  | ag3Wr (g : Guard) (src : Src)
  /-- Advances ag3's STEP. (R358) -/
  | ag3Step (g : Guard) (src : Src)
  /-- Checks and loads a route entry from the ROUTES section. (R363) -/
  | nwLdroute (g : Guard) (src : Src)
  /-- Loads a lane-pattern entry. (R363) -/
  | nwLdpat (g : Guard) (src : Src)
  /-- Loads a plane-setting entry. (R363) -/
  | nwLdplane (g : Guard) (src : Src)
  /-- Starts the routing solver on a tile of destination indices for a live route. (R365) -/
  | nwSolve (g : Guard) (src : Src)
  /-- Empties a far lane's receive skew buffer. (R369) -/
  | nwFarclr (g : Guard) (src : Src)
  /-- Reports a far lane's state on nw.q. (R369) -/
  | nwFarstat (g : Guard) (src : Src)
  /-- Fill command moving HBM rows into scratchpad rows. (R378) -/
  | feFill (g : Guard) (src : Src)
  /-- Spill command moving scratchpad rows to HBM. (R378) -/
  | feSpill (g : Guard) (src : Src)
  /-- Broadcast fill of each HBM row into every bank of a stripe. (R378) -/
  | feBfill (g : Guard) (src : Src)
  /-- Gather fill through an index list. (R378) -/
  | feGfill (g : Guard) (src : Src)
  /-- Scatter spill through an index list. (R378) -/
  | feSspill (g : Guard) (src : Src)
  /-- Starts pinning a range of HBM pages for fill admission. (R380) -/
  | fePin (g : Guard) (src : Src)
  /-- Reads a special register. (R332) -/
  | sySrd (g : Guard) (src : Src)
  /-- Writes a special register named by sy.sri. (R332) -/
  | sySwr (g : Guard) (src : Src)
  /-- Marks a scratchpad range within the bounds as owned. (R331) -/
  | syClaim (g : Guard) (src : Src)
  /-- Checks and places an LXO image from device memory as a new object. (R335) -/
  | syPublish (g : Guard) (src : Src)
  /-- Ends a handler and re-enters the interrupted group. (R336) -/
  | syRfe (g : Guard) (src : Src)
  /-- Commits, writes v into FADDR and raises the breakpoint 0x31. (R336) -/
  | syBrk (g : Guard) (src : Src)
  /-- Before 2^48 flits have been sent under a port key, the port retrains and the two packages agree fresh keys. (R61) -/
  | keyRenewalRetraining (p : Fin 12)
  /-- An HBM refresh or scrub read made for no task finds an uncorrectable error and posts event 0x24 on the PF's ring. (R15) -/
  | hbmRefreshScrub (pa : Nat) (bad : List Nat)
  /-- The pen monitor switches a pen onto a hart, flushing TLB entries or the hart's caches and registers when the task changes. (R226) -/
  | penHartSwitch (h : Nat) (n : Nat)
  /-- A pen's hart retires an ordinary RISC-V instruction under the fixed implementation choices, advancing instret and the stray-timer counts. (R223) -/
  | penInstruction (n : Nat)
  deriving DecidableEq, Repr

end Sys2Proof
end

