-- ==== Sys2Proof/Machine/State.lean ====
section
/-! DEFINITION. The state of one LX3 package: everything the specification gives the machine, as plain data, and
`State.reset`. Structures follow INVENTORY.md, which names the rule and the reset value of every field. -/

namespace Sys2Proof.Machine

/-- How a step can stop with a fault. No step of the LX3 stops the package: every fault of Table 11.1 is taken as a next
state, so the only constructor marks a state that no rule reaches. -/
inductive Fault where
  /-- Raised by no meaning; kept so that the type has a name for a machine without power. Safe. -/
  | poweredOff
  deriving DecidableEq, Repr

/-- Why a step has no meaning in a state. -/
inductive Refusal where
  /-- An arm of the dispatch that has no meaning yet. Safe: nothing is claimed of it. -/
  | notModelled (mnemonic : String)
  /-- An event of the package was named whose condition does not hold in this state (log 7). Raised by the meanings of
  events only. Safe: such a step does not happen on the hardware. -/
  | notEnabled (event : String)
  deriving DecidableEq, Repr

/-- Memory as a list of (address, byte), addresses rising, no entry 0; an unlisted address reads 0 (log 4). -/
abbrev Mem := List Host.Cell

/-! ### Contexts -/

/-- Kind of a context (R154). -/
inductive CtxKind where
  | none | free | timed
  deriving DecidableEq, Repr

/-- The value held by a full operand latch, and whether it is held after a trigger (R293). -/
structure Latched where
  val : Value
  hold : Bool
  deriving DecidableEq, Repr

/-- Width and kind of a memory access of the queues (Table 13.6). -/
inductive Wid where
  | b | h | w | d
  deriving DecidableEq, Repr

/-- Atomic operations (R325, R387), in the order of Table 16.9's AOP, then the unsigned forms. -/
inductive AmoOp where
  | add | and | or | xor | min | max | swap | cas | minu | maxu
  deriving DecidableEq, Repr

/-- Reductions of fx.mlr (R392), in the order of Table 12.7. -/
inductive MlrOp where
  | addF32 | addBf16 | maxF32 | maxBf16 | minF32 | minBf16 | addI32 | addI64
  deriving DecidableEq, Repr

/-- Pen-control operations (Table 09.3, R401). -/
inductive PenOp where
  | create | reset | halt | snap | readrec | destroy
  deriving DecidableEq, Repr

/-- What a remote form asks for (R386 to R394, R399 to R401), and a piece of a copy to fabric space (R193). -/
inductive RemOp where
  | ld (wide : Bool)
  | ldrow
  | st (wide : Bool) (v : Word)
  | strow (v : Row)
  | amo (op : AmoOp) (v exp : Word)
  | amoOrd (op : AmoOp) (v exp : Word) (dst : BitVec 32) (group : BitVec 6) (seq : Nat)
  | rdel (consumer : Word) (len : Nat)
  | rdelg (consumer : Word) (len : Nat)
  | mlr (op : MlrOp) (dst : Word) (len : Nat)
  | flag (v : Word)
  | sstep (group : BitVec 6)
  | mbsend (pen : Nat) (slot : Row)
  | mbrecv (pen : Nat)
  | mbpeek (pen : Nat)
  | pen (op : PenOp) (pen : Nat) (addr : Word)
  | spop (stream : BitVec 4)
  | copy (ch : Fin 16) (block off : Nat)
  deriving DecidableEq, Repr

/-- What a queue entry does when it is performed (R203). -/
inductive QOp where
  | ld (w : Wid) (signed : Bool)
  | ldrow
  | st (w : Wid) (v : Word)
  | strow (v : Row) (mask : Option Row)
  | amo (op : AmoOp) (wide : Bool) (v exp : Word)
  | srd (reg : Nat)
  | swr (reg : Nat) (v : Word)
  | publish (len : Word)
  | remote (op : RemOp) (st : Bool)
  deriving DecidableEq, Repr

/-- The queues that hold an entry (R203, R206). -/
inductive QSide where
  | load | store | both
  deriving DecidableEq, Repr

/-- The current phase of a task on each die (R197, R330). -/
abbrev Phases := Vector (BitVec 6) 3

/-- A queue entry (R203): `seq` is its place in program order over both queues, `count` the IC or FC of the group that
issued it, `left` the byte offsets not yet performed, `got` the bytes a load has read so far, `sent` a remote entry whose
request has left, `held` an entry that took a deferred fault, `replay` one that is performed again before the later entries of its
queue (R273), `phase` the phases under which it was issued, by die (R197), `place` the bundle and slot of its move. -/
structure Entry where
  seq : Nat
  side : QSide
  op : QOp
  addr : Word
  count : Nat
  left : List Nat
  got : List (Nat × Byte)
  sent : Bool
  held : Bool
  replay : Bool
  phase : Phases
  place : Nat × Nat
  deriving DecidableEq, Repr

/-- A range fence (R207): the kinds of access it waits for, its range and scope. -/
structure Fence where
  seq : Nat
  loads : Bool
  stores : Bool
  base : Word
  len : Word
  scope : BitVec 2
  deriving DecidableEq, Repr

/-- A result place of a queue port (R157, R323, R384): the entry it belongs to, its value once arrived, and for a result
read in a plain form the status code and fabric address to trap with (R383). -/
structure QRes where
  seq : Nat
  val : Option Value
  trap : Option (BitVec 4 × Word)
  deriving DecidableEq, Repr

/-- An exact finite number of a dot product before rounding, or a special value (R253, R275): `num` times 2 to `exp`. -/
inductive Exact where
  | num (neg : Bool) (num : Nat) (exp : Int)
  | inf (neg : Bool)
  | nan (invalid : Bool)
  deriving DecidableEq, Repr

/-- Format tag of a column of the matrix wall (R370, R372, R373). -/
inductive Tag where
  | none | e4m3 | e5m2 | e2m1 | bf16 | f16 | i8 | sE4m3 | sE5m2 | sI8
  deriving DecidableEq, Repr

/-- A change of the machine that an operation makes when its count comes (R156). -/
inductive Effect where
  /-- A latency port takes a value. -/
  | port (p : LatPort) (v : Value)
  /-- Exception flags are raised (R249). -/
  | flags (f : BitVec 5)
  /-- AMAX k is raised to at least this magnitude, or its NaN flag is set (R259). -/
  | amax (k : Fin 4) (nan : Bool) (mag : BitVec 32)
  /-- Rows written by ag2.wr or ag3.wr: row unit and row (R184, R361). -/
  | rows (l : List (Nat × Row))
  /-- A timed store of bytes and side-lane bytes: byte addresses within the die (R182). -/
  | store (bytes : List (Nat × Byte)) (side : List (Nat × Byte))
  /-- A beat on accumulator row k: ZF, integer form, per cell the 16 exact sums (R253, R254, R374). -/
  | beat (k : Nat) (zf int : Bool) (sums : List (List Exact))
  /-- Accumulator rows first .. first + count - 1 become 0 (R376). -/
  | zero (first count : Nat)
  /-- Column j of the shadow buffer is written (R371, R372). -/
  | push (j : Nat) (tag : Tag) (sc : Bool) (rows : Tile)
  /-- Index rows of columns 4q .. 4q+3 of the shadow are written (R373). -/
  | pushIx (q : Nat) (rows : Tile)
  /-- Active and shadow exchange (R371). -/
  | swap
  /-- A table entry is replaced: kind 0 route, 1 lane pattern, 2 plane setting (R362), and its token is set. -/
  | table (kind : Nat) (index : Nat) (bytes : List Byte) (tok : Nat)
  /-- A live route takes its permutation and settings (R366), and the token is set. -/
  | live (route : Nat) (perm : List Nat) (block : Nat) (tok : Nat)
  /-- A special register of the context takes a value that governs the groups after the writing one (R320, R321, R332). -/
  | sreg (reg : Nat) (v : Word)
  /-- The sticky port vx.m takes a mask (R293). -/
  | vxm (m : Mask)
  /-- A pin is decided: base and length (R380). -/
  | pin (base len : Nat)
  deriving DecidableEq, Repr

/-- An operation in flight and the count at which it becomes visible (R156). -/
structure Pending where
  due : Nat
  eff : Effect
  deriving DecidableEq, Repr

/-- A slot of a group still to commit: its bundle, its slot and its word. -/
structure Slot where
  bundle : Nat
  slot : Nat
  word : BitVec 24
  deriving DecidableEq, Repr

/-- The loop count and the rotating files (R320, R321). -/
structure Rot where
  lc : Word
  rofs : Nat
  rsz : Nat
  rfile : BitVec 2
  deriving DecidableEq, Repr

/-- The group that is issuing (R288 to R294): its count, its guards, its routes and literal, its slots still to commit,
the latches whose value from a later slot a trigger has already consumed, the queue and stream results its moves have
taken, the place of the group after it, a fault to take once it has committed whole (R383), whether it holds a taken
branch, the flags and magnitudes raised at its own count (R249, R259), whether it holds a sy.rfe that has committed,
whether FC of the die's timed context holds in its cycle (R155), the die's TICK at its issue (R294), the loop registers that it reads
(R320, R332), the SR conversions that have committed in it (R262), and what its context does after it: the count before which it
yields (R160), the cycles of its stalls (R123), whether it aligns (R164) or exits (R161). -/
structure GroupCtx where
  count : Nat
  conds : BitVec 8
  g0 : BitVec 9
  g1 : BitVec 9
  sr : BitVec 9
  lit : Option Word
  left : List Slot
  taken : List Latch
  popped : List (QPort × Value)
  rows : List (BitVec 4 × Row)
  nextBundle : Nat
  nextSlot : Nat
  trap : Option (BitVec 8 × BitVec 4 × Word)
  branched : Bool
  nowFlags : BitVec 5
  nowAmax : List (Fin 4 × Bool × BitVec 32)
  rfe : Bool
  hold : Bool
  tick : Word
  rot : Rot
  rng : Nat
  yield : Option Nat
  stall : Nat
  align : Bool
  exit : Bool
  deriving DecidableEq, Repr

/-- A fault to take at the next group boundary (R273, R212, R274): code, reason, FADDR, FCNT, queue (0 load, 1 store, 2
none) and entry sequence. -/
structure Defer where
  code : BitVec 8
  reason : BitVec 4
  addr : Word
  cnt : Nat
  queue : Nat
  seq : Nat
  deriving DecidableEq, Repr

/-- What a context does besides issuing (R160 to R166, R270). -/
inductive CtxStatus where
  /-- Issues, or waits at what its next group waits for (R145). -/
  | run
  /-- Gives away cycles; issues again at this count (R160). -/
  | yielding (upTo : Nat)
  /-- Waits at ALIGN for the next count, and the ticks waited so far (R164, R166). -/
  | aligning (next : Nat) (waited : Nat)
  /-- Waits at exit (R161). -/
  | exiting
  /-- Has retired (R161). -/
  | retired
  /-- Stopped by a delivery to the system (R270), or by its fold's stop (R169). -/
  | held
  /-- Stalled by a profile routine; issues again at this count (R123). -/
  | stalled (upTo : Nat)
  deriving DecidableEq, Repr

/-- Whether a context that the free-issue cycles select from is blocked (R145): a wake condition that holds makes it ready in the
cycle after. -/
inductive Wake where
  | awake | asleep | waking
  deriving DecidableEq, Repr

/-- A pending taken branch (R317): the target bundle and the delay groups still to issue. -/
structure Delay where
  target : Nat
  groups : Nat
  deriving DecidableEq, Repr

/-- What entry to a handler captures (R275): the result ports, the operations in flight, the rest of the interrupted group
(R272), the pending branch (R317) and what the context was doing. -/
structure Snap where
  ports : Vector Value 12
  pend : List Pending
  reent : Option GroupCtx
  delay : Option Delay
  status : CtxStatus
  late : List Defer
  deriving DecidableEq, Repr

/-- One context of a die (R153 to R162, Table 06.4, Table 11.2). `alignAt` holds the counts at which it has still to align, and
whether that ALIGN is the implicit one of a resumption (R164, R170). -/
structure Ctx where
  kind : CtxKind
  lid : BitVec 32
  status : CtxStatus
  s : Vector Word 32
  c : BitVec 8
  w : Vector Row 4
  latches : Vector (Option Latched) 22
  vxm : Mask
  ports : Vector Value 12
  lsq : List QRes
  syq : List QRes
  fxq : List QRes
  fxst : List QRes
  entries : List Entry
  marks : List Nat
  fences : List Fence
  holds : List (Nat × Nat)
  seq : Nat
  pend : List Pending
  snap : Option Snap
  far : List (BitVec 4 × Row × BitVec 16)
  grp : Option GroupCtx
  bundle : Nat
  slot : Nat
  base : Nat
  codeLen : Nat
  delay : Option Delay
  rot : Rot
  ic : Nat
  origin : Word
  hc : Nat
  startScy : Word
  priv : Bool
  inh : Bool
  fcode : BitVec 8
  reason : BitVec 4
  cswSlot : Nat
  guards : BitVec 8
  reentry : Bool
  reent : Option GroupCtx
  status0 : CtxStatus
  alignAt : List (Nat × Bool)
  exitAt : Option Nat
  exitQuiet : Bool
  retireFc : Nat
  epc : Nat
  tvec : BitVec 16
  tvecValid : Bool
  faddr : Word
  fcnt : Word
  fflags : BitVec 5
  rmode : BitVec 3
  amax : Vector (Bool × BitVec 32) 4
  rngKey : BitVec 128
  rngCtr : BitVec 128
  shape : Vector (BitVec 32) 6
  padShape : Vector (BitVec 32) 6
  numProf : BitVec 8
  epoch0 : Nat
  epoch1 : Nat
  arriving : List (Nat × Nat × Nat)
  ordSeq : Vector Nat 64
  freeRun : Nat
  discards : List (Nat × Nat × Nat × Nat)
  abandoned : Bool
  deferred : List Defer
  secondary : List (BitVec 8 × Nat)
  dbgSkip : Bool
  stepDue : Bool
  blocked : Option (BitVec 4 × Word × Bool)
  wake : Wake
  deriving DecidableEq, Repr

/-! ### Dies -/

/-- One address generator (Table 07.4). -/
structure Gen where
  base : Nat
  code : Nat
  pitch : Int
  tpitch : Nat
  count : Nat
  step : Nat
  deriving DecidableEq, Repr

/-- A B buffer of one cell (R370): 16 columns of 288 bytes, the tags, the SC bits, four index rows. -/
structure BBuf where
  cols : Vector Row 16
  tags : Vector Tag 16
  sc : BitVec 16
  ix : Vector (BitVec 2048) 4
  deriving DecidableEq, Repr

/-- One matrix cell (R370): active and shadow buffer and 64 accumulator rows of 16 words. -/
structure Cell where
  active : BBuf
  shadow : BBuf
  acc : List (List (BitVec 32))
  deriving DecidableEq, Repr

/-- A live route (R365 to R368): its permutation of the 32,768 granules and its setting block's first row. -/
structure Live where
  route : Nat
  perm : List Nat
  block : Nat
  deriving DecidableEq, Repr

/-- What the timed context of a die owns (06 R158): tiles, masks, the matrix wall, the generators and the networks'
tables (entries that are not listed are the identity). -/
structure Wall where
  t : Vector Tile 32
  m : Vector Mask 8
  cells : List Cell
  ag : Vector (Option Gen) 4
  routes : List (Nat × List Byte)
  pats : List (Nat × List Byte)
  planes : List (Nat × List Byte)
  live : List Live
  blocks : List (Nat × Nat)
  lastSolve : Option Nat
  lastPin : Option Nat
  deriving DecidableEq, Repr

/-- The five fe transfers (R378). -/
inductive FillKind where
  | fill | spill | bfill | gfill | sspill
  deriving DecidableEq, Repr

/-- An accepted fill command (R190, R191, R377). -/
structure Fill where
  kind : FillKind
  ch : Nat
  side : Bool
  b : Nat
  wlog : Nat
  d : Nat
  nrows : Nat
  l : Nat
  start : Nat
  bound : Nat
  bytes : Nat
  prod : Nat
  cons : List Nat
  issued : Nat
  order : Nat
  ctx : CtxId
  lid : BitVec 32
  started : Bool
  left : List Nat
  phase : BitVec 6
  deriving DecidableEq, Repr

/-- A copy handed to a channel (R193): its identifier, template index, parameter and blocks still to move, and who
started it. -/
structure Copy where
  id : Nat
  template : Nat
  param : Int
  lid : BitVec 32
  ctx : CtxId
  die : DieId
  addr : Word
  count : Nat
  seq : Nat
  left : Option (List Nat)
  phase : Phases
  deriving DecidableEq, Repr

/-- A copy channel (Table 07.10). -/
structure Chan where
  nextId : BitVec 32
  doneId : BitVec 32
  errId : BitVec 32
  err : Bool
  cause : BitVec 7
  copies : List Copy
  deriving DecidableEq, Repr

/-- A stream (R396, R397): its configuration, its receive buffer and its send credits. -/
structure Stream where
  cfg : Word
  buf : List (BitVec 2048)
  credits : Nat
  deriving DecidableEq, Repr

/-- A far-lane frame on its way: lane at the receiver, row, STAMP and the receiver's tick of arrival (R43, R44). -/
structure Frame where
  lane : BitVec 4
  row : Row
  stamp : BitVec 16
  arrive : Word
  deriving DecidableEq, Repr

/-- Kind and content of a sideband message (Table 02.5); `fold` marks a message whose SCY field counts in FC (R163). -/
inductive Msg where
  | count (tick scy : Word) (fold : Bool)
  | freeze (cause : BitVec 2) (eseq : BitVec 8) (cycles : BitVec 16) (scy : BitVec 48) (fold : Bool)
  | stop (eseq : BitVec 8) (scy : BitVec 48) (count : Nat) (code : BitVec 8)
  deriving DecidableEq, Repr

/-- A sideband message on its way to a die: its origin and the receiver's tick at which it is usable (R49). -/
structure Wire where
  origin : DieId
  usable : Word
  msg : Msg
  deriving DecidableEq, Repr

/-- What a die keeps about a partner (R50, R51, R164): offset, the TICK of its latest count message and the own TICK at which that
became usable, missing count messages in a row, last ESEQ, and the ticks that the own context has waited at ALIGN since the
message came; `raw` is the offset of the two SCYs, and `fc` the FC that the partner last gave; `rate` holds the partner's TICK and the own TICK at which a comparison of
rates began, and `drift` whether the rates differed by more than R20 allows. -/
structure Partner where
  offset : Int
  raw : Int
  fc : Nat
  lastTick : Word
  lastArr : Word
  missing : Nat
  eseq : BitVec 8
  waited : Nat
  rate : Option (Word × Word)
  drift : Bool
  deriving DecidableEq, Repr

/-- A latent error of a stored row that a read will find (R195): single-bit or worse. -/
inductive Ecc where
  | single | multi
  deriving DecidableEq, Repr

/-- A cached translation (R187): address space, page number, page size bits, physical base, rights and slot. -/
structure TlbEntry where
  asid : BitVec 8
  vbase : Nat
  bits : Nat
  pbase : Nat
  rd : Bool
  wr : Bool
  kslot : BitVec 4
  deriving DecidableEq, Repr

/-- Token states (R211). -/
inductive Tok where
  | clear | pending | set
  deriving DecidableEq, Repr

/-- A trace record (Table 11.9). -/
abbrev TraceRec := BitVec 256

/-- One die (R10, R17, R44 to R51, R176 to R199, R284). `stopDue`: a partner's stop waits for the end of a stall (R123, R169);
`tokens`: the token file as the last task that ended on the die left it (R421). -/
structure Die where
  id : BitVec 2
  heldReset : Bool
  outOfService : Bool
  tick : Word
  scy : Word
  debt : Nat
  debtNow : List (BitVec 2 × Nat)
  stopFrozen : Bool
  stopHand : Nat
  stopDue : Bool
  sp : Mem
  spSide : Mem
  spEcc : List (Nat × Ecc)
  pstore : Mem
  wall : Wall
  ctxs : Vector Ctx 4
  issuing : CtxId
  current : Option CtxId
  rx : Vector (List (Row × BitVec 16)) 16
  flight : List Frame
  inbox : List Wire
  msgQueue : List Msg
  sentTick : Option Word
  countOwed : Bool
  partners : Vector Partner 3
  eseq : BitVec 8
  fills : List Fill
  fillOrder : Nat
  committed : Vector Nat 8
  chans : Vector Chan 16
  streams : Vector Stream 16
  tlb : List TlbEntry
  tokens : Vector Tok 64
  savelist : Vector Word 4
  dbgCtl : Vector Word 4
  dbgBp : Vector Word 16
  trcCtl : Word
  trcTrig : Word
  trcIdx : Word
  trcPost : Option Nat
  trcBuf : List (Nat × TraceRec)
  deriving DecidableEq, Repr

/-! ### Package, links and fabric -/

/-- Laser power of a port (Table 05.6). -/
structure PortPwr where
  set : BitVec 8
  floor : BitVec 8
  defer : Bool
  deriving DecidableEq, Repr

/-- The package manifest (Table 01.6); a field of bytes that is shorter than its size ends in zeros. -/
structure Manifest where
  format : BitVec 32
  partno : List Byte
  variant : BitVec 8
  units : BitVec 8
  serial : List Byte
  svn : BitVec 32
  pwrDef : BitVec 16
  dieTrim : List Byte
  sramRep : List Byte
  hbmTrim : List Byte
  optTrim : List Byte
  idHelp : List Byte
  idPub : List Byte
  rootPub : List Byte
  sig : List Byte
  deriving DecidableEq, Repr

/-- The governor's interval in force at a die (R149): pulses to swallow, next sub-interval, tick at which it began. -/
structure Interval where
  n : Nat
  sub : Nat
  since : Word
  deriving DecidableEq, Repr

/-- Package-wide registers (01, 05). `halted`: a stage of bring-up has failed and nothing more of it comes; `optFail` and
`padFail`: that part of stage E has failed (R37); `rootHash` is in the boot ROM and `svnHeld` in the flash's counter (R30),
`idSeed` the key that the SRAM source of die 1 gives with IDHELP (R31); `sensors` is what the meters and sensors show (R27). -/
structure Package where
  power : Bool
  stage : Nat
  halted : Bool
  optFail : Bool
  padFail : Bool
  level : BitVec 2
  dieUp : BitVec 3
  hbmFull : Bool
  optUp : Bool
  padUp : Bool
  fail : BitVec 8
  bootFail : BitVec 4
  caps : Word
  flashFail : BitVec 8
  manifest : Manifest
  rootHash : BitVec 512
  svnHeld : BitVec 32
  idSeed : BitVec 256
  idOk : Bool
  sensors : Readings
  pwrLimit : BitVec 12
  pwrBad : Bool
  pwrNext : Option (BitVec 12)
  pwrNow : BitVec 12
  pwrPct : BitVec 8
  tempDie : BitVec 8
  tempLaser : BitVec 8
  hotDie : Bool
  hotLaser : BitVec 4
  errSram : BitVec 16
  errHbm : BitVec 16
  lowPwr : Bool
  inForce : Bool
  hold : Bool
  overF : Bool
  pass : Nat
  settleAt : Word
  holdAt : Word
  portPwr : Vector PortPwr 12
  interval : Vector (Option Interval) 3
  deriving DecidableEq, Repr

/-- State of a plane (Table 02.12, PLANESTAT). -/
inductive PlaneSt where
  | enabled | draining | drained | training
  deriving DecidableEq, Repr

/-- State of a port (Table 02.12, PORTSTAT). -/
inductive PortSt where
  | down | training | up | drained
  deriving DecidableEq, Repr

/-- A sector's part of an access at its owner (R202): offset within the access, length, and place: scratchpad of die `space`
(0..2) or HBM (3). -/
structure Piece where
  off : Nat
  len : Nat
  space : Nat
  addr : Nat
  deriving DecidableEq, Repr

/-- A transaction packet (Tables 16.8, 16.9), and what its receiver has done of it: whether it has passed the owner's checks
(R76), the sectors still to access, and the bytes read. -/
structure Packet where
  op : BitVec 6
  src : BitVec 7
  dst : BitVec 7
  die : BitVec 2
  vc : BitVec 3
  rtag : BitVec 12
  taddr : Word
  caddr : Word
  length : BitVec 32
  key : BitVec 32
  aop : BitVec 8
  status : BitVec 8
  reqm : BitVec 7
  group : BitVec 6
  reqctx : BitVec 16
  operand : Word
  operand2 : Word
  seq : Word
  data : List Byte
  checked : Bool
  work : List Piece
  got : List (Nat × List Byte)
  deriving DecidableEq, Repr

/-- A data flit (Tables 02.9, 02.10): its header fields and its 256 payload bytes; and, of the model's own, the count of distinct
flits under the key that is its nonce (R61), and whether this package only forwards it (R65). -/
structure Flit where
  lseq : BitVec 16
  lack : BitVec 16
  xseq : BitVec 16
  vc : BitVec 3
  dst : BitVec 7
  src : BitVec 7
  die : BitVec 2
  op : BitVec 6
  first : Bool
  last : Bool
  rtag : BitVec 12
  nsec : BitVec 4
  reserved : BitVec 35
  payload : List Byte
  nonce : Nat
  transit : Bool
  deriving DecidableEq, Repr

/-- What a port last put on the fibre besides data flits (Table 02.10). -/
inductive Ctl where
  | ack (lack : BitVec 16)
  | restripe (mask : BitVec 16)
  | credit (vc : BitVec 3) (n : Nat)
  | drain
  | replay (lack : BitVec 16)
  | train
  | dark (w : BitVec 4)
  deriving DecidableEq, Repr

/-- One optical port (R52 to R63). `sent` holds the bytes that each live wavelength carried of every flit sent; `rxDark` the data
wavelengths on which the receiver has lost light. -/
structure Port where
  st : PortSt
  live : BitVec 16
  rxLive : BitVec 16
  rxDark : BitVec 16
  dark : BitVec 16
  combDead : BitVec 4
  lambda16 : Option (BitVec 4)
  lambdaDead : Bool
  lambdaWait : Option (BitVec 4)
  spare : Option (BitVec 2)
  spareDead : Bool
  spareWait : Option (BitVec 2)
  txSeq : BitVec 16
  rxSeq : BitVec 16
  ackOwed : Nat
  unacked : List Flit
  replays : Nat
  tagFails : Nat
  gap : Bool
  nonce : Nat
  rxNonce : Nat
  txKey : BitVec 256
  rxKey : BitVec 256
  credits : Vector Nat 8
  out : List Ctl
  sent : List (List (List Byte))
  carried : Nat
  deriving DecidableEq, Repr

/-- A ROUTE entry (Table 02.11). -/
structure RouteEnt where
  direct : BitVec 12
  via : BitVec 7
  viaValid : Bool
  deriving DecidableEq, Repr

/-- The receiving side of a logical link (R63): the neighbour that sends, the destination, the next XSEQ, the flits that
arrived early, and the flits of packets not yet whole. -/
structure RxWin where
  peer : BitVec 7
  dst : BitVec 7
  next : BitVec 16
  window : List Flit
  part : List Flit
  deriving DecidableEq, Repr

/-- An outstanding transaction of this package (R385): its tag, form and entry, the members still awaited, the members
that failed, what has come back, and over which neighbour its flits left for each member (R66). -/
structure Trans where
  tag : BitVec 12
  die : DieId
  ctx : CtxId
  lid : BitVec 32
  seq : Nat
  op : RemOp
  st : Bool
  addr : Word
  await : List (BitVec 7)
  failed : List (BitVec 7 × BitVec 8)
  values : List (BitVec 7 × List Byte)
  reached : Bool
  step : Nat
  sentAt : Word
  hops : List (BitVec 7 × BitVec 7)
  deriving DecidableEq, Repr

/-- An ordered atomic waiting at its target for a superstep's close (R218). -/
structure OrdHeld where
  group : BitVec 6
  step : Nat
  pkt : Packet
  deriving DecidableEq, Repr

/-- A superstep under way at this member (Table 16.7). -/
structure SStep where
  group : BitVec 6
  step : Nat
  phase : Nat
  die : DieId
  ctx : CtxId
  lid : BitVec 32
  seq : Nat
  st : Bool
  acks : List (BitVec 12)
  since : Word
  deriving DecidableEq, Repr

/-- Superstep messages received before the phase that reads them: op, sender, group, step, status and WHO. -/
structure SMsg where
  op : BitVec 6
  src : BitVec 7
  group : BitVec 6
  step : Nat
  status : BitVec 8
  who : BitVec 7
  deriving DecidableEq, Repr

/-- Links and fabric (02, 16). -/
structure Links where
  errFar : BitVec 16
  errReplay : BitVec 16
  errCount : BitVec 16
  planes : Vector PlaneSt 4
  planeCommit : BitVec 4
  cfgErr : BitVec 3
  memberSet : BitVec 7
  groupLo : Word
  groupHi : Word
  groupLoS : Word
  groupHiS : Word
  routeS : Vector RouteEnt 128
  route : Vector RouteEnt 128
  ports : Vector Port 12
  txX : List (BitVec 7 × BitVec 7 × BitVec 16)
  rxWins : List RxWin
  windows : Vector (Vector Word 6) 512
  okeys : Vector Word 256
  groups : Vector (BitVec 128) 64
  inbox : List Packet
  outbox : List Packet
  router : List (Option (BitVec 7) × Flit)
  trans : List Trans
  nextTag : BitVec 12
  ssteps : List SStep
  sstepNext : Vector Nat 64
  smsgs : List SMsg
  ordHeld : List OrdHeld
  arrivals : List (BitVec 7 × BitVec 6 × Nat)
  leaving : Bool
  viaSent : List (BitVec 7 × BitVec 7)
  deriving DecidableEq, Repr

/-! ### Host side, objects, scheduler -/

/-- TDI states (R84). -/
inductive Tdi where
  | unlocked | locked | run | error
  deriving DecidableEq, Repr

/-- SPDM responder state of a function (R80): how far the exchange has come. -/
inductive Spdm where
  | none | version | capabilities | negotiated | exchanged | session
  deriving DecidableEq, Repr

/-- Errors that the responder answers with (R80, R84): a request out of place, one that cannot be met, no common algorithm,
insufficient resources, a wrong state of the interface. -/
inductive DoeErr where
  | unexpected | invalid | negotiation | resources | tdiState
  deriving DecidableEq, Repr

/-- What the LX3 answers on a DOE mailbox (R80 to R84): its content; how the standards frame it is outside the model (log 45). -/
inductive DoeMsg where
  | version (l : List Nat)
  | capabilities (l : List SpdmCap)
  | algorithms (l : List SpdmAlg)
  | digests (d : List Byte)
  | certificate (part : List Byte)
  | challengeAuth (digest sig : List Byte)
  | measurements (blocks : List Byte) (sig : Option (List Byte))
  | keyExchange (sig : List Byte)
  | finish | heartbeat | keyUpdate | endSession | ideKey
  | tdisp (state : Tdi)
  | vendor (body : List Byte)
  | error (e : DoeErr)
  deriving DecidableEq, Repr

/-- One function (Tables 03.2, 03.6; R77 to R93). `asids` are the address spaces that the firmware created for it, the first for
its tasks (R101); `secret` is the export master secret of its session and `xferKey` its transfer key (R85); `logHead` the
head of its own log entries (R82); `aer` whether its AER has recorded an Unsupported Request (Table 03.1). -/
structure Fn where
  evBase : Word
  evSize : BitVec 5
  evVec : BitVec 6
  evIrq : Bool
  evHead : BitVec 32
  evTail : BitVec 32
  evLost : BitVec 16
  tdi : Tdi
  slot : BitVec 4
  ctrIn : Word
  ctrOut : Word
  spdm : Spdm
  asids : List (BitVec 8)
  secret : List Byte
  xferKey : BitVec 256
  logHead : BitVec 512
  ides : List (BitVec 3)
  aer : Bool
  errCause : BitVec 8
  deriving DecidableEq, Repr

/-- A work queue (Table 03.7, R96 to R98, R133). -/
structure Queue where
  stage : List Byte
  recs : List (BitVec 32 × List Byte)
  accepted : BitVec 32
  dispatched : BitVec 32
  done : BitVec 32
  ovfcnt : BitVec 16
  stageErr : Bool
  cfgRef : Bool
  func : BitVec 6
  weight : BitVec 8
  vector : BitVec 6
  irq : Bool
  deficit : Nat
  finished : List (BitVec 32)
  eligible : Bool
  age : Nat
  passed : Option (BitVec 32)
  deriving DecidableEq, Repr

/-- A dispatch entry of an object (Table 04.6). -/
structure DispEntry where
  lo : List Nat
  hi : List Nat
  tpc : Nat
  fpc : Nat
  needs : Nat
  folds : Nat
  heft : Bool
  detok : Bool
  deriving DecidableEq, Repr

/-- A section of an object (Table 04.3). -/
structure Sect where
  ty : Nat
  opt : Bool
  dies : BitVec 3
  off : Nat
  size : Nat
  addr : Nat
  body : List Byte
  deriving DecidableEq, Repr

/-- An object that a slot holds (R108 to R116). -/
structure Obj where
  fn : BitVec 6
  base : Nat
  bundles : Nat
  code : Nat
  isaMin : Nat
  numProf : BitVec 8
  det : Bool
  timed : Bool
  yieldGap : Nat
  disp : List DispEntry
  sects : List Sect
  windows : List (Nat × Nat)
  deriving DecidableEq, Repr

/-- An object slot (R108): its generation and what it holds. -/
structure ObjSlot where
  gen : BitVec 22
  obj : Option Obj
  deriving DecidableEq, Repr

/-- What a task holds on one die (R153, R159, R178, R189, R197). -/
structure TaskDie where
  tokens : Vector Tok 64
  bounds : List (Nat × Nat)
  owned : List (Nat × Nat)
  pinned : List (Nat × Nat)
  pinMap : List TlbEntry
  phase : BitVec 6
  tokIds : List (Nat × DieId × Fin 16 × BitVec 32)
  solves : List Nat
  deriving DecidableEq, Repr

/-- State of a task (R137 to R143, R161, R270). -/
inductive TaskSt where
  | starting | running | held | saving | saved | resuming
  deriving DecidableEq, Repr

/-- What a save keeps of one context (Tables 11.5, 11.6): the parts of its save area whose coding the specification does not give
(log 12), what the save wrote of the others, its four copy channels, and the extents of the area. -/
structure SavedCtx where
  die : DieId
  cid : CtxId
  ctx : Ctx
  wall : Option Wall
  fills : List Fill
  committed : Vector Nat 8
  owned : List (Nat × Row)
  chans : List Chan
  area : List (Nat × Nat)
  deriving DecidableEq, Repr

/-- A cause that stopped a task (R169, R266, R270): where it arose, its code and reason, the stop count and the fault
registers it left, and the queue and entry of a deferred fault; `second` marks a cause that can only be a secondary one. -/
structure Cause where
  die : DieId
  cid : CtxId
  code : BitVec 8
  reason : BitVec 4
  count : Nat
  slot : Nat
  epc : Nat
  fcnt : Nat
  faddr : Word
  queue : Nat
  seq : Nat
  second : Bool
  deriving DecidableEq, Repr

/-- A pre-emption under way (R140, R141): the agreed count, die 1's TICK at the naming of P₀ and of this count, the members that
have reached it and whether they stand inside a no-pre-empt window, the members that have still to leave every window, and the
counts reported. -/
structure Agreed where
  count : Nat
  since : Word
  named : Word
  here : List (DieId × Bool)
  leaving : List DieId
  reports : List Nat
  deriving DecidableEq, Repr

/-- A task (R153): one launch and what it holds. -/
structure Task where
  lid : BitVec 32
  fn : BitVec 6
  obj : Nat
  handle : BitVec 32
  entry : Nat
  record : List Byte
  fold : BitVec 3
  timed : Bool
  freeCtx : Nat
  prio : Nat
  det : Bool
  supv : Bool
  redsvc : Bool
  asid : BitVec 8
  kslot : BitVec 4
  budget : Nat
  ctxs : List (DieId × CtxId)
  st : TaskSt
  dies : Vector TaskDie 3
  polgen : BitVec 32
  startTick : Word
  refDie : DieId
  primary : Option (BitVec 32)
  agreed : Option Agreed
  dispAt : Word
  noVictim : Bool
  heldCtxs : List (DieId × CtxId)
  restored : Bool
  saved : List SavedCtx
  discards : Nat
  startOn : BitVec 3
  stopCounts : List (DieId × Nat)
  causes : List Cause
  reported : Bool
  bound1 : Bool
  deriving DecidableEq, Repr

/-- A sealed transfer in progress (R87, R88, R136). -/
structure Xfer where
  lid : BitVec 32
  fn : BitVec 6
  dirIn : Bool
  record : List Byte
  number : Word
  deriving DecidableEq, Repr

/-- An attestation log entry (R83). -/
structure LogEntry where
  digest : BitVec 512
  handle : BitVec 32
  fn : BitVec 8
  kslot : BitVec 8
  kind : BitVec 8
  deriving DecidableEq, Repr

/-- The host port and what it keeps (03, 04). `mem` is the host's memory as each function reaches it: the IOVA a of function f is
address f 2^64 + a (R77, log 47). -/
structure HostSide where
  mem : Mem
  queues : Vector Queue 1024
  cursor : Vector Nat 8
  fns : Vector Fn 64
  dmwin : BitVec 9
  irqs : List (BitVec 6 × BitVec 6)
  doe : List (BitVec 6 × DoeMsg)
  meas : Vector (BitVec 512) 8
  logHead : BitVec 512
  log : List LogEntry
  slotmap : List (Nat × BitVec 4)
  slotKeys : Vector Nat 16
  objs : Vector ObjSlot 1024
  barReads : List (Option (List Byte))
  asidRoot : Vector Word 256
  deriving DecidableEq, Repr

/-- The scheduler (05): its tasks and transfers, whether an event asks for a dispatch pass, and the tick of die 1 of the last
pass (R130). -/
structure Sched where
  tasks : List Task
  xfers : List Xfer
  want : Bool
  passAt : Word
  deriving DecidableEq, Repr

/-! ### Paddock -/

/-- States of a pen (R229). -/
inductive PenSt where
  | free | running | ended
  deriving DecidableEq, Repr

/-- M-mode registers of the RISC-V specifications (R222, log 10). -/
structure MRegs where
  status : Word
  ie : Word
  tvec : Word
  counteren : Word
  scratch : Word
  epc : Word
  cause : Word
  tval : Word
  deriving DecidableEq, Repr

/-- Architectural state of a pen's hart (R222, R228). -/
structure Hart where
  pc : Word
  x : Vector Word 32
  f : Vector Word 32
  v : Vector (BitVec 256) 32
  fcsr : BitVec 32
  vtype : Word
  vl : Word
  vstart : Word
  vcsr : Word
  mode : BitVec 2
  sstatus : Word
  sie : Word
  stvec : Word
  scounteren : Word
  senvcfg : Word
  sscratch : Word
  sepc : Word
  scause : Word
  stval : Word
  sip : Word
  satp : Word
  m : MRegs
  resv : Option Nat
  deriving DecidableEq, Repr

/-- The fields of a pen descriptor (Table 09.4). -/
structure PenDesc where
  image : Nat
  pbase : Nat
  psize : Nat
  xbase : Nat
  xsize : Nat
  stepBud : Nat
  epBud : Nat
  wallBud : Nat
  mode : BitVec 2
  detclk : Bool
  die : DieId
  deriving DecidableEq, Repr

/-- A slot of a mailbox (R232): 256 bytes, byte i at bits [8i+7:8i]. -/
abbrev MbSlot := BitVec 2048

/-- One pen (R227 to R241). -/
structure Pen where
  st : PenSt
  owner : BitVec 32
  desc : PenDesc
  episode : Word
  actStep : BitVec 32
  obsStep : BitVec 32
  acts : List MbSlot
  obs : List MbSlot
  stage : MbSlot
  obsRes : BitVec 8
  bound : Option (BitVec 32)
  endPosted : Bool
  endState : BitVec 8
  endReason : BitVec 8
  nAct : BitVec 32
  nObs : BitVec 32
  firstGen : BitVec 32
  nsw : BitVec 8
  switches : List (BitVec 32 × BitVec 32)
  discard : BitVec 32
  instret : Nat
  stepCnt : Nat
  counting : Bool
  hart : Hart
  copied : List Nat
  waiting : Bool
  stepAt : Word
  deriving DecidableEq, Repr

/-- The bounds registers of a hart (Table 09.2). -/
structure HartRegs where
  pen : BitVec 10
  asid : BitVec 8
  pmbase : BitVec 48
  pmsize : BitVec 33
  pxbase : BitVec 48
  pxsize : BitVec 29
  serving : Option Nat
  task : BitVec 32
  deriving DecidableEq, Repr

/-- A receive that waits at an empty observation mailbox (R400). -/
structure WaitRecv where
  pen : Nat
  die : DieId
  ctx : CtxId
  lid : BitVec 32
  seq : Nat
  st : Bool
  deriving DecidableEq, Repr

/-- The paddock (09). `next` is the pen after which the next pen is looked for, and `last` the tick of die 1 in which a hart
last acted of itself (log 2). -/
structure Paddock where
  pens : List (Nat × Pen)
  harts : Vector HartRegs 96
  waits : List WaitRecv
  next : Nat
  last : Word
  deriving DecidableEq, Repr

/-! ### The package as a whole -/

/-- The state of the package. `agenda` holds what arrives from outside next, in order; `turn` is the die that takes the
next cycle and `order` the dies after it; `fresh` numbers the free values drawn (log 1, 2, 8). -/
structure State where
  pkg : Package
  links : Links
  dies : Vector Die 3
  hbm : Mem
  hbmEcc : List Nat
  host : HostSide
  sched : Sched
  paddock : Paddock
  agenda : List Instr
  turn : DieId
  order : List DieId
  fresh : Nat
  deriving DecidableEq, Repr

/-! ### Reset -/

/-- The latency ports before anything is written to them: 0 of their kind (R312). -/
def portsReset : Vector Value 12 :=
  #v[.s 0, .s 0, .s 0, .s 0, .s 0, .t Tile.zero, .t Tile.zero, .t Tile.zero, .t Tile.zero, .t Tile.zero, .s 0, .s 0]

/-- A context that holds no task (Table 06.4 for what the next task finds in it). -/
def Ctx.reset : Ctx :=
  { kind := .none, lid := 0, status := .run, s := .replicate 32 0, c := 1, w := .replicate 4 Row.zero,
    latches := .replicate 22 none, vxm := Mask.ones, ports := portsReset,
    lsq := [], syq := [], fxq := [], fxst := [], entries := [], marks := [], fences := [], holds := [], seq := 0,
    pend := [], snap := none, far := [], grp := none, bundle := 0, slot := 0, base := 0, codeLen := 0, delay := none,
    rot := { lc := 0, rofs := 0, rsz := 0, rfile := 0 }, ic := 0, origin := 0, hc := 0, startScy := 0,
    priv := false, inh := false, fcode := 0, reason := 0, cswSlot := 0, guards := 0, reentry := false, reent := none, status0 := .run, alignAt := [], exitAt := none, exitQuiet := false, retireFc := 0, epc := 0,
    tvec := 0, tvecValid := false, faddr := 0, fcnt := 0, fflags := 0, rmode := 0,
    amax := .replicate 4 (false, 0), rngKey := 0, rngCtr := 0, shape := .replicate 6 0,
    padShape := .replicate 6 0, numProf := 2, epoch0 := 0, epoch1 := 0, 
    arriving := [], ordSeq := .replicate 64 0, freeRun := 0, discards := [], abandoned := false,
    deferred := [], secondary := [], dbgSkip := false, stepDue := false, blocked := none, wake := .awake }

/-- A B buffer of zero bytes whose tags are NONE (R370). -/
def BBuf.reset : BBuf :=
  { cols := .replicate 16 Row.zero, tags := .replicate 16 .none, sc := 0, ix := .replicate 4 0 }

/-- A matrix cell at task start (R370). -/
def Cell.reset : Cell :=
  { active := BBuf.reset, shadow := BBuf.reset, acc := List.replicate 64 (List.replicate 16 0) }

/-- The tile side of a die at task start (Table 06.4): zeros, m0 ones, identity tables, no generator set. -/
def Wall.reset : Wall :=
  { t := .replicate 32 Tile.zero, m := (Vector.replicate 8 Mask.zero).set 0 Mask.ones,
    cells := List.replicate 256 Cell.reset, ag := .replicate 4 none, routes := [], pats := [], planes := [],
    live := [], blocks := [], lastSolve := none, lastPin := none }

/-- A copy channel after reset (Table 07.10). -/
def Chan.reset : Chan :=
  { nextId := 0, doneId := 0, errId := 0, err := false, cause := 0, copies := [] }

/-- What a die knows of a partner before any message (log 6). -/
def Partner.reset : Partner :=
  { offset := 0, raw := 0, fc := 0, lastTick := 0, lastArr := 0, missing := 0, eseq := 0, waited := 0, rate := none, drift := false }

/-- Die `d` after reset (R10, R17, Tables 01.2, 07.10, 11.4, 11.8, 16.10). -/
def Die.reset (d : DieId) : Die :=
  { id := BitVec.ofNat 2 d.val, heldReset := false, outOfService := false, tick := 0, scy := 0, debt := 0,
    debtNow := [], stopFrozen := false, stopHand := 0, stopDue := false, sp := [], spSide := [], spEcc := [], pstore := [],
    wall := Wall.reset, ctxs := .replicate 4 Ctx.reset, issuing := 0, current := none,
    rx := .replicate 16 [], flight := [], inbox := [], msgQueue := [], sentTick := none,
    countOwed := false, partners := .replicate 3 Partner.reset, eseq := 0, fills := [], fillOrder := 0,
    committed := .replicate 8 0, chans := .replicate 16 Chan.reset,
    streams := .replicate 16 { cfg := 0, buf := [], credits := 0 }, tlb := [], tokens := .replicate 64 .clear,
    savelist := .replicate 4 0,
    dbgCtl := .replicate 4 0, dbgBp := .replicate 16 0, trcCtl := 0, trcTrig := 0, trcIdx := 0,
    trcPost := none, trcBuf := [] }

/-- The manifest of the part that `State.reset` stands for: an LX3-432 whose trims are zeros, signed with a key of the model's
own (log 6). -/
def Manifest.reset : Manifest :=
  { format := 3, partno := [0x4C, 0x58, 0x33, 0x2D, 0x34, 0x33, 0x32], variant := 0, units := 7, serial := [1], svn := 0,
    pwrDef := 2800, dieTrim := [], sramRep := [], hbmTrim := [], optTrim := [], idHelp := [],
    idPub := [0xCE, 0xCC, 0x15, 0x07, 0xDC, 0x1D, 0xDD, 0x72, 0x95, 0x95, 0x1C, 0x29, 0x08, 0x88, 0xF0, 0x95] ++
      [0xAD, 0xB9, 0x04, 0x4D, 0x1B, 0x73, 0xD6, 0x96, 0xE6, 0xDF, 0x06, 0x5D, 0x68, 0x3B, 0xD4, 0xFC]
    rootPub := [0x6B, 0x79, 0xC5, 0x7E, 0x6A, 0x09, 0x52, 0x39, 0x28, 0x2C, 0x04, 0x81, 0x8E, 0x96, 0x11, 0x2F] ++
      [0x3F, 0x03, 0xA4, 0x00, 0x1B, 0xA9, 0x7A, 0x56, 0x4C, 0x23, 0x85, 0x2A, 0x3F, 0x1E, 0xA5, 0xFC]
    sig := [0xA3, 0x8D, 0xF9, 0x2D, 0x98, 0x76, 0xDD, 0xE0, 0x3B, 0xA0, 0xBD, 0x70, 0x16, 0xB6, 0xE5, 0x67] ++
      [0x3D, 0x21, 0xE8, 0x05, 0x36, 0xA5, 0xCF, 0xD4, 0x49, 0xA9, 0x4B, 0x90, 0x5A, 0x37, 0x91, 0x12] ++
      [0x30, 0x2B, 0x93, 0xF2, 0x2E, 0x93, 0x24, 0xE6, 0x3B, 0x18, 0xC3, 0x44, 0xEC, 0x8A, 0x62, 0xC3] ++
      [0x26, 0xAF, 0x95, 0xFC, 0x43, 0x70, 0x05, 0x31, 0x2E, 0xB4, 0x65, 0x65, 0xF0, 0x06, 0x85, 0x0D] }

/-- What the meters and sensors show before the first settlement (log 6). -/
def Readings.reset : Readings :=
  { draw := 0, leakage := 0, thermal := 0, input := 0, dieMax := 0, laser := [], floors := [] }

/-- The package's registers after reset (Tables 01.4, 01.8, 01.10, 05.5, 05.6; log 6 for the rest). -/
def Package.reset : Package :=
  { power := false, stage := 0, halted := false, optFail := false, padFail := false, level := 0, dieUp := 0, hbmFull := false, optUp := false, padUp := false,
    fail := 0, bootFail := 0, caps := 0x0000000002010000, flashFail := 0,
    manifest := Manifest.reset, rootHash := 0xcbda4eeb376448e6595829c7036e1e9ce49e29f594a4c760a81a3ddfe42829a69f6801a14d9415cf57efb148a27b2db0df6cc5876cf12c625e4d315422704846, svnHeld := 0,
    idSeed := 1, idOk := true, sensors := Readings.reset, pwrLimit := 2800, pwrBad := false, pwrNext := none, pwrNow := 0, pwrPct := 0, tempDie := 0,
    tempLaser := 0, hotDie := false, hotLaser := 0, errSram := 0, errHbm := 0, lowPwr := false,
    inForce := false, hold := false, overF := false, pass := 1000, settleAt := 0, holdAt := 0,
    portPwr := .replicate 12 { set := 0, floor := 160, defer := false }, interval := .replicate 3 none }

/-- A port after reset (R70): no traffic, all wavelengths present. -/
def Port.reset : Port :=
  { st := .drained, live := 0xFFFF, rxLive := 0xFFFF, rxDark := 0, dark := 0, combDead := 0, lambda16 := none, lambdaDead := false,
    lambdaWait := none, spare := none, spareDead := false, spareWait := none, txSeq := 0,
    rxSeq := 0, ackOwed := 0, unacked := [], replays := 0, tagFails := 0, gap := false,
    nonce := 0, rxNonce := 0, txKey := 0, rxKey := 0, credits := .replicate 8 32, out := [], sent := [], carried := 0 }

/-- Links and fabric configuration after reset (R70, Tables 02.11 to 02.15, R74). -/
def Links.reset : Links :=
  { errFar := 0, errReplay := 0, errCount := 0, planes := .replicate 4 .drained, planeCommit := 0, cfgErr := 0,
    memberSet := 0, groupLo := 0, groupHi := 0, groupLoS := 0, groupHiS := 0,
    routeS := .replicate 128 { direct := 0, via := 0, viaValid := false },
    route := .replicate 128 { direct := 0, via := 0, viaValid := false },
    ports := .replicate 12 Port.reset, txX := [], rxWins := [], windows := .replicate 512 (.replicate 6 0),
    okeys := .replicate 256 0, groups := .replicate 64 0, inbox := [], outbox := [], router := [],
    trans := [], nextTag := 0, ssteps := [], sstepNext := .replicate 64 0, smsgs := [], ordHeld := [],
    arrivals := [], leaving := false, viaSent := [] }

/-- Function `i` after reset (Table 03.6, R80, R84; log 13 for its address space). -/
def Fn.reset (i : Nat) : Fn :=
  { evBase := 0, evSize := 0, evVec := 0, evIrq := false, evHead := 0, evTail := 0, evLost := 0,
    tdi := .unlocked, slot := 0, ctrIn := 0, ctrOut := 0, spdm := .none, asids := [BitVec.ofNat 8 i], secret := [], xferKey := 0, logHead := 0,
    ides := [], aer := false, errCause := 0 }

/-- A work queue after reset (Table 03.7, R94, R133). -/
def Queue.reset : Queue :=
  { stage := List.replicate 64 0, recs := [], accepted := 0, dispatched := 0, done := 0, ovfcnt := 0,
    stageErr := false, cfgRef := false, func := 0, weight := 1, vector := 0, irq := false, deficit := 0,
    finished := [], eligible := false, age := 0, passed := none }

/-- The host side after reset (R82, R83, R90, R94, R108, R134). -/
def HostSide.reset : HostSide :=
  { mem := [], queues := .replicate 1024 Queue.reset, cursor := .replicate 8 1023, fns := Vector.ofFn fun i => Fn.reset i.val,
    dmwin := 0, irqs := [], doe := [], meas := .replicate 8 0, logHead := 0, log := [], slotmap := [],
    slotKeys := .replicate 16 0, objs := .replicate 1024 { gen := 0, obj := none }, barReads := [],
    asidRoot := .replicate 256 0 }

/-- Bounds registers of a hart after reset (Table 09.2). -/
def HartRegs.reset : HartRegs :=
  { pen := 0, asid := 0, pmbase := 0, pmsize := 0, pxbase := 0, pxsize := 0, serving := none, task := 0 }

/-- The package right after reset: the values of the reset columns of the specification's tables, and the values of
log 4 and log 6 where it gives none. -/
def State.reset : State :=
  { pkg := Package.reset, links := Links.reset, dies := #v[Die.reset 0, Die.reset 1, Die.reset 2], hbm := [],
    hbmEcc := [], host := HostSide.reset, sched := { tasks := [], xfers := [], want := false, passAt := 0 },
    paddock := { pens := [], harts := .replicate 96 HartRegs.reset, waits := [], next := 0, last := 0 }, agenda := [], turn := 0,
    order := [], fresh := 0 }

end Sys2Proof.Machine
end

