-- ==== Sys2Proof/Machine/Bits.lean ====
section
/-! DEFINITION. Bit fields, sign extension, byte order (little-endian, R7) and lists of bytes. -/

namespace Sys2Proof.Machine

/-- Bits `[lo+len-1:lo]` of a number. -/
def bits (n lo len : Nat) : Nat := n / 2 ^ lo % 2 ^ len

/-- Bits `[lo+len-1:lo]` of a word. -/
def fld (w : Word) (lo len : Nat) : Nat := bits w.toNat lo len

/-- Bit `i` of a word. -/
def bit (w : Word) (i : Nat) : Bool := w.toNat.testBit i

/-- The number `n` with bits `[lo+len-1:lo]` replaced by `v`. -/
def setBits (n lo len v : Nat) : Nat :=
  n - bits n lo len * 2 ^ lo + v % 2 ^ len * 2 ^ lo

/-- The word with bits `[lo+len-1:lo]` replaced. -/
def setFld (w : Word) (lo len v : Nat) : Word := BitVec.ofNat 64 (setBits w.toNat lo len v)

/-- The low `n` bits read as a two's complement number. -/
def signedOf (n v : Nat) : Int :=
  let u := v % 2 ^ n
  if u < 2 ^ (n - 1) then (u : Int) else (u : Int) - (2 ^ n : Nat)

/-- Sign extension of the low `n` bits to 64. -/
def sext64 (n : Nat) (w : Word) : Word := BitVec.ofInt 64 (signedOf n w.toNat)

/-- Zero extension of the low `n` bits to 64. -/
def zext64 (n : Nat) (w : Word) : Word := BitVec.ofNat 64 (w.toNat % 2 ^ n)

/-- The number whose bytes, least significant first, are `bs`. -/
def leNat : List Byte → Nat
  | [] => 0
  | b :: bs => b.toNat + 256 * leNat bs

/-- The `n` bytes of a number, least significant first. -/
def leBytes : Nat → Nat → List Byte
  | 0, _ => []
  | n + 1, v => BitVec.ofNat 8 v :: leBytes n (v / 256)

/-- Bytes `off .. off + n - 1` of a list, bytes past its end reading 0. -/
def slice (bs : List Byte) (off n : Nat) : List Byte :=
  let l := (bs.drop off).take n
  l ++ List.replicate (n - l.length) 0

/-- The little-endian number of `n` bytes at `off`. -/
def leAt (bs : List Byte) (off n : Nat) : Nat := leNat (slice bs off n)

/-- The bytes of a row's data (byte j is bits [8j+7:8j]). -/
def rowBytes (r : Row) : List Byte := leBytes 256 r.data.toNat

/-- The bytes of a row's side lane. -/
def rowSide (r : Row) : List Byte := leBytes 32 r.side.toNat

/-- The row of 256 data bytes and 32 side-lane bytes. -/
def mkRow (data side : List Byte) : Row :=
  ⟨BitVec.ofNat 2048 (leNat data), BitVec.ofNat 256 (leNat side)⟩

/-- The row whose every 8 data bytes repeat a scalar, side lane 0 (Table 12.3). -/
def rowOfWord (w : Word) : Row :=
  ⟨BitVec.ofNat 2048 (leNat ((List.replicate 32 (leBytes 8 w.toNat)).flatten)), 0⟩

/-- Replace the element at an index, when there is one. -/
def setAt {α : Type} (l : List α) (i : Nat) (v : α) : List α := l.set i v

/-- The least element of a list of numbers. -/
def minOf : List Nat → Option Nat
  | [] => none
  | x :: xs =>
    match minOf xs with
    | none => some x
    | some y => some (min x y)

/-- Bytes of a word of `n` bits, most significant first, as the digests of R83 are written. -/
def beBytes (n v : Nat) : List Byte := (leBytes n v).reverse

/-- Indices of the set bits of a mask of `n` bits, ascending. -/
def setBitsOf (n v : Nat) : List Nat := (List.range n).filter fun i => v.testBit i

/-- Number of set bits. -/
def popcount (n v : Nat) : Nat := (setBitsOf n v).length

end Sys2Proof.Machine
end

