-- ==== Sys2Proof/Machine/Hash.lean ====
section
/-! DEFINITION. SHA-512, HMAC and HKDF over it (02 R61, 03 R81 to R87), and the CRC-64 of a flit (R61). The standards that the
specification names give these functions (log 9). Words are natural numbers below 2^64. -/

namespace Sys2Proof.Machine

/-- The big-endian number of a run of bytes. -/
def beNat (bs : List Byte) : Nat := leNat bs.reverse

/-- Numbers of `n` bytes each, most significant byte first. -/
def beWords (n : Nat) : Nat → List Byte → List Nat
  | 0, _ => []
  | k + 1, bs => beNat (slice bs 0 n) :: beWords n k (bs.drop n)

/-! ### SHA-512 -/

/-- The round constants: the fractions of the cube roots of the first 80 primes. -/
def shaK : List Nat :=
    [0x428a2f98d728ae22, 0x7137449123ef65cd, 0xb5c0fbcfec4d3b2f, 0xe9b5dba58189dbbc] ++
    [0x3956c25bf348b538, 0x59f111f1b605d019, 0x923f82a4af194f9b, 0xab1c5ed5da6d8118] ++
    [0xd807aa98a3030242, 0x12835b0145706fbe, 0x243185be4ee4b28c, 0x550c7dc3d5ffb4e2] ++
    [0x72be5d74f27b896f, 0x80deb1fe3b1696b1, 0x9bdc06a725c71235, 0xc19bf174cf692694] ++
    [0xe49b69c19ef14ad2, 0xefbe4786384f25e3, 0x0fc19dc68b8cd5b5, 0x240ca1cc77ac9c65] ++
    [0x2de92c6f592b0275, 0x4a7484aa6ea6e483, 0x5cb0a9dcbd41fbd4, 0x76f988da831153b5] ++
    [0x983e5152ee66dfab, 0xa831c66d2db43210, 0xb00327c898fb213f, 0xbf597fc7beef0ee4] ++
    [0xc6e00bf33da88fc2, 0xd5a79147930aa725, 0x06ca6351e003826f, 0x142929670a0e6e70] ++
    [0x27b70a8546d22ffc, 0x2e1b21385c26c926, 0x4d2c6dfc5ac42aed, 0x53380d139d95b3df] ++
    [0x650a73548baf63de, 0x766a0abb3c77b2a8, 0x81c2c92e47edaee6, 0x92722c851482353b] ++
    [0xa2bfe8a14cf10364, 0xa81a664bbc423001, 0xc24b8b70d0f89791, 0xc76c51a30654be30] ++
    [0xd192e819d6ef5218, 0xd69906245565a910, 0xf40e35855771202a, 0x106aa07032bbd1b8] ++
    [0x19a4c116b8d2d0c8, 0x1e376c085141ab53, 0x2748774cdf8eeb99, 0x34b0bcb5e19b48a8] ++
    [0x391c0cb3c5c95a63, 0x4ed8aa4ae3418acb, 0x5b9cca4f7763e373, 0x682e6ff3d6b2b8a3] ++
    [0x748f82ee5defb2fc, 0x78a5636f43172f60, 0x84c87814a1f0ab72, 0x8cc702081a6439ec] ++
    [0x90befffa23631e28, 0xa4506cebde82bde9, 0xbef9a3f7b2c67915, 0xc67178f2e372532b] ++
    [0xca273eceea26619c, 0xd186b8c721c0c207, 0xeada7dd6cde0eb1e, 0xf57d4f7fee6ed178] ++
    [0x06f067aa72176fba, 0x0a637dc5a2c898a6, 0x113f9804bef90dae, 0x1b710b35131c471b] ++
    [0x28db77f523047d84, 0x32caab7b40c72493, 0x3c9ebe0a15c9bebc, 0x431d67c49c100d4c] ++
    [0x4cc5d4becb3e42b6, 0x597f299cfc657e2a, 0x5fcb6fab3ad6faec, 0x6c44198c4a475817]

/-- The eight working words. -/
structure ShaWords where
  a : Nat
  b : Nat
  c : Nat
  d : Nat
  e : Nat
  f : Nat
  g : Nat
  h : Nat
  deriving DecidableEq, Repr

/-- The first words: the fractions of the square roots of the first 8 primes. -/
def shaStart : ShaWords :=
  ⟨0x6a09e667f3bcc908, 0xbb67ae8584caa73b, 0x3c6ef372fe94f82b, 0xa54ff53a5f1d36f1,
   0x510e527fade682d1, 0x9b05688c2b3e6c1f, 0x1f83d9abfb41bd6b, 0x5be0cd19137e2179⟩

/-- 2^64. -/
def shaMod : Nat := 0x10000000000000000

/-- A function of a number that is computed first. -/
def strict {α : Type} (x : Nat) (f : Nat → α) : α :=
  match x with
  | 0 => f 0
  | n + 1 => f (n + 1)

/-- Rotation to the right of a 64-bit number. -/
def rotr64 (n x : Nat) : Nat := x >>> n ||| (x <<< (64 - n)) % shaMod

/-- The four mixing functions. -/
def shaS0 (x : Nat) : Nat := rotr64 28 x ^^^ rotr64 34 x ^^^ rotr64 39 x
def shaS1 (x : Nat) : Nat := rotr64 14 x ^^^ rotr64 18 x ^^^ rotr64 41 x
def shaG0 (x : Nat) : Nat := rotr64 1 x ^^^ rotr64 8 x ^^^ x >>> 7
def shaG1 (x : Nat) : Nat := rotr64 19 x ^^^ rotr64 61 x ^^^ x >>> 6

/-- One round with constant `k` and schedule word `w`. -/
def ShaWords.round (s : ShaWords) (k w : Nat) : ShaWords :=
  let ch := (s.e &&& s.f) ^^^ ((0xFFFFFFFFFFFFFFFF - s.e) &&& s.g)
  let maj := (s.a &&& s.b) ^^^ (s.a &&& s.c) ^^^ (s.b &&& s.c)
  strict (s.h + shaS1 s.e + ch + k + w) fun t =>
    strict ((t + shaS0 s.a + maj) % shaMod) fun a =>
      strict ((s.d + t) % shaMod) fun e => ⟨a, s.a, s.b, s.c, e, s.e, s.f, s.g⟩

/-- Word `i` of a schedule's next 16 words, which `ws` holds as one number, the first most significant. -/
def shaWord (ws i : Nat) : Nat := ws >>> (960 - 64 * i) % shaMod

/-- The rounds of a block. -/
def shaRounds : List Nat → Nat → ShaWords → ShaWords
  | [], _, s => s
  | k :: ks, ws, s =>
    strict ((shaWord ws 0 + shaG0 (shaWord ws 1) + shaWord ws 9 + shaG1 (shaWord ws 14)) % shaMod) fun next =>
      strict ((ws % 1 <<< 960) <<< 64 + next) fun l => shaRounds ks l (s.round k (shaWord ws 0))

/-- Word by word sum. -/
def ShaWords.add (s t : ShaWords) : ShaWords :=
  strict ((s.a + t.a) % shaMod) fun a => strict ((s.b + t.b) % shaMod) fun b =>
    strict ((s.c + t.c) % shaMod) fun c => strict ((s.d + t.d) % shaMod) fun d =>
      strict ((s.e + t.e) % shaMod) fun e => strict ((s.f + t.f) % shaMod) fun f =>
        strict ((s.g + t.g) % shaMod) fun g => strict ((s.h + t.h) % shaMod) fun h => ⟨a, b, c, d, e, f, g, h⟩

/-- `n` blocks of 128 bytes. -/
def shaBlocks : Nat → List Byte → ShaWords → ShaWords
  | 0, _, s => s
  | n + 1, bs, s =>
    strict (beNat (bs.take 128)) fun ws => shaBlocks n (bs.drop 128) (s.add (shaRounds shaK ws s))

/-- The padding of a message of `n` bytes. -/
def shaPad (n : Nat) : List Byte := 0x80 :: List.replicate ((239 - n % 128) % 128) 0 ++ beBytes 16 (8 * n)

/-- SHA-512 of a run of bytes, as a number, most significant byte first. -/
def sha512 (bs : List Byte) : BitVec 512 :=
  let m := bs ++ shaPad bs.length
  let s := shaBlocks (m.length / 128) m shaStart
  BitVec.ofNat 512 ([s.a, s.b, s.c, s.d, s.e, s.f, s.g, s.h].foldl (fun n w => n * 2 ^ 64 + w) 0)

/-- The 64 bytes of a digest. -/
def digestBytes (d : BitVec 512) : List Byte := beBytes 64 d.toNat

/-- HMAC with SHA-512. -/
def hmac512 (key msg : List Byte) : List Byte :=
  let k := slice (if 128 < key.length then digestBytes (sha512 key) else key) 0 128
  digestBytes (sha512 (k.map (· ^^^ 0x5C) ++ digestBytes (sha512 (k.map (· ^^^ 0x36) ++ msg))))

/-- HKDF with SHA-512, without salt, of at most 64 bytes. -/
def hkdf512 (secret info : List Byte) (n : Nat) : List Byte :=
  slice (hmac512 (hmac512 (List.replicate 64 0) secret) (info ++ [1])) 0 n

/-! ### CRC-64 (R61) -/

/-- One bit of the division by the ECMA-182 polynomial. -/
def crcBit (c : Nat) : Nat := if c.testBit 63 then (c <<< 1 ^^^ 0x42F0E1EBA9EA3693) % 2 ^ 64 else c <<< 1

/-- CRC-64 of a run of bytes, from 0, most significant bit first. -/
def crc64 (bs : List Byte) : BitVec 64 :=
  BitVec.ofNat 64 (bs.foldl (fun c b => Nat.repeat crcBit 8 (c ^^^ b.toNat <<< 56)) 0)

end Sys2Proof.Machine
end

