-- ==== Sys2Proof/Machine/Ed25519.lean ====
section
/-! DEFINITION. Ed25519 signatures (01 R30, R31, 03 R80, R81), as the standard that the specification names gives them (log 9).
Points are in extended coordinates over the field of 2^255 - 19 elements. -/

namespace Sys2Proof.Machine

/-- The field's prime and the order of the base point. -/
def edP : Nat := 2 ^ 255 - 19
def edL : Nat := 2 ^ 252 + 27742317777372353535851937790883648493

/-- Difference in the field. -/
def edSub (a b : Nat) : Nat := (a + (edP - b % edP)) % edP

/-- A power in the field: the exponent's bits from `n - 1` down. -/
def edPow (a e : Nat) : Nat → Nat → Nat
  | 0, r => r
  | n + 1, r =>
    let q := r * r % edP
    edPow a e n (if e.testBit n then q * a % edP else q)

/-- The inverse. -/
def edInv (a : Nat) : Nat := edPow a (edP - 2) 255 1

/-- The curve's constant, -121665 / 121666. -/
def edD : Nat := 37095705934669439343138083508754565189542113879843219016388785533085940283555

/-- A point. -/
structure EdPoint where
  x : Nat
  y : Nat
  z : Nat
  t : Nat
  deriving DecidableEq, Repr

/-- The neutral point and the base point. -/
def EdPoint.zero : EdPoint := ⟨0, 1, 1, 0⟩
def EdPoint.base : EdPoint :=
  let x := 15112221349535400772501151409588531511454012693041857206046113283949847762202
  let y := 46316835694926478169428394003475163141307993866256225615783033603165251855960
  ⟨x, y, 1, x * y % edP⟩

/-- Sum of two points. -/
def EdPoint.add (p q : EdPoint) : EdPoint :=
  let a := edSub p.y p.x * edSub q.y q.x % edP
  let b := (p.y + p.x) * (q.y + q.x) % edP
  let c := p.t * q.t * 2 * edD % edP
  let d := p.z * q.z * 2 % edP
  let e := edSub b a
  let f := edSub d c
  let g := (d + c) % edP
  let h := (b + a) % edP
  ⟨e * f % edP, g * h % edP, f * g % edP, e * h % edP⟩

/-- A multiple of a point: the factor's bits from `n - 1` down. -/
def EdPoint.mul (p : EdPoint) (k : Nat) : Nat → EdPoint → EdPoint
  | 0, r => r
  | n + 1, r =>
    let q := r.add r
    EdPoint.mul p k n (if k.testBit n then q.add p else q)

/-- The multiple of a point by a factor below 2^256. -/
def EdPoint.times (p : EdPoint) (k : Nat) : EdPoint := p.mul k 256 EdPoint.zero

/-- Do two points stand for the same? -/
def EdPoint.same (p q : EdPoint) : Bool :=
  p.x * q.z % edP == q.x * p.z % edP && p.y * q.z % edP == q.y * p.z % edP

/-- The 32 bytes of a point. -/
def EdPoint.bytes (p : EdPoint) : List Byte :=
  let i := edInv p.z
  leBytes 32 (p.y * i % edP + p.x * i % edP % 2 * 2 ^ 255)

/-- The point of 32 bytes. -/
def edDecode (bs : List Byte) : Option EdPoint :=
  let n := leNat (slice bs 0 32)
  let y := n % 2 ^ 255
  let u := edSub (y * y) 1
  let v := (edD * (y * y % edP) + 1) % edP
  let r := u * edPow v 3 2 1 % edP * edPow (u * edPow v 7 3 1 % edP) ((edP - 5) / 8) 252 1 % edP
  let x0 := if v * r * r % edP = u then some r
    else if v * r * r % edP = edSub 0 u then some (r * edPow 2 ((edP - 1) / 4) 253 1 % edP) else none
  if edP ≤ y then none
  else
    match x0 with
    | none => none
    | some x =>
      if x = 0 ∧ n / 2 ^ 255 = 1 then none
      else
        let x1 := if x % 2 = n / 2 ^ 255 then x else edP - x
        some ⟨x1, y, 1, x1 * y % edP⟩

/-- A digest as a little-endian number. -/
def edHash (bs : List Byte) : Nat := leNat (digestBytes (sha512 bs))

/-- The secret factor of a seed of 32 bytes. -/
def edFactor (seed : List Byte) : Nat :=
  let h := leNat ((digestBytes (sha512 seed)).take 32)
  setBits (h % 2 ^ 254 + 2 ^ 254) 0 3 0

/-- The public key of a seed. -/
def edPublic (seed : List Byte) : List Byte := (EdPoint.base.times (edFactor seed)).bytes

/-- The signature of a message under a seed. -/
def edSign (seed msg : List Byte) : List Byte :=
  let r := edHash ((digestBytes (sha512 seed)).drop 32 ++ msg) % edL
  let rb := (EdPoint.base.times r).bytes
  let k := edHash (rb ++ edPublic seed ++ msg) % edL
  rb ++ leBytes 32 ((r + k * edFactor seed) % edL)

/-- Is a signature of 64 bytes right for a message under a public key? -/
def edVerify (pub msg sig : List Byte) : Bool :=
  let s := leNat (slice sig 32 32)
  match edDecode pub, edDecode (slice sig 0 32) with
  | some a, some r =>
    let k := edHash (slice sig 0 32 ++ slice pub 0 32 ++ msg) % edL
    decide (s < edL) && (EdPoint.base.times s).same (r.add (a.times k))
  | _, _ => false

end Sys2Proof.Machine
end

