-- ==== Sys2Proof/WellFormed.lean ====
section
/-! DEFINITION. What an instruction is made of, the kinds of ports, and which instructions are well formed:
the moves legal between kinds (R295, Table 12.3), the hold bit (R293, R305), the even register of a pair (R358). -/

namespace Sys2Proof

/-- What an instruction is made of: an event has no encoding; a move to a trigger names its destination port. -/
inductive Parts where
  | event
  | nop
  | move (g : Guard) (h : Bool) (src : Src) (dst : Dst)
  | trig (g : Guard) (h : Bool) (src : Src) (port : BitVec 9)
  | agSet (g : Guard) (r : BitVec 5) (port : BitVec 9)
  deriving DecidableEq, Repr

/-- The guard, hold bit, source and trigger port of an instruction (Tables 12.5 to 12.11). -/
def Instr.parts : Instr → Parts
  | .move g h src dst => .move g h src dst
  | .nop => .nop
  | .ia0Add g src => .trig g false src 0x048
  | .ia0Sub g src => .trig g false src 0x049
  | .ia0And g src => .trig g false src 0x04A
  | .ia0Or g src => .trig g false src 0x04B
  | .ia0Xor g src => .trig g false src 0x04C
  | .ia0Andn g src => .trig g false src 0x04D
  | .ia0Orn g src => .trig g false src 0x04E
  | .ia0Shl g src => .trig g false src 0x04F
  | .ia0Shr g src => .trig g false src 0x050
  | .ia0Sar g src => .trig g false src 0x051
  | .ia0Rol g src => .trig g false src 0x052
  | .ia0Ror g src => .trig g false src 0x053
  | .ia0Min g src => .trig g false src 0x054
  | .ia0Max g src => .trig g false src 0x055
  | .ia0Minu g src => .trig g false src 0x056
  | .ia0Maxu g src => .trig g false src 0x057
  | .ia0Clz g src => .trig g false src 0x058
  | .ia0Ctz g src => .trig g false src 0x059
  | .ia0Popc g src => .trig g false src 0x05A
  | .ia0Sext8 g src => .trig g false src 0x05B
  | .ia0Sext16 g src => .trig g false src 0x05C
  | .ia0Sext32 g src => .trig g false src 0x05D
  | .ia0Zext32 g src => .trig g false src 0x05E
  | .ia0Bext g src => .trig g false src 0x05F
  | .ia0Bins g src => .trig g false src 0x060
  | .ia0Ceq g src => .trig g false src 0x061
  | .ia0Cne g src => .trig g false src 0x062
  | .ia0Clt g src => .trig g false src 0x063
  | .ia0Cltu g src => .trig g false src 0x064
  | .ia0Cle g src => .trig g false src 0x065
  | .ia0Cleu g src => .trig g false src 0x066
  | .imMul g src => .trig g false src 0x068
  | .imMulhu g src => .trig g false src 0x069
  | .imMulhsu g src => .trig g false src 0x06A
  | .imDiv g src => .trig g false src 0x06B
  | .imDivu g src => .trig g false src 0x06C
  | .ia1Add g src => .trig g false src 0x070
  | .ia1Sub g src => .trig g false src 0x071
  | .ia1And g src => .trig g false src 0x072
  | .ia1Or g src => .trig g false src 0x073
  | .ia1Xor g src => .trig g false src 0x074
  | .ia1Andn g src => .trig g false src 0x075
  | .ia1Shl g src => .trig g false src 0x076
  | .ia1Shr g src => .trig g false src 0x077
  | .ia1Sar g src => .trig g false src 0x078
  | .ia1Ceq g src => .trig g false src 0x079
  | .ia1Clt g src => .trig g false src 0x07A
  | .ia1Cltu g src => .trig g false src 0x07B
  | .brJmp g src => .trig g false src 0x088
  | .brCall g src => .trig g false src 0x089
  | .brLoop g src => .trig g false src 0x08A
  | .brRotcfg g src => .trig g false src 0x08B
  | .brYield g src => .trig g false src 0x08C
  | .brAlign g src => .trig g false src 0x08D
  | .brExit g src => .trig g false src 0x08E
  | .brExitAbandon g src => .trig g false src 0x08F
  | .brTrap g src => .trig g false src 0x090
  | .lsLdb g src => .trig g false src 0x091
  | .lsLdbu g src => .trig g false src 0x092
  | .lsLdh g src => .trig g false src 0x093
  | .lsLdhu g src => .trig g false src 0x094
  | .lsLdw g src => .trig g false src 0x095
  | .lsLdwu g src => .trig g false src 0x096
  | .lsLdd g src => .trig g false src 0x097
  | .lsStb g src => .trig g false src 0x098
  | .lsSth g src => .trig g false src 0x099
  | .lsStw g src => .trig g false src 0x09A
  | .lsStd g src => .trig g false src 0x09B
  | .lsLdrow g src => .trig g false src 0x09C
  | .lsStrow g src => .trig g false src 0x09D
  | .lsStrowm g src => .trig g false src 0x09E
  | .lsQmark g src => .trig g false src 0x09F
  | .syAmoAddW g src => .trig g false src 0x0A0
  | .syAmoAddD g src => .trig g false src 0x0A1
  | .syAmoAndW g src => .trig g false src 0x0A2
  | .syAmoAndD g src => .trig g false src 0x0A3
  | .syAmoOrW g src => .trig g false src 0x0A4
  | .syAmoOrD g src => .trig g false src 0x0A5
  | .syAmoXorW g src => .trig g false src 0x0A6
  | .syAmoXorD g src => .trig g false src 0x0A7
  | .syAmoMinW g src => .trig g false src 0x0A8
  | .syAmoMinD g src => .trig g false src 0x0A9
  | .syAmoMaxW g src => .trig g false src 0x0AA
  | .syAmoMaxD g src => .trig g false src 0x0AB
  | .syAmoMinuW g src => .trig g false src 0x0AC
  | .syAmoMinuD g src => .trig g false src 0x0AD
  | .syAmoMaxuW g src => .trig g false src 0x0AE
  | .syAmoMaxuD g src => .trig g false src 0x0AF
  | .syAmoSwapW g src => .trig g false src 0x0B0
  | .syAmoSwapD g src => .trig g false src 0x0B1
  | .syAmoCasW g src => .trig g false src 0x0B2
  | .syAmoCasD g src => .trig g false src 0x0B3
  | .syFenceR g src => .trig g false src 0x0B4
  | .syFenceW g src => .trig g false src 0x0B5
  | .syFenceRw g src => .trig g false src 0x0B6
  | .syTokWait g src => .trig g false src 0x0B7
  | .syTokTest g src => .trig g false src 0x0B8
  | .syTokId g src => .trig g false src 0x0B9
  | .syTokClr g src => .trig g false src 0x0BA
  | .syBarArrive g src => .trig g false src 0x0BB
  | .syBarWait g src => .trig g false src 0x0BC
  | .syPhase g src => .trig g false src 0x0BD
  | .fxRldW g h src => .trig g h src 0x0D8
  | .fxRldD g h src => .trig g h src 0x0D9
  | .fxRldrow g h src => .trig g h src 0x0DA
  | .fxRstW g h src => .trig g h src 0x0DB
  | .fxRstD g h src => .trig g h src 0x0DC
  | .fxRstrow g h src => .trig g h src 0x0DD
  | .fxRamoAdd g h src => .trig g h src 0x0DE
  | .fxRamoAnd g h src => .trig g h src 0x0DF
  | .fxRamoOr g h src => .trig g h src 0x0E0
  | .fxRamoXor g h src => .trig g h src 0x0E1
  | .fxRamoMin g h src => .trig g h src 0x0E2
  | .fxRamoMax g h src => .trig g h src 0x0E3
  | .fxRamoSwap g h src => .trig g h src 0x0E4
  | .fxRamoCas g h src => .trig g h src 0x0E5
  | .fxRamoAddOrd g h src => .trig g h src 0x0E6
  | .fxRamoAndOrd g h src => .trig g h src 0x0E7
  | .fxRamoOrOrd g h src => .trig g h src 0x0E8
  | .fxRamoXorOrd g h src => .trig g h src 0x0E9
  | .fxRamoMinOrd g h src => .trig g h src 0x0EA
  | .fxRamoMaxOrd g h src => .trig g h src 0x0EB
  | .fxRamoSwapOrd g h src => .trig g h src 0x0EC
  | .fxRamoCasOrd g h src => .trig g h src 0x0ED
  | .fxRdel g h src => .trig g h src 0x0EE
  | .fxRdelg g h src => .trig g h src 0x0EF
  | .fxMlrAddF32 g h src => .trig g h src 0x0F0
  | .fxMlrAddBf16 g h src => .trig g h src 0x0F1
  | .fxMlrMaxF32 g h src => .trig g h src 0x0F2
  | .fxMlrMaxBf16 g h src => .trig g h src 0x0F3
  | .fxMlrMinF32 g h src => .trig g h src 0x0F4
  | .fxMlrMinBf16 g h src => .trig g h src 0x0F5
  | .fxMlrAddI32 g h src => .trig g h src 0x0F6
  | .fxMlrAddI64 g h src => .trig g h src 0x0F7
  | .fxFlag g h src => .trig g h src 0x0F8
  | .fxSstep g h src => .trig g h src 0x0F9
  | .fxSpush g src => .trig g false src 0x0FA
  | .fxSpop g src => .trig g false src 0x0FB
  | .fxMbsend g h src => .trig g h src 0x0FC
  | .fxMbrecv g h src => .trig g h src 0x0FD
  | .fxMbpeek g h src => .trig g h src 0x0FE
  | .fxPen g h src => .trig g h src 0x0FF
  | .vxFaddF32 g src => .trig g false src 0x104
  | .vxFsubF32 g src => .trig g false src 0x105
  | .vxFmulF32 g src => .trig g false src 0x106
  | .vxFmaF32 g src => .trig g false src 0x107
  | .vxFmsF32 g src => .trig g false src 0x108
  | .vxFnmaF32 g src => .trig g false src 0x109
  | .vxFnmsF32 g src => .trig g false src 0x10A
  | .vxFminF32 g src => .trig g false src 0x10B
  | .vxFmaxF32 g src => .trig g false src 0x10C
  | .vxFminNumF32 g src => .trig g false src 0x10D
  | .vxFmaxNumF32 g src => .trig g false src 0x10E
  | .vxFcmpEqF32 g src => .trig g false src 0x10F
  | .vxFcmpLtF32 g src => .trig g false src 0x110
  | .vxFcmpLeF32 g src => .trig g false src 0x111
  | .vxFcmpUnF32 g src => .trig g false src 0x112
  | .vxFaddBf16 g src => .trig g false src 0x113
  | .vxFsubBf16 g src => .trig g false src 0x114
  | .vxFmulBf16 g src => .trig g false src 0x115
  | .vxFmaBf16 g src => .trig g false src 0x116
  | .vxFmsBf16 g src => .trig g false src 0x117
  | .vxFnmaBf16 g src => .trig g false src 0x118
  | .vxFnmsBf16 g src => .trig g false src 0x119
  | .vxFminBf16 g src => .trig g false src 0x11A
  | .vxFmaxBf16 g src => .trig g false src 0x11B
  | .vxFaddF16 g src => .trig g false src 0x11C
  | .vxFmulF16 g src => .trig g false src 0x11D
  | .vxFmaF16 g src => .trig g false src 0x11E
  | .vxFmaxF16 g src => .trig g false src 0x11F
  | .vxFmulE4m3 g src => .trig g false src 0x120
  | .vxFmulE5m2 g src => .trig g false src 0x121
  | .vxFmulE2m1 g src => .trig g false src 0x122
  | .vxIaddI32 g src => .trig g false src 0x123
  | .vxIsubI32 g src => .trig g false src 0x124
  | .vxIaddSI32 g src => .trig g false src 0x125
  | .vxIsubSI32 g src => .trig g false src 0x126
  | .vxImulI32 g src => .trig g false src 0x127
  | .vxImadI32 g src => .trig g false src 0x128
  | .vxIminI32 g src => .trig g false src 0x129
  | .vxImaxI32 g src => .trig g false src 0x12A
  | .vxIminuI32 g src => .trig g false src 0x12B
  | .vxImaxuI32 g src => .trig g false src 0x12C
  | .vxIcmpEqI32 g src => .trig g false src 0x12D
  | .vxIcmpLtI32 g src => .trig g false src 0x12E
  | .vxIcmpLtuI32 g src => .trig g false src 0x12F
  | .vxShlI32 g src => .trig g false src 0x130
  | .vxShrI32 g src => .trig g false src 0x131
  | .vxSarI32 g src => .trig g false src 0x132
  | .vxPopcI32 g src => .trig g false src 0x133
  | .vxClzI32 g src => .trig g false src 0x134
  | .vxIaddI16 g src => .trig g false src 0x135
  | .vxIaddI8 g src => .trig g false src 0x136
  | .vxIaddSI8 g src => .trig g false src 0x137
  | .vxAnd g src => .trig g false src 0x138
  | .vxOr g src => .trig g false src 0x139
  | .vxXor g src => .trig g false src 0x13A
  | .vxAndn g src => .trig g false src 0x13B
  | .vxLut3 g src => .trig g false src 0x13C
  | .vxSel g src => .trig g false src 0x13D
  | .vxRot g src => .trig g false src 0x13E
  | .vxFsh g src => .trig g false src 0x13F
  | .vxCvtF32Bf16 g src => .trig g false src 0x148
  | .vxCvtF32F16 g src => .trig g false src 0x149
  | .vxCvtBf16F32 g src => .trig g false src 0x14A
  | .vxCvtF16F32 g src => .trig g false src 0x14B
  | .vxCvtF32E4m3Sat g src => .trig g false src 0x14C
  | .vxCvtF32E4m3Nan g src => .trig g false src 0x14D
  | .vxCvtF32E5m2Sat g src => .trig g false src 0x14E
  | .vxCvtF32E5m2Inf g src => .trig g false src 0x14F
  | .vxCvtF32E2m1 g src => .trig g false src 0x150
  | .vxCvtBf16E4m3Sat g src => .trig g false src 0x151
  | .vxCvtBf16E5m2Sat g src => .trig g false src 0x152
  | .vxCvtE4m3F32 g src => .trig g false src 0x153
  | .vxCvtE5m2F32 g src => .trig g false src 0x154
  | .vxCvtE2m1F32 g src => .trig g false src 0x155
  | .vxCvtE4m3Bf16 g src => .trig g false src 0x156
  | .vxCvtF32I32 g src => .trig g false src 0x157
  | .vxCvtI32F32 g src => .trig g false src 0x158
  | .vxCvtI8F32 g src => .trig g false src 0x159
  | .vxCvtF32I8 g src => .trig g false src 0x15A
  | .vxCvtI4I8 g src => .trig g false src 0x15B
  | .vxCvtI32I8S g src => .trig g false src 0x15C
  | .vxCvtF32E4m3SatAmax g src => .trig g false src 0x15D
  | .vxCvtF32E5m2SatAmax g src => .trig g false src 0x15E
  | .vxCvtF32Bf16Amax g src => .trig g false src 0x15F
  | .vxCvtSrF32E4m3Sat g src => .trig g false src 0x160
  | .vxCvtSrF32E5m2Sat g src => .trig g false src 0x161
  | .vxCvtSrF32Bf16 g src => .trig g false src 0x162
  | .vxRcpF32 g src => .trig g false src 0x163
  | .vxRsqrtF32 g src => .trig g false src 0x164
  | .vxSqrtF32 g src => .trig g false src 0x165
  | .vxExp2F32 g src => .trig g false src 0x166
  | .vxLog2F32 g src => .trig g false src 0x167
  | .vxRsumF32 g src => .trig g false src 0x168
  | .vxRsumBf16 g src => .trig g false src 0x169
  | .vxRmaxF32 g src => .trig g false src 0x16A
  | .vxRmaxBf16 g src => .trig g false src 0x16B
  | .vxRminF32 g src => .trig g false src 0x16C
  | .vxRminBf16 g src => .trig g false src 0x16D
  | .vxRsumI32 g src => .trig g false src 0x16E
  | .vxRsumI8 g src => .trig g false src 0x16F
  | .vxBscaleE4m3 g src => .trig g false src 0x170
  | .vxBscaleE5m2 g src => .trig g false src 0x171
  | .vxBscaleE2m1 g src => .trig g false src 0x172
  | .vxBquantE4m3 g src => .trig g false src 0x173
  | .vxBquantE5m2 g src => .trig g false src 0x174
  | .vxBquantE2m1 g src => .trig g false src 0x175
  | .scScanAddF32 g src => .trig g false src 0x176
  | .scScanAddI32 g src => .trig g false src 0x177
  | .scScanMaxF32 g src => .trig g false src 0x178
  | .scScanMinF32 g src => .trig g false src 0x179
  | .scXscanAddF32 g src => .trig g false src 0x17A
  | .scXscanAddI32 g src => .trig g false src 0x17B
  | .scXscanMaxF32 g src => .trig g false src 0x17C
  | .scXredAddF32 g src => .trig g false src 0x17D
  | .scXredAddI32 g src => .trig g false src 0x17E
  | .scXredMaxF32 g src => .trig g false src 0x17F
  | .mxPushE4m3 g src => .trig g false src 0x188
  | .mxPushE5m2 g src => .trig g false src 0x189
  | .mxPushE2m1 g src => .trig g false src 0x18A
  | .mxPushBf16 g src => .trig g false src 0x18B
  | .mxPushF16 g src => .trig g false src 0x18C
  | .mxPushI8 g src => .trig g false src 0x18D
  | .mxPushSp g src => .trig g false src 0x18E
  | .mxPushIx g src => .trig g false src 0x18F
  | .mxSwap g src => .trig g false src 0x190
  | .mxAccE4m3 g src => .trig g false src 0x191
  | .mxAccE5m2 g src => .trig g false src 0x192
  | .mxAccE2m1 g src => .trig g false src 0x193
  | .mxAccBf16 g src => .trig g false src 0x194
  | .mxAccF16 g src => .trig g false src 0x195
  | .mxAccI8 g src => .trig g false src 0x196
  | .mxAccSp g src => .trig g false src 0x197
  | .mxDrain4 g src => .trig g false src 0x198
  | .mxDrain8Bf16 g src => .trig g false src 0x199
  | .mxDrainE4m3 g src => .trig g false src 0x19A
  | .mxZero g src => .trig g false src 0x19B
  | .ag0Set g r => .agSet g r 0x1A0
  | .ag0Rd g src => .trig g false src 0x1A1
  | .ag0Step g src => .trig g false src 0x1A2
  | .ag1Set g r => .agSet g r 0x1A3
  | .ag1Rd g src => .trig g false src 0x1A4
  | .ag1Step g src => .trig g false src 0x1A5
  | .ag2Set g r => .agSet g r 0x1A6
  | .ag2Wr g src => .trig g false src 0x1A7
  | .ag2Step g src => .trig g false src 0x1A8
  | .ag3Set g r => .agSet g r 0x1A9
  | .ag3Wr g src => .trig g false src 0x1AA
  | .ag3Step g src => .trig g false src 0x1AB
  | .nwLdroute g src => .trig g false src 0x1B0
  | .nwLdpat g src => .trig g false src 0x1B1
  | .nwLdplane g src => .trig g false src 0x1B2
  | .nwSolve g src => .trig g false src 0x1B3
  | .nwFarclr g src => .trig g false src 0x1B4
  | .nwFarstat g src => .trig g false src 0x1B5
  | .feFill g src => .trig g false src 0x1E0
  | .feSpill g src => .trig g false src 0x1E1
  | .feBfill g src => .trig g false src 0x1E2
  | .feGfill g src => .trig g false src 0x1E3
  | .feSspill g src => .trig g false src 0x1E4
  | .fePin g src => .trig g false src 0x1E5
  | .sySrd g src => .trig g false src 0x1E6
  | .sySwr g src => .trig g false src 0x1E7
  | .syClaim g src => .trig g false src 0x1E8
  | .syPublish g src => .trig g false src 0x1E9
  | .syRfe g src => .trig g false src 0x1EA
  | .syBrk g src => .trig g false src 0x1EB
  | _ => .event

/-- The kind of a source (R295); a condition bit is a scalar 0 or 1. `q` is a queue port, whose result has the kind
that it holds. -/
inductive SrcKind where
  | s | w | t | m | q
  deriving DecidableEq, Repr

/-- The kind of a destination (R295, Table 12.3): an s register or an S latch or trigger (`s`); a condition bit; the
t, w and m registers; a stream register; a W, T or M latch or trigger; `vx.rm`. -/
inductive DstKind where
  | s | c | tReg | wReg | mReg | stream | wIn | tIn | mIn | rm
  deriving DecidableEq, Repr

/-- Kind of a source (Table 12.4). -/
def Src.kind : Src → SrcKind
  | .imm _ => .s
  | .s _ => .s
  | .t _ => .t
  | .lat p =>
    match p with
    | .vxq | .scq | .mxq | .g0 | .g1 => .t
    | .ia0q | .ia1q | .imq | .imq2 | .syr | .nwq | .feq => .s
  | .queue _ => .q
  | .stream _ => .w
  | .c _ => .s
  | .m _ => .m
  | .w _ => .w
  | .rdtick => .s
  | .lit => .s

/-- Kind of an operand latch (R298 to R304): ls.m takes W, vx.a to vx.c a T or S value, sc.f M, the others S. -/
def Latch.kind : Latch → DstKind
  | .lsm => .wIn
  | .vxa | .vxb | .vxc => .tIn
  | .scf => .mIn
  | .ia0a | .ia0b | .ia1a | .ima | .lsa | .sya | .syb | .sysri | .fxa | .fxb | .fxc
  | .mxa | .mxb | .nwa | .nwb | .fea | .feb => .s

/-- Kind of a destination that is no trigger. -/
def Dst.kind : Dst → DstKind
  | .s _ => .s
  | .t _ => .tReg
  | .latch l => l.kind
  | .vxm => .mIn
  | .vxrm => .rm
  | .stream _ => .stream
  | .c _ => .c
  | .m _ => .mReg
  | .w _ => .wReg

/-- Kind of a trigger by its port: ls.strow, ls.strowm, fx.rstrow, fx.spush and fx.mbsend take W (R299, R300); classes
4 and 5 but for lut3, rot and fsh (R339), the push and acc forms of mx, ag2.wr, ag3.wr and nw.solve take a T or S value
(R301 to R303); the others S. -/
def trigKind (p : BitVec 9) : DstKind :=
  let n := p.toNat
  if n ∈ [0x09D, 0x09E, 0x0DD, 0x0FA, 0x0FC] then .wIn
  else if n ∈ [0x13C, 0x13E, 0x13F] then .s
  else if 0x100 ≤ n ∧ n < 0x180 then .tIn
  else if 0x188 ≤ n ∧ n ≤ 0x197 ∧ n ≠ 0x190 then .tIn
  else if n ∈ [0x1A7, 0x1AA, 0x1B3] then .tIn
  else .s

/-- The legal moves between kinds (Table 12.3). -/
def legalMove : SrcKind → DstKind → Bool
  | .s, .s | .s, .c | .s, .tReg | .s, .wReg | .s, .tIn | .s, .rm => true
  | .w, .wReg | .w, .stream | .w, .wIn | .w, .tReg => true
  | .t, .tReg | .t, .mReg | .t, .tIn => true
  | .m, .mReg | .m, .mIn | .m, .tReg => true
  | .q, .s | .q, .c | .q, .wReg | .q, .stream | .q, .wIn => true
  | _, _ => false

/-- The ports of ag0.set to ag3.set, whose source is a register pair (R358). -/
def isAgSetPort (p : BitVec 9) : Bool := p == 0x1A0 || p == 0x1A3 || p == 0x1A6 || p == 0x1A9

/-- Is the instruction well formed? The kinds of its ports fit (Table 12.3), H = 1 stands only where it is legal (R293),
a pair source is named by its even register (R358), and the move `0 > s0` is written as the NOP (R292). An event has no
encoding and is well formed. -/
def Instr.wf (i : Instr) : Bool :=
  match i.parts with
  | .event => true
  | .nop => true
  | .move g h src dst =>
    legalMove src.kind dst.kind && (!h || match dst with | .latch _ => true | _ => false) &&
      !(g == ⟨false, 0⟩ && !h && src == .imm 0 && dst == .s 0)
  | .trig _ _ src port => legalMove src.kind (trigKind port)
  | .agSet _ r _ => r.toNat % 2 == 0

end Sys2Proof
end

