-- ==== Sys2Proof/Decode.lean ====
section
/-! DEFINITION. Decoding and encoding of the 24-bit move (Table 12.2) with its port numbers (Tables 12.4
to 12.11), and of the 256-bit bundle with its header (R286, R287). -/

namespace Sys2Proof

/-- Why a 24-bit word is no move: each is the illegal encoding of reason 3 (R293, R295). -/
inductive DecodeErr where
  | sourcePort
  | destPort
  | holdBit
  deriving DecidableEq, Repr

/-- Source port number of a port (Table 12.4); an immediate is its own 9 bits. -/
def LatPort.code : LatPort → BitVec 9
  | .ia0q => 0x040 | .ia1q => 0x041 | .imq => 0x042 | .imq2 => 0x043
  | .syr => 0x082 | .vxq => 0x100 | .scq => 0x140
  | .mxq => 0x180 | .g0 => 0x181 | .g1 => 0x182 | .nwq => 0x183 | .feq => 0x1D4

/-- Source port number of a queue port (Table 12.4). -/
def QPort.code : QPort → BitVec 9
  | .lsq => 0x080 | .syq => 0x081 | .fxq => 0x0D0 | .fxst => 0x0D1

/-- The SRC field of a source (Tables 12.2, 12.4). -/
def Src.code : Src → BitVec 9
  | .imm v => v
  | .s r => BitVec.ofNat 9 r.toNat
  | .t r => BitVec.ofNat 9 (32 + r.toNat)
  | .lat p => p.code
  | .queue p => p.code
  | .stream n => BitVec.ofNat 9 (0x0C0 + n.toNat)
  | .c i => BitVec.ofNat 9 (0x1C0 + i.toNat)
  | .m i => BitVec.ofNat 9 (0x1C8 + i.toNat)
  | .w i => BitVec.ofNat 9 (0x1D0 + i.toNat)
  | .rdtick => 0x1D5
  | .lit => 0x1D6

/-- Is the source an immediate (the L bit of Table 12.2)? -/
def Src.isImm : Src → Bool
  | .imm _ => true
  | _ => false

/-- The latency and queue ports by their source port number. -/
def portTable : List (Nat × Src) :=
  [(0x040, .lat .ia0q), (0x041, .lat .ia1q), (0x042, .lat .imq), (0x043, .lat .imq2),
   (0x080, .queue .lsq), (0x081, .queue .syq), (0x082, .lat .syr),
   (0x0D0, .queue .fxq), (0x0D1, .queue .fxst), (0x100, .lat .vxq), (0x140, .lat .scq),
   (0x180, .lat .mxq), (0x181, .lat .g0), (0x182, .lat .g1), (0x183, .lat .nwq),
   (0x1D4, .lat .feq), (0x1D5, .rdtick), (0x1D6, .lit)]

/-- The source that the L bit and the SRC field name (R292, Table 12.4); none for an unassigned port. -/
def decodeSrc (l : Bool) (p : BitVec 9) : Option Src :=
  let n := p.toNat
  if l then some (.imm p)
  else if n < 0x020 then some (.s (BitVec.ofNat 5 n))
  else if n < 0x040 then some (.t (BitVec.ofNat 5 n))
  else if 0x0C0 ≤ n ∧ n < 0x0D0 then some (.stream (BitVec.ofNat 4 n))
  else if 0x1C0 ≤ n ∧ n < 0x1C8 then some (.c (BitVec.ofNat 3 n))
  else if 0x1C8 ≤ n ∧ n < 0x1D0 then some (.m (BitVec.ofNat 3 n))
  else if 0x1D0 ≤ n ∧ n < 0x1D4 then some (.w (BitVec.ofNat 2 n))
  else portTable.lookup n

/-- Destination port number of an operand latch (Tables 12.5 to 12.11). -/
def Latch.code : Latch → BitVec 9
  | .ia0a => 0x040 | .ia0b => 0x041 | .ia1a => 0x042 | .ima => 0x043
  | .lsa => 0x080 | .lsm => 0x081 | .sya => 0x082 | .syb => 0x083
  | .fxa => 0x0D0 | .fxb => 0x0D1 | .fxc => 0x0D2
  | .vxa => 0x100 | .vxb => 0x101 | .vxc => 0x102 | .scf => 0x142
  | .mxa => 0x180 | .mxb => 0x181 | .nwa => 0x182 | .nwb => 0x183
  | .sysri => 0x1D4 | .fea => 0x1D5 | .feb => 0x1D6

/-- The DST field of a destination that is no trigger. -/
def Dst.code : Dst → BitVec 9
  | .s r => BitVec.ofNat 9 r.toNat
  | .t r => BitVec.ofNat 9 (32 + r.toNat)
  | .latch l => l.code
  | .vxm => 0x140
  | .vxrm => 0x141
  | .stream n => BitVec.ofNat 9 (0x0C0 + n.toNat)
  | .c i => BitVec.ofNat 9 (0x1C0 + i.toNat)
  | .m i => BitVec.ofNat 9 (0x1C8 + i.toNat)
  | .w i => BitVec.ofNat 9 (0x1D0 + i.toNat)

/-- The operand latches and sticky ports by their destination port number. -/
def latchTable : List (Nat × Dst) :=
  [(0x040, .latch .ia0a), (0x041, .latch .ia0b), (0x042, .latch .ia1a), (0x043, .latch .ima),
   (0x080, .latch .lsa), (0x081, .latch .lsm), (0x082, .latch .sya), (0x083, .latch .syb),
   (0x0D0, .latch .fxa), (0x0D1, .latch .fxb), (0x0D2, .latch .fxc),
   (0x100, .latch .vxa), (0x101, .latch .vxb), (0x102, .latch .vxc)] ++
  [(0x140, .vxm), (0x141, .vxrm), (0x142, .latch .scf),
   (0x180, .latch .mxa), (0x181, .latch .mxb), (0x182, .latch .nwa), (0x183, .latch .nwb),
   (0x1D4, .latch .sysri), (0x1D5, .latch .fea), (0x1D6, .latch .feb)]

/-- The destination that is no trigger which the DST field names; none for a trigger or an unassigned port. -/
def decodeDst (p : BitVec 9) : Option Dst :=
  let n := p.toNat
  if n < 0x020 then some (.s (BitVec.ofNat 5 n))
  else if n < 0x040 then some (.t (BitVec.ofNat 5 n))
  else if 0x0C0 ≤ n ∧ n < 0x0D0 then some (.stream (BitVec.ofNat 4 n))
  else if 0x1C0 ≤ n ∧ n < 0x1C8 then some (.c (BitVec.ofNat 3 n))
  else if 0x1C8 ≤ n ∧ n < 0x1D0 then some (.m (BitVec.ofNat 3 n))
  else if 0x1D0 ≤ n ∧ n < 0x1D4 then some (.w (BitVec.ofNat 2 n))
  else latchTable.lookup n

/-- The triggers of class 1 by destination port (Table 12.5). -/
noncomputable def trigTable1 : List (Nat × (Guard → Src → Instr)) :=
  [(0x048, Instr.ia0Add), (0x049, Instr.ia0Sub), (0x04A, Instr.ia0And), (0x04B, Instr.ia0Or), (0x04C, Instr.ia0Xor), (0x04D, Instr.ia0Andn), (0x04E, Instr.ia0Orn), (0x04F, Instr.ia0Shl), (0x050, Instr.ia0Shr), (0x051, Instr.ia0Sar), (0x052, Instr.ia0Rol), (0x053, Instr.ia0Ror), (0x054, Instr.ia0Min), (0x055, Instr.ia0Max), (0x056, Instr.ia0Minu), (0x057, Instr.ia0Maxu)] ++
  [(0x058, Instr.ia0Clz), (0x059, Instr.ia0Ctz), (0x05A, Instr.ia0Popc), (0x05B, Instr.ia0Sext8), (0x05C, Instr.ia0Sext16), (0x05D, Instr.ia0Sext32), (0x05E, Instr.ia0Zext32), (0x05F, Instr.ia0Bext), (0x060, Instr.ia0Bins), (0x061, Instr.ia0Ceq), (0x062, Instr.ia0Cne), (0x063, Instr.ia0Clt), (0x064, Instr.ia0Cltu), (0x065, Instr.ia0Cle), (0x066, Instr.ia0Cleu), (0x068, Instr.imMul)] ++
  [(0x069, Instr.imMulhu), (0x06A, Instr.imMulhsu), (0x06B, Instr.imDiv), (0x06C, Instr.imDivu), (0x070, Instr.ia1Add), (0x071, Instr.ia1Sub), (0x072, Instr.ia1And), (0x073, Instr.ia1Or), (0x074, Instr.ia1Xor), (0x075, Instr.ia1Andn), (0x076, Instr.ia1Shl), (0x077, Instr.ia1Shr), (0x078, Instr.ia1Sar), (0x079, Instr.ia1Ceq), (0x07A, Instr.ia1Clt), (0x07B, Instr.ia1Cltu)]

/-- The triggers of class 2 by destination port (Table 12.6). -/
noncomputable def trigTable2 : List (Nat × (Guard → Src → Instr)) :=
  [(0x088, Instr.brJmp), (0x089, Instr.brCall), (0x08A, Instr.brLoop), (0x08B, Instr.brRotcfg), (0x08C, Instr.brYield), (0x08D, Instr.brAlign), (0x08E, Instr.brExit), (0x08F, Instr.brExitAbandon), (0x090, Instr.brTrap), (0x091, Instr.lsLdb), (0x092, Instr.lsLdbu), (0x093, Instr.lsLdh), (0x094, Instr.lsLdhu), (0x095, Instr.lsLdw), (0x096, Instr.lsLdwu), (0x097, Instr.lsLdd)] ++
  [(0x098, Instr.lsStb), (0x099, Instr.lsSth), (0x09A, Instr.lsStw), (0x09B, Instr.lsStd), (0x09C, Instr.lsLdrow), (0x09D, Instr.lsStrow), (0x09E, Instr.lsStrowm), (0x09F, Instr.lsQmark), (0x0A0, Instr.syAmoAddW), (0x0A1, Instr.syAmoAddD), (0x0A2, Instr.syAmoAndW), (0x0A3, Instr.syAmoAndD), (0x0A4, Instr.syAmoOrW), (0x0A5, Instr.syAmoOrD), (0x0A6, Instr.syAmoXorW), (0x0A7, Instr.syAmoXorD)] ++
  [(0x0A8, Instr.syAmoMinW), (0x0A9, Instr.syAmoMinD), (0x0AA, Instr.syAmoMaxW), (0x0AB, Instr.syAmoMaxD), (0x0AC, Instr.syAmoMinuW), (0x0AD, Instr.syAmoMinuD), (0x0AE, Instr.syAmoMaxuW), (0x0AF, Instr.syAmoMaxuD), (0x0B0, Instr.syAmoSwapW), (0x0B1, Instr.syAmoSwapD), (0x0B2, Instr.syAmoCasW), (0x0B3, Instr.syAmoCasD), (0x0B4, Instr.syFenceR), (0x0B5, Instr.syFenceW), (0x0B6, Instr.syFenceRw), (0x0B7, Instr.syTokWait)] ++
  [(0x0B8, Instr.syTokTest), (0x0B9, Instr.syTokId), (0x0BA, Instr.syTokClr), (0x0BB, Instr.syBarArrive), (0x0BC, Instr.syBarWait), (0x0BD, Instr.syPhase)]

/-- The triggers of class 3 by destination port (Table 12.7). -/
noncomputable def trigTable3 : List (Nat × (Guard → Src → Instr)) :=
  [(0x0FA, Instr.fxSpush), (0x0FB, Instr.fxSpop)]

/-- The triggers of class 4 by destination port (Table 12.8). -/
noncomputable def trigTable4 : List (Nat × (Guard → Src → Instr)) :=
  [(0x104, Instr.vxFaddF32), (0x105, Instr.vxFsubF32), (0x106, Instr.vxFmulF32), (0x107, Instr.vxFmaF32), (0x108, Instr.vxFmsF32), (0x109, Instr.vxFnmaF32), (0x10A, Instr.vxFnmsF32), (0x10B, Instr.vxFminF32), (0x10C, Instr.vxFmaxF32), (0x10D, Instr.vxFminNumF32), (0x10E, Instr.vxFmaxNumF32), (0x10F, Instr.vxFcmpEqF32), (0x110, Instr.vxFcmpLtF32), (0x111, Instr.vxFcmpLeF32), (0x112, Instr.vxFcmpUnF32), (0x113, Instr.vxFaddBf16)] ++
  [(0x114, Instr.vxFsubBf16), (0x115, Instr.vxFmulBf16), (0x116, Instr.vxFmaBf16), (0x117, Instr.vxFmsBf16), (0x118, Instr.vxFnmaBf16), (0x119, Instr.vxFnmsBf16), (0x11A, Instr.vxFminBf16), (0x11B, Instr.vxFmaxBf16), (0x11C, Instr.vxFaddF16), (0x11D, Instr.vxFmulF16), (0x11E, Instr.vxFmaF16), (0x11F, Instr.vxFmaxF16), (0x120, Instr.vxFmulE4m3), (0x121, Instr.vxFmulE5m2), (0x122, Instr.vxFmulE2m1), (0x123, Instr.vxIaddI32)] ++
  [(0x124, Instr.vxIsubI32), (0x125, Instr.vxIaddSI32), (0x126, Instr.vxIsubSI32), (0x127, Instr.vxImulI32), (0x128, Instr.vxImadI32), (0x129, Instr.vxIminI32), (0x12A, Instr.vxImaxI32), (0x12B, Instr.vxIminuI32), (0x12C, Instr.vxImaxuI32), (0x12D, Instr.vxIcmpEqI32), (0x12E, Instr.vxIcmpLtI32), (0x12F, Instr.vxIcmpLtuI32), (0x130, Instr.vxShlI32), (0x131, Instr.vxShrI32), (0x132, Instr.vxSarI32), (0x133, Instr.vxPopcI32)] ++
  [(0x134, Instr.vxClzI32), (0x135, Instr.vxIaddI16), (0x136, Instr.vxIaddI8), (0x137, Instr.vxIaddSI8), (0x138, Instr.vxAnd), (0x139, Instr.vxOr), (0x13A, Instr.vxXor), (0x13B, Instr.vxAndn), (0x13C, Instr.vxLut3), (0x13D, Instr.vxSel), (0x13E, Instr.vxRot), (0x13F, Instr.vxFsh)]

/-- The triggers of class 5 by destination port (Table 12.9). -/
noncomputable def trigTable5 : List (Nat × (Guard → Src → Instr)) :=
  [(0x148, Instr.vxCvtF32Bf16), (0x149, Instr.vxCvtF32F16), (0x14A, Instr.vxCvtBf16F32), (0x14B, Instr.vxCvtF16F32), (0x14C, Instr.vxCvtF32E4m3Sat), (0x14D, Instr.vxCvtF32E4m3Nan), (0x14E, Instr.vxCvtF32E5m2Sat), (0x14F, Instr.vxCvtF32E5m2Inf), (0x150, Instr.vxCvtF32E2m1), (0x151, Instr.vxCvtBf16E4m3Sat), (0x152, Instr.vxCvtBf16E5m2Sat), (0x153, Instr.vxCvtE4m3F32), (0x154, Instr.vxCvtE5m2F32), (0x155, Instr.vxCvtE2m1F32), (0x156, Instr.vxCvtE4m3Bf16), (0x157, Instr.vxCvtF32I32)] ++
  [(0x158, Instr.vxCvtI32F32), (0x159, Instr.vxCvtI8F32), (0x15A, Instr.vxCvtF32I8), (0x15B, Instr.vxCvtI4I8), (0x15C, Instr.vxCvtI32I8S), (0x15D, Instr.vxCvtF32E4m3SatAmax), (0x15E, Instr.vxCvtF32E5m2SatAmax), (0x15F, Instr.vxCvtF32Bf16Amax), (0x160, Instr.vxCvtSrF32E4m3Sat), (0x161, Instr.vxCvtSrF32E5m2Sat), (0x162, Instr.vxCvtSrF32Bf16), (0x163, Instr.vxRcpF32), (0x164, Instr.vxRsqrtF32), (0x165, Instr.vxSqrtF32), (0x166, Instr.vxExp2F32), (0x167, Instr.vxLog2F32)] ++
  [(0x168, Instr.vxRsumF32), (0x169, Instr.vxRsumBf16), (0x16A, Instr.vxRmaxF32), (0x16B, Instr.vxRmaxBf16), (0x16C, Instr.vxRminF32), (0x16D, Instr.vxRminBf16), (0x16E, Instr.vxRsumI32), (0x16F, Instr.vxRsumI8), (0x170, Instr.vxBscaleE4m3), (0x171, Instr.vxBscaleE5m2), (0x172, Instr.vxBscaleE2m1), (0x173, Instr.vxBquantE4m3), (0x174, Instr.vxBquantE5m2), (0x175, Instr.vxBquantE2m1), (0x176, Instr.scScanAddF32), (0x177, Instr.scScanAddI32)] ++
  [(0x178, Instr.scScanMaxF32), (0x179, Instr.scScanMinF32), (0x17A, Instr.scXscanAddF32), (0x17B, Instr.scXscanAddI32), (0x17C, Instr.scXscanMaxF32), (0x17D, Instr.scXredAddF32), (0x17E, Instr.scXredAddI32), (0x17F, Instr.scXredMaxF32)]

/-- The triggers of class 6 by destination port (Table 12.10). -/
noncomputable def trigTable6 : List (Nat × (Guard → Src → Instr)) :=
  [(0x188, Instr.mxPushE4m3), (0x189, Instr.mxPushE5m2), (0x18A, Instr.mxPushE2m1), (0x18B, Instr.mxPushBf16), (0x18C, Instr.mxPushF16), (0x18D, Instr.mxPushI8), (0x18E, Instr.mxPushSp), (0x18F, Instr.mxPushIx), (0x190, Instr.mxSwap), (0x191, Instr.mxAccE4m3), (0x192, Instr.mxAccE5m2), (0x193, Instr.mxAccE2m1), (0x194, Instr.mxAccBf16), (0x195, Instr.mxAccF16), (0x196, Instr.mxAccI8), (0x197, Instr.mxAccSp)] ++
  [(0x198, Instr.mxDrain4), (0x199, Instr.mxDrain8Bf16), (0x19A, Instr.mxDrainE4m3), (0x19B, Instr.mxZero), (0x1A1, Instr.ag0Rd), (0x1A2, Instr.ag0Step), (0x1A4, Instr.ag1Rd), (0x1A5, Instr.ag1Step), (0x1A7, Instr.ag2Wr), (0x1A8, Instr.ag2Step), (0x1AA, Instr.ag3Wr), (0x1AB, Instr.ag3Step), (0x1B0, Instr.nwLdroute), (0x1B1, Instr.nwLdpat), (0x1B2, Instr.nwLdplane), (0x1B3, Instr.nwSolve)] ++
  [(0x1B4, Instr.nwFarclr), (0x1B5, Instr.nwFarstat)]

/-- The triggers of class 7 by destination port (Table 12.11). -/
noncomputable def trigTable7 : List (Nat × (Guard → Src → Instr)) :=
  [(0x1E0, Instr.feFill), (0x1E1, Instr.feSpill), (0x1E2, Instr.feBfill), (0x1E3, Instr.feGfill), (0x1E4, Instr.feSspill), (0x1E5, Instr.fePin), (0x1E6, Instr.sySrd), (0x1E7, Instr.sySwr), (0x1E8, Instr.syClaim), (0x1E9, Instr.syPublish), (0x1EA, Instr.syRfe), (0x1EB, Instr.syBrk)]

/-- The fx triggers that have a status variant (Table 12.7, R305). -/
noncomputable def fxTable : List (Nat × (Guard → Bool → Src → Instr)) :=
  [(0x0D8, Instr.fxRldW), (0x0D9, Instr.fxRldD), (0x0DA, Instr.fxRldrow), (0x0DB, Instr.fxRstW), (0x0DC, Instr.fxRstD), (0x0DD, Instr.fxRstrow), (0x0DE, Instr.fxRamoAdd), (0x0DF, Instr.fxRamoAnd), (0x0E0, Instr.fxRamoOr), (0x0E1, Instr.fxRamoXor), (0x0E2, Instr.fxRamoMin), (0x0E3, Instr.fxRamoMax), (0x0E4, Instr.fxRamoSwap), (0x0E5, Instr.fxRamoCas), (0x0E6, Instr.fxRamoAddOrd), (0x0E7, Instr.fxRamoAndOrd)] ++
  [(0x0E8, Instr.fxRamoOrOrd), (0x0E9, Instr.fxRamoXorOrd), (0x0EA, Instr.fxRamoMinOrd), (0x0EB, Instr.fxRamoMaxOrd), (0x0EC, Instr.fxRamoSwapOrd), (0x0ED, Instr.fxRamoCasOrd), (0x0EE, Instr.fxRdel), (0x0EF, Instr.fxRdelg), (0x0F0, Instr.fxMlrAddF32), (0x0F1, Instr.fxMlrAddBf16), (0x0F2, Instr.fxMlrMaxF32), (0x0F3, Instr.fxMlrMaxBf16), (0x0F4, Instr.fxMlrMinF32), (0x0F5, Instr.fxMlrMinBf16), (0x0F6, Instr.fxMlrAddI32), (0x0F7, Instr.fxMlrAddI64)] ++
  [(0x0F8, Instr.fxFlag), (0x0F9, Instr.fxSstep), (0x0FC, Instr.fxMbsend), (0x0FD, Instr.fxMbrecv), (0x0FE, Instr.fxMbpeek), (0x0FF, Instr.fxPen)]

/-- The ag0..ag3 set triggers, whose source is an even s register (R358). -/
noncomputable def agSetTable : List (Nat × (Guard → BitVec 5 → Instr)) :=
  [(0x1A0, Instr.ag0Set), (0x1A3, Instr.ag1Set), (0x1A6, Instr.ag2Set), (0x1A9, Instr.ag3Set)]

/-- All triggers that take a guard and a source. -/
noncomputable def trigTable (d : Nat) : Option (Guard → Src → Instr) :=
  match d / 64 with
  | 1 => trigTable1.lookup d
  | 2 => trigTable2.lookup d
  | 3 => trigTable3.lookup d
  | 4 => trigTable4.lookup d
  | 5 => trigTable5.lookup d
  | 6 => trigTable6.lookup d
  | 7 => trigTable7.lookup d
  | _ => none

/-- May a move to this destination carry H = 1 (R293)? Only an operand latch takes it. -/
def Dst.takesHold : Dst → Bool
  | .latch _ => true
  | _ => false

/-- The word of the NOP, `0 > s0` (R292). -/
def nopWord : BitVec 24 := 0x040000

/-- The five fields of a move word (Table 12.2). -/
structure MoveFields where
  guard : Guard
  hold : Bool
  imm : Bool
  src : BitVec 9
  dst : BitVec 9
  deriving DecidableEq, Repr

/-- The fields of a 24-bit word (Table 12.2). -/
def moveFields (w : BitVec 24) : MoveFields :=
  let n := w.toNat
  { dst := BitVec.ofNat 9 n
    src := BitVec.ofNat 9 (n / 2 ^ 9)
    imm := decide (n / 2 ^ 18 % 2 = 1)
    hold := decide (n / 2 ^ 19 % 2 = 1)
    guard := { cond := BitVec.ofNat 3 (n / 2 ^ 20), inv := decide (n / 2 ^ 23 % 2 = 1) } }

/-- The word of the five fields (Table 12.2). -/
def packFields (f : MoveFields) : BitVec 24 :=
  BitVec.ofNat 24 (f.dst.toNat + 2 ^ 9 * (f.src.toNat + 2 ^ 9 * (f.imm.toNat +
    2 * (f.hold.toNat + 2 * (f.guard.cond.toNat + 8 * f.guard.inv.toNat)))))

/-- The word of a move from its guard, hold bit, source and destination port. -/
def packMove (g : Guard) (h : Bool) (src : Src) (dst : BitVec 9) : BitVec 24 :=
  packFields { guard := g, hold := h, imm := src.isImm, src := src.code, dst := dst }

/-- The instruction that a 24-bit slot holds (R292 to R305), or why it is none. -/
noncomputable def decodeMove (w : BitVec 24) : Except DecodeErr Instr :=
  if w = nopWord then .ok .nop
  else
    let f := moveFields w
    match decodeSrc f.imm f.src with
    | none => .error .sourcePort
    | some src =>
      match decodeDst f.dst with
      | some dst =>
        if f.hold && !dst.takesHold then .error .holdBit else .ok (.move f.guard f.hold src dst)
      | none =>
        match fxTable.lookup f.dst.toNat with
        | some mk => .ok (mk f.guard f.hold src)
        | none =>
          if f.hold then .error .holdBit
          else
            match trigTable f.dst.toNat with
            | some mk => .ok (mk f.guard src)
            | none =>
              match agSetTable.lookup f.dst.toNat with
              | some mk =>
                match src with
                | .s r => .ok (mk f.guard r)
                | _ => .error .sourcePort
              | none => .error .destPort

/-- The 24-bit word of an instruction that is a move (Table 12.2); an event of the package has none. -/
def encode (i : Instr) : Option (BitVec 24) :=
  match i.parts with
  | .event => none
  | .nop => some nopWord
  | .move g h src dst => some (packMove g h src dst.code)
  | .trig g h src port => some (packMove g h src port)
  | .agSet g r port => some (packMove g false (.s r) port)

/-- Bits `[hi:lo]` of a bundle or header as a number. -/
def bundleBits (b : BitVec 256) (lo len : Nat) : Nat := b.toNat / 2 ^ lo % 2 ^ len

/-- The header fields of a bundle (Table 12.1). -/
structure Header where
  fmt : Nat
  stop : BitVec 8
  rp : List Nat
  g0 : BitVec 9
  g1 : BitVec 9
  sr : BitVec 9
  reserved : Nat
  deriving DecidableEq, Repr

/-- The header of a bundle (Table 12.1). -/
def headerOf (b : BitVec 256) : Header :=
  { fmt := bundleBits b 61 3
    stop := BitVec.ofNat 8 (bundleBits b 53 8)
    rp := (List.range 8).map fun i => bundleBits b (29 + 3 * i) 3
    g0 := BitVec.ofNat 9 (bundleBits b 20 9)
    g1 := BitVec.ofNat 9 (bundleBits b 11 9)
    sr := BitVec.ofNat 9 (bundleBits b 2 9)
    reserved := bundleBits b 0 2 }

/-- Slot `i` of a bundle (R286). -/
def slotOf (b : BitVec 256) (i : Nat) : BitVec 24 := BitVec.ofNat 24 (bundleBits b (64 + 24 * i) 24)

/-- Is the bundle of the literal format (R287)? -/
def isLiteral (b : BitVec 256) : Bool := (headerOf b).fmt == 1

/-- The literal LIT [63:0] of a literal bundle (R287). -/
def literalOf (b : BitVec 256) : BitVec 64 := BitVec.ofNat 64 (bundleBits b 184 64)

/-- The last move slot of a bundle: 7, or 4 in a literal bundle (R287). -/
def lastSlot (b : BitVec 256) : Nat := if isLiteral b then 4 else 7

/-- The bundle that 32 little-endian bytes make (R286). -/
def bundleOfBytes (bs : List (BitVec 8)) : BitVec 256 :=
  BitVec.ofNat 256 (bs.foldr (fun b acc => b.toNat + 256 * acc) 0)

/-- The 32 bytes of a bundle, least significant first (R286). -/
def bytesOfBundle (b : BitVec 256) : List (BitVec 8) :=
  (List.range 32).map fun i => BitVec.ofNat 8 (b.toNat / 256 ^ i)

/-- A bundle whose slot 0 holds `w`, a group of its own on routes 0, followed by a pad. The read port is 1 when
the source is a register of the register file (R290), and the bundle is literal, with LIT 0, when the move reads
`lit`. -/
def bundleOfWord (w : BitVec 24) : BitVec 256 :=
  let f := moveFields w
  let rp := if !f.imm && (f.src.toNat < 64) && (f.src.toNat % 32 != 0 || f.src.toNat ≥ 32 ||
    isAgSetPort f.dst) then 1 else 0
  let literal := !f.imm && f.src == 0x1D6
  let hdr := (if literal then 2 ^ 61 else 0) + (if literal then 0x11 else 0x81) * 2 ^ 53 + rp * 2 ^ 29
  BitVec.ofNat 256 (hdr + w.toNat * 2 ^ 64)

/-- The instruction the decoder reads from the word of an opcode-table row (24 bits; nbits is 24). The word is laid
out as slot 0 of a bundle and read back from its bytes. -/
noncomputable def decodeTableWord (nbits w : Nat) : Option Instr :=
  let word := BitVec.ofNat 24 (w % 2 ^ nbits)
  let b := bundleOfBytes (bytesOfBundle (bundleOfWord word))
  match decodeMove (slotOf b 0) with
  | .ok i => some i
  | .error _ => none

end Sys2Proof
end

