-- ==== Sys2Proof/Machine/Num.lean ====
section
/-! DEFINITION. Number formats, rounding, conversions, exact dot products, trees and the counter hash (10 R242 to R264). A
number is exact: a sign, a natural mantissa and an integer exponent. -/

namespace Sys2Proof.Machine

/-- The floating-point formats of Table 10.1, and the double format of the harts (R222). -/
inductive Fmt where
  | f32 | f16 | bf16 | e4m3 | e5m2 | e2m1 | ue5m3 | f64
  deriving DecidableEq, Repr

/-- Mantissa bits (Table 10.1). -/
def Fmt.p : Fmt → Nat
  | .f32 => 23 | .f16 => 10 | .bf16 => 7 | .e4m3 => 3 | .e5m2 => 2 | .e2m1 => 1 | .ue5m3 => 3 | .f64 => 52

/-- Exponent bits (Table 10.1). -/
def Fmt.e : Fmt → Nat
  | .f32 => 8 | .f16 => 5 | .bf16 => 8 | .e4m3 => 4 | .e5m2 => 5 | .e2m1 => 2 | .ue5m3 => 5 | .f64 => 11

/-- Exponent bias (Table 10.1). -/
def Fmt.bias : Fmt → Int
  | .f32 => 127 | .f16 => 15 | .bf16 => 127 | .e4m3 => 7 | .e5m2 => 15 | .e2m1 => 1 | .ue5m3 => 15 | .f64 => 1023

/-- Does the format have infinities? -/
def Fmt.hasInf : Fmt → Bool
  | .f32 | .f16 | .bf16 | .e5m2 | .f64 => true
  | .e4m3 | .e2m1 | .ue5m3 => false

/-- Bits of an element. -/
def Fmt.width (f : Fmt) : Nat := match f with | .ue5m3 => 8 | _ => 1 + f.e + f.p

/-- Largest finite value (Table 10.1): mantissa and exponent. -/
def Fmt.maxMant : Fmt → Nat
  | .f32 => 2 ^ 24 - 1 | .f16 => 2 ^ 11 - 1 | .bf16 => 2 ^ 8 - 1 | .e4m3 => 14 | .e5m2 => 7 | .e2m1 => 3 | .ue5m3 => 14
  | .f64 => 2 ^ 53 - 1

/-- Exponent of the unit of `maxMant`. -/
def Fmt.maxExp : Fmt → Int
  | .f32 => 104 | .f16 => 5 | .bf16 => 120 | .e4m3 => 5 | .e5m2 => 13 | .e2m1 => 1 | .ue5m3 => 13 | .f64 => 971

/-- The canonical NaN (R243); E2M1 has none and gives +0. -/
def Fmt.nan : Fmt → Nat
  | .f32 => 0x7FC00000 | .f16 => 0x7E00 | .bf16 => 0x7FC0 | .e4m3 => 0x7F | .e5m2 => 0x7E | .e2m1 => 0 | .ue5m3 => 0xFF
  | .f64 => 0x7FF8000000000000

/-- The sign bit of a format, as a number to add. -/
def Fmt.signBit (f : Fmt) (neg : Bool) : Nat :=
  match f with
  | .ue5m3 => 0
  | _ => if neg then 2 ^ (f.e + f.p) else 0

/-- Flags of Table 10.3: NV, DZ, OF, UF, NX. -/
abbrev Flags := BitVec 5
abbrev fNV : Flags := 1
abbrev fDZ : Flags := 2
abbrev fOF : Flags := 4
abbrev fUF : Flags := 8
abbrev fNX : Flags := 16

/-- A result: its bits and the flags raised. -/
structure Res where
  v : Nat
  f : Flags
  deriving DecidableEq, Repr

/-- Rounding modes (Table 10.2), and RMM of the harts; SR carries the 24 random bits drawn (R261). -/
inductive RMode where
  | rne | rtz | rdn | rup | rmm
  | sr (u : Nat)
  deriving DecidableEq, Repr

/-- The value of an encoding (R242, R243). `nan true` is a signalling NaN. -/
def fDecode (f : Fmt) (b : Nat) : Exact :=
  let m := b % 2 ^ f.p
  let e := b / 2 ^ f.p % 2 ^ f.e
  let neg := match f with | .ue5m3 => false | _ => b / 2 ^ (f.e + f.p) % 2 == 1
  let allOnes := e == 2 ^ f.e - 1
  if f.hasInf && allOnes then
    if m = 0 then .inf neg else .nan (m / 2 ^ (f.p - 1) % 2 == 0)
  else if (f == .e4m3 || f == .ue5m3) && allOnes && m == 7 then .nan false
  else if e = 0 then .num neg m (1 - f.bias - f.p)
  else .num neg (2 ^ f.p + m) ((e : Int) - f.bias - f.p)

/-- `2 ^ k` for k at least 0, 1 below. -/
def pow2 (k : Int) : Nat := 2 ^ k.toNat

/-- Is `a * 2^ea < b * 2^eb`? -/
def ltScaled (a : Nat) (ea : Int) (b : Nat) (eb : Int) : Bool :=
  decide (a * pow2 (ea - eb) < b * pow2 (eb - ea))

/-- Floor of the base-2 logarithm of `n / d * 2^e`, for n and d not 0. -/
def floorLog (n d : Nat) (e : Int) : Int :=
  let t : Int := (n.log2 : Int) - (d.log2 : Int)
  (if ltScaled n 0 d t then t - 1 else t) + e

/-- Should the rounded magnitude go up? `k` the floor, `r / d` the fraction left (R247, R261). -/
def roundsUp (mode : RMode) (neg : Bool) (k r d : Nat) : Bool :=
  match mode with
  | .rne => decide (d < 2 * r) || (decide (2 * r = d) && k % 2 == 1)
  | .rtz => false
  | .rmm => decide (d ≤ 2 * r)
  | .rdn => neg && r != 0
  | .rup => !neg && r != 0
  | .sr u => decide (u < r * 2 ^ 24 / d)

/-- The overflow result OVF(fmt, mode, sign) (R248). -/
def ovf (f : Fmt) (mode : RMode) (neg : Bool) : Nat :=
  let inf := f.signBit neg + (2 ^ f.e - 1) * 2 ^ f.p
  let maxF := f.signBit neg + ((f.maxExp + f.bias + f.p - 1).toNat * 2 ^ f.p + f.maxMant)
  match f with
  | .e4m3 => 0x7F
  | .e2m1 => maxF
  | .ue5m3 => 0xFE
  | _ =>
    match mode with
    | .rne => inf
    | .rmm => inf
    | .sr _ => inf
    | .rtz => maxF
    | .rdn => if neg then inf else maxF
    | .rup => if neg then maxF else inf

/-- ROUND of the finite value (sign) n / d * 2^e into a format (R248). A zero keeps its sign. -/
def roundFin (f : Fmt) (mode : RMode) (neg : Bool) (n d : Nat) (e : Int) : Res :=
  if n = 0 then ⟨f.signBit neg, 0⟩
  else
    let q := max (floorLog n d e - f.p) (1 - f.bias - f.p)
    let num := n * pow2 (e - q)
    let den := d * pow2 (q - e)
    let k := num / den
    let r := num % den
    let m := if r != 0 && roundsUp mode neg k r den then k + 1 else k
    let nx : Flags := if r = 0 then 0 else fNX
    let uf : Flags := if r != 0 && ltScaled m q 1 (1 - f.bias) then fUF else 0
    if ltScaled f.maxMant f.maxExp m q then
      match f with
      | .ue5m3 => ⟨ovf f mode neg, 0⟩
      | _ => ⟨ovf f mode neg, fOF ||| fNX⟩
    else if m = 0 then ⟨f.signBit neg, nx ||| uf⟩
    else ⟨f.signBit neg + ((q + f.bias + f.p - 1).toNat * 2 ^ f.p + m), nx ||| uf⟩

/-- ROUND(x, fmt, mode) (R248). -/
def fRound (f : Fmt) (mode : RMode) (x : Exact) : Res :=
  match x with
  | .nan sig => ⟨f.nan, if sig || f == .e2m1 then fNV else 0⟩
  | .inf neg => if f.hasInf then ⟨f.signBit neg + (2 ^ f.e - 1) * 2 ^ f.p, 0⟩ else ⟨f.nan, fNV⟩
  | .num neg n e => roundFin f mode neg n 1 e

/-- The largest finite encoding of a sign. -/
def maxEnc (f : Fmt) (neg : Bool) : Nat :=
  f.signBit neg + ((f.maxExp + f.bias + f.p - 1).toNat * 2 ^ f.p + f.maxMant)

/-- CVT of the finite value n / d * 2^e (R250); `sat` the .sat variant. -/
def cvtFin (f : Fmt) (mode : RMode) (sat : Bool) (neg : Bool) (n d : Nat) (e : Int) : Res :=
  let r := roundFin f mode neg n d e
  if (sat || f == .e2m1) && r.f &&& fOF != 0 then ⟨maxEnc f neg, r.f⟩ else r

/-- CVT(x, fmt, mode, v) (R250, Table 10.4). -/
def fCvt (f : Fmt) (mode : RMode) (sat : Bool) (x : Exact) : Res :=
  match x with
  | .num neg n e => cvtFin f mode sat neg n 1 e
  | .inf neg => if sat || f == .e2m1 then ⟨maxEnc f neg, fNX⟩ else fRound f mode x
  | .nan _ => fRound f mode x

/-! ### Exact arithmetic -/

/-- Is the number a signalling NaN? -/
def Exact.sig : Exact → Bool
  | .nan true => true
  | _ => false

/-- The number with the other sign. -/
def Exact.neg : Exact → Exact
  | .num s n e => .num (!s) n e
  | .inf s => .inf (!s)
  | .nan i => .nan i

/-- Product; the flag tells of an invalid 0 times infinity (R343). -/
def Exact.mul : Exact → Exact → Exact × Bool
  | .nan _, _ => (.nan false, false)
  | _, .nan _ => (.nan false, false)
  | .inf a, .inf b => (.inf (a != b), false)
  | .inf a, .num b n _ => if n = 0 then (.nan false, true) else (.inf (a != b), false)
  | .num a n _, .inf b => if n = 0 then (.nan false, true) else (.inf (a != b), false)
  | .num a n e, .num b m g => (.num (a != b) (n * m) (e + g), false)

/-- A signed mantissa. -/
def signedMant (neg : Bool) (n : Nat) : Int := if neg then -(n : Int) else n

/-- Sum of two numbers, with the sign of an exact zero of R343 (`rdn` the mode is RDN); the flag tells of opposite
infinities. -/
def Exact.add (rdn : Bool) : Exact → Exact → Exact × Bool
  | .nan _, _ => (.nan false, false)
  | _, .nan _ => (.nan false, false)
  | .inf a, .inf b => if a = b then (.inf a, false) else (.nan false, true)
  | .inf a, .num .. => (.inf a, false)
  | .num .., .inf b => (.inf b, false)
  | .num a n e, .num b m g =>
    let q := min e g
    let t : Int := signedMant a n * (pow2 (e - q) : Nat) + signedMant b m * (pow2 (g - q) : Nat)
    if t = 0 then
      if n = 0 && m = 0 && a == b then (.num a 0 q, false) else (.num rdn 0 q, false)
    else (.num (decide (t < 0)) t.natAbs q, false)

/-- Flags for signalling NaNs among operands (R243). -/
def sigFlags (l : List Exact) : Flags := if l.any Exact.sig then fNV else 0

/-- Is the mode RDN? -/
def RMode.isRdn : RMode → Bool
  | .rdn => true
  | _ => false

/-- a + b rounded (R343). -/
def fAdd (f : Fmt) (mode : RMode) (a b : Nat) : Res :=
  let x := fDecode f a
  let y := fDecode f b
  let (z, bad) := Exact.add mode.isRdn x y
  let r := fRound f mode z
  ⟨r.v, r.f ||| sigFlags [x, y] ||| (if bad then fNV else 0)⟩

/-- a - b rounded (R343). -/
def fSub (f : Fmt) (mode : RMode) (a b : Nat) : Res :=
  let x := fDecode f a
  let y := fDecode f b
  let (z, bad) := Exact.add mode.isRdn x y.neg
  let r := fRound f mode z
  ⟨r.v, r.f ||| sigFlags [x, y] ||| (if bad then fNV else 0)⟩

/-- a × b rounded (R343). -/
def fMul (f : Fmt) (mode : RMode) (a b : Nat) : Res :=
  let x := fDecode f a
  let y := fDecode f b
  let (z, bad) := Exact.mul x y
  let r := fRound f mode z
  ⟨r.v, r.f ||| sigFlags [x, y] ||| (if bad then fNV else 0)⟩

/-- (−) a × b (±) v rounded once (R343). -/
def fFma (f : Fmt) (mode : RMode) (negProd negAdd : Bool) (a b v : Nat) : Res :=
  let x := fDecode f a
  let y := fDecode f b
  let w := fDecode f v
  let (p, bad1) := Exact.mul x y
  let p := if negProd then p.neg else p
  let (z, bad2) := Exact.add mode.isRdn p (if negAdd then w.neg else w)
  let r := fRound f mode z
  ⟨r.v, r.f ||| sigFlags [x, y, w] ||| (if bad1 || bad2 then fNV else 0)⟩

/-- Order of two numbers that are not NaN, −0 below +0: is the first less? -/
def Exact.lt : Exact → Exact → Bool
  | .inf a, .inf b => a && !b
  | .inf a, .num .. => a
  | .num .., .inf b => !b
  | .num a n e, .num b m g =>
    if a != b then a && (n != 0 || m != 0 || true)
    else if a then ltScaled m g n e
    else ltScaled n e m g
  | _, _ => false

/-- Is it NaN? -/
def Exact.isNan : Exact → Bool
  | .nan _ => true
  | _ => false

/-- Is it a zero? -/
def Exact.isZero : Exact → Bool
  | .num _ 0 _ => true
  | _ => false

/-- fmin, fmax (R252): `mx` the maximum, `num` the .num form. -/
def fMinMax (f : Fmt) (mx num : Bool) (a b : Nat) : Res :=
  let x := fDecode f a
  let y := fDecode f b
  let fl := sigFlags [x, y]
  if x.isNan || y.isNan then
    if num && !(x.isNan && y.isNan) then ⟨if x.isNan then b else a, fl⟩ else ⟨f.nan, fl⟩
  else if mx then ⟨if x.lt y then b else a, fl⟩
  else ⟨if y.lt x then b else a, fl⟩

/-- Comparisons of R252. -/
inductive Rel where
  | eq | lt | le | un
  deriving DecidableEq, Repr

/-- fcmp (R252, R344): the relation and its flags. -/
def fCmp (f : Fmt) (rel : Rel) (a b : Nat) : Bool × Flags :=
  let x := fDecode f a
  let y := fDecode f b
  let nan := x.isNan || y.isNan
  let same := (x.isZero && y.isZero) || (!x.lt y && !y.lt x)
  match rel with
  | .eq => (!nan && same, sigFlags [x, y])
  | .lt => (!nan && !(x.isZero && y.isZero) && x.lt y, if nan then fNV else 0)
  | .le => (!nan && (same || x.lt y), if nan then fNV else 0)
  | .un => (nan, sigFlags [x, y])

/-- Round a finite value to an integer (R251): magnitude and whether it was inexact. -/
def roundInt (mode : RMode) (neg : Bool) (n : Nat) (e : Int) : Nat × Bool :=
  let num := n * pow2 e
  let den := pow2 (-e)
  let k := num / den
  let r := num % den
  (if r != 0 && roundsUp mode neg k r den then k + 1 else k, r != 0)

/-- Conversion to a signed integer of `w` bits: the operand itself is held against the range (R251). -/
def fToInt (w : Nat) (f : Fmt) (mode : RMode) (a : Nat) : Res :=
  let lo : Int := -(2 ^ (w - 1) : Nat)
  let hi : Int := (2 ^ (w - 1) : Nat) - 1
  let enc (i : Int) : Nat := (i % (2 ^ w : Nat)).toNat
  match fDecode f a with
  | .nan _ => ⟨0, fNV⟩
  | .inf neg => ⟨enc (if neg then lo else hi), fNV⟩
  | .num neg n e =>
    let x : Int := signedMant neg (n * pow2 e)
    let one : Int := (pow2 (-e) : Nat)
    if x < lo * one then ⟨enc lo, fNV⟩
    else if hi * one < x then ⟨enc hi, fNV⟩
    else
      let (k, nx) := roundInt mode neg n e
      ⟨enc (signedMant neg k), if nx then fNX else 0⟩

/-- ROUND of an exact integer (R251). -/
def fOfInt (f : Fmt) (mode : RMode) (i : Int) : Res := roundFin f mode (decide (i < 0)) i.natAbs 1 0

/-- SAT of an integer into `w` signed bits, encoded (R248, R251). -/
def satInt (w : Nat) (i : Int) : Nat :=
  let lo : Int := -(2 ^ (w - 1) : Nat)
  let hi : Int := (2 ^ (w - 1) : Nat) - 1
  ((max lo (min hi i)) % (2 ^ w : Nat)).toNat

/-! ### Block scales (R245, R246) -/

/-- Division of exact finite values, as numerator, denominator and exponent. -/
def bscale (f : Fmt) (xs : List Nat) : Res :=
  let vs := xs.map (fDecode .f32)
  if vs.any (fun x => match x with | .num .. => false | _ => true) then ⟨0xFF, fNV⟩
  else
    let mx := vs.foldl (fun (acc : Nat × Int) x =>
      match x with
      | .num _ n e => if ltScaled acc.1 acc.2 n e then (n, e) else acc
      | _ => acc) (0, 0)
    if mx.1 = 0 then ⟨0x78, 0⟩
    else ⟨(roundFin .ue5m3 .rup false mx.1 f.maxMant (mx.2 - f.maxExp)).v, 0⟩

/-- One element of BQUANT under a scale (R246): x ÷ value(sc), exact before rounding. -/
def bquant1 (f : Fmt) (mode : RMode) (sc : Nat) (a : Nat) : Res :=
  let x := fDecode .f32 a
  if sc = 0xFF || sc = 0 then ⟨0, sigFlags [x]⟩
  else
    match x, fDecode .ue5m3 sc with
    | .num neg n e, .num _ m g => cvtFin f mode true neg n m (e - g)
    | x, _ => fCvt f mode true x

/-! ### Dot products and beats (R253, R254) -/

/-- The sum of exact finite terms: smallest exponent and signed sum. -/
def sumTerms (l : List Exact) : Int × Int :=
  let q := l.foldl (fun q x => match x with | .num _ n e => if n = 0 then q else min q e | _ => q) 2000
  (l.foldl (fun t x => match x with | .num s n e => t + signedMant s n * (pow2 (e - q) : Nat) | _ => t) 0, q)

/-- The value of an element under the scale of its block (R245): zero under scale 0, whatever the element holds (R246). -/
def Exact.scaled (a sa : Exact) : Exact :=
  if sa.isZero then (match a with | .num s _ _ => .num s 0 0 | _ => .num false 0 0) else (Exact.mul a sa).1

/-- Is an element a signalling NaN that its scale leaves one? -/
def Exact.sigUnder (a sa : Exact) : Bool := a.sig && !sa.isZero

/-- One product of EXACT_DOT: both values with their scales; the flag tells of infinity × 0 and of signalling NaNs (R253, R243). -/
def dotTerm (a sa b sb : Exact) : Exact × Bool :=
  let (t, f) := Exact.mul (a.scaled sa) (b.scaled sb)
  (t, f || a.sigUnder sa || b.sigUnder sb)

/-- EXACT_DOT over terms already formed (R253). The result's `nan true` tells that NV is raised. -/
def exactDot (l : List (Exact × Bool)) : Exact :=
  let ts := l.map (·.1)
  let bad := l.any (·.2)
  let posInf := ts.any fun t => t == .inf false
  let negInf := ts.any fun t => t == .inf true
  if ts.any Exact.isNan || (posInf && negInf) then .nan (bad || (posInf && negInf))
  else if posInf then .inf false
  else if negInf then .inf true
  else
    let (t, q) := sumTerms ts
    if t = 0 then
      .num (ts.all fun x => match x with | .num true 0 _ => true | _ => false) 0 0
    else .num (decide (t < 0)) t.natAbs q

/-- One accumulator of a beat (R253): RNE_F32 of p, or of acc + p. -/
def beatF32 (acc : Nat) (zf : Bool) (p : Exact) : Res :=
  if zf then fRound .f32 .rne p
  else
    let x := fDecode .f32 acc
    let (z, bad) := Exact.add false x p
    let r := fRound .f32 .rne z
    ⟨r.v, r.f ||| sigFlags [x, p] ||| (if bad then fNV else 0)⟩

/-- One accumulator of an INT8 beat (R254): the sum wraps modulo 2^32. -/
def beatI32 (acc : Nat) (zf : Bool) (p : Exact) : Nat :=
  let t : Int := match p with
    | .num s n e => signedMant s n * (pow2 e : Nat)
    | _ => 0
  (((if zf then 0 else (acc : Int)) + t) % (2 ^ 32 : Nat)).toNat

/-! ### Trees (R255, R256) -/

/-- One level of the pairwise tree: neighbours combine, the left operand the lower lane (R255). -/
def pairUp {α : Type} (op : α → α → α) : List α → List α
  | a :: b :: l => op a b :: pairUp op l
  | l => l

/-- TREE_SUM_ROW over 2^k lanes (R255). -/
def treeRed {α : Type} (op : α → α → α) : Nat → List α → List α
  | 0, l => l
  | k + 1, l => treeRed op k (pairUp op l)

/-- One sweep step of the Brent–Kung tree at distance d = 2^k (R256). -/
def upStep {α : Type} (op : α → α → α) (k : Nat) (v : List α) : List α :=
  v.zipIdx.map fun (x, i) =>
    if (i + 1) % 2 ^ (k + 1) = 0 then
      match v[i - 2 ^ k]? with
      | some y => op y x
      | none => x
    else x

/-- One down-sweep step (R256). -/
def downStep {α : Type} (op : α → α → α) (k : Nat) (v : List α) : List α :=
  v.zipIdx.map fun (x, i) =>
    if (i + 1) % 2 ^ (k + 1) = 2 ^ k && decide (2 ^ (k + 1) ≤ i) then
      match v[i - 2 ^ k]? with
      | some y => op y x
      | none => x
    else x

/-- Inclusive scan over 2^D lanes (R256): TREE_SCAN_ROW and TREE_SCAN_SLICES. -/
def treeScan {α : Type} (op : α → α → α) (D : Nat) (v : List α) : List α :=
  let up := (List.range D).foldl (fun v k => upStep op k v) v
  ((List.range (D - 1)).reverse).foldl (fun v k => downStep op k v) up

/-- The value of the last lane after the up-sweep (R256): the cross-slice reduction. -/
def treeLast {α : Type} (op : α → α → α) (D : Nat) (v : List α) : Option α :=
  ((List.range D).foldl (fun v k => upStep op k v) v).getLast?

/-! ### Correctly rounded functions (R258) -/

/-- Integer square root by bits: the largest k with k*k ≤ n, trying the bits below `b`. -/
def isqrtBits (n : Nat) : Nat → Nat → Nat
  | 0, k => k
  | b + 1, k => if (k + 2 ^ b) * (k + 2 ^ b) ≤ n then isqrtBits n b (k + 2 ^ b) else isqrtBits n b k

/-- Integer square root. -/
def isqrt (n : Nat) : Nat := isqrtBits n (n.log2 / 2 + 1) 0

/-- RNE_F32 of sqrt(n / d * 2^e), e even: 64 extra bits and a sticky bit decide as the exact root would. -/
def sqrtRound (n d : Nat) (e : Int) : Res :=
  let N := n * 2 ^ 512
  let k := isqrt (N / d)
  let sticky := if k * k * d = N then 0 else 1
  roundFin .f32 .rne false (2 * k + sticky) 1 (e / 2 - 257)

/-- vx.rcp.f32 (R258, Table 10.7). -/
def fRcp (a : Nat) : Res :=
  match fDecode .f32 a with
  | .nan sg => ⟨Fmt.nan .f32, if sg then fNV else 0⟩
  | .inf neg => ⟨Fmt.signBit .f32 neg, 0⟩
  | .num neg 0 _ => ⟨Fmt.signBit .f32 neg + 0x7F800000, fDZ⟩
  | .num neg n e => roundFin .f32 .rne neg 1 n (-e)

/-- vx.sqrt.f32 (R258, Table 10.7). -/
def fSqrt (a : Nat) : Res :=
  match fDecode .f32 a with
  | .nan sg => ⟨Fmt.nan .f32, if sg then fNV else 0⟩
  | .num _ 0 _ => ⟨a, 0⟩
  | .inf false => ⟨a, 0⟩
  | .inf true => ⟨Fmt.nan .f32, fNV⟩
  | .num true _ _ => ⟨Fmt.nan .f32, fNV⟩
  | .num false n e => if e % 2 = 0 then sqrtRound n 1 e else sqrtRound (2 * n) 1 (e - 1)

/-- vx.rsqrt.f32 (R258, Table 10.7). -/
def fRsqrt (a : Nat) : Res :=
  match fDecode .f32 a with
  | .nan sg => ⟨Fmt.nan .f32, if sg then fNV else 0⟩
  | .num neg 0 _ => ⟨Fmt.signBit .f32 neg + 0x7F800000, fDZ⟩
  | .inf false => ⟨0, 0⟩
  | .inf true => ⟨Fmt.nan .f32, fNV⟩
  | .num true _ _ => ⟨Fmt.nan .f32, fNV⟩
  | .num false n e => if e % 2 = 0 then sqrtRound 1 n (-e) else sqrtRound 1 (2 * n) (1 - e)

/-- Bits of the fixed-point numbers used for exp2 and log2 (log 11). -/
def fxP : Nat := 320

/-- 2 atanh(z) for z = a / b below 1/2, in units of 2^-fxP: 2 Σ z^(2k+1) / (2k+1), ln of (1+z)/(1-z). -/
def lnSeries (a b : Nat) : Nat :=
  let z := a * 2 ^ fxP / b
  let z2 := z * z / 2 ^ fxP
  ((List.range 110).foldl (fun (acc : Nat × Nat) k => (acc.1 + acc.2 / (2 * k + 1), acc.2 * z2 / 2 ^ fxP)) (0, z)).1 * 2

/-- ln 2 in units of 2^-fxP. -/
def ln2Fx : Nat := lnSeries 1 3

/-- e^z for z in units of 2^-fxP, z below 1: Σ z^k / k!. -/
def expSeries (z : Nat) : Nat :=
  ((List.range 80).foldl (fun (acc : Nat × Nat) k => (acc.1 + acc.2, acc.2 * z / 2 ^ fxP / (k + 1))) (0, 2 ^ fxP)).1

/-- vx.exp2.f32 (R258, Table 10.7). -/
def fExp2 (a : Nat) : Res :=
  match fDecode .f32 a with
  | .nan sg => ⟨Fmt.nan .f32, if sg then fNV else 0⟩
  | .inf true => ⟨0, 0⟩
  | .inf false => ⟨0x7F800000, 0⟩
  | .num _ 0 _ => ⟨0x3F800000, 0⟩
  | .num neg n e =>
    let num := signedMant neg n * (pow2 e : Nat)
    let den := pow2 (-e)
    if !ltScaled n e 128 0 && !neg then ⟨0x7F800000, fOF ||| fNX⟩
    else if !ltScaled n e 1024 0 && neg then ⟨0, fUF ||| fNX⟩
    else
      let k := num.fdiv (den : Int)
      let f := (num.fmod (den : Int)).toNat
      if f = 0 then roundFin .f32 .rne false 1 1 k
      else roundFin .f32 .rne false (2 * expSeries (ln2Fx * f / den) + 1) 1 (k - fxP - 1)

/-- vx.log2.f32 (R258, Table 10.7). -/
def fLog2 (a : Nat) : Res :=
  match fDecode .f32 a with
  | .nan sg => ⟨Fmt.nan .f32, if sg then fNV else 0⟩
  | .num _ 0 _ => ⟨0xFF800000, fDZ⟩
  | .inf false => ⟨0x7F800000, 0⟩
  | .inf true => ⟨Fmt.nan .f32, fNV⟩
  | .num true _ _ => ⟨Fmt.nan .f32, fNV⟩
  | .num false n e =>
    let k := n.log2
    let ex : Int := e + k
    if n = 2 ^ k then fOfInt .f32 .rne ex
    else
      let fr : Int := (lnSeries (n - 2 ^ k) (n + 2 ^ k) * 2 ^ fxP / ln2Fx : Nat)
      let t : Int := ex * (2 ^ fxP : Nat) + fr
      roundFin .f32 .rne (decide (t < 0)) (2 * t.natAbs + 1) 1 (-(fxP : Int) - 1)

/-! ### Spaham 1 functions (R123, R124) -/

/-- RNE_F32 of n / d * 2^e as an exact number, sign positive. -/
def rneEx (n d : Nat) (e : Int) : Exact := fDecode .f32 (roundFin .f32 .rne false n d e).v

/-- RNE_F32 of a product, sum or difference of exact numbers. -/
def rneMul (x y : Exact) : Exact := fDecode .f32 (fRound .f32 .rne (Exact.mul x y).1).v
def rneAdd (x y : Exact) : Exact := fDecode .f32 (fRound .f32 .rne (Exact.add false x y).1).v

/-- Scale an exact number by 2^k. -/
def Exact.scale (x : Exact) (k : Int) : Exact :=
  match x with
  | .num s n e => .num s n (e + k)
  | y => y

/-- Normalised mantissa of n: the fraction m - 1 in units of 2^-24, with n = m * 2^k. -/
def frac24 (n : Nat) : Nat := n * 2 ^ 24 / 2 ^ n.log2 - 2 ^ 24

/-- NX under profile 1: the value returned differs from the exact one (R123). -/
def withNX (r : Res) (exact : Bool) : Res :=
  if exact then r else ⟨r.v, r.f ||| fNX ||| (if r.v % 2 ^ 31 < 0x00800000 then fUF else 0)⟩

/-- RCP1 for finite non-zero x (R124). -/
def rcp1 (a : Nat) : Res :=
  match fDecode .f32 a with
  | .num neg n e =>
    if n = 0 then fRcp a
    else
      let k := n.log2
      let m := Exact.num false n (-(k : Int))
      let i := frac24 n / 2 ^ 16
      let y := rneEx 512 (512 + 2 * i + 1) 0
      let two := Exact.num false 2 0
      let y := rneMul y (rneAdd two (rneMul m y).neg)
      match y with
      | .num _ yn ye =>
        let r := roundFin .f32 .rne neg yn 1 (ye - (e + k))
        let z := fDecode .f32 (r.v % 2 ^ 31)
        let exact := match z with
          | .num _ zn ze => decide (zn * n * pow2 (ze + e) = pow2 (-(ze + e)))
          | _ => false
        withNX r exact
      | _ => fRcp a
  | _ => fRcp a

/-- RSQRT1 for finite positive x (R124). -/
def rsqrt1 (a : Nat) : Res :=
  match fDecode .f32 a with
  | .num false n e =>
    if n = 0 then fRsqrt a
    else
      let k := n.log2
      let ex : Int := e + k
      -- x = m * 2^e2 with e2 even and 1 ≤ m < 4
      let odd : Nat := if ex % 2 = 0 then 0 else 1
      let e2 : Int := ex - odd
      let m := Exact.num false (n * 2 ^ odd) (-(k : Int))
      let i := (n * 2 ^ odd * 2 ^ 24 / 2 ^ k - 2 ^ 24) / 2 ^ 17
      let y := fDecode .f32 (sqrtRound 256 (256 + 2 * i + 1) 0).v
      let half := Exact.num false 1 (-1)
      let y := rneMul y (rneAdd (.num false 3 (-1)) (rneMul (rneMul half m) (rneMul y y)).neg)
      match y with
      | .num s yn ye =>
        let r := roundFin .f32 .rne s yn 1 (ye - e2 / 2)
        let exact := match fDecode .f32 r.v with
          | .num false zn ze => decide (zn * zn * n * pow2 (2 * ze + e) = pow2 (-(2 * ze + e)))
          | _ => false
        withNX r exact
      | _ => fRsqrt a
  | _ => fRsqrt a

/-- k!. -/
def fact : Nat → Nat
  | 0 => 1
  | k + 1 => (k + 1) * fact k

/-- RNE_F32 of ln(2)^k / k! (R124). -/
def lnPow (k : Nat) : Exact := rneEx (ln2Fx ^ k) (fact k) (-(fxP * k : Nat) : Int)

/-- EXP2_1 for finite x (R124). -/
def exp2_1 (a : Nat) : Res :=
  match fDecode .f32 a with
  | .num neg n e =>
    if !neg && !ltScaled n e 128 0 then ⟨0x7F800000, fOF ||| fNX⟩
    else if neg && ltScaled 150 0 n e then ⟨0, fUF ||| fNX⟩
    else
      let num := signedMant neg n * (pow2 e : Nat)
      let den := pow2 (-e)
      let k := num.fdiv (den : Int)
      let f := Exact.num false (num.fmod (den : Int)).toNat (if e < 0 then e else 0)
      let p := [4, 3, 2, 1, 0].foldl (fun p k => rneAdd (rneMul p f) (lnPow k)) (lnPow 5)
      let r := fRound .f32 .rne (p.scale k)
      withNX r (decide (num.fmod (den : Int) = 0) && decide (fDecode .f32 r.v = fDecode .f32 (roundFin .f32 .rne false 1 1 k).v))
  | _ => fExp2 a

/-- Narrowing to E4M3 under profile 1 and RNE: ties away from zero (Table 04.7). -/
def cvtTiesAway (sat : Bool) (neg : Bool) (n d : Nat) (e : Int) : Res :=
  if n = 0 then ⟨Fmt.signBit .e4m3 neg, 0⟩
  else
    let f := Fmt.e4m3
    let q := max (floorLog n d e - f.p) (1 - f.bias - f.p)
    let num := n * pow2 (e - q)
    let den := d * pow2 (q - e)
    -- a tie goes up: as if the fraction were rounded up at one half
    if 2 * (num % den) = den then
      let r := cvtFin f .rtz sat neg (num / den + 1) 1 q
      ⟨r.v, r.f ||| fNX ||| (if ltScaled (num / den + 1) q 1 (1 - f.bias) then fUF else 0)⟩
    else cvtFin f .rne sat neg n d e

/-! ### The counter hash (R260) -/

/-- Rotation of a 64-bit number to the left. -/
def rotl64 (w : Nat) (k : Nat) : Nat := (w * 2 ^ k + w / 2 ^ (64 - k)) % 2 ^ 64

/-- The multipliers C[0..3] of H (R260). -/
def hashC : List Nat := [0xD6E8FEB86659FD93, 0x94D049BB133111EB, 0xC2B2AE3D27D4EB4F, 0x8CB92BA72F3D8DD7]

/-- H(key, ctr, s, e) (R260). -/
def counterHash (key ctr : BitVec 128) (s e : Nat) : Nat :=
  let v := (ctr.toNat % 2 ^ 64) ^^^ (key.toNat % 2 ^ 64) ^^^ (s * 1024 + e)
  let w := (ctr.toNat / 2 ^ 64) ^^^ (key.toNat / 2 ^ 64)
  (hashC.zipIdx).foldl (fun v c =>
    let v := v ^^^ rotl64 w (16 * c.2)
    let v := (v * c.1) % 2 ^ 64
    v ^^^ (v / 2 ^ 31)) v

/-- U of R261: bits [63:40] of the hash. -/
def drawU (key ctr : BitVec 128) (s e : Nat) : Nat := counterHash key ctr s e / 2 ^ 40

/-- FP32 addition, RNE (R257). -/
def addF32 (a b : Res) : Res := let r := fAdd .f32 .rne a.v b.v; ⟨r.v, r.f ||| a.f ||| b.f⟩

/-- FP32 maximum and minimum in a tree (R257). -/
def maxF32 (a b : Res) : Res := let r := fMinMax .f32 true false a.v b.v; ⟨r.v, r.f ||| a.f ||| b.f⟩
def minF32 (a b : Res) : Res := let r := fMinMax .f32 false false a.v b.v; ⟨r.v, r.f ||| a.f ||| b.f⟩

/-- INT32 addition modulo 2^32 (R257). -/
def addI32 (a b : Res) : Res := ⟨(a.v + b.v) % 2 ^ 32, a.f ||| b.f⟩

end Sys2Proof.Machine
end

