-- ==== Sys2Proof/Config.lean ====
section
/-! DEFINITION. What the specification leaves open: free values (opaque constants, no value of them can be
evaluated or proved) and functions of units whose algorithms the specification names but does not spell out. -/

namespace Sys2Proof.Config

/-- A free 64-bit value, one for each number drawn (log 8). -/
opaque freeWord : Nat → BitVec 64

/-- A free byte, one for each number drawn (log 8). -/
opaque freeByte : Nat → BitVec 8

/-- A table entry read under the key of a slot that does not hold its page: slot, physical address, what stands there under the
right key (R185, log 8). -/
opaque wrongKey : Nat → Nat → BitVec 64 → BitVec 64

/-- A byte that stands in memory in one key slot, as another slot reads it: the slots, its physical address, the byte (R85, R278,
log 8). -/
opaque otherKey : BitVec 4 → BitVec 4 → Nat → BitVec 8 → BitVec 8

/-- The bundles that the Heft translator gives for a section's bytes, and the bundle at which a hyperblock begins (R127,
log 9). -/
opaque heftCode : List Byte → List (BitVec 256)
opaque heftEntry : List Byte → Nat → Nat

/-- The sealed payload and tag of a control flit, by key, header and payload, and what a receiver opens of them: R61's nonce counts
flits, and which it counts of these is open (log 28). -/
opaque controlSeal : BitVec 256 → List Byte → List Byte → List Byte
opaque controlOpen : BitVec 256 → List Byte → List Byte → Option (List Byte)

/-- Cycles that a hart counts while DETCLK is 0, one value for each number drawn (R231, log 8). -/
opaque freeCycle : Nat → BitVec 64

/-- Whether stval is the instruction or 0 after an illegal instruction, and the pc or 0 after a breakpoint: the specifications of
RISC-V allow both, and R223 does not choose (log 10). -/
opaque illegalTval : Bool
opaque breakTval : Bool

/-- The vl that a vsetvl gives for an AVL between VLMAX and 2 VLMAX, within the limits of RISC-V (log 10). -/
opaque vlChoice : Nat → Nat → Nat

/-- The version of the pen monitor's image (R225). -/
opaque monitorVersion : BitVec 64

/-- The digests of measurement blocks 1 to 8, by index (R82, log 9). -/
opaque measurement : Nat → BitVec 512

/-- The code of a format tag in a save area, by its place in R370's list (log 12). -/
opaque tagCode : Nat → BitVec 4

/-- A byte of the settings that the solver gives a permutation, by its place in the block (R367, log 12). -/
opaque liveSetting : List Nat → Nat → BitVec 8

/-- The seed of the alias key, from that of the device identity key and the SHA-512 of measurement blocks 1 to 4 (R81, log 9). -/
opaque aliasSeed : BitVec 256 → BitVec 512 → BitVec 256

/-- The chain of slot 0 down to the certificate of a device identity key; the body of the certificate of an alias key; that
certificate from its body and the identity key's signature (Table 03.4, log 9). -/
opaque deviceChain : List Byte → List Byte
opaque aliasBody : List Byte → List Byte
opaque aliasCert : List Byte → List Byte → List Byte

/-- What a responder signs for a content and the requester's nonce, as the SPDM standard frames it (R81, log 9). -/
opaque signedPart : List Byte → List Byte → List Byte

end Sys2Proof.Config
end

