-- ==== Sys2Proof/Machine/Mem.lean ====
section
/-! DEFINITION. Memory as bytes (log 4), scratchpad rows and their side lanes (R176, R177), ranges and bounds (R178), and
the translation of device memory (R185, R186) with the slot map (R90). -/

namespace Sys2Proof.Machine

/-- The byte at an address; an unlisted address reads 0 (log 4). -/
def Mem.read (m : Mem) (a : Nat) : Byte := (m.lookup a).getD 0

/-- The `n` bytes from an address. -/
def Mem.readN (m : Mem) (a n : Nat) : List Byte :=
  let l := m.filter fun c => decide (a ≤ c.1 ∧ c.1 < a + n)
  (List.range n).map fun i => Mem.read l (a + i)

/-- The cells of a run of bytes from an address; a byte 0 needs no cell. -/
def Mem.cells : Nat → List Byte → Mem
  | _, [] => []
  | a, b :: bs => if b = 0 then Mem.cells (a + 1) bs else (a, b) :: Mem.cells (a + 1) bs

/-- Writing a run of bytes: the cells below it, its own, the cells above it. The form stays canonical. -/
def Mem.write (m : Mem) (a : Nat) (bs : List Byte) : Mem :=
  m.filter (fun c => decide (c.1 < a)) ++ Mem.cells a bs ++ m.filter (fun c => decide (a + bs.length ≤ c.1))

/-- The canonical form: addresses rising, no cell 0. -/
def Mem.wf : Mem → Bool
  | [] => true
  | [c] => c.2 != 0
  | c :: d :: m => c.2 != 0 && decide (c.1 < d.1) && Mem.wf (d :: m)

/-- Writing scattered bytes, in order. -/
def Mem.writeEach (m : Mem) (l : List (Nat × Byte)) : Mem := l.foldl (fun m c => Mem.write m c.1 [c.2]) m

/-! ### Scratchpad rows -/

/-- The row unit `u` (address bits [27:8]) of a die: its data bytes and its side lane (R177, R196). -/
def Die.row (d : Die) (u : Nat) : Row :=
  mkRow (d.sp.readN (256 * u) 256) (d.spSide.readN (32 * u) 32)

/-- Write a whole row unit; its check bits are written with it (R195). -/
def Die.writeRow (d : Die) (u : Nat) (r : Row) : Die :=
  { d with sp := d.sp.write (256 * u) (rowBytes r), spSide := d.spSide.write (32 * u) (rowSide r),
           spEcc := d.spEcc.filter fun x => x.1 != u }

/-- Write several row units, in order. -/
def Die.writeRows (d : Die) (l : List (Nat × Row)) : Die := l.foldl (fun d x => d.writeRow x.1 x.2) d

/-- Do scattered bytes cover a whole row unit, data and side lane? -/
def coversUnit (bytes side : List (Nat × Byte)) (u : Nat) : Bool :=
  ((List.range 256).all fun i => bytes.any fun b => b.1 == 256 * u + i) &&
    (List.range 32).all fun i => side.any fun b => b.1 == 32 * u + i

/-- Write bytes and side-lane bytes at byte addresses of the die (R182); the check bits of a unit that is written whole are written with
it (R195). -/
def Die.writeBytes (d : Die) (bytes side : List (Nat × Byte)) : Die :=
  { d with sp := d.sp.writeEach bytes, spSide := d.spSide.writeEach side,
           spEcc := d.spEcc.filter fun x => !coversUnit bytes side x.1 }

/-- Number of row units of a scratchpad: 3,072 rows of 256 banks (R176). -/
def spUnits : Nat := 3072 * 256

/-! ### Ranges -/

/-- Does `[a, a + n)` lie inside one of the ranges, or in their union, byte by byte? Ranges are (start, length). -/
def inRanges (rs : List (Nat × Nat)) (a : Nat) : Bool := rs.any fun r => decide (r.1 ≤ a ∧ a < r.1 + r.2)

/-- Insert a range into a sorted list of disjoint ranges, joining those that touch it. -/
def joinRange : List (Nat × Nat) → Nat × Nat → List (Nat × Nat)
  | [], r => [r]
  | x :: xs, r =>
    if x.1 + x.2 < r.1 then x :: joinRange xs r
    else if r.1 + r.2 < x.1 then r :: x :: xs
    else joinRange xs (min x.1 r.1, max (x.1 + x.2) (r.1 + r.2) - min x.1 r.1)

/-- The union of ranges as sorted disjoint ranges. -/
def normRanges (rs : List (Nat × Nat)) : List (Nat × Nat) := rs.foldl joinRange []

/-- Does the whole of `[a, a + n)` lie in the union of the ranges? -/
def coversRange (rs : List (Nat × Nat)) (a n : Nat) : Bool :=
  n == 0 || (normRanges rs).any fun r => decide (r.1 ≤ a ∧ a + n ≤ r.1 + r.2)

/-- Do two ranges share an address? -/
def overlaps (a n b m : Nat) : Bool := decide (a < b + m ∧ b < a + n) && decide (0 < n) && decide (0 < m)

/-! ### Translation -/

/-- The physical HBM space of the package: nine stacks of 48 GiB (R13). -/
def hbmSize : Nat := 9 * 0xC00000000

/-- The die that owns a physical HBM address (R13). -/
def hbmDie (pa : Nat) : Nat := pa / (3 * 0xC00000000)

/-- Translation fault reasons (Table 11.1, code 0x20): 1 BADTAG, 2 UNMAPPED, 3 MISALIGN. -/
abbrev reasonBadTag : BitVec 4 := 1
abbrev reasonUnmapped : BitVec 4 := 2
abbrev reasonMisalign : BitVec 4 := 3

/-- Level of a table walk (Table 07.6): the low bit of its index, the width of the index. -/
def levelShift : Nat → Nat
  | 3 => 39
  | 2 => 30
  | 1 => 21
  | _ => 16

/-- Width of the index of a level (Table 07.6). -/
def levelWidth : Nat → Nat
  | 0 => 5
  | _ => 9

/-- Alignment of the table that an entry of a level points to (Table 07.6). -/
def nextAlign : Nat → Nat
  | 1 => 256
  | _ => 4096

/-- Start of the copy-channel region, which is never translated (R192). -/
abbrev apertureBase : Nat := 0xFFFFFF000000

/-- Where the entry of an address stands in a table of a level (Table 07.6). -/
def entryPlace (va lvl table : Nat) : Nat := table + 8 * bits va (levelShift lvl) (levelWidth lvl)

/-- One walk, from a table at a level downwards (R185, R186): the leaf found, or the reason of the first entry that
fails. -/
def walkFrom (rd : Nat → Nat) (asid : BitVec 8) (va : Nat) : Nat → Nat → Except (BitVec 4) TlbEntry
  | lvl, table =>
    let e := rd (entryPlace va lvl table)
    let leaf := bits e 1 1 == 1
    let pa := bits e 8 40 * 256
    if bits e 0 1 == 0 then .error reasonUnmapped
    else if leaf && lvl == 3 then .error reasonUnmapped
    else if !leaf && lvl == 0 then .error reasonUnmapped
    else if leaf && hbmSize ≤ pa then .error reasonUnmapped
    else if bits e 48 16 != 0 then .error reasonMisalign
    else if leaf then
      if pa % 2 ^ levelShift lvl != 0 then .error reasonMisalign
      else .ok { asid := asid, vbase := va / 2 ^ levelShift lvl * 2 ^ levelShift lvl, bits := levelShift lvl,
                 pbase := pa, rd := bits e 2 1 == 1, wr := bits e 3 1 == 1, kslot := BitVec.ofNat 4 (bits e 4 4) }
    else if pa % nextAlign lvl != 0 then .error reasonMisalign
    else
      match lvl with
      | 0 => .error reasonUnmapped
      | k + 1 => walkFrom rd asid va k pa

/-- The table entries that a walk reads, from a table at a level downwards (R185). -/
def walkPath (rd : Nat → Nat) (va : Nat) : Nat → Nat → List Nat
  | lvl, table =>
    let a := entryPlace va lvl table
    let e := rd a
    if bits e 0 1 == 0 || bits e 1 1 == 1 then [a]
    else
      match lvl with
      | 0 => [a]
      | k + 1 => a :: walkPath rd va k (bits e 8 40 * 256)

/-- The root of an address space (Table 07.8). -/
def State.asidRootOf (s : State) (asid : BitVec 8) : Word := s.host.asidRoot[asid.toNat]'(by have := asid.isLt; omega)

/-- The key slot that the slot map gives a physical page (R90). -/
def State.slotOf (s : State) (pa : Nat) : BitVec 4 := (s.host.slotmap.lookup (pa / 65536)).getD 0

/-- The 8 bytes of a table entry as the walker reads them in the key slot TSLOT of the address space (Table 07.8): bytes of a page
that another slot holds come out under the wrong key, as a free value (log 8). -/
def State.tableEntry (s : State) (root : Word) (pa : Nat) : Nat :=
  let w := leNat (s.hbm.readN pa 8)
  if (s.slotOf pa).toNat = fld root 4 4 then w else (Config.wrongKey (fld root 4 4) pa (BitVec.ofNat 64 w)).toNat

/-- Translation of a device-memory virtual address in an address space (R185, Table 07.8); the copy-channel region is never
translated (R192). -/
def State.walk (s : State) (asid : BitVec 8) (va : Nat) : Except (BitVec 4) TlbEntry :=
  let root := s.asidRootOf asid
  if bit root 0 && decide (va < apertureBase) then walkFrom (s.tableEntry root) asid va 3 (fld root 12 36 * 4096)
  else .error reasonUnmapped

/-- Does a read of physical HBM bytes meet an uncorrectable error in one of its sectors (R15)? -/
def State.hbmBad (s : State) (pa n : Nat) : Bool :=
  decide (0 < n) && s.hbmEcc.any fun a => decide (pa / 32 ≤ a / 32 ∧ a / 32 ≤ (pa + n - 1) / 32)

/-- The table entry of a walk that an uncorrectable error withholds (R15). -/
def State.walkBad (s : State) (asid : BitVec 8) (va : Nat) : Option Nat :=
  let root := s.asidRootOf asid
  if bit root 0 && decide (va < apertureBase) then
    (walkPath (s.tableEntry root) va 3 (fld root 12 36 * 4096)).find? fun a => s.hbmBad a 8
  else none

/-- What an access asks of a page (R186). -/
inductive Acc where
  | rd | wr | rw
  deriving DecidableEq, Repr

/-- Permission checks of a translated page, lowest reason first (R186, R90): READ, WRITE, SLOT. -/
def State.pagePerm (s : State) (kslot : BitVec 4) (acc : Acc) (e : TlbEntry) (pa : Nat) : Option (BitVec 4) :=
  if (acc == .rd || acc == .rw) && !e.rd then some 1
  else if (acc == .wr || acc == .rw) && !e.wr then some 2
  else if e.kslot != kslot || e.kslot != s.slotOf pa then some 3
  else none

/-- The physical address of a byte through a leaf. -/
def TlbEntry.phys (e : TlbEntry) (va : Nat) : Nat := e.pbase + va % 2 ^ e.bits

/-- Does a cached translation cover this page of this address space? -/
def TlbEntry.hits (e : TlbEntry) (asid : BitVec 8) (va : Nat) : Bool :=
  e.asid == asid && decide (e.vbase ≤ va ∧ va < e.vbase + 2 ^ e.bits)

/-- Translate and check one byte: its physical address, or the fault code and reason (R186). -/
def State.translate (s : State) (asid : BitVec 8) (kslot : BitVec 4) (acc : Acc) (va : Nat) :
    Except (BitVec 8 × BitVec 4) Nat :=
  match s.walk asid va with
  | .error r => .error (0x20, r)
  | .ok e =>
    match s.pagePerm kslot acc e (e.phys va) with
    | some r => .error (0x21, r)
    | none => .ok (e.phys va)

/-- The pieces of `[va, va + n)` on each 64 KiB page: address and length (the smallest page, Table 07.6). -/
def pagePieces (va n : Nat) : List (Nat × Nat) :=
  if n = 0 then []
  else (List.range ((va + n - 1) / 65536 - va / 65536 + 1)).map fun i =>
    let lo := max va ((va / 65536 + i) * 65536)
    let hi := min (va + n) ((va / 65536 + i + 1) * 65536)
    (lo, hi - lo)

/-- The first fault among the pages of a range, with its address; none when every page may be accessed. -/
def State.rangeFault (s : State) (asid : BitVec 8) (kslot : BitVec 4) (acc : Acc) (va n : Nat) :
    Option (Nat × BitVec 8 × BitVec 4) :=
  (pagePieces va n).findSome? fun a =>
    match s.translate asid kslot acc a.1 with
    | .error (c, r) => some (a.1, c, r)
    | .ok _ => none

/-- The physical address of what an uncorrectable error withholds from a read of device memory: of a table entry, or of the data
(R15). -/
def State.virtBad (s : State) (asid : BitVec 8) (va n : Nat) : Option Nat :=
  (pagePieces va n).findSome? fun a =>
    s.walkBad asid a.1 <|>
      (match s.walk asid a.1 with
       | .ok e => if s.hbmBad (e.phys a.1) a.2 then some (e.phys a.1) else none
       | .error _ => none)

/-- The physical address of a table entry that an uncorrectable error withholds from the translation of a range (R15). -/
def State.tablesBad (s : State) (asid : BitVec 8) (va n : Nat) : Option Nat :=
  (pagePieces va n).findSome? fun a => s.walkBad asid a.1

/-- Read `n` bytes of device memory; bytes of an unmapped page read 0 (callers check the range first). -/
def State.readVirt (s : State) (asid : BitVec 8) (va n : Nat) : List Byte :=
  (pagePieces va n).flatMap fun a =>
    match s.walk asid a.1 with
    | .ok e => s.hbm.readN (e.phys a.1) a.2
    | .error _ => List.replicate a.2 0

/-- A store by another observer takes the reservation of a hart on the 8 bytes that it meets (R223, log 10). -/
def Pen.dropResv (p : Pen) (pa n : Nat) : Pen :=
  match p.hart.resv with
  | some a => if overlaps (a / 8 * 8) 8 pa n then { p with hart := { p.hart with resv := none } } else p
  | none => p

/-- Write bytes of physical HBM; a 32-byte sector written whole takes new check bits with its data (R15, log 3). -/
def State.hbmPut (s : State) (pa : Nat) (bs : List Byte) : State :=
  { s with hbm := s.hbm.write pa bs
           hbmEcc := s.hbmEcc.filter fun e => !decide (pa ≤ e / 32 * 32 ∧ e / 32 * 32 + 32 ≤ pa + bs.length)
           paddock := { s.paddock with pens := s.paddock.pens.map fun p => (p.1, p.2.dropResv pa bs.length) } }

/-- Write bytes of device memory, page by page; bytes of an unmapped page are dropped (callers check first). -/
def State.writeVirt (s : State) (asid : BitVec 8) (va : Nat) (bs : List Byte) : State :=
  (pagePieces va bs.length).foldl (fun s a =>
    match s.walk asid a.1 with
    | .ok e => s.hbmPut (e.phys a.1) (slice bs (a.1 - va) a.2)
    | .error _ => s) s

end Sys2Proof.Machine
end

