-- ==== Sys2Proof/Machine/Tasks.lean ====
section
/-! DEFINITION. Reading and changing one die, context, task or function of the state; event records (R104, R105); the
completion of a launch (R98, R103) and what the end of a task releases. -/

namespace Sys2Proof.Machine

/-! ### Dies and contexts -/

/-- A die of the package. -/
def State.dieAt (s : State) (d : DieId) : Die := s.dies.get d

/-- The state with a die replaced. -/
def State.putDieAt (s : State) (d : DieId) (x : Die) : State := { s with dies := s.dies.set d.val x d.isLt }

/-- Change one die. -/
def State.onDieAt (s : State) (d : DieId) (f : Die → Die) : State := s.putDieAt d (f (s.dieAt d))

/-- The die that takes the current cycle. -/
def State.die (s : State) : Die := s.dieAt s.turn

/-- Change the die that takes the current cycle. -/
def State.onDie (s : State) (f : Die → Die) : State := s.onDieAt s.turn f

/-- A context of a die. -/
def Die.ctxAt (d : Die) (c : CtxId) : Ctx := d.ctxs.get c

/-- Change one context of a die. -/
def Die.onCtxAt (d : Die) (c : CtxId) (f : Ctx → Ctx) : Die :=
  { d with ctxs := d.ctxs.set c.val (f (d.ctxAt c)) c.isLt }

/-- Change every context of a die. -/
def Die.mapCtxs (d : Die) (f : Ctx → Ctx) : Die :=
  { d with ctxs := #v[f (d.ctxAt 0), f (d.ctxAt 1), f (d.ctxAt 2), f (d.ctxAt 3)] }

/-- The issuing context of the current die. -/
def State.ctx (s : State) : Ctx := s.die.ctxAt s.die.issuing

/-- Change the issuing context of the current die. -/
def State.onCtx (s : State) (f : Ctx → Ctx) : State := s.onDie fun d => d.onCtxAt d.issuing f

/-- Change a context of a die. -/
def State.onCtxAt (s : State) (d : DieId) (c : CtxId) (f : Ctx → Ctx) : State := s.onDieAt d fun x => x.onCtxAt c f

/-- The three dies in ascending order. -/
def allDies : List DieId := [0, 1, 2]

/-- The four contexts in ascending order. -/
def allCtxs : List CtxId := [0, 1, 2, 3]

/-- Does the context issue under the timed column of Table 06.2? In its handler a timed context issues under the free
column (R268). -/
def Ctx.timedNow (c : Ctx) : Bool := c.kind == .timed && !c.inh

/-- The fold count FC of a timed context on a die whose SCY is `scy` (R155). -/
def Ctx.fc (scy : Word) (c : Ctx) : Nat := (scy - c.origin).toNat

/-- The count of a context: the handler count in its handler, FC for a timed, IC for a free context (R155, R268). -/
def Ctx.countAt (scy : Word) (c : Ctx) : Nat :=
  if c.inh then c.hc else if c.kind == .timed then c.fc scy else c.ic

/-- The count of a context outside any handler: FC or IC. -/
def Ctx.baseCount (scy : Word) (c : Ctx) : Nat := if c.kind == .timed then c.fc scy else c.ic

/-- Is the die frozen in this cycle (R18)? -/
def Die.frozen (d : Die) : Bool := decide (d.debt ≠ 0) || d.stopFrozen

/-- The timed context of a die, when it holds one. -/
def Die.timedCid (d : Die) : Option CtxId := allCtxs.find? fun c => (d.ctxAt c).kind == .timed

/-! ### Tasks and functions -/

/-- The task with a launch ID. -/
def State.task? (s : State) (lid : BitVec 32) : Option Task := s.sched.tasks.find? fun t => t.lid == lid

/-- Change the task with a launch ID. -/
def State.onTask (s : State) (lid : BitVec 32) (f : Task → Task) : State :=
  { s with sched := { s.sched with tasks := s.sched.tasks.map fun t => if t.lid == lid then f t else t } }

/-- What the task holds on a die. -/
def Task.onDie (t : Task) (d : DieId) : TaskDie := t.dies.get d

/-- Change what the task holds on a die. -/
def Task.setDie (t : Task) (d : DieId) (f : TaskDie → TaskDie) : Task :=
  { t with dies := t.dies.set d.val (f (t.onDie d)) d.isLt }

/-- The dies of a fold mask. -/
def foldDies (f : BitVec 3) : List DieId := allDies.filter fun d => f.getLsbD d.val

/-- A function of the package. -/
def State.fn (s : State) (i : BitVec 6) : Fn := s.host.fns.get ⟨i.toNat, i.isLt⟩

/-- A window's words. -/
def Links.window (l : Links) (w : Nat) : Vector Word 6 := l.windows.toList.getD w (.replicate 6 0)

/-- A word of a window. -/
def Links.windowWord (l : Links) (w k : Nat) : Word := (l.window w).toList.getD k 0

/-- Change a function. -/
def State.onFn (s : State) (i : BitVec 6) (f : Fn → Fn) : State :=
  { s with host := { s.host with fns := s.host.fns.set i.toNat (f (s.fn i)) i.isLt } }

/-- A VF is sealed while its TDI is in the RUN state (R84). -/
def State.sealed (s : State) (i : BitVec 6) : Bool := i != 0 && (s.fn i).tdi == .run

/-- The package is in sealed operation while a VF is sealed (R84). -/
def State.sealedOp (s : State) : Bool := (List.range 64).any fun i => s.sealed (BitVec.ofNat 6 i)

/-- A work queue. -/
def State.queue (s : State) (q : BitVec 10) : Queue := s.host.queues.get ⟨q.toNat, q.isLt⟩

/-- Change a work queue. -/
def State.onQueue (s : State) (q : BitVec 10) (f : Queue → Queue) : State :=
  { s with host := { s.host with queues := s.host.queues.set q.toNat (f (s.queue q)) q.isLt } }

/-- An object slot. -/
def State.objSlot (s : State) (i : BitVec 10) : ObjSlot := s.host.objs.get ⟨i.toNat, i.isLt⟩

/-- Change an object slot. -/
def State.onObj (s : State) (i : BitVec 10) (f : ObjSlot → ObjSlot) : State :=
  { s with host := { s.host with objs := s.host.objs.set i.toNat (f (s.objSlot i)) i.isLt } }

/-- The object of a task. -/
def State.objOf (s : State) (t : Task) : Option Obj := (s.objSlot (BitVec.ofNat 10 t.obj)).obj

/-- Sections of a type that a die uses (R111). -/
def Obj.sectsOf (o : Obj) (ty : Nat) (d : DieId) : List Sect :=
  o.sects.filter fun x => x.ty == ty && x.dies.getLsbD d.val

/-! ### Events -/

/-- Where the host's memory holds an address as a function reaches it (R77, log 47). -/
def hostAddr (fn : BitVec 6) (a : Nat) : Nat := fn.toNat * 2 ^ 64 + a % 2 ^ 64

/-- Bytes of the host's memory at an address of a function. -/
def State.hostRead (s : State) (fn : BitVec 6) (a n : Nat) : List Byte := s.host.mem.readN (hostAddr fn a) n

/-- Write bytes of the host's memory at an address of a function. -/
def State.hostPut (s : State) (fn : BitVec 6) (a : Nat) (bs : List Byte) : State :=
  { s with host := { s.host with mem := s.host.mem.write (hostAddr fn a) bs } }

/-- Write a record into a function's event ring, or drop it at a full or disabled ring (R104). -/
def State.postRecord (s : State) (i : BitVec 6) (rec : List Byte) : State :=
  let f := s.fn i
  let n := f.evSize.toNat
  if n < 6 || 16 < n || (f.evHead - f.evTail).toNat == 2 ^ n then
    s.onFn i fun f => { f with evLost := if f.evLost == 0xFFFF then f.evLost else f.evLost + 1 }
  else
    let a := f.evBase.toNat / 64 * 64 + 64 * (f.evHead.toNat % 2 ^ n)
    let s := s.hostPut i a rec
    let s := s.onFn i fun f => { f with evHead := f.evHead + 1 }
    if f.evIrq then { s with host := { s.host with irqs := s.host.irqs ++ [(i, f.evVec)] } } else s

/-- The 64 bytes of an event record (Table 03.11). -/
def eventBytes (code die queue fn : Nat) (tick : Word) (payload : List Byte) : List Byte :=
  leBytes 8 (code % 2 ^ 16 + die % 4 * 2 ^ 16 + queue % 1024 * 2 ^ 32 + fn % 64 * 2 ^ 48) ++
    leBytes 8 tick.toNat ++ slice payload 0 48

/-- Post an event of a function; an event of a sealed VF is copied to the PF's ring without its payload (R104). -/
def State.postEvent (s : State) (fn : BitVec 6) (code : Nat) (d : DieId) (queue : Nat) (payload : List Byte) : State :=
  let tick := (s.dieAt d).tick
  let s' := s.postRecord fn (eventBytes code d.val queue fn.toNat tick payload)
  if s.sealed fn then s'.postRecord 0 (eventBytes code d.val queue fn.toNat tick []) else s'

/-- The work queue of a launch ID (R96). -/
def queueOf (lid : BitVec 32) : BitVec 10 := BitVec.ofNat 10 (lid.toNat / 2 ^ 22)

/-- Post a task event to the ring of the launching function (R104, R285). -/
def State.taskEvent (s : State) (t : Task) (code : Nat) (d : DieId) (payload : List Byte) : State :=
  s.postEvent t.fn code d (queueOf t.lid).toNat payload

/-! ### Power and wake hints -/

/-- Does the clock of a die run: the package has power and the die is out of reset (R17)? -/
def State.clockedAt (s : State) (d : DieId) : Bool := s.pkg.power && !(s.dieAt d).heldReset

/-- A write that comes through the management window takes effect while die 1 runs (R39); else it has none. -/
def State.onMgmt (s : State) (f : State → State) : State := if s.clockedAt 1 then f s else s

/-- A wake hint (R151) starts the hold of 200 µs, or starts it again; the low-power order is ignored from now on. -/
def State.wake (s : State) : State :=
  { s with pkg := { s.pkg with hold := true, holdAt := (s.dieAt 1).tick, inForce := false }
           sched := { s.sched with want := true } }

/-- Bytes that the specification leaves open: free values (log 8, 12). -/
def freeBytes (first n : Nat) : List Byte := (List.range n).map fun i => Config.freeByte (first + i)

/-! ### Completion of launches -/

/-- The 32 bytes of a completion record (Table 03.9). -/
def completionBytes (lid : BitVec 32) (outcome : Nat) (tick : Word) (scyrun detail : Nat) : List Byte :=
  leBytes 8 (lid.toNat + outcome % 256 * 2 ^ 32) ++ leBytes 8 tick.toNat ++ leBytes 8 scyrun ++
    leBytes 8 (detail % 2 ^ 32)

/-- DONE advances over the launches that have completed in LID order (R98): at most `n` of them. -/
def advanceDone : Nat → Queue → Queue
  | 0, q => q
  | n + 1, q =>
    if q.finished.contains q.done then
      advanceDone n { q with done := q.done + 1, finished := q.finished.filter fun x => x != q.done }
    else q

/-- The count of a launch within its queue that matches a sequence number, near DONE (R96, R98). -/
def lidCount (q : Queue) (lid : BitVec 32) : BitVec 32 :=
  let seq := lid.toNat % 2 ^ 22
  let base := q.done.toNat
  BitVec.ofNat 32 (base + (seq + 2 ^ 22 - base % 2 ^ 22) % 2 ^ 22)

/-- DETAIL of an outcome: a free value for the outcomes to which Table 03.10 gives none (log 8). -/
def State.detailOf (s : State) (outcome detail : Nat) : Nat :=
  if [0, 2, 3, 6, 8].contains outcome then (Config.freeWord s.fresh).toNat else detail

/-- DONE of a queue advances past a launch that has ended, once the earlier ones have; IRQ = 1 signals VECTOR (R98, Table 03.7). -/
def State.launchDone (s : State) (lid : BitVec 32) : State :=
  let q := queueOf lid
  let old := (s.queue q).done
  let s := s.onQueue q fun x => advanceDone (x.finished.length + 1) { x with finished := x.finished ++ [lidCount x lid] }
  let x := s.queue q
  if x.irq && x.done != old then { s with host := { s.host with irqs := s.host.irqs ++ [(x.func, x.vector)] } } else s

/-- A launch or transfer ends: its completion record is written, then DONE advances (R98, R103). -/
def State.complete (s : State) (lid : BitVec 32) (compl : Nat) (outcome scyrun detail : Nat) : State :=
  let bytes := completionBytes lid outcome (s.dieAt 1).tick scyrun (s.detailOf outcome detail)
  let s : State := { s with fresh := s.fresh + 1 }
  let s := if compl = 0 then s else s.hostPut (s.queue (queueOf lid)).func (compl / 32 * 32) bytes
  let s : State := { s with sched := { s.sched with want := true } }
  s.launchDone lid

/-- A context of a task as it stands on its die, or as its save keeps it, where `origin` holds FC (R281). -/
def State.taskCtx (s : State) (t : Task) (d : DieId) : Option (Ctx × Bool) :=
  match t.saved.find? fun y => y.die == d && (!t.timed || y.wall.isSome) with
  | some y => some (y.ctx, true)
  | none => (t.ctxs.find? fun p => p.1 == d).map fun p => ((s.dieAt d).ctxAt p.2, false)

/-- SCYRUN of a task that ends now (Table 03.9): FC of the lowest die of its fold, or the SCY elapsed on the die of its rank-0
context. -/
def State.scyRun (s : State) (t : Task) : Nat :=
  match (if t.timed then (foldDies t.fold).head? else (t.ctxs.head?).map (·.1)) with
  | none => 0
  | some d =>
    match s.taskCtx t d with
    | none => 0
    | some (c, saved) =>
      if !t.timed then ((s.dieAt d).scy - c.startScy).toNat
      else if saved then c.origin.toNat
      else c.fc (s.dieAt d).scy

/-- Zero a run of row units, data and side lanes (R368). -/
def Die.zeroUnits (d : Die) (u n : Nat) : Die :=
  { d with sp := d.sp.write (256 * u) (List.replicate (256 * n) 0),
           spSide := d.spSide.write (32 * u) (List.replicate (32 * n) 0),
           spEcc := d.spEcc.filter fun x => !decide (u ≤ x.1 ∧ x.1 < u + n) }

/-- Release the setting blocks of the live routes of a die (R368). -/
def Die.releaseBlocks (d : Die) : Die :=
  let d := d.wall.blocks.foldl (fun d b => d.zeroUnits b.2 328) d
  { d with wall := { d.wall with live := [], blocks := [], lastSolve := none } }

/-- A context whose task has ended: its registers stand as the task left them (R421), and it holds nothing else. -/
def Ctx.ended (x : Ctx) : Ctx :=
  { Ctx.reset with
    s := x.s, c := x.c, w := x.w, latches := x.latches, vxm := x.vxm, ports := x.ports, rot := x.rot, fflags := x.fflags,
    rmode := x.rmode, amax := x.amax, rngKey := x.rngKey, rngCtr := x.rngCtr, shape := x.shape, padShape := x.padShape }

/-- A context of a task that ends is free again; its copies end with it (log 3). -/
def Die.freeCtx (d : Die) (c : CtxId) : Die :=
  let lid := (d.ctxAt c).lid
  let d := if (d.ctxAt c).kind == .timed then
      { d.releaseBlocks with fills := d.fills.filter (fun f => f.lid != lid), committed := .replicate 8 0,
                             rx := .replicate 16 [] }
    else d
  let cur := if d.current == some c then none else d.current
  let chans := d.chans.map fun (ch : Chan) =>
    if ch.copies.any (·.lid == lid) then
      { ch with copies := ch.copies.filter (·.lid != lid), doneId := ch.nextId, err := false }
    else ch
  { d with current := cur, chans := chans }.onCtxAt c Ctx.ended

/-- Free every context that a task holds; its tokens stand as it left them (R421). -/
def State.freeTask (s : State) (t : Task) : State :=
  t.ctxs.foldl (fun s p => s.onDieAt p.1 fun d =>
    if (d.ctxAt p.2).kind != CtxKind.none && (d.ctxAt p.2).lid == t.lid then { d.freeCtx p.2 with tokens := (t.onDie p.1).tokens }
    else d) s

/-- Pens of a task are destroyed when it ends, and waiting receives of it go (R229). -/
def Paddock.dropOwner (p : Paddock) (lid : BitVec 32) : Paddock :=
  let gone := (p.pens.filter fun x => x.2.owner == lid).map (·.1)
  { p with
    pens := p.pens.filter fun x => x.2.owner != lid
    waits := p.waits.filter fun w => w.lid != lid
    harts := p.harts.map fun h => match h.serving with
      | some n => if gone.contains n then { h with serving := none } else h
      | none => h }

/-- The end of a task with an outcome and SCYRUN (Table 03.10): its completion is written and everything it holds is released. The
next head of its queue starts to age when it passes the steps itself (R132). -/
def State.endTaskAt (s : State) (t : Task) (outcome detail run : Nat) : State :=
  let s := s.complete t.lid (leAt t.record 56 8) outcome run detail
  let s := if t.st == .saved then s.onQueue (queueOf t.lid) fun q => { q with eligible := false } else s
  let s := s.freeTask t
  { s with sched := { s.sched with tasks := s.sched.tasks.filter fun x => x.lid != t.lid }
           paddock := s.paddock.dropOwner t.lid
           links := { s.links with trans := s.links.trans.filter fun x => x.lid != t.lid } }

/-- The end of a task with an outcome; SCYRUN as it stands now. -/
def State.endTask (s : State) (t : Task) (outcome detail : Nat) : State := s.endTaskAt t outcome detail (s.scyRun t)

end Sys2Proof.Machine
end

