-- ==== Sys2Proof/Machine/Ops.lean ====
section
/-! DEFINITION. Operations in flight (R156), operand latches (R293), groups (R288, R317), the end of a die's cycle (R17, R18,
R155), freeze debt (R168), the sideband's sending side (R49), and TAKING AN EXCEPTION (R265 to R276) with the return from
one. -/

namespace Sys2Proof.Machine

/-! ### Ports and latches -/


/-- Index of a latency port (Table 12.4). -/
def latIx : LatPort → Fin 12
  | .ia0q => 0 | .ia1q => 1 | .imq => 2 | .imq2 => 3 | .syr => 4 | .vxq => 5
  | .scq => 6 | .mxq => 7 | .g0 => 8 | .g1 => 9 | .nwq => 10 | .feq => 11

/-- Index of an operand latch. -/
def latchIx : Latch → Fin 22
  | .ia0a => 0 | .ia0b => 1 | .ia1a => 2 | .ima => 3 | .lsa => 4 | .lsm => 5 | .sya => 6 | .syb => 7
  | .sysri => 8 | .fxa => 9 | .fxb => 10 | .fxc => 11 | .vxa => 12 | .vxb => 13 | .vxc => 14 | .scf => 15
  | .mxa => 16 | .mxb => 17 | .nwa => 18 | .nwb => 19 | .fea => 20 | .feb => 21

/-- What an operand latch holds. -/
def Ctx.latch (c : Ctx) (l : Latch) : Option Latched := c.latches.get (latchIx l)

/-- Fill or empty an operand latch. -/
def Ctx.setLatch (c : Ctx) (l : Latch) (v : Option Latched) : Ctx :=
  { c with latches := c.latches.set (latchIx l).val v (latchIx l).isLt }

/-- Value of a latency port (R156). -/
def Ctx.port (c : Ctx) (p : LatPort) : Value := c.ports.get (latIx p)

/-! ### Operations in flight -/

/-- Effects of one count are applied special registers first (R249), then row writes (R182), then the rest in the order in
which they were triggered (R294). -/
def Effect.rank : Effect → Nat
  | .sreg .. => 0
  | .rows .. => 1
  | _ => 2

/-- Put an operation among those in flight, kept in the order in which they are applied. -/
def insertPend (p : Pending) : List Pending → List Pending
  | [] => [p]
  | q :: l =>
    if q.due < p.due || (q.due == p.due && decide (q.eff.rank ≤ p.eff.rank)) then q :: insertPend p l else p :: q :: l

/-- Start an operation whose effect comes at a count. -/
def Ctx.after (c : Ctx) (due : Nat) (e : Effect) : Ctx := { c with pend := insertPend ⟨due, e⟩ c.pend }

/-- Table loads, solves, pins and the writes of RMODE and of the supervisor registers take effect by an event of their own
(TABLE_LOAD_COMPLETE, SOLVE_COMPLETE, PIN_COMPLETE, RMODE_WRITE, INVAL_WRITE and the others). -/
def Effect.byEvent : Effect → Bool
  | .table .. | .live .. | .pin .. => true
  | .sreg r _ => r == 0x0041 || decide (0x1600 ≤ r)
  | _ => false

/-- AMAXk := max of itself and a magnitude, or its NaN flag (R259). -/
def amaxUpdate (old : Bool × BitVec 32) (nan : Bool) (mag : BitVec 32) : Bool × BitVec 32 :=
  (old.1 || nan, if old.2.toNat < mag.toNat then mag else old.2)

/-- A special register of the context takes a value; fields marked RO keep theirs (Table 13.9). -/
def Ctx.setSreg (c : Ctx) (reg : Nat) (v : Word) : Ctx :=
  match reg with
  | 0x0008 => { c with rot := { c.rot with lc := v } }
  | 0x0010 => if c.inh then { c with cswSlot := fld v 40 3, reent := none } else c
  | 0x0011 => if c.inh then { c with epc := fld v 0 16 } else c
  | 0x0012 => { c with tvec := BitVec.ofNat 16 v.toNat, tvecValid := bit v 63 }
  | 0x0040 => { c with fflags := BitVec.ofNat 5 v.toNat }
  | 0x0041 => { c with rmode := BitVec.ofNat 3 v.toNat }
  | 0x0044 => { c with amax := c.amax.set 0 (bit v 32, BitVec.ofNat 32 (fld v 0 31)) }
  | 0x0045 => { c with amax := c.amax.set 1 (bit v 32, BitVec.ofNat 32 (fld v 0 31)) }
  | 0x0046 => { c with amax := c.amax.set 2 (bit v 32, BitVec.ofNat 32 (fld v 0 31)) }
  | 0x0047 => { c with amax := c.amax.set 3 (bit v 32, BitVec.ofNat 32 (fld v 0 31)) }
  | 0x0048 => { c with rngKey := BitVec.ofNat 128 (setBits c.rngKey.toNat 0 64 v.toNat) }
  | 0x0049 => { c with rngKey := BitVec.ofNat 128 (setBits c.rngKey.toNat 64 64 v.toNat) }
  | 0x004A => { c with rngCtr := BitVec.ofNat 128 (setBits c.rngCtr.toNat 0 64 v.toNat) }
  | 0x004B => { c with rngCtr := BitVec.ofNat 128 (setBits c.rngCtr.toNat 64 64 v.toNat) }
  | _ => c

/-- A beat on accumulator row `k` of one cell, with the flags it raises (R253, R254). -/
def Cell.beat (c : Cell) (k : Nat) (zf int : Bool) (sums : List Exact) : Cell × Flags :=
  let row := c.acc.getD k []
  let rs : List Res := (row.zip sums).map fun p =>
    if int then ⟨beatI32 p.1.toNat zf p.2, 0⟩ else beatF32 p.1.toNat zf p.2
  ({ c with acc := setAt c.acc k (rs.map fun r => BitVec.ofNat 32 r.v) },
    rs.foldl (fun f r => f ||| r.f) 0)

/-- Write column `j` of a shadow buffer (R371, R372). -/
def Cell.push (c : Cell) (j : Nat) (tag : Tag) (sc : Bool) (r : Row) : Cell :=
  let b := c.shadow
  { c with shadow := { b with cols := b.cols.setIfInBounds j r, tags := b.tags.setIfInBounds j tag,
                              sc := BitVec.ofNat 16 (setBits b.sc.toNat j 1 sc.toNat) } }

/-- Write an index row of a shadow buffer (R373). -/
def Cell.pushIx (c : Cell) (q : Nat) (r : Row) : Cell :=
  { c with shadow := { c.shadow with ix := c.shadow.ix.setIfInBounds q r.data } }

/-- Change the matrix cells of a die. -/
def Die.onCells (d : Die) (f : List Cell → List Cell) : Die :=
  { d with wall := { d.wall with cells := f d.wall.cells } }

/-- Is the effect a write of a special register? -/
def Effect.isSreg : Effect → Bool
  | .sreg .. => true
  | _ => false

/-- What an operation of the free column does to its context beside its result: special registers, flags, AMAX. -/
def Ctx.takeEffect (c : Ctx) : Effect → Ctx
  | .sreg r v => c.setSreg r v
  | .flags f => { c with fflags := c.fflags ||| f }
  | .amax k nan mag => { c with amax := c.amax.set k.val (amaxUpdate (c.amax.get k) nan mag) k.isLt }
  | _ => c

/-- The operations of a context that an entry to a handler or a return from it finds under way and that `p` names take effect for the
groups that come next (R332, log 18). A write that takes effect by an event of its own does so at once. -/
def Ctx.takeUnderWay (c : Ctx) (p : Effect → Bool) : Ctx :=
  let now := c.pend.filter fun x => p x.eff
  let rest := c.pend.filter fun x => !p x.eff
  (now.filter fun x => !x.eff.byEvent).foldl (fun c x => c.takeEffect x.eff)
    { c with pend := (now.filter fun x => x.eff.byEvent).map (fun x => { x with due := 0 }) ++ rest }

/-- Apply an effect of a context whose count has come, with the flags it raises. -/
def Die.applyEffect (d : Die) (c : CtxId) (e : Effect) : Die × Flags :=
  match e with
  | .port p v => (d.onCtxAt c fun x => { x with ports := x.ports.set (latIx p).val v (latIx p).isLt }, 0)
  | .flags f => (d.onCtxAt c fun x => { x with fflags := x.fflags ||| f }, f)
  | .amax k nan mag =>
    (d.onCtxAt c fun x => { x with amax := x.amax.set k.val (amaxUpdate (x.amax.get k) nan mag) k.isLt }, 0)
  | .rows l => (d.writeRows l, 0)
  | .store bytes side => (d.writeBytes bytes side, 0)
  | .beat k zf int sums =>
    let rs := (d.wall.cells.zip sums).map fun p => p.1.beat k zf int p.2
    let f := rs.foldl (fun f r => f ||| r.2) 0
    ((d.onCells fun _ => rs.map (·.1)).onCtxAt c fun x => { x with fflags := x.fflags ||| f }, f)
  | .zero first count =>
    (d.onCells fun l => l.map fun x =>
      { x with acc := x.acc.zipIdx.map fun r =>
          if first ≤ r.2 ∧ r.2 < first + count then List.replicate 16 0 else r.1 }, 0)
  | .push j tag sc rows => (d.onCells fun l => (l.zip rows).map fun p => p.1.push j tag sc p.2, 0)
  | .pushIx q rows => (d.onCells fun l => (l.zip rows).map fun p => p.1.pushIx q p.2, 0)
  | .swap => (d.onCells fun l => l.map fun x => { x with active := x.shadow, shadow := x.active }, 0)
  | .sreg r v => (d.onCtxAt c fun x => x.setSreg r v, 0)
  | .vxm m => (d.onCtxAt c fun x => { x with vxm := m }, 0)
  | .table .. | .live .. | .pin .. => (d, 0)

/-- Apply effects in order; the flags are those raised at count `n` itself. -/
def Die.applyAll (c : CtxId) (n : Nat) : Die → List Pending → Die × Flags
  | d, [] => (d, 0)
  | d, p :: l =>
    let (d', f) := d.applyEffect c p.eff
    let (d'', f') := Die.applyAll c n d' l
    (d'', if p.due = n then f ||| f' else f')

/-- Apply every effect of a context that is due at count `n` (R156), with the flags raised at `n`. -/
def Die.settle (d : Die) (c : CtxId) (n : Nat) : Die × Flags :=
  let p := (d.ctxAt c).pend
  let now := p.filter fun x => decide (x.due ≤ n) && !x.eff.byEvent
  Die.applyAll c n
    (d.onCtxAt c fun x => { x with pend := p.filter fun x => !(decide (x.due ≤ n) && !x.eff.byEvent) }) now

/-- Is the effect a write of the scratchpad? -/
def Effect.isWrite : Effect → Bool
  | .rows _ | .store .. => true
  | _ => false

/-- Apply the writes of the scratchpad of a context that are due at count `n`, whether a group issues at it or not (R214). -/
def Die.settleWrites (d : Die) (c : CtxId) (n : Nat) : Die :=
  let p := (d.ctxAt c).pend
  let now := p.filter fun x => decide (x.due ≤ n) && x.eff.isWrite
  (Die.applyAll c n
    (d.onCtxAt c fun x => { x with pend := p.filter fun x => !(decide (x.due ≤ n) && x.eff.isWrite) }) now).1

/-- The writes of a die's timed context that are due at its count (R214). -/
def Die.timedWrites (d : Die) : Die :=
  match d.timedCid with
  | some c => if d.frozen || (d.ctxAt c).inh then d else d.settleWrites c ((d.ctxAt c).fc d.scy)
  | none => d

/-! ### Groups -/

/-- A bundle of the program store (R286). -/
def Die.bundle (d : Die) (b : Nat) : BitVec 256 := bundleOfBytes (d.pstore.readN (32 * b) 32)

/-- FC of the die's timed context holds in this cycle: it waits at ALIGN, runs its handler or is held (R155, R268). -/
def Ctx.fcHolds (c : Ctx) : Bool :=
  c.kind == .timed && (c.inh || (match c.status with | .aligning .. | .held => true | _ => false))

/-- Does FC of the die's timed context hold in this cycle? -/
def Die.fcHolds (d : Die) : Bool := allCtxs.any fun c => (d.ctxAt c).fcHolds

/-- The literal of a bundle (R287). -/
def Die.litOf (d : Die) (b : Nat) : Option Word := if isLiteral (d.bundle b) then some (literalOf (d.bundle b)) else none

/-- A group of the context whose slots are given, opened at its count with guards, routes and literal of its first bundle
(R286, R288, R292). A re-entered group reads its guards from GUARDS (R269). -/
def Die.groupOf (d : Die) (c : CtxId) (slots : List Slot) (nextBundle nextSlot : Nat) (nf : Flags)
    (na : List (Fin 4 × Bool × BitVec 32)) : GroupCtx :=
  let x := d.ctxAt c
  let b := d.bundle x.bundle
  let h := headerOf b
  { count := x.countAt d.scy, conds := if x.reentry then x.guards else x.c, g0 := h.g0, g1 := h.g1, sr := h.sr,
    lit := d.litOf x.bundle, left := slots, taken := [], popped := [], rows := [],
    nextBundle := nextBundle, nextSlot := nextSlot, trap := none, branched := false, nowFlags := nf,
    nowAmax := na, rfe := false, hold := d.fcHolds, tick := d.tick, rot := x.rot, rng := 0, yield := none, stall := 0,
    align := false, exit := false }

/-- Slots of a group from a place: through the next STOP, or none after it when it runs past CODE or over 8 moves
(R288). -/
def collect (fetch : Nat → BitVec 256) (codeEnd : Nat) : Nat → Nat → Nat → List Slot × Option (Nat × Nat)
  | 0, _, _ => ([], none)
  | n + 1, b, i =>
    let bd := fetch b
    let x : Slot := ⟨b, i, slotOf bd i⟩
    let last := lastSlot bd
    if (headerOf bd).stop.getLsbD i then ([x], some (if i < last then (b, i + 1) else (b + 1, 0)))
    else if i < last then
      let (l, p) := collect fetch codeEnd n b (i + 1)
      (x :: l, p)
    else if b + 1 < codeEnd then
      let (l, p) := collect fetch codeEnd n (b + 1) 0
      (x :: l, p)
    else ([x], none)

/-- A pad: every move all-zero, ending at the last move slot of its bundle (R288). -/
def isPad (fetch : Nat → BitVec 256) (l : List Slot) (next : Option (Nat × Nat)) : Bool :=
  match l.head?, l.getLast?, next with
  | some a, some z, some _ => a.bundle == z.bundle && z.slot == lastSlot (fetch z.bundle) && l.all fun x => x.word == 0
  | _, _, _ => false

/-- The place of the first group at or after a place that is no pad. -/
def skipPads (fetch : Nat → BitVec 256) (codeEnd : Nat) : Nat → Nat × Nat → Nat × Nat
  | 0, p => p
  | n + 1, p =>
    let (l, next) := collect fetch codeEnd 8 p.1 p.2
    match isPad fetch l next, next with
    | true, some q => if q.1 < codeEnd then skipPads fetch codeEnd n q else q
    | _, _ => p

/-- First bundle after the object's CODE. -/
def Ctx.codeEnd (c : Ctx) : Nat := c.base + c.codeLen

/-- Does the context stand inside its object's CODE? -/
def Ctx.inCode (c : Ctx) : Bool := decide (c.base ≤ c.bundle ∧ c.bundle < c.codeEnd)

/-- The bundle at which the groups from the context's place on must have ended: the end of CODE; past it, where issue goes on from a last
group that neither branches nor exits, the end of the program store (R288, log 51). -/
def Ctx.issueEnd (c : Ctx) : Nat := if c.inCode then c.codeEnd else 65536

/-- The rest of an interrupted group that stands at the context's place. -/
def Ctx.resumes (c : Ctx) : Option GroupCtx :=
  match c.reent with
  | some g =>
    match g.left with
    | y :: _ => if y.bundle = c.bundle ∧ y.slot = c.slot then some g else none
    | [] => none
  | none => none

/-- A context past the pads at its place, up to the end of CODE. -/
def Die.pastPads (d : Die) (x : Ctx) : Ctx :=
  let p := skipPads d.bundle x.issueEnd (x.issueEnd + 1 - x.bundle) (x.bundle, x.slot)
  { x with bundle := p.1, slot := p.2 }

/-- A context at the place of its next group: past the pads (R288), but where it re-enters a group. -/
def Die.atNext (d : Die) (x : Ctx) : Ctx := if x.resumes.isSome then x else d.pastPads (d.pastPads x)

/-- The place after a slot: the next slot of its bundle, or slot 0 of the next bundle (R288). -/
def Die.placeAfter (d : Die) (b slot : Nat) : Nat × Nat :=
  if slot < lastSlot (d.bundle b) then (b, slot + 1) else (b + 1, 0)

/-- The group of one slot at the context's place. -/
def Die.singleton (d : Die) (c : CtxId) : GroupCtx :=
  let x := d.ctxAt c
  let n := d.placeAfter x.bundle x.slot
  d.groupOf c [⟨x.bundle, x.slot, slotOf (d.bundle x.bundle) x.slot⟩] n.1 n.2 0 []

/-- The group that the issuing context is issuing; a group of one slot when none is open. -/
def State.group (s : State) : GroupCtx :=
  match s.ctx.grp with
  | some g => g
  | none => s.die.singleton s.die.issuing

/-- Change the open group. -/
def State.onGroup (s : State) (f : GroupCtx → GroupCtx) : State :=
  s.onCtx fun c => { c with grp := some (f s.group) }

/-- The loop registers that the open group of a context reads, else those that its next group will read. -/
def Ctx.rotNow (c : Ctx) : Rot := (c.grp.map GroupCtx.rot).getD c.rot

/-- What a context does after a group that has committed whole: it waits at exit (R161), yields (R160), stalls (R123), and aligns
before its next group (R164). -/
def Ctx.afterGroup (c : Ctx) (g : GroupCtx) : Ctx :=
  let c := if g.align then { c with alignAt := c.alignAt ++ [(g.count + 1, false)] } else c
  if g.exit then { c with status := .exiting, exitAt := some g.count }
  else if g.stall ≠ 0 then { c with status := .stalled (max (g.count + g.stall + 1) (g.yield.getD 0)) }
  else
    match g.yield with
    | some k => { c with status := .yielding k }
    | none => c

/-- A group has committed whole: the place of the next one, with the delay groups of a branch (R317), its count (R155, R268),
and the counter of its stochastic roundings (R262). -/
def Ctx.closeGroup (c : Ctx) (g : GroupCtx) : Ctx :=
  let c := { c.afterGroup g with grp := none, reent := none, reentry := false, bundle := g.nextBundle, slot := g.nextSlot,
                                 rngCtr := c.rngCtr + BitVec.ofNat 128 g.rng,
                                 hc := if c.inh then c.hc + 1 else c.hc,
                                 ic := if !c.inh && c.kind == .free then c.ic + 1 else c.ic }
  if g.branched then c
  else
    match c.delay with
    | none => c
    | some d =>
      if d.groups ≤ 1 then { c with bundle := d.target, slot := 0, delay := none }
      else { c with delay := some { d with groups := d.groups - 1 } }

/-! ### Trace buffer (R284) -/

/-- The buffer freezes: EN reads on, FROZEN is 1. -/
def Die.traceFreeze (d : Die) : Die := { d with trcCtl := setFld d.trcCtl 30 1 1, trcPost := none }

/-- Write one record at HEAD and advance it; a buffer that does not wrap freezes when it is full. -/
def Die.traceWrite (d : Die) (r : TraceRec) : Die :=
  let h := fld d.trcCtl 32 14
  let d := { d with trcBuf := (h, r) :: d.trcBuf.filter (fun x => x.1 != h), trcCtl := setFld d.trcCtl 32 14 (h + 1) }
  if !bit d.trcCtl 7 && fld d.trcCtl 32 14 == 0 then d.traceFreeze else d

/-- A trace record (Table 11.9). -/
def traceBits (tick : Word) (kind : Nat) (c : CtxId) (bundle slot : Nat) (a b : Word) : TraceRec :=
  BitVec.ofNat 256 (tick.toNat % 2 ^ 40 + kind * 2 ^ 40 + c.val * 2 ^ 44 + bundle % 2 ^ 16 * 2 ^ 64 +
    slot % 8 * 2 ^ 80 + a.toNat * 2 ^ 128 + b.toNat * 2 ^ 192)

/-- Record an occurrence at a bundle and slot: nothing when EN is 0, the kind is not selected or the buffer is frozen; after a
record the POST count runs down (R284, Table 11.8). -/
def Die.trace (d : Die) (kind : Nat) (c : CtxId) (place : Nat × Nat) (a b : Word) : Die :=
  if bit d.trcCtl 0 && bit d.trcCtl (1 + kind) && !bit d.trcCtl 30 then
    let d := d.traceWrite (traceBits d.tick kind c place.1 place.2 a b)
    if bit d.trcCtl 30 then d
    else
      match d.trcPost with
      | some n => if n ≤ 1 then d.traceFreeze else { d with trcPost := some (n - 1) }
      | none => d
  else d

/-- Is the context's task launched from a sealed VF? Its records are kept out of the trace (R284). -/
def State.sealedCtx (s : State) (c : Ctx) : Bool :=
  match s.task? c.lid with
  | some t => s.sealed t.fn
  | none => false

/-- The bundle and slot at which a context stands: its open group's slot, else the place of its next group. -/
def Ctx.place (c : Ctx) : Nat × Nat :=
  match c.grp with
  | some g => (g.left.head?.map fun x => (x.bundle, x.slot)).getD (c.bundle, c.slot)
  | none => (c.bundle, c.slot)

/-- Record an occurrence of the issuing context. -/
def State.trace (s : State) (kind : Nat) (a b : Word) : State :=
  if s.sealedCtx s.ctx then s else s.onDie fun d => d.trace kind d.issuing s.ctx.place a b

/-- The trace trigger fires: a marker is written, POST records follow, event 0x26 goes to the PF (R284). -/
def State.traceTrigger (s : State) (d : DieId) (c : CtxId) (place : Nat × Nat) : State :=
  let x := s.dieAt d
  if bit x.trcCtl 0 && !bit x.trcCtl 30 && x.trcPost.isNone then
    let x1 := x.traceWrite (traceBits x.tick 6 c place.1 place.2 0 0)
    let post := fld x.trcCtl 16 14
    let x2 := if bit x1.trcCtl 30 then x1 else if post = 0 then x1.traceFreeze else { x1 with trcPost := some post }
    (s.putDieAt d x2).postEvent 0 0x26 d 0 (leBytes 2 (fld x2.trcCtl 32 14) ++ [BitVec.ofNat 8 d.val])
  else s

/-- A context traps at a place: the record of the trap, and the trigger of TRIG 1 (Table 11.8). -/
def State.traceTrap (s : State) (d : DieId) (c : CtxId) (place : Nat × Nat) (code : BitVec 8) (reason : BitVec 4) (cnt : Nat) :
    State :=
  if s.sealedCtx ((s.dieAt d).ctxAt c) then s
  else
    let s := s.onDieAt d fun y =>
      y.trace 5 c place (BitVec.ofNat 64 (code.toNat + reason.toNat * 256)) (BitVec.ofNat 64 cnt)
    let x := s.dieAt d
    if fld x.trcCtl 8 3 == 1 && fld x.trcTrig 0 8 == code.toNat then s.traceTrigger d c place else s

/-! ### Freeze debt and the sideband's sending side -/

/-- A die detects a freeze cause: it pays from now on, and its event goes out in this tick (R49, R168). -/
def Die.raiseFreeze (d : Die) (cycles : Nat) (cause : BitVec 2) : Die :=
  { d with debt := d.debt + cycles, debtNow := d.debtNow ++ [(cause, cycles)] }

/-- Has the timed context of the task on a die started (R138)? -/
def Task.startedOn (t : Task) (d : DieId) : Bool := !(t.st == .starting || t.st == .resuming) || t.startOn.getLsbD d.val

/-- Put a message on the sideband: usable at both other dies 6 tk after this tick (R49). A die that comes before the sender in turn
stands a tick further on already (log 2). -/
def State.sendMsg (s : State) (d : DieId) (m : Msg) : State :=
  let ahead (o : DieId) : Word := if s.order.isEmpty && decide (o.val < d.val) then 5 else 6
  allDies.foldl (fun s o => if o = d then s else
    s.onDieAt o fun x => { x with inbox := x.inbox ++ [{ origin := d, usable := x.tick + ahead o, msg := m }] }) s

/-- Has the task a fold of more than one die? -/
def Task.multiDie (t : Task) : Bool := t.timed && decide (1 < (foldDies t.fold).length)

/-- What a die gives for its SCY in a message (R49, R163): FC once the timed context of a fold of several dies has started, and
whether it is that. -/
def State.scyField (s : State) (d : DieId) : Word × Bool :=
  let x := s.dieAt d
  match x.timedCid with
  | none => (x.scy, false)
  | some c =>
    let y := x.ctxAt c
    match s.task? y.lid with
    | none => (x.scy, false)
    | some t =>
      if t.multiDie && (t.st != .starting || t.startOn.getLsbD d.val) then (BitVec.ofNat 64 (y.fc x.scy), true)
      else (x.scy, false)

/-- The count message of a die (R49). -/
def State.countMsg (s : State) (d : DieId) : Msg :=
  let f := s.scyField d
  .count (s.dieAt d).tick f.1 f.2

/-- Has the timed context of a die, of a fold of several, started or restarted (R138, R170)? Of what a die detects before that it alone
pays (R168, R282). -/
def State.foldStarted (s : State) (d : DieId) : Bool :=
  match (s.dieAt d).timedCid.bind fun c => s.task? ((s.dieAt d).ctxAt c).lid with
  | some t => t.multiDie && t.startedOn d
  | none => false

/-- The freeze event of a tick: the sum of the cycles detected in it, the lowest cause (R49). What is detected while a stop's event goes
out first joins the event of the next tick (log 14). -/
def State.freezeMsg (s : State) (d : DieId) : Option Msg :=
  let x := s.dieAt d
  match x.debtNow with
  | [] => none
  | l =>
    let cause := (minOf (l.map fun x => x.1.toNat)).getD 0
    some (.freeze (BitVec.ofNat 2 cause) (x.eseq + 1) (BitVec.ofNat 16 ((l.map (·.2)).foldl (· + ·) 0))
      (BitVec.ofNat 48 (s.scyField d).1.toNat) (s.foldStarted d))

/-- The TICK of a partner as a die estimates it (R138). -/
def Die.estTick (d : Die) (o : DieId) : Nat :=
  let p := d.partners.get o
  p.lastTick.toNat + 6 + (d.tick - p.lastArr).toNat

/-- The TICK of a die as die 1, which runs the scheduler, takes it to be (R138). -/
def State.estTickOf (s : State) (d : DieId) : Nat := if d = 1 then (s.dieAt 1).tick.toNat else (s.dieAt 1).estTick d

/-- What a die sends at the end of a tick: a stop first, then a freeze event, then a count message that is owed (R49). -/
def State.sendSideband (s : State) (d : DieId) : State :=
  let x := s.dieAt d
  match x.msgQueue with
  | m :: l => (s.sendMsg d m).onDieAt d fun x => { x with msgQueue := l }
  | [] =>
    match s.freezeMsg d with
    | some m => (s.sendMsg d m).onDieAt d fun x => { x with debtNow := [], eseq := x.eseq + 1 }
    | none =>
      if x.countOwed then
        (s.sendMsg d (s.countMsg d)).onDieAt d fun x =>
          { x with countOwed := false, sentTick := some x.tick }
      else s

/-! ### Taking an exception (R265 to R276) -/

/-- A fault, trap, machine check or debug stop: code and reason of Table 11.1, and what FADDR receives. -/
structure Flt where
  code : BitVec 8
  reason : BitVec 4
  addr : Word
  deriving DecidableEq, Repr

/-- Delivery kinds (R265). -/
inductive FltKind where
  | precise | deferred | handler | machine | debug
  deriving DecidableEq, Repr

/-- The kind of a code (Table 11.1). -/
def fltKind (code : BitVec 8) : FltKind :=
  let n := code.toNat / 16
  if n ≤ 1 then .precise else if n = 2 then .deferred else if n = 3 then .handler
  else if n = 4 then .machine else .debug

/-- The fault of the lowest code, the first among equals (R271). -/
def lowestFlt : List Flt → Option Flt
  | [] => none
  | f :: l =>
    match lowestFlt l with
    | none => some f
    | some g => if g.code.toNat < f.code.toNat then some g else some f

/-- DETAIL of a completion with FAULT (R266). -/
def Cause.detail (c : Cause) : Nat :=
  c.code.toNat + c.reason.toNat * 2 ^ 8 + c.die.val * 2 ^ 12 + c.cid.val * 2 ^ 14 + c.slot % 8 * 2 ^ 16

/-- Payload of event 0x20 or 0x21 (Table 11.10); `sec` the secondary code and its die. -/
def Cause.payload (lid : BitVec 32) (c : Cause) (sec : BitVec 8 × Nat) : List Byte :=
  leBytes 4 lid.toNat ++ [c.code, BitVec.ofNat 8 (c.reason.toNat + 16 * c.cid.val), BitVec.ofNat 8 c.slot,
    BitVec.ofNat 8 c.queue] ++ leBytes 4 c.epc ++ leBytes 4 c.seq ++ leBytes 8 c.fcnt ++ leBytes 8 c.faddr.toNat ++
    [sec.1, BitVec.ofNat 8 sec.2]

/-- Payload of event 0x27 (Table 11.10). -/
def Cause.debugPayload (lid : BitVec 32) (c : Cause) : List Byte :=
  leBytes 4 lid.toNat ++ [BitVec.ofNat 8 c.reason.toNat, BitVec.ofNat 8 c.cid.val, 0, 0] ++ leBytes 4 c.epc ++
    [BitVec.ofNat 8 c.slot, 0, 0, 0] ++ leBytes 8 c.fcnt

/-- Does a cause come before another (R169): a primary one first, then the lower stop count, then the lower die? -/
def Cause.before (x c : Cause) : Bool :=
  if x.second != c.second then c.second else x.count < c.count || (x.count == c.count && decide (x.die.val < c.die.val))

/-- The primary of several causes (R169). -/
def primaryCause : List Cause → Option Cause
  | [] => none
  | c :: l =>
    match primaryCause l with
    | none => some c
    | some x => if x.before c then some x else some c

/-- Is a task being pre-empted, its save not complete (R143)? -/
def Task.victim (t : Task) : Bool := t.agreed.isSome || t.st == .saving

/-- A cause reaches the system (R270): event 0x20, 0x21 for a machine check, 0x27 for a debug stop; a machine check ends the task with
FAULT, and so does a fault that stops a victim before its save (Table 05.3). -/
def State.report (s : State) (t : Task) (c : Cause) (sec : BitVec 8 × Nat) (machine : Bool) : State :=
  if machine then (s.taskEvent t 0x21 c.die (c.payload t.lid sec)).endTask t 4 c.detail
  else if fltKind c.code == .debug then s.taskEvent t 0x27 c.die (c.debugPayload t.lid)
  else
    let s := s.taskEvent t 0x20 c.die (c.payload t.lid sec)
    if t.victim then s.endTask t 4 c.detail else s

/-- The secondary cause of an event: its code and die, or zeros. -/
def secondaryOf : List Cause → BitVec 8 × Nat
  | x :: _ => (x.code, x.die.val)
  | [] => (0, 0)

/-- The causes of the timed contexts of a task. -/
def State.foldCauses (s : State) (t : Task) : List Cause :=
  t.causes.filter fun c => ((s.dieAt c.die).ctxAt c.cid).kind == CtxKind.timed

/-- The causes of a fold's stop reach the system, once (R169, R270); a machine check among them ends the task. -/
def State.reportStop (s : State) (lid : BitVec 32) : State :=
  match s.task? lid with
  | none => s
  | some t =>
    let l := s.foldCauses t
    match primaryCause l with
    | none => s
    | some c =>
      let machine := l.any fun x => fltKind x.code == .machine
      if t.reported && !machine then s
      else
        let s := s.onTask t.lid fun t => { t with reported := true, primary := some (BitVec.ofNat 32 c.detail) }
        s.report t c (secondaryOf (l.filter fun x => x != c)) machine

/-- A context is held (R169, R270): it keeps what it was doing. -/
def Ctx.hold (c : Ctx) : Ctx :=
  match c.status with
  | .held => c
  | .retired => c
  | st => { c with status := .held, status0 := st }

/-- The rows of the skew buffers go into the snapshot, oldest first in each lane (R275). -/
def Die.drainLanes (d : Die) (c : CtxId) : Die :=
  let rows := d.rx.toList.zipIdx.flatMap fun p => p.1.map fun r => (BitVec.ofNat 4 p.2, r.1, r.2)
  { d with rx := .replicate 16 [] }.onCtxAt c fun x => { x with far := x.far ++ rows }

/-- A member of a fold stops (R169): it is frozen for the stop and its skew buffers are emptied. -/
def Die.stopMember (d : Die) (c : CtxId) : Die :=
  { d.drainLanes c with stopFrozen := true, stopHand := 64 }

/-- Free contexts of the task stop at their boundaries (R169 step 5). -/
def State.holdFree (s : State) (t : Task) : State :=
  t.ctxs.foldl (fun s p => s.onCtxAt p.1 p.2 fun c => if c.kind == .free then c.hold else c) s

/-- Is a member stopping: at its own stop, or at a partner's that waits for the end of a stall (R123, R169)? -/
def State.stopping (s : State) (t : Task) (d : DieId) : Bool := t.stopCounts.any (fun x => x.1 == d) || (s.dieAt d).stopDue

/-- A fold stop raised by die `d` at count `f` (R169): the member stops once, its partners hear of it, unless it is a partner's stop
that the member was to join. -/
def State.foldStop (s : State) (t : Task) (d : DieId) (c : CtxId) (f : Nat) (code : BitVec 8) : State :=
  if t.stopCounts.any (fun x => x.1 == d) then s
  else
    let joins := (s.dieAt d).stopDue
    let s := s.onDieAt d fun x => { x.stopMember c with stopDue := false }
    let s := s.onTask t.lid fun t => { t with stopCounts := t.stopCounts ++ [(d, f)] }
    let s := if t.multiDie && !joins then
        s.onDieAt d fun x => { x with msgQueue := x.msgQueue ++ [.stop (x.eseq + 1) (BitVec.ofNat 48 f) f code],
                                      eseq := x.eseq + 1 }
      else s
    s.holdFree t

/-- The handler of a context, when a fault of kind H goes to it (R267). -/
def Ctx.handler (c : Ctx) (code : BitVec 8) : Option Nat :=
  if fltKind code == .handler && c.tvecValid && !c.inh && decide (c.tvec.toNat < c.codeLen) then
    some (c.base + c.tvec.toNat)
  else none

/-- The fault registers of a context that is interrupted at its place (R267, Table 11.2). -/
def Ctx.setFaultRegs (c : Ctx) (f : Flt) (cnt : Nat) : Ctx :=
  { c with fcode := f.code, reason := f.reason, faddr := f.addr, fcnt := BitVec.ofNat 64 cnt, epc := c.bundle,
           cswSlot := c.slot, reentry := true }

/-- Entry to the handler (R268, R275): INH := 1, the context drains into its snapshot, issue continues at ENTRY. The special registers
that the group wrote are no operations in flight: the handler reads them (R332). -/
def Ctx.enterHandler (c : Ctx) (entry : Nat) : Ctx :=
  let c := c.takeUnderWay Effect.isSreg
  { c with snap := some { ports := c.ports, pend := c.pend.filter (fun p => !p.eff.isSreg), reent := c.reent, delay := c.delay,
                          status := c.status, late := [] },
           inh := true, hc := 0, pend := c.pend.filter (fun p => p.eff.isSreg), reent := none, delay := none, status := .run,
           reentry := false, bundle := entry, slot := 0 }

/-- A cause is delivered to the system (R270): the context is held, and a timed context stops its fold, whose report waits for the
handing over of the stop (R169). A cause that arises on a member that is stopping is a secondary one; of a fault in a handler, the
code that the handler serves is the secondary one (Table 11.7). -/
def State.toSystem (s : State) (t : Task) (c : Cause) (timed inh : Bool) (old : BitVec 8) : State :=
  let c := { c with second := timed && !inh && s.stopping t c.die }
  let more : List Cause := if inh then [{ c with code := old, second := true }] else []
  let s := s.onTask t.lid fun t => { t with causes := t.causes ++ c :: more, st := if t.st == .saving then .saving else .held,
                                            primary := t.primary <|> some (BitVec.ofNat 32 c.detail) }
  if timed then
    let s := s.foldStop t c.die c.cid c.count c.code
    if t.multiDie && (foldDies t.fold).any (fun o => (s.dieAt o).stopFrozen) then s else s.reportStop t.lid
  else s.report t c (secondaryOf more) (fltKind c.code == .machine)

/-- TAKING AN EXCEPTION (R265 to R275): the context `c` of die `d`, stopped at its place, takes a fault that arose at `place`. The
fault registers are written; a fault of kind H enters the handler, every other one goes to the system, which holds the context;
a timed context stops its fold. -/
def State.deliver (s : State) (d : DieId) (c : CtxId) (f : Flt) (cnt queue seq : Nat) (place : Option (Nat × Nat) := none) :
    State :=
  let x := (s.dieAt d).ctxAt c
  let count := x.baseCount (s.dieAt d).scy
  let s := s.onCtxAt d c fun x => x.setFaultRegs f cnt
  let s := s.traceTrap d c (place.getD x.place) f.code f.reason cnt
  match x.handler f.code with
  | some e =>
    let s := s.onCtxAt d c fun x => x.enterHandler e
    match s.task? x.lid with
    | some t => if x.kind == .timed then s.foldStop t d c count f.code else s
    | none => s
  | none =>
    let s := s.onCtxAt d c fun x => x.hold
    match s.task? x.lid with
    | none => s
    | some t =>
      s.toSystem t { die := d, cid := c, code := f.code, reason := f.reason, count := count, slot := x.slot, epc := x.bundle,
                     fcnt := cnt, faddr := f.addr, queue := queue, seq := seq, second := false } (x.kind == .timed) x.inh x.fcode

/-- Post the report of a fold whose stop is handed over (R169, R275). -/
def State.handOver (s : State) (d : DieId) : State :=
  match (s.dieAt d).timedCid with
  | none => s
  | some c =>
    let x := (s.dieAt d).ctxAt c
    match s.task? x.lid with
    | some t => if t.st == .held || t.st == .saving then s.reportStop x.lid else s
    | none => s

/-! ### The end of a cycle -/

/-- ORIGIN advances while FC holds in an unfrozen cycle, and a wait at ALIGN counts its ticks (R155, R164, R166). -/
def Ctx.holdTick (c : Ctx) : Ctx :=
  if c.kind == CtxKind.timed then
    { c with origin := c.origin + 1,
             status := match c.status with | .aligning n w => .aligning n (w + 1) | st => st }
  else c

/-- Does the timed context of the die wait at ALIGN? -/
def Die.aligning (d : Die) : Bool :=
  allCtxs.any fun c => (d.ctxAt c).kind == CtxKind.timed && (match (d.ctxAt c).status with | .aligning .. => true | _ => false)

/-- FC holds in an unfrozen cycle: ORIGIN advances, and a tick of waiting at ALIGN is added to the estimates (R155, R164). -/
def Die.holdFc (d : Die) : Die :=
  let d1 := d.mapCtxs Ctx.holdTick
  if d.aligning then { d1 with partners := d1.partners.map fun (p : Partner) => { p with waited := p.waited + 1 } } else d1

/-- The clock of a die at the end of a cycle (R17, R18, R155): TICK counts, SCY and a waiting context's ORIGIN count in
unfrozen cycles, a frozen cycle pays one cycle of debt. -/
def Die.clock (d : Die) (froze hold : Bool) : Die :=
  let d := { d with tick := d.tick + 1 }
  if froze then { d with debt := d.debt - 1 }
  else
    let d := if hold then d.holdFc else d
    { d with scy := d.scy + 1 }

/-- The die that takes the next cycle: the next one named in `order`, else the next in turn (log 2). -/
def State.nextTurn (s : State) : State :=
  match s.order with
  | d :: l => { s with turn := d, order := l }
  | [] => { s with turn := s.turn + 1 }

/-- The cycle of the current die ends: its clock, the sideband, a fold stop that is handed over. -/
def State.endCycle (s : State) (froze hold : Bool) : State :=
  let d := s.turn
  let s := s.sendSideband d
  let s := s.onDieAt d fun x => x.clock froze hold
  let x := s.dieAt d
  let s := if x.stopFrozen then
      if x.stopHand ≤ 1 then (s.onDieAt d fun x => { x with stopFrozen := false, stopHand := 0 }).handOver d
      else s.onDieAt d fun x => { x with stopHand := x.stopHand - 1 }
    else s
  s.nextTurn

/-! ### Slots, groups and interruptions of a group -/

/-- GUARDS at a group's boundary (Table 11.2): the condition bits, but those of an interrupted group that is still to go on. -/
def Ctx.noteGuards (c : Ctx) : Ctx := { c with guards := if c.reentry then c.guards else c.c }

/-- The interrupted group's place becomes the context's place: the slot that does not commit, or the slot after a
committed one, which may be the next group's first (R271). The counter has risen for the conversions of the slots that have committed
(R262, R272). -/
def Ctx.stopAt (c : Ctx) (g : GroupCtx) (next : Bool) : Ctx :=
  match (if next then g.left.drop 1 else g.left) with
  | x :: l =>
    { c with grp := none, reent := some { g with left := x :: l, rng := 0 }, bundle := x.bundle, slot := x.slot, guards := g.conds,
             rngCtr := c.rngCtr + BitVec.ofNat 128 g.rng }
  | [] => (c.closeGroup g).noteGuards

/-- Does the fault leave the group interrupted inside (so that its cycle is the stop tick of R169)? -/
def GroupCtx.inside (g : GroupCtx) (next : Bool) : Bool := !(if next then g.left.drop 1 else g.left).isEmpty

/-- A fault that a context takes at its next group boundary (R273). -/
def State.defer (s : State) (d : DieId) (c : CtxId) (x : Defer) : State :=
  s.onCtxAt d c fun y => { y with deferred := y.deferred ++ [x] }

/-- The FCNT of what the open group of the issuing context raises: its count, outside any handler (Table 11.2). -/
def State.groupCnt (s : State) : Nat := if s.ctx.inh then s.ctx.baseCount s.die.scy else s.group.count

/-- A fault that waits for a boundary of its context. -/
def Flt.deferred (f : Flt) (cnt : Nat) : Defer := ⟨f.code, f.reason, f.addr, cnt, 2, 0⟩

/-- What a group raised beside a fault that is taken waits for the context's next boundary (R283); what a handler could take waits for
the return of one that was entered meanwhile (log 18). -/
def Ctx.leaveLate (c : Ctx) (entered : Bool) (l : List Defer) : Ctx :=
  match c.snap with
  | some n =>
    if entered then
      { c with snap := some { n with late := n.late ++ l.filter fun x => fltKind x.code == .handler },
               deferred := c.deferred ++ l.filter fun x => fltKind x.code != .handler }
    else { c with deferred := c.deferred ++ l }
  | none => { c with deferred := c.deferred ++ l }

/-- What a group that has committed whole raises, in order (R271, R283, R383): the first is taken at its boundary, the others after it;
no trap and no step falls inside a stall, so after one all wait for its end (R123). -/
def State.raiseWhole (s : State) (stall : Bool) (d : DieId) (c : CtxId) (cnt : Nat) (place : Option (Nat × Nat)) : List Flt → State
  | [] => s
  | f :: l =>
    let wait (l : List Flt) : List Defer := l.map fun f => f.deferred cnt
    if stall then s.onCtxAt d c fun x => x.leaveLate false (wait (f :: l))
    else
      let inh := ((s.dieAt d).ctxAt c).inh
      let s := (s.onCtxAt d c fun x => ((s.dieAt d).atNext x).noteGuards).deliver d c f cnt 2 0 place
      s.onCtxAt d c fun x => x.leaveLate (!inh && x.inh) (wait l)

/-- The return from a handler (R269, R276): INH := 0, the ports and operations of the snapshot are back, issue re-enters
at EPC and SLOT, the re-entered group reads GUARDS. What the handler's groups wrote into special registers, and the flags and magnitudes
of its operations, stand for the groups after it (log 18). -/
def Ctx.rfe (c : Ctx) : Ctx :=
  match c.snap with
  | none => c
  | some n =>
    let c := c.takeUnderWay fun _ => true
    let same := match n.reent with
      | some g => match g.left with
        | x :: _ => decide (x.bundle = c.epc ∧ x.slot = c.cswSlot)
        | [] => false
      | none => false
    { c with inh := false, snap := none, ports := n.ports, pend := c.pend.filter (fun p => p.eff.isSreg) ++ n.pend, delay := n.delay,
             status := n.status, deferred := c.deferred ++ n.late, reent := if same then n.reent else none, bundle := c.epc, slot := c.cswSlot, reentry := true, grp := none }

/-- A held context goes on as it was (R270); its held entries are performed again, before the later ones of their queue (R273). -/
def Ctx.unhold (c : Ctx) : Ctx :=
  match c.status with
  | .held => { c with status := c.status0,
                      entries := c.entries.map fun (e : Entry) => { e with held := false, replay := e.replay || e.held } }
  | _ => c

/-- Far rows captured by the stop re-enter their skew buffers, in order (R276). -/
def Die.refillLanes (d : Die) (c : CtxId) : Die :=
  let far := (d.ctxAt c).far
  let rx := far.foldl (fun (rx : Vector (List (Row × BitVec 16)) 16) r =>
    rx.setIfInBounds r.1.toNat (rx.toList.getD r.1.toNat [] ++ [(r.2.1, r.2.2)])) d.rx
  { d with rx := rx }.onCtxAt c fun x => { x with far := [] }

/-- A count at which a context aligns when it goes on (R170). -/
def Ctx.alignTop (c : Ctx) (top : Nat) : Ctx := { c with alignAt := c.alignAt ++ [(top, true)] }

/-- Is a timed context of the task in its handler? -/
def State.inHandler (s : State) (t : Task) : Bool :=
  t.ctxs.any fun p => ((s.dieAt p.1).ctxAt p.2).kind == CtxKind.timed && ((s.dieAt p.1).ctxAt p.2).inh

/-- A stopped task goes on (R170, R270), but for the contexts that stay held, whose causes alone are left. A fold of several dies that has
stopped restarts at an agreed tick (FOLD_START) and aligns at the greatest stop count; every other task, and free contexts beside a fold
that runs, go on at once. -/
def State.resumeTask (s : State) (t : Task) (keep : List (DieId × CtxId)) : State :=
  let top := t.stopCounts.foldl (fun m x => max m x.2) 0
  let left := t.causes.filter fun c => keep.contains (c.die, c.cid)
  let s := s.onTask t.lid fun t => { t with causes := left, primary := (primaryCause left).map fun c => BitVec.ofNat 32 c.detail,
                                            reported := false, stopCounts := [],
                                            agreed := t.agreed.map fun a => if a.here.any (·.2) then a else { a with here := [] } }
  if t.multiDie && !t.stopCounts.isEmpty then
    let s := t.ctxs.foldl (fun s p => s.onCtxAt p.1 p.2 fun c =>
      if c.kind == .timed then c.hold.alignTop top else c) s
    s.onTask t.lid fun t =>
      { t with st := .resuming, startTick := BitVec.ofNat 64 (s.estTickOf t.refDie + 4096), startOn := 0, heldCtxs := keep }
  else
    let s := t.ctxs.foldl (fun s p =>
      if keep.contains p then s
      else (s.onCtxAt p.1 p.2 Ctx.unhold).onDieAt p.1 fun d =>
        if (d.ctxAt p.2).kind == .timed then d.refillLanes p.2 else d) s
    s.onTask t.lid fun t => { t with st := if keep.isEmpty then .running else .held }

/-- The contexts of a task that a delivery to the system holds (R270). -/
def State.systemHeld (s : State) (t : Task) : List (DieId × CtxId) :=
  t.ctxs.filter fun p => ((s.dieAt p.1).ctxAt p.2).status == .held && t.causes.any fun c => c.die == p.1 && c.cid == p.2

/-- The issuing context returns from its handler (R269). The fold of a timed context then resumes (R170), once every member has
returned and none is held for the system. -/
def State.rfe (s : State) : State :=
  let x := s.ctx
  let s := s.onCtx Ctx.rfe
  match s.task? x.lid with
  | some t =>
    if x.kind != .timed then s
    else if s.inHandler t || !(s.foldCauses t).isEmpty then s.onCtx Ctx.hold
    else s.resumeTask t (s.systemHeld t)
  | none => s

/-- Has every operation of a context reached its count (R161)? Of a timed context all of them: it waits with FC advancing, and at the
count itself each takes effect. -/
def Ctx.allReached (x : Ctx) (scy : Word) (frozen : Bool) : Bool :=
  if x.kind == CtxKind.timed then x.pend.isEmpty || (!frozen && !x.pend.any fun p => p.eff.byEvent || decide (x.fc scy < p.due))
  else !x.pend.any fun p => p.eff.byEvent && decide (p.due ≤ x.countAt scy)

/-- Has everything that a context issued come to its end? -/
def State.quiet (s : State) (d : DieId) (c : CtxId) : Bool :=
  let y := s.dieAt d
  let x := y.ctxAt c
  x.entries.isEmpty &&
    !y.fills.any (fun f => f.ctx == c && f.lid == x.lid) &&
    !allDies.any (fun o => (s.dieAt o).chans.toList.any fun ch => ch.copies.any fun p => p.lid == x.lid && p.die == d && p.ctx == c) &&
    x.allReached y.scy y.frozen

/-- A context that has issued exit with nothing under way retires at the count of its exit (R161, R406). -/
def State.noteExit (s : State) (d : DieId) (c : CtxId) : State :=
  let x := (s.dieAt d).ctxAt c
  if x.status == .exiting && s.quiet d c then s.onCtxAt d c fun y => { y with exitQuiet := true } else s

/-- What the open group raises beside the trap of its last slot: the status that it read (R383), a single step (R283). -/
def State.groupRaises (s : State) : List Flt :=
  (match s.group.trap with | some (code, reason, addr) => [⟨code, reason, addr⟩] | none => []) ++
    if s.ctx.stepDue then [⟨0x50, 1, 0⟩] else []

/-- A group has committed whole: a return from its handler, which resumes the fold unless the group raises something; what its last slot
and the group raise; then the end of the cycle. -/
def State.closeWhole (s : State) (trap : List Flt) (place : Option (Nat × Nat)) : State :=
  let g := s.group
  let d := s.turn
  let c := s.die.issuing
  let cnt := s.groupCnt
  let l := trap ++ s.groupRaises
  let s := s.onCtx fun x => { x.closeGroup g with stepDue := false }
  let s := if !g.rfe then s else if l.isEmpty then s.rfe else s.onCtx Ctx.rfe
  ((s.raiseWhole (g.stall != 0 && !g.rfe) d c cnt place l).noteExit d c).endCycle false g.hold

/-- A group has committed whole. -/
def State.endGroup (s : State) : State := s.closeWhole [] none

/-- The issuing context takes a fault at its group's current slot; `next` when the slot itself commits (br.trap, sy.brk,
R271), which may be the group's last. The cycle ends. -/
def State.takeFault (s : State) (f : Flt) (next : Bool) : State :=
  let g := s.group
  let place := s.ctx.place
  if g.inside next then
    let timed := s.ctx.timedNow
    let d := s.turn
    let c := s.die.issuing
    let cnt := s.groupCnt
    let s := s.onCtx fun x => { x.stopAt g next with stepDue := false }
    (s.deliver d c f cnt 2 0 (some place)).endCycle timed g.hold
  else s.closeWhole [f] (some place)

/-- A slot of the open group has been dealt with: the next slot, with the literal of its own bundle (R287), or the end of the
group. -/
def State.finishSlot (s : State) : State :=
  match s.group.left with
  | _ :: x :: l => s.onGroup fun g => { g with left := x :: l, lit := s.die.litOf x.bundle }
  | _ => s.endGroup

/-- The issuing context starts an operation of latency `l` (R156). -/
def State.after (s : State) (l : Nat) (e : Effect) : State := s.onCtx fun c => c.after (s.group.count + l) e

/-! ### Machine checks and faults at a boundary -/

/-- The context of a task that a machine check found on a die is delivered to: its timed context there, else its first
context there, else its first context. -/
def State.checkCtx (s : State) (t : Task) (d : DieId) : Option (DieId × CtxId) :=
  match t.ctxs.find? (fun p => p.1 == d && ((s.dieAt p.1).ctxAt p.2).kind == .timed) with
  | some p => some p
  | none => match t.ctxs.find? (fun p => p.1 == d) with
    | some p => some p
    | none => t.ctxs.head?

/-- A machine check on a task (R274): it is taken at the next group boundary, at the count of the group in which the
check is detected. -/
def State.checkTask (s : State) (t : Task) (d : DieId) (code : BitVec 8) (addr : Word) : State :=
  if t.st == .saved then
    let c : Cause := { die := d, cid := 0, code := code, reason := 0, count := 0, slot := 0, epc := 0, fcnt := 0,
                       faddr := addr, queue := 2, seq := 0, second := false }
    (s.taskEvent t 0x21 d (c.payload t.lid (0, 0))).endTask t 4 c.detail
  else
  match s.checkCtx t d with
  | some p => s.defer p.1 p.2 ⟨code, 0, addr, ((s.dieAt p.1).ctxAt p.2).baseCount (s.dieAt p.1).scy, 2, 0⟩
  | none => s

/-- A machine check on the fold of a die: on the task of its timed context, else event 0x24 (R274). -/
def State.checkFold (s : State) (d : DieId) (code : BitVec 8) : State :=
  match (s.dieAt d).timedCid with
  | some c =>
    match s.task? ((s.dieAt d).ctxAt c).lid with
    | some t => s.checkTask t d code 0
    | none => s
  | none => s.postEvent 0 0x24 d 0 (leBytes 8 0 ++ [code])

end Sys2Proof.Machine
end

