-- ==== Sys2Proof/Machine/Operands.lean ====
section
/-! DEFINITION. Operands of a move: guards (R292), rotating files (R321), source ports (R294, Table 12.4), conversion between
kinds (Table 12.3), operand latches (R293), what a context kind may touch (Table 06.2), and the two ways a slot runs: a
trigger (`runTrig`) and a move to any other destination (`runMove`). -/

namespace Sys2Proof.Machine

/-! ### Registers -/

/-- The physical register of a name 16 + i of a rotating file (R321). -/
def rotated (rsz rofs n : Nat) : Nat :=
  if n < 16 then n
  else if n - 16 < rsz then 16 + (n - 16 + rsz - rofs) % rsz
  else n

/-- The physical scalar register of a name (R321). -/
def Ctx.physS (c : Ctx) (r : BitVec 5) : Nat :=
  if c.rotNow.rfile.getLsbD 0 then rotated c.rotNow.rsz c.rotNow.rofs r.toNat else r.toNat

/-- The physical tile register of a name; only the timed context rotates tiles (R154, R321). -/
def Ctx.physT (c : Ctx) (r : BitVec 5) : Nat :=
  if c.rotNow.rfile.getLsbD 1 && c.kind == .timed then rotated c.rotNow.rsz c.rotNow.rofs r.toNat else r.toNat

/-- A scalar register; s0 reads 0 (R297, Table 12.4). -/
def Ctx.readS (c : Ctx) (r : BitVec 5) : Word := if r = 0 then 0 else c.s.toList.getD (c.physS r) 0

/-- Write a scalar register; a write to s0 is discarded (R297). -/
def Ctx.writeS (c : Ctx) (r : BitVec 5) (v : Word) : Ctx :=
  if r = 0 then c else { c with s := c.s.setIfInBounds (c.physS r) v }

/-- A condition bit; c0 reads 1 (Table 12.4). -/
def Ctx.readC (c : Ctx) (i : BitVec 3) : Bool := i == 0 || c.c.getLsbD i.toNat

/-- Write a condition bit; a write to c0 is discarded (R297). -/
def Ctx.writeC (c : Ctx) (i : BitVec 3) (v : Bool) : Ctx :=
  if i = 0 then c else { c with c := BitVec.ofNat 8 (setBits c.c.toNat i.toNat 1 v.toNat) }

/-- A mask register; m0 reads all ones (R296). -/
def Wall.readM (w : Wall) (i : BitVec 3) : Mask := if i = 0 then Mask.ones else w.m.get ⟨i.toNat, i.isLt⟩

/-- Write a mask register; a write to m0 is discarded (R297). -/
def Wall.writeM (w : Wall) (i : BitVec 3) (v : Mask) : Wall :=
  if i = 0 then w else { w with m := w.m.set i.toNat v i.isLt }

/-! ### Kinds and conversions -/

/-- The kind of a value (R295). -/
def kindOf : Value → SrcKind
  | .s _ => .s
  | .w _ => .w
  | .t _ => .t
  | .m _ => .m

/-- A value as a scalar. -/
def valWord : Value → Word
  | .s v => v
  | _ => 0

/-- A value as a row (Table 12.3). -/
def valRow : Value → Row
  | .s v => rowOfWord v
  | .w r => r
  | _ => Row.zero

/-- The mask row as bytes 0xFF and 0x00 (Table 12.3). -/
def maskBytes (b : BitVec 256) : Row :=
  mkRow ((List.range 256).map fun j => if b.getLsbD j then 0xFF else 0) []

/-- A value as a tile (Table 12.3). -/
def valTile : Value → Tile
  | .s v => List.replicate 256 (rowOfWord v)
  | .w r => List.replicate 256 r
  | .t t => t
  | .m m => m.map maskBytes

/-- Bit j of a mask row is 1 where byte j of the row is not 0 (Table 12.3). -/
def rowMask (r : Row) : BitVec 256 :=
  BitVec.ofNat 256 ((rowBytes r).zipIdx.foldl (fun n p => if p.1 = 0 then n else n + 2 ^ p.2) 0)

/-- A value as a mask (Table 12.3). -/
def valMask : Value → Mask
  | .m m => m
  | .t t => t.map rowMask
  | _ => Mask.zero

/-! ### Guards, latches and sources -/

/-- Does the move take effect (R292)? -/
def State.takes (s : State) (g : Guard) : Bool := (g.cond == 0 || s.group.conds.getLsbD g.cond.toNat) != g.inv

/-- The guard of a slot word. -/
def slotGuard (w : BitVec 24) : Guard := (moveFields w).guard

/-- Is the source port denied to a context issuing under this column of Table 06.2? -/
def srcDenied (timed : Bool) : Src → Bool
  | .t _ => !timed
  | .m _ => !timed
  | .lat p => match p with
    | .vxq | .scq | .mxq | .g0 | .g1 | .nwq | .feq => !timed
    | _ => false
  | .queue _ => timed
  | .stream _ => timed
  | _ => false

/-- Is the latch denied to a context issuing under this column of Table 06.2? -/
def latchDenied (timed : Bool) : Latch → Bool
  | .fxa | .fxb | .fxc => timed
  | .vxa | .vxb | .vxc | .scf | .mxa | .mxb | .nwa | .nwb | .fea | .feb => !timed
  | _ => false

/-- Is the destination denied to a context issuing under this column of Table 06.2? -/
def dstDenied (timed : Bool) : Dst → Bool
  | .t _ | .m _ | .vxm | .vxrm => !timed
  | .stream _ => timed
  | .latch l => latchDenied timed l
  | _ => false

/-- Is the trigger port denied to a context issuing under this column of Table 06.2? -/
def trigDenied (timed : Bool) (p : BitVec 9) : Bool :=
  let n := p.toNat
  if timed then
    (0x091 ≤ n && n ≤ 0x097) || n == 0x09C || (0x0A0 ≤ n && n ≤ 0x0B7) || n == 0x0BC ||
      (0x0C0 ≤ n && n ≤ 0x0FF) || n == 0x1E9
  else n == 0x08C || n == 0x08D || (0x100 ≤ n && n ≤ 0x1E5)

/-- The illegal-encoding, context-kind, illegal-operand and missed-operand faults (Table 11.1). -/
abbrev fltPort : Flt := ⟨0x01, 3, 0⟩
abbrev fltKindCtx : Flt := ⟨0x05, 0, 0⟩
abbrev fltOperand : Flt := ⟨0x07, 0, 0⟩
abbrev fltMissed : Flt := ⟨0x10, 0, 0⟩
abbrev fltPrivilege : Flt := ⟨0x04, 0, 0⟩
abbrev fltFull : Flt := ⟨0x13, 4, 0⟩

/-- The task of the issuing context. -/
def State.curTask (s : State) : Option Task := s.task? s.ctx.lid

/-- The address space and key slot of the issuing context's task. -/
def State.curAsid (s : State) : BitVec 8 := (s.curTask.map (·.asid)).getD 0

/-- OPTICS of CAPS, and the optics in service (R5, R38). -/
def State.opticsUp (s : State) : Bool := bit s.pkg.caps 2 && s.pkg.optUp

/-- May the issuing context's task use stream `n` of its die (R396)? -/
def State.streamUsable (s : State) (n : BitVec 4) : Bool :=
  let c := (s.die.streams.get ⟨n.toNat, n.isLt⟩).cfg
  bit c 16 && fld c 17 8 == s.curAsid.toNat

/-- Faults of naming a stream: absent optics (R5, R38), a stream not usable by the task (R396). -/
def State.streamFaults (s : State) (n : BitVec 4) : List Flt :=
  if !s.opticsUp then [⟨0x06, 3, 0⟩] else if !s.streamUsable n then [fltOperand] else []

/-- A queue port's unread results, oldest first (R157). -/
def Ctx.results (c : Ctx) : QPort → List QRes
  | .lsq => c.lsq
  | .syq => c.syq
  | .fxq => c.fxq
  | .fxst => c.fxst

/-- Replace a queue port's unread results. -/
def Ctx.setResults (c : Ctx) (p : QPort) (l : List QRes) : Ctx :=
  match p with
  | .lsq => { c with lsq := l }
  | .syq => { c with syq := l }
  | .fxq => { c with fxq := l }
  | .fxst => { c with fxst := l }

/-- A packet with every field 0 (Table 16.9). -/
def packet0 : Packet :=
  { op := 0, src := 0, dst := 0, die := 0, vc := 0, rtag := 0, taddr := 0, caddr := 0, length := 0, key := 0,
    aop := 0, status := 0, reqm := 0, group := 0, reqctx := 0, operand := 0, operand2 := 0, seq := 0, data := [],
    checked := false, work := [], got := [] }

/-- Hand a packet to the fabric: a packet for this package passes through its own routers (R385). -/
def State.emit (s : State) (p : Packet) : State :=
  if p.dst = s.links.memberSet then { s with links := { s.links with inbox := s.links.inbox ++ [p] } }
  else { s with links := { s.links with outbox := s.links.outbox ++ [p] } }

/-- Change a stream of the current die. -/
def Die.onStream (d : Die) (n : BitVec 4) (f : Stream → Stream) : Die :=
  { d with streams := d.streams.set n.toNat (f (d.streams.get ⟨n.toNat, n.isLt⟩)) n.isLt }

/-- The requester's context in a header (Table 16.9). -/
def reqCtx (d : DieId) (c : CtxId) : BitVec 16 := BitVec.ofNat 16 (4 * d.val + c.val)

/-- Return a credit of a stream to its peer for a row that a context popped (R397); the own stream's number travels in OPERAND
(log 54). -/
def State.returnCredit (s : State) (d : DieId) (c : CtxId) (n : BitVec 4) : State :=
  let k := c
  let c := ((s.dieAt d).streams.get ⟨n.toNat, n.isLt⟩).cfg
  s.emit { packet0 with op := 0x15, src := s.links.memberSet, dst := BitVec.ofNat 7 (fld c 0 7),
                        die := BitVec.ofNat 2 (fld c 11 2), vc := BitVec.ofNat 3 (fld c 13 3),
                        taddr := BitVec.ofNat 64 (fld c 7 4), reqm := s.links.memberSet, reqctx := reqCtx d k,
                        operand := BitVec.ofNat 64 n.toNat }

/-- Pop the oldest row of a stream, with a side lane of 0; none while the buffer is empty (R397). -/
def State.popStream (s : State) (n : BitVec 4) : Option (Row × State) :=
  match (s.die.streams.get ⟨n.toNat, n.isLt⟩).buf with
  | [] => none
  | b :: l => some (⟨b, 0⟩, (s.onDie fun d => d.onStream n fun x => { x with buf := l }).returnCredit s.turn s.die.issuing n)

/-- What a source gives: its value and the state after it is read; none while the group would wait for it (R145). Moves of
one group that read one queue or stream port receive the same single result (R294). -/
def State.readSrc (s : State) (src : Src) : Option (Value × State) :=
  let c := s.ctx
  match src with
  | .imm v => some (.s (BitVec.signExtend 64 v), s)
  | .s r => some (.s (c.readS r), s)
  | .t r => some (.t (s.die.wall.t.toList.getD (c.physT r) Tile.zero), s)
  | .lat p => some (c.port p, s)
  | .c i => some (.s (if c.readC i then 1 else 0), s)
  | .m i => some (.m (s.die.wall.readM i), s)
  | .w i => some (.w (c.w.get ⟨i.toNat, i.isLt⟩), s)
  | .rdtick => some (.s s.group.tick, s)
  | .lit => some (.s (s.group.lit.getD 0), s)
  | .queue p =>
    match s.group.popped.lookup p with
    | some v => some (v, s)
    | none =>
      match c.results p with
      | [] => none
      | r :: l =>
        match r.val with
        | none => none
        | some v =>
          let s1 := s.onCtx fun c => c.setResults p l
          some (v, s1.onGroup fun g =>
            { g with popped := (p, v) :: g.popped
                     trap := match r.trap with
                       | some (st, a) => some (0x32, st, a)
                       | none => g.trap })
  | .stream n =>
    match s.group.rows.lookup n with
    | some r => some (.w r, s)
    | none =>
      match s.popStream n with
      | none => none
      | some (r, s1) => some (.w r, s1.onGroup fun g => { g with rows := (n, r) :: g.rows })

/-- Faults of naming a source (R154, R396). -/
def State.srcFaults (s : State) (src : Src) : List Flt :=
  (if srcDenied s.ctx.timedNow src then [fltKindCtx] else []) ++
    (match src with | .stream n => s.streamFaults n | _ => [])

/-- The move of a later slot of the group that writes a latch, when its guard takes effect: its source, its hold bit and its
bundle (R293). -/
def State.laterWrite (s : State) (l : Latch) : Option (Src × Bool × Nat) :=
  (s.group.left.drop 1).findSome? fun x =>
    let f := moveFields x.word
    if decodeDst f.dst == some (Dst.latch l) && s.takes f.guard then
      (decodeSrc f.imm f.src).map fun src => (src, f.hold, x.bundle)
    else none

/-- What a source gives to a move of a bundle: `lit` is that bundle's literal (R287). -/
def State.readSrcOf (s : State) (bundle : Nat) (src : Src) : Option (Value × State) :=
  if src = .lit then some (.s ((s.die.litOf bundle).getD 0), s) else s.readSrc src

/-- The value a trigger finds in a latch, and the state after the trigger has read it: the value written by a move of its
own group wherever that stands, else the latch's (R293). None when it is empty. -/
def State.takeLatch (s : State) (l : Latch) : Option (Value × State) :=
  match s.laterWrite l with
  | some (src, _, b) =>
    match s.readSrcOf b src with
    | some (v, s1) => some (v, s1.onGroup fun g => { g with taken := l :: g.taken })
    | none => none
  | none =>
    match s.ctx.latch l with
    | none => none
    | some x => some (x.val, if x.hold then s else s.onCtx fun c => c.setLatch l none)

/-- The values of several latches in turn. -/
def State.takeLatches : State → List Latch → List (Latch × Option Value) × State
  | s, [] => ([], s)
  | s, l :: ls =>
    match s.takeLatch l with
    | some (v, s1) => let (vs, s2) := State.takeLatches s1 ls; ((l, some v) :: vs, s2)
    | none => let (vs, s2) := State.takeLatches s ls; ((l, none) :: vs, s2)

/-- Is a latch given a value of a kind that it does not take, by a later move of the group (R293, R295)? -/
def latchMismatch (x : Latch × Option Value) : Bool :=
  match x.2 with
  | some v => !legalMove (kindOf v) (Dst.latch x.1).kind
  | none => false

/-! ### Running a slot -/

/-- What a trigger works on: the state with its operands read and its latches consumed, the trigger value, and the value of
each latch it names. -/
structure Args where
  st : State
  v : Value
  ops : List (Latch × Option Value)

/-- The trigger value as a scalar. -/
def Args.word (a : Args) : Word := valWord a.v

/-- The trigger value as a tile. -/
def Args.tile (a : Args) : Tile := valTile a.v

/-- The value of a latch, when the trigger found one. -/
def Args.op? (a : Args) (l : Latch) : Option Value := (a.ops.lookup l).join

/-- The value of an S latch. -/
def Args.op (a : Args) (l : Latch) : Word := ((a.op? l).map valWord).getD 0

/-- The value of a T latch. -/
def Args.opT (a : Args) (l : Latch) : Tile := ((a.op? l).map valTile).getD Tile.zero

/-- Faults that depend on the value of a latch; none while it is empty. -/
def Args.ifOp (a : Args) (l : Latch) (f : Word → List Flt) : List Flt :=
  match a.op? l with
  | some v => f (valWord v)
  | none => []

/-- The group is open: every slot is run inside one. -/
def State.openGroup (s : State) : State :=
  match s.ctx.grp with
  | some _ => s
  | none => s.onCtx fun c => { c with grp := some s.group }

/-- The group waits, and nothing issues in this cycle (R145); a group whose wait on a stream has expired takes STREAMTIMEOUT
at the slot that waits (R398). -/
def State.waitCycle (s : State) : State :=
  match s.ctx.blocked with
  | some (n, _, true) => s.takeFault ⟨0x33, n, 0⟩ false
  | _ => s.endCycle false s.group.hold

/-- Run a move to a trigger port up to its effect: when its guard takes effect, the operands are read and the fault of the
lowest code is taken (R271), or the operation starts. `need` are the latches it reads, `chk` its own faults, `waits` what
holds its group back (R145), `act` what it does, the end of the slot included. -/
def runTrigTo (g : Guard) (src : Src) (port : BitVec 9) (need : List Latch) (chk : Args → List Flt)
    (waits : Args → Bool) (act : Args → State) (s : State) : State :=
  let s := s.openGroup
  if !s.takes g then s.finishSlot
  else
    let kind := trigKind port
    let early := (if legalMove src.kind kind then [] else [fltPort]) ++
      (if trigDenied s.ctx.timedNow port then [fltKindCtx] else []) ++ s.srcFaults src
    match s.readSrc src with
    | none =>
      match lowestFlt early with
      | some f => s.takeFault f false
      | none => s.waitCycle
    | some (v, s1) =>
      let (ops, s2) := s1.takeLatches need
      let a : Args := ⟨s2, v, ops⟩
      let flts := early ++ (if legalMove (kindOf v) kind then [] else [fltOperand]) ++
        (if ops.any (fun x => x.2.isNone) then [fltMissed] else []) ++
        (if ops.any latchMismatch then [fltOperand] else []) ++ chk a
      match lowestFlt flts with
      | some f => s.takeFault f false
      | none => if waits a then s.waitCycle else act a

/-- Run a move to a trigger port whose slot commits and lets its group go on. -/
def runTrig (g : Guard) (src : Src) (port : BitVec 9) (need : List Latch) (chk : Args → List Flt)
    (waits : Args → Bool) (act : Args → State) (s : State) : State :=
  runTrigTo g src port need chk waits (fun a => (act a).finishSlot) s

/-- No faults of its own. -/
def noFaults (_ : Args) : List Flt := []

/-- Never waits. -/
def noWait (_ : Args) : Bool := false

/-- Faults of a destination that is no trigger: the context kind (R154), a stream (R396), a rounding mode of 5..7
(R247). -/
def State.dstFaults (s : State) (dst : Dst) (v : Value) : List Flt :=
  (if dstDenied s.ctx.timedNow dst then [fltKindCtx] else []) ++
    (match dst with
     | .stream n => s.streamFaults n
     | .vxrm => if 5 ≤ fld (valWord v) 0 3 then [fltOperand] else []
     | _ => [])

/-- Push a row onto a stream: one credit is spent and one packet of OP 0x14 is sent (R397); the own stream's number travels in
OPERAND (log 54). -/
def State.pushStream (s : State) (n : BitVec 4) (r : Row) : State :=
  let c := (s.die.streams.get ⟨n.toNat, n.isLt⟩).cfg
  let s1 := s.onDie fun d => d.onStream n fun x => { x with credits := x.credits - 1 }
  s1.emit { packet0 with op := 0x14, src := s.links.memberSet, dst := BitVec.ofNat 7 (fld c 0 7),
                         die := BitVec.ofNat 2 (fld c 11 2), vc := BitVec.ofNat 3 (fld c 13 3),
                         taddr := BitVec.ofNat 64 (fld c 7 4), length := 256, reqm := s.links.memberSet,
                         reqctx := reqCtx s.turn s.die.issuing, operand := BitVec.ofNat 64 n.toNat, data := leBytes 256 r.data.toNat }

/-- Has a stream no send credit (R397)? -/
def State.noCredit (s : State) (n : BitVec 4) : Bool := (s.die.streams.get ⟨n.toNat, n.isLt⟩).credits == 0

/-- A latch takes a value when its slot commits; a value that a trigger of its group has consumed leaves it as that read
left it (R293). -/
def Ctx.fillLatch (c : Ctx) (l : Latch) (v : Value) (hold taken : Bool) : Ctx :=
  c.setLatch l (if taken && !hold then none else some ⟨v, hold⟩)

/-- The effect of a move to a destination that is no trigger (R293, R297, Table 12.3). A sticky port's new value governs
the groups after this one (R247, R293). -/
def State.writeDst (s : State) (dst : Dst) (h : Bool) (v : Value) : State :=
  match dst with
  | .s r => s.onCtx fun c => c.writeS r (valWord v)
  | .t r => s.onDie fun d =>
      { d with wall := { d.wall with t := d.wall.t.setIfInBounds ((d.ctxAt d.issuing).physT r) (valTile v) } }
  | .latch l => s.onCtx fun c => c.fillLatch l v h (s.group.taken.contains l)
  | .vxm => s.after 1 (.vxm (valMask v))
  | .vxrm => s.after 1 (.sreg 0x41 (BitVec.ofNat 64 (fld (valWord v) 0 3)))
  | .stream n => s.pushStream n (valRow v)
  | .c i => s.onCtx fun c => c.writeC i ((valWord v) != 0)
  | .m i => (s.onDie fun d => { d with wall := d.wall.writeM i (valMask v) }).trace 1 (BitVec.ofNat 64 i.toNat) 0
  | .w i => s.onCtx fun c => { c with w := c.w.set i.toNat (valRow v) i.isLt }

/-- Does a move wait for send credit (R397)? -/
def State.dstWaits (s : State) (dst : Dst) : Bool :=
  match dst with
  | .stream n => s.noCredit n
  | _ => false

/-- Does the value that a source gave fit a destination (R295, Table 12.3)? A queue port's scalar fills no row (Table 16.11). -/
def fits (src : Src) (v : Value) (dst : DstKind) : Bool :=
  legalMove (kindOf v) dst && !(src.kind == .q && kindOf v == .s && dst == .wReg)

/-- May H = 1 stand on a move to this destination (R293)? -/
def holdLegal (h : Bool) (dst : Dst) : Bool := !h || dst.takesHold

/-- Run a move to a destination that is no trigger. -/
def runMove (g : Guard) (h : Bool) (src : Src) (dst : Dst) (s : State) : State :=
  let s := s.openGroup
  if !s.takes g then s.finishSlot
  else
    let early := (if legalMove src.kind dst.kind && holdLegal h dst then [] else [fltPort]) ++ s.srcFaults src
    match s.readSrc src with
    | none =>
      match lowestFlt (early ++ s.dstFaults dst (.s 0)) with
      | some f => s.takeFault f false
      | none => s.waitCycle
    | some (v, s1) =>
      let flts := early ++ (if fits src v dst.kind then [] else [fltOperand]) ++ s1.dstFaults dst v
      match lowestFlt flts with
      | some f => s.takeFault f false
      | none => if s1.dstWaits dst then s.waitCycle else (s1.writeDst dst h v).finishSlot

end Sys2Proof.Machine
end

