-- ==== Sys2Proof/Machine/Flags.lean ====
section
/-! DEFINITION. The FP exception flags (R249) and the AMAX magnitudes (R259) as operations raise them, and what a write of
them in the same count keeps. -/

namespace Sys2Proof.Machine

/-- The OR of the flags of a list of results (R249). -/
def flagsOf (l : List Res) : Flags := l.foldl (fun f r => f ||| r.f) 0

/-- Raise flags at a result's visible count (R249); nothing is started when none is raised. -/
def State.raise (s : State) (l : Nat) (f : Flags) : State := if f = 0 then s else s.after l (.flags f)

/-- A value written to FFLAGS by sy.swr, with the flags raised in the same count ORed in (R249). -/
def flagsWritten (g : GroupCtx) (v : Word) : Word := v ||| BitVec.ofNat 64 g.nowFlags.toNat

/-- A value written to AMAXk by sy.swr, with the updates of the same count applied to it (R259). -/
def amaxWritten (g : GroupCtx) (k : Fin 4) (v : Word) : Word :=
  let x := (g.nowAmax.filter fun u => u.1 == k).foldl (fun x u => amaxUpdate x u.2.1 u.2.2)
    (bit v 32, BitVec.ofNat 32 (fld v 0 31))
  BitVec.ofNat 64 (x.2.toNat + x.1.toNat * 2 ^ 32)

/-- AMAX over source elements: whether one is NaN, and the greatest magnitude as an FP32 pattern, infinity as +infinity
(R259). -/
def amaxOver (l : List Exact) : Bool × BitVec 32 :=
  l.foldl (fun x e =>
    match e with
    | .nan _ => (true, x.2)
    | .inf _ => amaxUpdate x false 0x7F800000
    | .num _ n k => amaxUpdate x false (BitVec.ofNat 32 (roundFin .f32 .rup false n 1 k).v)) (false, 0)

/-- Update AMAX k at a result's visible count (R259). -/
def State.amaxAt (s : State) (l : Nat) (k : Fin 4) (x : Bool × BitVec 32) : State := s.after l (.amax k x.1 x.2)

/-- The value of a comparison: 1 or 0. -/
def boolWord (b : Bool) : Word := if b then 1 else 0

end Sys2Proof.Machine
end

