-- ==== Sys2Proof/Machine/Scalar.lean ====
section
/-! DEFINITION. The integer units ia0, ia1 and im (R312 to R315, Tables 13.1 and 13.2). -/

namespace Sys2Proof.Machine

/-- The outcome of a meaning. -/
abbrev Out := Host.Outcome State Fault Refusal

/-- Run an operation of ia0 or ia1: latency 1, the result on the unit's port (R313). -/
def runIa (p : LatPort) (port : BitVec 9) (need : List Latch) (f : Args → Word) (g : Guard) (src : Src) (s : State) :
    State :=
  runTrig g src port need noFaults noWait (fun a => a.st.after 1 (.port p (.s (f a)))) s

/-- Run an operation of im: both result ports are written at the same visible count (R315). -/
def runIm (port : BitVec 9) (lat : Nat) (f : Word → Word → Word × Word) (g : Guard) (src : Src) (s : State) : State :=
  runTrig g src port [.ima] noFaults noWait (fun a =>
    let r := f (a.op .ima) a.word
    (a.st.after lat (.port .imq (.s r.1))).after lat (.port .imq2 (.s r.2))) s

/-- The shift amount v [5:0] (R313). -/
def shamt (v : Word) : Nat := v.toNat % 64

/-- Leading zero bits; 64 for 0 (Table 13.1). -/
def clz64 (v : Word) : Word := if v = 0 then 64 else BitVec.ofNat 64 (63 - v.toNat.log2)

/-- Trailing zero bits; 64 for 0 (Table 13.1). -/
def ctz64 (v : Word) : Word :=
  match (List.range 64).find? fun i => v.toNat.testBit i with
  | some i => BitVec.ofNat 64 i
  | none => 64

/-- Number of 1 bits (Table 13.1). -/
def popc64 (v : Word) : Word := BitVec.ofNat 64 (popcount 64 v.toNat)

/-- Position and width of the field that a field control names, cut at bit 63 (R314). -/
def fieldCtl (v : Word) : Nat × Nat :=
  let pos := fld v 0 6
  (pos, min (min (fld v 6 7) 64) (64 - pos))

/-- bext (R314). -/
def bext (a v : Word) : Word := BitVec.ofNat 64 (bits a.toNat (fieldCtl v).1 (fieldCtl v).2)

/-- bins (R314). -/
def bins (a b v : Word) : Word := setFld a (fieldCtl v).1 (fieldCtl v).2 b.toNat

/-- The low and high halves of an exact 128-bit product (R315). -/
def halves (p : Int) : Word × Word :=
  let n := (p % (2 ^ 128 : Nat)).toNat
  (BitVec.ofNat 64 n, BitVec.ofNat 64 (n / 2 ^ 64))

/-- Signed division, truncating toward zero, with the values of Table 13.3 for a divisor of 0 (R315). -/
def sdivide (a v : Word) : Word × Word :=
  if v = 0 then (BitVec.allOnes 64, a)
  else (BitVec.ofInt 64 (a.toInt.tdiv v.toInt), BitVec.ofInt 64 (a.toInt.tmod v.toInt))

/-- Unsigned division, with the values of Table 13.3 for a divisor of 0 (R315). -/
def udivide (a v : Word) : Word × Word :=
  if v = 0 then (BitVec.allOnes 64, a)
  else (BitVec.ofNat 64 (a.toNat / v.toNat), BitVec.ofNat 64 (a.toNat % v.toNat))

/-- IA0_ADD (R313): a + v. -/
def execIa0Add (g : Guard) (src : Src) (s : State) : Out :=
  .next (runIa .ia0q 0x048 [.ia0a] (fun a => a.op .ia0a + a.word) g src s)

/-- IA0_SUB (R313): a − v. -/
def execIa0Sub (g : Guard) (src : Src) (s : State) : Out :=
  .next (runIa .ia0q 0x049 [.ia0a] (fun a => a.op .ia0a - a.word) g src s)

/-- IA0_AND (R313): a AND v. -/
def execIa0And (g : Guard) (src : Src) (s : State) : Out :=
  .next (runIa .ia0q 0x04A [.ia0a] (fun a => a.op .ia0a &&& a.word) g src s)

/-- IA0_OR (R313): a OR v. -/
def execIa0Or (g : Guard) (src : Src) (s : State) : Out :=
  .next (runIa .ia0q 0x04B [.ia0a] (fun a => a.op .ia0a ||| a.word) g src s)

/-- IA0_XOR (R313): a XOR v. -/
def execIa0Xor (g : Guard) (src : Src) (s : State) : Out :=
  .next (runIa .ia0q 0x04C [.ia0a] (fun a => a.op .ia0a ^^^ a.word) g src s)

/-- IA0_ANDN (R313): a AND NOT v. -/
def execIa0Andn (g : Guard) (src : Src) (s : State) : Out :=
  .next (runIa .ia0q 0x04D [.ia0a] (fun a => a.op .ia0a &&& ~~~a.word) g src s)

/-- IA0_ORN (R313): a OR NOT v. -/
def execIa0Orn (g : Guard) (src : Src) (s : State) : Out :=
  .next (runIa .ia0q 0x04E [.ia0a] (fun a => a.op .ia0a ||| ~~~a.word) g src s)

/-- IA0_SHL (R313): a shifted left. -/
def execIa0Shl (g : Guard) (src : Src) (s : State) : Out :=
  .next (runIa .ia0q 0x04F [.ia0a] (fun a => a.op .ia0a <<< shamt a.word) g src s)

/-- IA0_SHR (R313): a shifted right, zeros in. -/
def execIa0Shr (g : Guard) (src : Src) (s : State) : Out :=
  .next (runIa .ia0q 0x050 [.ia0a] (fun a => a.op .ia0a >>> shamt a.word) g src s)

/-- IA0_SAR (R313): a shifted right, copies of bit 63 in. -/
def execIa0Sar (g : Guard) (src : Src) (s : State) : Out :=
  .next (runIa .ia0q 0x051 [.ia0a] (fun a => (a.op .ia0a).sshiftRight (shamt a.word)) g src s)

/-- IA0_ROL (R313): a rotated left. -/
def execIa0Rol (g : Guard) (src : Src) (s : State) : Out :=
  .next (runIa .ia0q 0x052 [.ia0a] (fun a => (a.op .ia0a).rotateLeft (shamt a.word)) g src s)

/-- IA0_ROR (R313): a rotated right. -/
def execIa0Ror (g : Guard) (src : Src) (s : State) : Out :=
  .next (runIa .ia0q 0x053 [.ia0a] (fun a => (a.op .ia0a).rotateRight (shamt a.word)) g src s)

/-- IA0_MIN (R313): signed minimum. -/
def execIa0Min (g : Guard) (src : Src) (s : State) : Out :=
  .next (runIa .ia0q 0x054 [.ia0a] (fun a => if (a.word).slt (a.op .ia0a) then a.word else a.op .ia0a) g src s)

/-- IA0_MAX (R313): signed maximum. -/
def execIa0Max (g : Guard) (src : Src) (s : State) : Out :=
  .next (runIa .ia0q 0x055 [.ia0a] (fun a => if (a.op .ia0a).slt (a.word) then a.word else a.op .ia0a) g src s)

/-- IA0_MINU (R313): unsigned minimum. -/
def execIa0Minu (g : Guard) (src : Src) (s : State) : Out :=
  .next (runIa .ia0q 0x056 [.ia0a] (fun a => if a.word < a.op .ia0a then a.word else a.op .ia0a) g src s)

/-- IA0_MAXU (R313): unsigned maximum. -/
def execIa0Maxu (g : Guard) (src : Src) (s : State) : Out :=
  .next (runIa .ia0q 0x057 [.ia0a] (fun a => if a.op .ia0a < a.word then a.word else a.op .ia0a) g src s)

/-- IA0_CLZ (R313): leading zeros of v. -/
def execIa0Clz (g : Guard) (src : Src) (s : State) : Out :=
  .next (runIa .ia0q 0x058 [] (fun a => clz64 a.word) g src s)

/-- IA0_CTZ (R313): trailing zeros of v. -/
def execIa0Ctz (g : Guard) (src : Src) (s : State) : Out :=
  .next (runIa .ia0q 0x059 [] (fun a => ctz64 a.word) g src s)

/-- IA0_POPC (R313): 1 bits of v. -/
def execIa0Popc (g : Guard) (src : Src) (s : State) : Out :=
  .next (runIa .ia0q 0x05A [] (fun a => popc64 a.word) g src s)

/-- IA0_SEXT8 (R313): v [7:0] sign-extended. -/
def execIa0Sext8 (g : Guard) (src : Src) (s : State) : Out :=
  .next (runIa .ia0q 0x05B [] (fun a => sext64 8 a.word) g src s)

/-- IA0_SEXT16 (R313): v [15:0] sign-extended. -/
def execIa0Sext16 (g : Guard) (src : Src) (s : State) : Out :=
  .next (runIa .ia0q 0x05C [] (fun a => sext64 16 a.word) g src s)

/-- IA0_SEXT32 (R313): v [31:0] sign-extended. -/
def execIa0Sext32 (g : Guard) (src : Src) (s : State) : Out :=
  .next (runIa .ia0q 0x05D [] (fun a => sext64 32 a.word) g src s)

/-- IA0_ZEXT32 (R313): v [31:0] zero-extended. -/
def execIa0Zext32 (g : Guard) (src : Src) (s : State) : Out :=
  .next (runIa .ia0q 0x05E [] (fun a => zext64 32 a.word) g src s)

/-- IA0_BEXT (R314): a field of a. -/
def execIa0Bext (g : Guard) (src : Src) (s : State) : Out :=
  .next (runIa .ia0q 0x05F [.ia0a] (fun a => bext (a.op .ia0a) a.word) g src s)

/-- IA0_BINS (R314): a with a field replaced from b. -/
def execIa0Bins (g : Guard) (src : Src) (s : State) : Out :=
  .next (runIa .ia0q 0x060 [.ia0a, .ia0b] (fun a => bins (a.op .ia0a) (a.op .ia0b) a.word) g src s)

/-- IA0_CEQ (R313): a = v. -/
def execIa0Ceq (g : Guard) (src : Src) (s : State) : Out :=
  .next (runIa .ia0q 0x061 [.ia0a] (fun a => boolWord (a.op .ia0a == a.word)) g src s)

/-- IA0_CNE (R313): a ≠ v. -/
def execIa0Cne (g : Guard) (src : Src) (s : State) : Out :=
  .next (runIa .ia0q 0x062 [.ia0a] (fun a => boolWord (a.op .ia0a != a.word)) g src s)

/-- IA0_CLT (R313): a < v signed. -/
def execIa0Clt (g : Guard) (src : Src) (s : State) : Out :=
  .next (runIa .ia0q 0x063 [.ia0a] (fun a => boolWord ((a.op .ia0a).slt (a.word))) g src s)

/-- IA0_CLTU (R313): a < v unsigned. -/
def execIa0Cltu (g : Guard) (src : Src) (s : State) : Out :=
  .next (runIa .ia0q 0x064 [.ia0a] (fun a => boolWord (decide (a.op .ia0a < a.word))) g src s)

/-- IA0_CLE (R313): a ≤ v signed. -/
def execIa0Cle (g : Guard) (src : Src) (s : State) : Out :=
  .next (runIa .ia0q 0x065 [.ia0a] (fun a => boolWord ((a.op .ia0a).sle (a.word))) g src s)

/-- IA0_CLEU (R313): a ≤ v unsigned. -/
def execIa0Cleu (g : Guard) (src : Src) (s : State) : Out :=
  .next (runIa .ia0q 0x066 [.ia0a] (fun a => boolWord (decide (a.op .ia0a ≤ a.word))) g src s)

/-- IM_MUL (R315): the signed product. -/
def execImMul (g : Guard) (src : Src) (s : State) : Out :=
  .next (runIm 0x068 3 (fun a v => halves (a.toInt * v.toInt)) g src s)

/-- IM_MULHU (R315): the unsigned product. -/
def execImMulhu (g : Guard) (src : Src) (s : State) : Out :=
  .next (runIm 0x069 3 (fun a v => halves (a.toNat * v.toNat : Nat)) g src s)

/-- IM_MULHSU (R315): the product of a signed and v unsigned. -/
def execImMulhsu (g : Guard) (src : Src) (s : State) : Out :=
  .next (runIm 0x06A 3 (fun a v => halves (a.toInt * (v.toNat : Int))) g src s)

/-- IM_DIV (R315): signed quotient and remainder. -/
def execImDiv (g : Guard) (src : Src) (s : State) : Out :=
  .next (runIm 0x06B 20 (sdivide) g src s)

/-- IM_DIVU (R315): unsigned quotient and remainder. -/
def execImDivu (g : Guard) (src : Src) (s : State) : Out :=
  .next (runIm 0x06C 20 (udivide) g src s)

/-- IA1_ADD (R313): a + v. -/
def execIa1Add (g : Guard) (src : Src) (s : State) : Out :=
  .next (runIa .ia1q 0x070 [.ia1a] (fun a => a.op .ia1a + a.word) g src s)

/-- IA1_SUB (R313): a − v. -/
def execIa1Sub (g : Guard) (src : Src) (s : State) : Out :=
  .next (runIa .ia1q 0x071 [.ia1a] (fun a => a.op .ia1a - a.word) g src s)

/-- IA1_AND (R313): a AND v. -/
def execIa1And (g : Guard) (src : Src) (s : State) : Out :=
  .next (runIa .ia1q 0x072 [.ia1a] (fun a => a.op .ia1a &&& a.word) g src s)

/-- IA1_OR (R313): a OR v. -/
def execIa1Or (g : Guard) (src : Src) (s : State) : Out :=
  .next (runIa .ia1q 0x073 [.ia1a] (fun a => a.op .ia1a ||| a.word) g src s)

/-- IA1_XOR (R313): a XOR v. -/
def execIa1Xor (g : Guard) (src : Src) (s : State) : Out :=
  .next (runIa .ia1q 0x074 [.ia1a] (fun a => a.op .ia1a ^^^ a.word) g src s)

/-- IA1_ANDN (R313): a AND NOT v. -/
def execIa1Andn (g : Guard) (src : Src) (s : State) : Out :=
  .next (runIa .ia1q 0x075 [.ia1a] (fun a => a.op .ia1a &&& ~~~a.word) g src s)

/-- IA1_SHL (R313): a shifted left. -/
def execIa1Shl (g : Guard) (src : Src) (s : State) : Out :=
  .next (runIa .ia1q 0x076 [.ia1a] (fun a => a.op .ia1a <<< shamt a.word) g src s)

/-- IA1_SHR (R313): a shifted right, zeros in. -/
def execIa1Shr (g : Guard) (src : Src) (s : State) : Out :=
  .next (runIa .ia1q 0x077 [.ia1a] (fun a => a.op .ia1a >>> shamt a.word) g src s)

/-- IA1_SAR (R313): a shifted right, copies of bit 63 in. -/
def execIa1Sar (g : Guard) (src : Src) (s : State) : Out :=
  .next (runIa .ia1q 0x078 [.ia1a] (fun a => (a.op .ia1a).sshiftRight (shamt a.word)) g src s)

/-- IA1_CEQ (R313): a = v. -/
def execIa1Ceq (g : Guard) (src : Src) (s : State) : Out :=
  .next (runIa .ia1q 0x079 [.ia1a] (fun a => boolWord (a.op .ia1a == a.word)) g src s)

/-- IA1_CLT (R313): a < v signed. -/
def execIa1Clt (g : Guard) (src : Src) (s : State) : Out :=
  .next (runIa .ia1q 0x07A [.ia1a] (fun a => boolWord ((a.op .ia1a).slt (a.word))) g src s)

/-- IA1_CLTU (R313): a < v unsigned. -/
def execIa1Cltu (g : Guard) (src : Src) (s : State) : Out :=
  .next (runIa .ia1q 0x07B [.ia1a] (fun a => boolWord (decide (a.op .ia1a < a.word))) g src s)

end Sys2Proof.Machine
end

