-- ==== Sys2Proof/Machine/Groups.lean ====
section
/-! DEFINITION. Groups as the sequencer cuts them from bundles (R288), the header, group and port-class rules (R287 to R295)
with the reasons of code 0x01, for issue and for the loader (R291). -/

namespace Sys2Proof.Machine

/-- Where a slot's move goes: a destination that is no trigger, a trigger port, or an unassigned port. -/
inductive SlotDst where
  | dst (d : Dst)
  | trig (p : BitVec 9)
  | bad
  deriving DecidableEq, Repr

/-- A slot's move, read field by field. -/
structure SlotInfo where
  guard : Guard
  hold : Bool
  src : Option Src
  dst : SlotDst
  deriving DecidableEq, Repr

/-- The unit of a trigger port (R289 rule 3, Tables 12.5 to 12.11); none when the port is no trigger. -/
def unitOf (p : BitVec 9) : Option Nat :=
  let n := p.toNat
  if 0x048 ≤ n ∧ n ≤ 0x066 then some 0
  else if 0x068 ≤ n ∧ n ≤ 0x06C then some 1
  else if 0x070 ≤ n ∧ n ≤ 0x07B then some 2
  else if 0x088 ≤ n ∧ n ≤ 0x090 then some 3
  else if 0x091 ≤ n ∧ n ≤ 0x09F then some 4
  else if 0x0A0 ≤ n ∧ n ≤ 0x0BD then some 5
  else if 0x0D8 ≤ n ∧ n ≤ 0x0FF then some 6
  else if 0x104 ≤ n ∧ n ≤ 0x13F then some 7
  else if 0x148 ≤ n ∧ n ≤ 0x167 then some 7
  else if 0x168 ≤ n ∧ n ≤ 0x16F then some 7
  else if 0x170 ≤ n ∧ n ≤ 0x175 then some 7
  else if 0x176 ≤ n ∧ n ≤ 0x17F then some 8
  else if 0x188 ≤ n ∧ n ≤ 0x19B then some 9
  else if 0x1A0 ≤ n ∧ n ≤ 0x1A2 then some 10
  else if 0x1A3 ≤ n ∧ n ≤ 0x1A5 then some 11
  else if 0x1A6 ≤ n ∧ n ≤ 0x1A8 then some 12
  else if 0x1A9 ≤ n ∧ n ≤ 0x1AB then some 13
  else if 0x1B0 ≤ n ∧ n ≤ 0x1B5 then some 14
  else if 0x1E0 ≤ n ∧ n ≤ 0x1E5 then some 15
  else if 0x1E6 ≤ n ∧ n ≤ 0x1EB then some 5
  else none

/-- Read the fields of a slot. -/
def slotInfo (w : BitVec 24) : SlotInfo :=
  let f := moveFields w
  { guard := f.guard, hold := f.hold, src := decodeSrc f.imm f.src,
    dst := match decodeDst f.dst with
      | some d => .dst d
      | none => if (unitOf f.dst).isSome then .trig f.dst else .bad }

/-- A number for each register of R289 rule 1; none for s0, c0 and m0. -/
def srcRegs (x : SlotInfo) : List Nat :=
  match x.src with
  | some (.s r) =>
    match x.dst with
    | .trig p => if isAgSetPort p then [r.toNat, r.toNat + 1] else if r = 0 then [] else [r.toNat]
    | _ => if r = 0 then [] else [r.toNat]
  | some (.t r) => [32 + r.toNat]
  | some (.c i) => if i = 0 then [] else [64 + i.toNat]
  | some (.m i) => if i = 0 then [] else [72 + i.toNat]
  | some (.w i) => [80 + i.toNat]
  | _ => []

/-- The registers a move writes; br.call writes s15 (R319). -/
def dstRegs (x : SlotInfo) : List Nat :=
  match x.dst with
  | .dst (.s r) => if r = 0 then [] else [r.toNat]
  | .dst (.t r) => [32 + r.toNat]
  | .dst (.c i) => if i = 0 then [] else [64 + i.toNat]
  | .dst (.m i) => if i = 0 then [] else [72 + i.toNat]
  | .dst (.w i) => [80 + i.toNat]
  | .trig p => if p == 0x089 then [15] else []
  | _ => []

/-- The destinations of R289 rule 2: registers, and latches, sticky ports, stream registers and triggers by their port. -/
def dstKeys (w : BitVec 24) (x : SlotInfo) : List Nat :=
  match x.dst with
  | .dst (.s _) | .dst (.t _) | .dst (.c _) | .dst (.m _) | .dst (.w _) => dstRegs x
  | _ => (1024 + (moveFields w).dst.toNat) :: dstRegs x

/-- Does a list hold no element twice? -/
def distinct : List Nat → Bool
  | [] => true
  | x :: l => !l.contains x && distinct l

/-- The elements of a list once each. -/
def dedupNat : List Nat → List Nat
  | [] => []
  | x :: l => if l.contains x then dedupNat l else x :: dedupNat l

/-- No element of a list but its own index reads what another writes (R289 rule 1). -/
def independent (l : List SlotInfo) : Bool :=
  let n := l.zipIdx
  n.all fun a => n.all fun b => a.2 == b.2 || !(srcRegs a.1).any fun r => (dstRegs b.1).contains r

/-- The read ports of a group: (port, register) pairs, or none when a slot's RP field breaks R290. -/
def portReads : List (SlotInfo × Nat) → Option (List (Nat × Nat))
  | [] => some []
  | (x, rp) :: l =>
    let regs := (srcRegs x).filter fun r => decide (r < 64)
    let isReg := match x.src with | some (.s _) | some (.t _) => true | _ => false
    match portReads l with
    | none => none
    | some rest =>
      match isReg, regs with
      | true, [a, b] => if 1 ≤ rp ∧ rp ≤ 3 then some ((rp, a) :: (rp + 1, b) :: rest) else none
      | true, [a] => if 1 ≤ rp ∧ rp ≤ 4 then some ((rp, a) :: rest) else none
      | _, _ => if rp = 0 then some rest else none

/-- Two different registers never share a read port (R290). -/
def portsAgree (l : List (Nat × Nat)) : Bool := l.all fun a => l.all fun b => a.1 != b.1 || a.2 == b.2

/-- Is the move legal as a move of ports and kinds (R292, R293, R295), reading `lit` only in a literal bundle (R287)? -/
def slotLegal (literal : Bool) (x : SlotInfo) : Bool :=
  match x.src with
  | none => false
  | some src =>
    (src != .lit || literal) &&
    match x.dst with
    | .bad => false
    | .dst d => legalMove src.kind d.kind && (!x.hold || d.takesHold)
    | .trig p =>
      if isAgSetPort p then !x.hold && (match src with | .s r => r.toNat % 2 == 0 | _ => false)
      else legalMove src.kind (trigKind p) && (!x.hold || (0x0D8 ≤ p.toNat && p.toNat ≤ 0x0FF && p != 0x0FA && p != 0x0FB))

/-- A header's own rules (R286, R287): reason 1, or reason 4 for a field that must be 0. -/
def headerReason (bd : BitVec 256) : Option (BitVec 4) :=
  let h := headerOf bd
  if 1 < h.fmt then some 1
  else if h.fmt = 1 ∧ (h.stop.toNat / 32 ≠ 0 ∨ (h.rp.drop 5).any (fun r => r != 0)) then some 1
  else if h.reserved ≠ 0 then some 4
  else if h.fmt = 1 ∧ bundleBits bd 248 8 ≠ 0 then some 4
  else none

/-- Why a group is an illegal encoding (code 0x01), the reason of its first broken rule in the order header, group rule,
port class (R288 to R295); none when it is legal. -/
def groupReason (fetch : Nat → BitVec 256) (l : List Slot) (next : Option (Nat × Nat)) : Option (BitVec 4) :=
  let bs := dedupNat (l.map (·.bundle))
  match bs.findSome? fun b => headerReason (fetch b) with
  | some r => some r
  | none =>
    let hs := bs.map fun b => headerOf (fetch b)
    let routes := hs.map fun h => h.g0.toNat + h.g1.toNat * 512 + h.sr.toNat * 262144
    if (dedupNat routes).length > 1 then some 1
    else if next.isNone || l.any (fun x => decide (lastSlot (fetch x.bundle) < x.slot)) then some 2
    else
      let xs := l.map fun x => slotInfo x.word
      let keys := (l.zip xs).flatMap fun p => dstKeys p.1.word p.2
      let units := xs.filterMap fun x => match x.dst with | .trig p => unitOf p | _ => none
      let regs := dedupNat (xs.flatMap fun x => (srcRegs x).filter fun r => decide (r < 64))
      let rps := l.map fun x => (headerOf (fetch x.bundle)).rp.getD x.slot 0
      if !independent xs || !distinct keys || !distinct units || 4 < regs.length then some 2
      else if !(match portReads (xs.zip rps) with | some q => portsAgree q | none => false) then some 2
      else if l.zip xs |>.any (fun p => !slotLegal (isLiteral (fetch p.1.bundle)) p.2) then some 3
      else none

/-- The bundle that holds the last slot of the `n`-th group in fall-through order from a place, pads not counted (R317). -/
def lastBundle (fetch : Nat → BitVec 256) (codeEnd fuel : Nat) : Nat → Nat × Nat → Nat
  | 0, p => p.1
  | n + 1, p =>
    let q := skipPads fetch codeEnd fuel p
    let (l, next) := collect fetch codeEnd 8 q.1 q.2
    let b := (l.getLast?.map (·.bundle)).getD q.1
    match n, next with
    | 0, _ => b
    | _, none => b
    | _, some r => lastBundle fetch codeEnd fuel n r

end Sys2Proof.Machine
end

