-- ==== Sys2Proof/Machine/Space.lean ====
section
/-! DEFINITION. Scratchpad addresses and bounds (R176 to R178, R367), phase sets (R196 to R198), and the errors that reads
find (R15, R195). -/

namespace Sys2Proof.Machine

/-! ### Tagged addresses -/

/-- The spaces of Table 07.1, and addresses that break it. -/
inductive Space where
  | device (va : Nat)
  | scratch (a : Nat)
  | bad
  deriving DecidableEq, Repr

/-- Read a tagged address (R175). -/
def spaceOf (a : Word) : Space :=
  if fld a 60 4 = 0 ∧ fld a 48 12 = 0 then .device (fld a 0 48)
  else if fld a 60 4 = 1 ∧ fld a 32 28 = 0 then .scratch (fld a 0 32)
  else .bad

/-- The die that a scratchpad address names; DIE 3 is the die that forms the address (Table 07.2). -/
def spDie (own : DieId) (a : Nat) : DieId :=
  match bits a 28 2 with
  | 0 => 0 | 1 => 1 | 2 => 2
  | _ => own

/-- The byte within its die (Table 07.2). -/
def spOff (a : Nat) : Nat := bits a 0 28

/-- The row unit within its die (R196). -/
def spUnit (a : Nat) : Nat := bits a 8 20

/-- Row units of live setting blocks are outside every bound (R367). -/
def Die.inBlock (d : Die) (u : Nat) : Bool := d.wall.blocks.any fun b => decide (b.2 ≤ u ∧ u < b.2 + 328)

/-- May the task touch row unit `u` of die `d` (R178, R367)? -/
def State.unitOk (s : State) (t : Task) (d : DieId) (u : Nat) : Bool :=
  decide (u < spUnits) && inRanges (t.onDie d).bounds (256 * u) && !(s.dieAt d).inBlock u

/-- May the task touch the byte at a scratchpad address (R176, R178)? -/
def State.spByteOk (s : State) (t : Task) (own : DieId) (a : Nat) : Bool :=
  decide (a < 2 ^ 30) && s.unitOk t (spDie own a) (spUnit a)

/-- May the task touch `n` bytes, at most a row, from a scratchpad address? Bounds are rows, so the ends decide. -/
def State.spRangeOk (s : State) (t : Task) (own : DieId) (a n : Nat) : Bool :=
  s.spByteOk t own a && s.spByteOk t own (a + n - 1)

/-- The SP bounds fault (R176). -/
abbrev fltBounds : Flt := ⟨0x0A, 0, 0⟩

/-- The misaligned-access fault (R177, R202). -/
abbrev fltAlign : Flt := ⟨0x09, 0, 0⟩

/-- The timed SETVIOLATION (R198). -/
abbrev fltSet : Flt := ⟨0x0B, 0, 0⟩

/-! ### Phase sets -/

/-- Range entries of a PHASES record: 8 bytes each, FIRST [19:0] and COUNT [39:20] (R196). -/
def rangesAt (bs : List Byte) (off : Nat) : List (Nat × Nat) :=
  (List.range 8).filterMap fun i =>
    let w := leAt bs (off + 8 * i) 8
    if bits w 20 20 = 0 then none else some (bits w 0 20, bits w 20 20)

/-- The record of a set among the records of PHASES sections (R311); undeclared sets are empty (R330). -/
def phaseRecord (ss : List Sect) (set : Nat) : Option (List Byte) :=
  ss.findSome? fun x =>
    (List.range (x.body.length / 1032)).findSome? fun i =>
      if leAt x.body (1032 * i) 8 % 64 = set then some (slice x.body (1032 * i) 1032) else none

/-- Read and write ranges of an engine in a set of a task on a die, in row units (R196). -/
def State.phaseRanges (s : State) (t : Task) (d : DieId) (set engine : Nat) : List (Nat × Nat) × List (Nat × Nat) :=
  match s.objOf t with
  | none => ([], [])
  | some o =>
    match phaseRecord (o.sectsOf 5 d) set with
    | none => ([], [])
    | some r => (rangesAt r (8 + 128 * engine), rangesAt r (8 + 128 * engine + 64))

/-- May an engine touch a row unit under the current phase (R198)? Tasks launched with DET = 0 are not checked. -/
def State.setAllows (s : State) (t : Task) (d : DieId) (engine : Nat) (write : Bool) (u : Nat) : Bool :=
  !t.det ||
    (let r := s.phaseRanges t d (t.onDie d).phase.toNat engine
     inRanges r.2 u || (!write && inRanges r.1 u))

/-- May an engine touch a row unit under the current phase, or under the phase under which its work was accepted (R197, R198)? -/
def State.setAllowed (s : State) (t : Task) (d : DieId) (engine : Nat) (write : Bool) (ph : BitVec 6) (u : Nat) : Bool :=
  s.setAllows t d engine write u ||
    (let r := s.phaseRanges t d ph.toNat engine
     inRanges r.2 u || (!write && inRanges r.1 u))

/-- The current phase of a task on each die (R330). -/
def Task.phases (t : Task) : Phases := #v[(t.onDie 0).phase, (t.onDie 1).phase, (t.onDie 2).phase]

/-! ### Errors that reads find -/

/-- The running task whose bounds hold a row unit (R195). -/
def State.ownerOf (s : State) (d : DieId) (u : Nat) : Option Task :=
  s.sched.tasks.find? fun t => t.st != .saved && inRanges (t.onDie d).bounds (256 * u)

/-- A saturating count of 16 bits. -/
def satInc16 (x : BitVec 16) (n : Nat) : BitVec 16 := BitVec.ofNat 16 (min 0xFFFF (x.toNat + n))

/-- A read of a row unit meets its error, if it holds one (R195): a single-bit error is corrected, a worse one is a machine
check and the read delivers nothing. -/
def State.eccRead (s : State) (d : DieId) (u : Nat) : State × Bool :=
  match (s.dieAt d).spEcc.lookup u with
  | none => (s, true)
  | some .single =>
    let s1 := s.onDieAt d fun x => { x.raiseFreeze 32 0 with spEcc := x.spEcc.filter fun y => y.1 != u }
    ({ s1 with pkg := { s1.pkg with errSram := satInc16 s1.pkg.errSram 1 } }, true)
  | some .multi =>
    match s.ownerOf d u with
    | some t => (s.checkTask t d 0x40 (BitVec.ofNat 64 (256 * u)), false)
    | none => (s.postEvent 0 0x24 d 0 (leBytes 8 (256 * u) ++ [0x40]), false)

/-- Reads of several row units in turn. -/
def State.eccReads (s : State) (d : DieId) : List Nat → State × Bool
  | [] => (s, true)
  | u :: l =>
    let (s1, ok) := s.eccRead d u
    let (s2, ok2) := State.eccReads s1 d l
    (s2, ok && ok2)

end Sys2Proof.Machine
end

