-- ==== Sys2Proof/Machine/LoadStore.lean ====
section
/-! DEFINITION. The issue side of loads, stores and qmark (R182, R205, R322 to R324), and how an entry joins the queues
(R203). -/

namespace Sys2Proof.Machine

/-- Bytes of a width (Table 13.6). -/
def widBytes : Wid → Nat
  | .b => 1 | .h => 2 | .w => 4 | .d => 8

/-- Entries of the load queue (R203, R206). -/
def Ctx.loadEntries (c : Ctx) : Nat := (c.entries.filter fun e => e.side != .store).length

/-- Entries of the store queue (R203, R206). -/
def Ctx.storeEntries (c : Ctx) : Nat := (c.entries.filter fun e => e.side != .load).length

/-- Is the load queue, the store queue, or either, full (R323)? -/
def Ctx.queueFull (c : Ctx) : QSide → Bool
  | .load => decide (64 ≤ c.loadEntries)
  | .store => decide (64 ≤ c.storeEntries)
  | .both => decide (64 ≤ c.loadEntries) || decide (64 ≤ c.storeEntries)

/-- A new entry at the end of its queue (R203). -/
def Ctx.push (c : Ctx) (side : QSide) (op : QOp) (addr : Word) (count : Nat) (left : List Nat) (ph : Phases)
    (place : Nat × Nat) : Ctx :=
  { c with entries := c.entries ++ [{ seq := c.seq, side := side, op := op, addr := addr, count := count, left := left,
                                      got := [], sent := false, held := false, replay := false, phase := ph, place := place }],
           seq := c.seq + 1 }

/-- The issuing context takes a new entry. -/
def State.push (s : State) (side : QSide) (op : QOp) (addr : Word) (left : List Nat) : State :=
  let n := if s.ctx.inh then s.ctx.baseCount s.die.scy else s.group.count
  let ph := ((s.curTask).map Task.phases).getD (.replicate 3 0)
  s.onCtx fun c => c.push side op addr n left ph c.place

/-- A result place on a port for the entry that is about to be taken (R157, R323). -/
def State.place (s : State) (p : QPort) : State :=
  s.onCtx fun c => c.setResults p (c.results p ++ [{ seq := c.seq, val := none, trap := none }])

/-- Are all result places of a port taken (R323, R384)? -/
def Ctx.placesFull (c : Ctx) (p : QPort) : Bool := decide (64 ≤ (c.results p).length)

/-- The precise checks of an access of `n` bytes, at most a row: SP bounds (R176, R178), and for a row form the alignment of
its address (R177, R322). Addresses that break Table 07.1 fault when the entry is performed (R324). -/
def State.accessFaults (s : State) (a : Word) (n : Nat) (row : Bool) : List Flt :=
  match spaceOf a with
  | .scratch x =>
    (if row && x % 256 != 0 then [{ fltAlign with addr := a }] else []) ++
      (match s.curTask with
       | some t => if s.spRangeOk t s.turn x n then [] else [{ fltBounds with addr := a }]
       | none => [])
  | .device va => if row && va % 256 != 0 then [{ fltAlign with addr := a }] else []
  | .bad => []

/-- Trace of a memory access: its address, its width and kind (0 load, 1 store, 2 atomic; Table 11.9). -/
def State.traceMem (s : State) (a : Word) (n kind : Nat) : State := s.trace 2 a (BitVec.ofNat 64 (n + 256 * kind))

/-- Run a load (R322): free contexts only, a place on ls.q, an entry of the load queue. -/
def runLoad (port : BitVec 9) (op : QOp) (n : Nat) (row : Bool) (g : Guard) (src : Src) (s : State) : State :=
  runTrig g src port []
    (fun a => a.st.accessFaults a.word n row ++ (if a.st.ctx.placesFull .lsq then [fltFull] else []))
    (fun a => a.st.ctx.queueFull .load)
    (fun a => ((a.st.place .lsq).push .load op a.word (List.range n)).traceMem a.word n 0) s

/-- Is the store a timed store: the timed context stores to its own die's scratchpad (R182)? -/
def State.timedStore (s : State) (a : Word) : Bool :=
  s.ctx.timedNow &&
    match spaceOf a with
    | .scratch x => spDie s.turn x == s.turn
    | _ => false

/-- Byte addresses within the die of the bytes a store writes, with their values. -/
def storeBytes (x : Nat) (bs : List Byte) (keep : Nat → Bool) : List (Nat × Byte) :=
  bs.zipIdx.filterMap fun p => if keep p.2 then some (spOff x + p.2, p.1) else none

/-- Set faults of a timed store (R182, R198). -/
def State.storeSetFaults (s : State) (a : Word) (n : Nat) : List Flt :=
  match spaceOf a, s.curTask with
  | .scratch x, some t =>
    if s.setAllows t s.turn 0 true (spUnit x) && s.setAllows t s.turn 0 true (spUnit (x + n - 1)) then []
    else [{ fltSet with addr := a }]
  | _, _ => []

/-- The faults of a store: access checks, the set check of a timed store (R182), a full store queue under the timed context
(R323). -/
def State.storeFaults (s : State) (a : Word) (n : Nat) (row : Bool) : List Flt :=
  s.accessFaults a n row ++
    (if s.timedStore a then s.storeSetFaults a n
     else if s.ctx.timedNow && s.ctx.queueFull .store then [fltFull] else [])

/-- Does a store wait for a place in the store queue (R323)? -/
def State.storeWaits (s : State) (a : Word) : Bool := !s.timedStore a && s.ctx.queueFull .store

/-- The effect of a store: a timed store is applied at count n + 4 (R182), any other enters the store queue. A row form on a
scratchpad is performed whole (R202). -/
def State.store (s : State) (a : Word) (op : QOp) (bs side : List Byte) (keep keepSide : Nat → Bool) : State :=
  let s := s.traceMem a bs.length 1
  if s.timedStore a then
    match spaceOf a with
    | .scratch x =>
      s.after 4 (.store (storeBytes x bs keep)
        (side.zipIdx.filterMap fun p => if keepSide p.2 then some (32 * spUnit x + p.2, p.1) else none))
    | _ => s
  else
    let left := (List.range bs.length).filter keep
    match spaceOf a with
    | .scratch _ => s.push .store op a (if bs.length = 256 then List.range 256 else left)
    | _ => if left.isEmpty then s else s.push .store op a left

/-- Run a scalar store (R322). -/
def runStore (port : BitVec 9) (w : Wid) (g : Guard) (src : Src) (s : State) : State :=
  runTrig g src port [.lsa]
    (fun a => a.ifOp .lsa fun x => a.st.storeFaults x (widBytes w) false)
    (fun a => a.st.storeWaits (a.op .lsa))
    (fun a => a.st.store (a.op .lsa) (.st w a.word) (leBytes (widBytes w) a.word.toNat) [] (fun _ => true)
      (fun _ => false)) s

/-- Run ls.strow (R322). -/
def runStrow (g : Guard) (src : Src) (s : State) : State :=
  runTrig g src 0x09D [.lsa]
    (fun a => a.ifOp .lsa fun x => a.st.storeFaults x 256 true)
    (fun a => a.st.storeWaits (a.op .lsa))
    (fun a =>
      let r := valRow a.v
      a.st.store (a.op .lsa) (.strow r none) (rowBytes r) (rowSide r) (fun _ => true) (fun _ => true)) s

/-- The byte mask of ls.m. -/
def Args.maskRow (a : Args) : Row := ((a.op? .lsm).map valRow).getD Row.zero

/-- Is byte `j` of a row not 0? -/
def byteSet (n j : Nat) : Bool := n / 256 ^ j % 256 != 0

/-- Is a row 0 in every data byte and side-lane byte? -/
def rowEmpty (r : Row) : Bool := r.data == 0 && r.side == 0

/-- Run ls.strowm (R322): a mask of 0 in every byte makes no access and no check (Table 11.7). -/
def runStrowm (g : Guard) (src : Src) (s : State) : State :=
  runTrig g src 0x09E [.lsa, .lsm]
    (fun a => if rowEmpty a.maskRow then [] else a.ifOp .lsa fun x => a.st.storeFaults x 256 true)
    (fun a => !rowEmpty a.maskRow && a.st.storeWaits (a.op .lsa))
    (fun a =>
      let r := valRow a.v
      let m := a.maskRow
      if rowEmpty m then a.st
      else a.st.store (a.op .lsa) (.strow r (some m)) (rowBytes r) (rowSide r) (byteSet m.data.toNat)
        (byteSet m.side.toNat)) s

/-- Run ls.qmark: it stands between the entries before it and those after it, and occupies no entry (R205, R323). -/
def runQmark (g : Guard) (src : Src) (s : State) : State :=
  runTrig g src 0x09F [] noFaults noWait
    (fun a => a.st.onCtx fun c => { c with marks := c.marks ++ [c.seq], seq := c.seq + 1 }) s

/-- LS_LDB (R322, Table 13.6). -/
def execLsLdb (g : Guard) (src : Src) (s : State) : Out :=
  .next (runLoad 0x091 (.ld .b true) 1 false g src s)

/-- LS_LDBU (R322, Table 13.6). -/
def execLsLdbu (g : Guard) (src : Src) (s : State) : Out :=
  .next (runLoad 0x092 (.ld .b false) 1 false g src s)

/-- LS_LDH (R322, Table 13.6). -/
def execLsLdh (g : Guard) (src : Src) (s : State) : Out :=
  .next (runLoad 0x093 (.ld .h true) 2 false g src s)

/-- LS_LDHU (R322, Table 13.6). -/
def execLsLdhu (g : Guard) (src : Src) (s : State) : Out :=
  .next (runLoad 0x094 (.ld .h false) 2 false g src s)

/-- LS_LDW (R322, Table 13.6). -/
def execLsLdw (g : Guard) (src : Src) (s : State) : Out :=
  .next (runLoad 0x095 (.ld .w true) 4 false g src s)

/-- LS_LDWU (R322, Table 13.6). -/
def execLsLdwu (g : Guard) (src : Src) (s : State) : Out :=
  .next (runLoad 0x096 (.ld .w false) 4 false g src s)

/-- LS_LDD (R322, Table 13.6). -/
def execLsLdd (g : Guard) (src : Src) (s : State) : Out :=
  .next (runLoad 0x097 (.ld .d true) 8 false g src s)

/-- LS_LDROW (R322, Table 13.6). -/
def execLsLdrow (g : Guard) (src : Src) (s : State) : Out :=
  .next (runLoad 0x09C (.ldrow) 256 true g src s)

/-- LS_STB (R322, Table 13.6). -/
def execLsStb (g : Guard) (src : Src) (s : State) : Out := .next (runStore 0x098 .b g src s)

/-- LS_STH (R322, Table 13.6). -/
def execLsSth (g : Guard) (src : Src) (s : State) : Out := .next (runStore 0x099 .h g src s)

/-- LS_STW (R322, Table 13.6). -/
def execLsStw (g : Guard) (src : Src) (s : State) : Out := .next (runStore 0x09A .w g src s)

/-- LS_STD (R322, Table 13.6). -/
def execLsStd (g : Guard) (src : Src) (s : State) : Out := .next (runStore 0x09B .d g src s)

/-- LS_STROW (R322, Table 13.6). -/
def execLsStrow (g : Guard) (src : Src) (s : State) : Out := .next (runStrow g src s)

/-- LS_STROWM (R322, Table 13.6). -/
def execLsStrowm (g : Guard) (src : Src) (s : State) : Out := .next (runStrowm g src s)

/-- LS_QMARK (R205). -/
def execLsQmark (g : Guard) (src : Src) (s : State) : Out := .next (runQmark g src s)

end Sys2Proof.Machine
end

