-- ==== Sys2Proof/Machine/Vector.lean ====
section
/-! DEFINITION. The vector wall (14 R338 to R352): lanes, masks and selectors, float and integer arithmetic, byte-wise forms,
conversions, correctly rounded functions, row reductions, block scale and quantise; profile 1 (R123, R124). -/

namespace Sys2Proof.Machine

/-! ### Lanes -/

/-- The `n` fields of `w` bits of a number, least significant first (R244). -/
def lanesOf (w : Nat) : Nat → Nat → List Nat
  | 0, _ => []
  | n + 1, v => v % 2 ^ w :: lanesOf w n (v / 2 ^ w)

/-- The number whose fields of `w` bits, least significant first, are given. -/
def packOf (w : Nat) : List Nat → Nat
  | [] => 0
  | x :: l => x % 2 ^ w + 2 ^ w * packOf w l

/-- The lanes of `w` bits of a row's data (Table 14.1). -/
def rowLanes (w : Nat) (r : Row) : List Nat := lanesOf w (2048 / w) r.data.toNat

/-- Is lane `i` of `w` bits governed: the mask bit of its lowest byte (R340)? -/
def governed (m : BitVec 256) (w i : Nat) : Bool := m.getLsbD (i * w / 8)

/-- A row of data with a side lane of 0. -/
def dataRow (n : Nat) : Row := ⟨BitVec.ofNat 2048 n, 0⟩

/-- Apply a function to the 256 slices, with the OR of the flags they raise. -/
def perSlice (f : Nat → Row × Flags) : Tile × Flags :=
  let l := (List.range 256).map f
  (l.map (·.1), l.foldl (fun x y => x ||| y.2) 0)

/-- One slice of an elementwise form: unmasked lanes are computed, masked lanes are 0 and raise nothing (R340, R343). -/
def lanewise (w : Nat) (op : Nat → Nat → Nat → Res) (m : BitVec 256) (a b v : Row) : Row × Flags :=
  let rs : List Res := (List.range (2048 / w)).map fun i =>
    if governed m w i then
      op (bits a.data.toNat (w * i) w) (bits b.data.toNat (w * i) w) (bits v.data.toNat (w * i) w)
    else ⟨0, 0⟩
  (dataRow (packOf w (rs.map (·.v))), flagsOf rs)

/-- The mask row of slice `i` (R340). -/
def Args.mask (a : Args) (i : Nat) : BitVec 256 := a.st.ctx.vxm.getD i 0

/-- The rounding mode of elementwise arithmetic: RMODE, SR read as RNE (R248, R341). -/
def arithMode (r : BitVec 3) : RMode :=
  match r.toNat with
  | 1 => .rtz | 2 => .rdn | 3 => .rup | _ => .rne

/-- The mode of an operation of the arguments' context. -/
def Args.mode (a : Args) : RMode := arithMode a.st.ctx.rmode

/-- Row `i` of the latches vx.a, vx.b, vx.c and of the trigger value. -/
def Args.ra (a : Args) (i : Nat) : Row := (a.opT .vxa).row i
def Args.rb (a : Args) (i : Nat) : Row := (a.opT .vxb).row i
def Args.rc (a : Args) (i : Nat) : Row := (a.opT .vxc).row i
def Args.rv (a : Args) (i : Nat) : Row := a.tile.row i

/-- Deliver a tile on vx.q and raise its flags at the visible count (R338, R341). -/
def State.deliverVx (s : State) (l : Nat) (x : Tile × Flags) : State :=
  (s.after l (.port .vxq (.t x.1))).raise l x.2

/-- Run a vx form of a fixed latency. -/
def runVx (port : BitVec 9) (need : List Latch) (chk : Args → List Flt) (l : Nat) (f : Args → Tile × Flags) (g : Guard)
    (src : Src) (s : State) : State :=
  runTrig g src port need chk noWait (fun a => a.st.deliverVx l (f a)) s

/-- Run an elementwise form on lanes of `w` bits. -/
def runLanes (port : BitVec 9) (need : List Latch) (l w : Nat) (op : RMode → Nat → Nat → Nat → Res) (g : Guard)
    (src : Src) (s : State) : State :=
  runVx port need noFaults l
    (fun a => perSlice fun i => lanewise w (op a.mode) (a.mask i) (a.ra i) (a.rb i) (a.rv i)) g src s

/-! ### Profile 1 (R123) -/

/-- The context issues no group for `n` cycles after its group, in its own count, which runs on (R123); the stalls of a group run one
after the other. Only the timed context has the operations of profile 1 (Table 06.2). -/
def State.stall (s : State) (n : Nat) : State := s.onGroup fun g => { g with stall := g.stall + n }

/-- The latency after which a routine's result is visible: in the first group after the stall (R123). -/
def stallLatency (n : Nat) : Nat := n + 1

/-- Does the context run under numerics profile 1 (R122)? -/
def Ctx.profile1 (c : Ctx) : Bool := c.numProf == 1

/-- Run a function of one operand: profile 2 at latency `l`, profile 1 by its routine with stall `n` (R123, R349). -/
def runFun (port : BitVec 9) (l : Nat) (f2 : Nat → Res) (p1 : Option (Nat × (Nat → Res))) (g : Guard) (src : Src)
    (s : State) : State :=
  runTrig g src port [] noFaults noWait
    (fun a =>
      let go (f : Nat → Res) : Tile × Flags :=
        perSlice fun i => lanewise 32 (fun _ _ v => f v) (a.mask i) Row.zero Row.zero (a.rv i)
      match p1 with
      | some (n, f1) =>
        if a.st.ctx.profile1 then
          (a.st.deliverVx (stallLatency n) (go f1)).stall n
        else a.st.deliverVx l (go f2)
      | none => a.st.deliverVx l (go f2)) s

/-! ### Integer lanes (R345) -/

/-- An integer result of `w` bits; integer forms raise no flag. -/
def intRes (w : Nat) (i : Int) : Res := ⟨(i % (2 ^ w : Nat)).toNat, 0⟩

/-- All ones or 0 in a lane of 32 bits (R344). -/
def maskLane32 (b : Bool) (f : Flags) : Res := ⟨if b then 2 ^ 32 - 1 else 0, f⟩

/-- Number of leading zeros of 32 bits. -/
def clz32 (v : Nat) : Nat := if v = 0 then 32 else 31 - v.log2

/-! ### Byte-wise forms (R346) -/

/-- Mask bytes of a row. -/
def maskRow (m : BitVec 256) (r : Row) : Row := ⟨r.data &&& (maskBytes m).data, r.side⟩

/-- A bitwise form on data and side lane. -/
def bitwiseRow (f : BitVec 2048 → BitVec 2048 → BitVec 2048) (h : BitVec 256 → BitVec 256 → BitVec 256) (a v : Row) : Row :=
  ⟨f a.data v.data, h a.side v.side⟩

/-- Result bits T[4x + 2y + z] for the bits x, y, z of a, b, c. -/
def lutBits {n : Nat} (t : Nat) (a b c : BitVec n) : BitVec n :=
  (List.range 8).foldl (fun acc i =>
    if t.testBit i then
      acc ||| ((if i.testBit 2 then a else ~~~a) &&& (if i.testBit 1 then b else ~~~b) &&& (if i.testBit 0 then c else ~~~c))
    else acc) 0

/-- The bytes of a side lane that are not 0, as a byte mask. -/
def sideMask (r : Row) : BitVec 256 :=
  BitVec.ofNat 256 (leNat ((rowSide r).map fun b => if b = 0 then 0 else 0xFF))

/-- Byte j of a where byte j of v is not 0, else byte j of b. -/
def selRow (a b v : Row) : Row :=
  let k := (maskBytes (rowMask v)).data
  let h := sideMask v
  ⟨(a.data &&& k) ||| (b.data &&& ~~~k), (a.side &&& h) ||| (b.side &&& ~~~h)⟩

/-- Run a byte-wise form with a T trigger. -/
def runBytes (port : BitVec 9) (need : List Latch) (f : Args → Nat → Row) (g : Guard) (src : Src) (s : State) : State :=
  runVx port need noFaults 1 (fun a => perSlice fun i => (maskRow (a.mask i) (f a i), 0)) g src s

/-- Run a byte-wise form with an S trigger below a limit. -/
def runShift (port : BitVec 9) (need : List Latch) (limit l : Nat) (f : Args → Nat → Row) (g : Guard) (src : Src)
    (s : State) : State :=
  runVx port need (fun a => if a.word.toNat < limit then [] else [fltOperand]) l
    (fun a => perSlice fun i => (maskRow (a.mask i) (f a i), 0)) g src s

/-- A row rotated by k bits; side lane 0. -/
def rotRow (k : Nat) (a : Row) : Row := ⟨a.data.rotateLeft k, 0⟩

/-- Bits k .. k + 2047 of b above a; side lane 0. -/
def fshRow (k : Nat) (a b : Row) : Row := dataRow ((a.data.toNat + b.data.toNat * 2 ^ 2048) / 2 ^ k)

/-! ### Conversions (R347, R348) -/

/-- The selector byte of slice `i` (R341). -/
def Args.selector (a : Args) (i : Nat) : Nat := bits (a.ra i).data.toNat 0 8

/-- The part of slice `i` for a ratio (R341). -/
def Args.part (a : Args) (i r : Nat) : Nat := bits (a.selector i) 0 3 % r

/-- The AMAX register: bits [5:4] of slice 0's selector byte (R341). -/
def Args.amaxK (a : Args) : Fin 4 := Fin.ofNat 4 (bits (a.selector 0) 4 2)

/-- Destination and source lanes of part `p` of a conversion from `ws` to `wd` bits (R347). -/
def cvtLanes (ws wd p : Nat) : List (Nat × Nat) :=
  if wd < ws then (List.range (2048 / ws)).map fun i => (p * (2048 / ws) + i, i)
  else if ws < wd then (List.range (2048 / wd)).map fun i => (i, p * (2048 / wd) + i)
  else (List.range (2048 / wd)).map fun i => (i, i)

/-- The ratio of a conversion (R347). -/
def cvtRatio (ws wd : Nat) : Nat := if wd < ws then ws / wd else wd / ws

/-- One slice of a conversion: the result row, the flags, and the source elements of its governed destination lanes.
`conv e x` converts the element x for destination lane e. -/
def cvtRow (ws wd p : Nat) (conv : Nat → Nat → Res) (m : BitVec 256) (v : Row) : Row × Flags × List Nat :=
  let l := (cvtLanes ws wd p).filter fun x => governed m wd x.1
  let src := l.map fun x => bits v.data.toNat (ws * x.2) ws
  let rs := (l.zip src).map fun x => (x.1.1, conv x.1.1 x.2)
  (dataRow (rs.foldl (fun n x => n + x.2.v % 2 ^ wd * 2 ^ (wd * x.1)) 0), flagsOf (rs.map (·.2)), src)

/-- A float-to-float conversion: to what, from what, saturating, stochastic; `p1` under profile 1 (Table 04.7). -/
def fConv (d f : Fmt) (sat : Bool) (mode : RMode) (p1 : Bool) (x : Nat) : Res :=
  match p1 && d == .e4m3 && mode == .rne, fDecode f x with
  | true, .num neg n e => cvtTiesAway sat neg n 1 e
  | _, y => fCvt d mode sat y

/-- What a conversion does with an element of slice `s` for destination lane `e` under a mode. -/
structure CvtForm where
  ws : Nat
  wd : Nat
  conv : RMode → Bool → Nat → Res
  sr : Bool
  amax : Option Fmt
  stall1 : Bool

/-- The mode of a conversion: RMODE with SR read as RNE, or a stochastic draw (R347, R348). -/
def Args.cvtMode (a : Args) (sr : Bool) (i e : Nat) : RMode :=
  if sr then .sr (drawU a.st.ctx.rngKey (a.st.ctx.rngCtr + BitVec.ofNat 128 a.st.group.rng) i e) else a.mode

/-- An SR conversion takes the next value of the counter, which advances when its group commits (R262, R348). -/
def State.drawnRng (s : State) : State := s.onGroup fun g => { g with rng := g.rng + 1 }

/-- Run a conversion (R347, R348). -/
def runCvt (port : BitVec 9) (k : CvtForm) (g : Guard) (src : Src) (s : State) : State :=
  runTrig g src port (if k.ws = k.wd then [] else [.vxa]) noFaults noWait
    (fun a =>
      let p1 := a.st.ctx.profile1
      let l := (List.range 256).map fun i =>
        cvtRow k.ws k.wd (a.part i (cvtRatio k.ws k.wd)) (fun e x => k.conv (a.cvtMode k.sr i e) p1 x) (a.mask i) (a.rv i)
      let slow := k.stall1 && p1 && a.mode == .rne
      let lat := if slow then stallLatency 16 else 3
      let s1 := a.st.deliverVx lat (l.map (·.1), l.foldl (fun f x => f ||| x.2.1) 0)
      let s2 := match k.amax with
        | some f => s1.amaxAt lat a.amaxK (amaxOver (l.flatMap fun x => x.2.2.map (fDecode f)))
        | none => s1
      let s3 := if k.sr then s2.drawnRng else s2
      if slow then s3.stall 16 else s3) s

/-- Sign extension of an element of `w` bits to `v` bits. -/
def sextLane (w v x : Nat) : Res := intRes v (signedOf w x)

/-! ### Row reductions (R350) -/

/-- An FP32 element as it enters a tree: a NaN is canonical, a signalling one raises NV (R243). -/
def canonF32 (x : Nat) : Res :=
  match fDecode .f32 x with
  | .nan sg => ⟨Fmt.nan .f32, if sg then fNV else 0⟩
  | _ => ⟨x, 0⟩

/-- A BF16 element converted exactly to FP32. -/
def canonBf16 (x : Nat) : Res := canonF32 (x * 2 ^ 16)

/-- Identities of R257. -/
abbrev idAdd : Nat := 0
abbrev idMax : Nat := 0xFF800000
abbrev idMin : Nat := 0x7F800000

/-- The elements of a row as they enter a reduction or scan: masked lanes are the identity (R257). -/
def treeLanes (w : Nat) (cv : Nat → Res) (ident : Nat) (m : BitVec 256) (v : Row) : List Res :=
  (rowLanes w v).zipIdx.map fun x => if governed m w x.2 then cv x.1 else ⟨ident, 0⟩

/-- The one result of a reduction. -/
def headRes (l : List Res) : Res := l.headD ⟨0, 0⟩

/-- One slice of a row reduction. -/
def reduceRow (w : Nat) (cv : Nat → Res) (ident : Nat) (op : Res → Res → Res) (m : BitVec 256) (v : Row) : Row × Flags :=
  let r := headRes (treeRed op (2048 / w).log2 (treeLanes w cv ident m v))
  (dataRow (packOf 32 (List.replicate 64 r.v)), r.f)

/-- Run a row reduction. -/
def runReduce (port : BitVec 9) (w : Nat) (cv : Nat → Res) (ident : Nat) (op : Res → Res → Res) (g : Guard) (src : Src)
    (s : State) : State :=
  runVx port [] noFaults 7 (fun a => perSlice fun i => reduceRow w cv ident op (a.mask i) (a.rv i)) g src s

/-! ### Block scale and quantise (R351, R352) -/

/-- The ratio of a block form: 4 for FP8, 8 for E2M1. -/
def blockRatio (f : Fmt) : Nat := if f == .e2m1 then 8 else 4

/-- One slice of bscale: the four scales of part `p` (R351). -/
def bscaleRow (f : Fmt) (p : Nat) (m : BitVec 256) (v : Row) : Row × Flags :=
  let xs := (rowLanes 32 v).zipIdx.map fun x => if governed m 32 x.2 then x.1 else 0
  let rs := (List.range 4).map fun j => bscale f ((xs.drop (16 * j)).take 16)
  (⟨0, BitVec.ofNat 256 (packOf 8 (rs.map (·.v)) * 2 ^ (32 * p))⟩, flagsOf rs)

/-- Run vx.bscale. -/
def runBscale (port : BitVec 9) (f : Fmt) (g : Guard) (src : Src) (s : State) : State :=
  runVx port [.vxa] noFaults 4
    (fun a => perSlice fun i => bscaleRow f (a.part i (blockRatio f)) (a.mask i) (a.rv i)) g src s

/-- One slice of bquant: the 64 elements of part `p` under the scales of b's side lane (R352). -/
def bquantRow (f : Fmt) (mode : Nat → RMode) (p : Nat) (m : BitVec 256) (b v : Row) : Row × Flags :=
  let w := f.width
  let rs := ((rowLanes 32 v).zipIdx.filter fun x => governed m w (64 * p + x.2)).map fun x =>
    let d := 64 * p + x.2
    (d, bquant1 f (mode d) (bits b.side.toNat (8 * (4 * p + x.2 / 16)) 8) x.1)
  (⟨BitVec.ofNat 2048 (rs.foldl (fun n x => n + x.2.v % 2 ^ w * 2 ^ (w * x.1)) 0), b.side⟩, flagsOf (rs.map (·.2)))

/-- Run vx.bquant: under SR it is one SR conversion (R348, R352). -/
def runBquant (port : BitVec 9) (f : Fmt) (g : Guard) (src : Src) (s : State) : State :=
  runTrig g src port [.vxa, .vxb] noFaults noWait
    (fun a =>
      let sr := a.st.ctx.rmode == 4
      let s1 := a.st.deliverVx 4 (perSlice fun i =>
        bquantRow f (a.cvtMode sr i) (a.part i (blockRatio f)) (a.mask i) (a.rb i) (a.rv i))
      if sr then s1.drawnRng else s1) s

/-- VX_FADD_F32 (R343). -/
def execVxFaddF32 (g : Guard) (src : Src) (s : State) : Host.Outcome State Fault Refusal :=
  .next (runLanes 0x104 [.vxa] 3 32 (fun md a _ v => fAdd .f32 md a v) g src s)

/-- VX_FSUB_F32 (R343). -/
def execVxFsubF32 (g : Guard) (src : Src) (s : State) : Host.Outcome State Fault Refusal :=
  .next (runLanes 0x105 [.vxa] 3 32 (fun md a _ v => fSub .f32 md a v) g src s)

/-- VX_FMUL_F32 (R343). -/
def execVxFmulF32 (g : Guard) (src : Src) (s : State) : Host.Outcome State Fault Refusal :=
  .next (runLanes 0x106 [.vxa] 5 32 (fun md a _ v => fMul .f32 md a v) g src s)

/-- VX_FMA_F32 (R343). -/
def execVxFmaF32 (g : Guard) (src : Src) (s : State) : Host.Outcome State Fault Refusal :=
  .next (runLanes 0x107 [.vxa, .vxb] 5 32 (fun md a b v => fFma .f32 md false false a b v) g src s)

/-- VX_FMS_F32 (R343). -/
def execVxFmsF32 (g : Guard) (src : Src) (s : State) : Host.Outcome State Fault Refusal :=
  .next (runLanes 0x108 [.vxa, .vxb] 5 32 (fun md a b v => fFma .f32 md false true a b v) g src s)

/-- VX_FNMA_F32 (R343). -/
def execVxFnmaF32 (g : Guard) (src : Src) (s : State) : Host.Outcome State Fault Refusal :=
  .next (runLanes 0x109 [.vxa, .vxb] 5 32 (fun md a b v => fFma .f32 md true false a b v) g src s)

/-- VX_FNMS_F32 (R343). -/
def execVxFnmsF32 (g : Guard) (src : Src) (s : State) : Host.Outcome State Fault Refusal :=
  .next (runLanes 0x10A [.vxa, .vxb] 5 32 (fun md a b v => fFma .f32 md true true a b v) g src s)

/-- VX_FMIN_F32 (R343). -/
def execVxFminF32 (g : Guard) (src : Src) (s : State) : Host.Outcome State Fault Refusal :=
  .next (runLanes 0x10B [.vxa] 3 32 (fun _ a _ v => fMinMax .f32 false false a v) g src s)

/-- VX_FMAX_F32 (R343). -/
def execVxFmaxF32 (g : Guard) (src : Src) (s : State) : Host.Outcome State Fault Refusal :=
  .next (runLanes 0x10C [.vxa] 3 32 (fun _ a _ v => fMinMax .f32 true false a v) g src s)

/-- VX_FMIN_NUM_F32 (R343). -/
def execVxFminNumF32 (g : Guard) (src : Src) (s : State) : Host.Outcome State Fault Refusal :=
  .next (runLanes 0x10D [.vxa] 3 32 (fun _ a _ v => fMinMax .f32 false true a v) g src s)

/-- VX_FMAX_NUM_F32 (R343). -/
def execVxFmaxNumF32 (g : Guard) (src : Src) (s : State) : Host.Outcome State Fault Refusal :=
  .next (runLanes 0x10E [.vxa] 3 32 (fun _ a _ v => fMinMax .f32 true true a v) g src s)

/-- VX_FADD_BF16 (R343). -/
def execVxFaddBf16 (g : Guard) (src : Src) (s : State) : Host.Outcome State Fault Refusal :=
  .next (runLanes 0x113 [.vxa] 3 16 (fun md a _ v => fAdd .bf16 md a v) g src s)

/-- VX_FSUB_BF16 (R343). -/
def execVxFsubBf16 (g : Guard) (src : Src) (s : State) : Host.Outcome State Fault Refusal :=
  .next (runLanes 0x114 [.vxa] 3 16 (fun md a _ v => fSub .bf16 md a v) g src s)

/-- VX_FMUL_BF16 (R343). -/
def execVxFmulBf16 (g : Guard) (src : Src) (s : State) : Host.Outcome State Fault Refusal :=
  .next (runLanes 0x115 [.vxa] 5 16 (fun md a _ v => fMul .bf16 md a v) g src s)

/-- VX_FMA_BF16 (R343). -/
def execVxFmaBf16 (g : Guard) (src : Src) (s : State) : Host.Outcome State Fault Refusal :=
  .next (runLanes 0x116 [.vxa, .vxb] 5 16 (fun md a b v => fFma .bf16 md false false a b v) g src s)

/-- VX_FMS_BF16 (R343). -/
def execVxFmsBf16 (g : Guard) (src : Src) (s : State) : Host.Outcome State Fault Refusal :=
  .next (runLanes 0x117 [.vxa, .vxb] 5 16 (fun md a b v => fFma .bf16 md false true a b v) g src s)

/-- VX_FNMA_BF16 (R343). -/
def execVxFnmaBf16 (g : Guard) (src : Src) (s : State) : Host.Outcome State Fault Refusal :=
  .next (runLanes 0x118 [.vxa, .vxb] 5 16 (fun md a b v => fFma .bf16 md true false a b v) g src s)

/-- VX_FNMS_BF16 (R343). -/
def execVxFnmsBf16 (g : Guard) (src : Src) (s : State) : Host.Outcome State Fault Refusal :=
  .next (runLanes 0x119 [.vxa, .vxb] 5 16 (fun md a b v => fFma .bf16 md true true a b v) g src s)

/-- VX_FMIN_BF16 (R343). -/
def execVxFminBf16 (g : Guard) (src : Src) (s : State) : Host.Outcome State Fault Refusal :=
  .next (runLanes 0x11A [.vxa] 3 16 (fun _ a _ v => fMinMax .bf16 false false a v) g src s)

/-- VX_FMAX_BF16 (R343). -/
def execVxFmaxBf16 (g : Guard) (src : Src) (s : State) : Host.Outcome State Fault Refusal :=
  .next (runLanes 0x11B [.vxa] 3 16 (fun _ a _ v => fMinMax .bf16 true false a v) g src s)

/-- VX_FADD_F16 (R343). -/
def execVxFaddF16 (g : Guard) (src : Src) (s : State) : Host.Outcome State Fault Refusal :=
  .next (runLanes 0x11C [.vxa] 3 16 (fun md a _ v => fAdd .f16 md a v) g src s)

/-- VX_FMUL_F16 (R343). -/
def execVxFmulF16 (g : Guard) (src : Src) (s : State) : Host.Outcome State Fault Refusal :=
  .next (runLanes 0x11D [.vxa] 5 16 (fun md a _ v => fMul .f16 md a v) g src s)

/-- VX_FMA_F16 (R343). -/
def execVxFmaF16 (g : Guard) (src : Src) (s : State) : Host.Outcome State Fault Refusal :=
  .next (runLanes 0x11E [.vxa, .vxb] 5 16 (fun md a b v => fFma .f16 md false false a b v) g src s)

/-- VX_FMAX_F16 (R343). -/
def execVxFmaxF16 (g : Guard) (src : Src) (s : State) : Host.Outcome State Fault Refusal :=
  .next (runLanes 0x11F [.vxa] 3 16 (fun _ a _ v => fMinMax .f16 true false a v) g src s)

/-- VX_FMUL_E4M3 (R343). -/
def execVxFmulE4m3 (g : Guard) (src : Src) (s : State) : Host.Outcome State Fault Refusal :=
  .next (runLanes 0x120 [.vxa] 5 8 (fun md a _ v => fMul .e4m3 md a v) g src s)

/-- VX_FMUL_E5M2 (R343). -/
def execVxFmulE5m2 (g : Guard) (src : Src) (s : State) : Host.Outcome State Fault Refusal :=
  .next (runLanes 0x121 [.vxa] 5 8 (fun md a _ v => fMul .e5m2 md a v) g src s)

/-- VX_FMUL_E2M1 (R343). -/
def execVxFmulE2m1 (g : Guard) (src : Src) (s : State) : Host.Outcome State Fault Refusal :=
  .next (runLanes 0x122 [.vxa] 5 4 (fun md a _ v => fMul .e2m1 md a v) g src s)

/-- VX_FCMP_EQ_F32 (R344). -/
def execVxFcmpEqF32 (g : Guard) (src : Src) (s : State) : Host.Outcome State Fault Refusal :=
  .next (runLanes 0x10F [.vxa] 3 32 (fun _ a _ v => maskLane32 (fCmp .f32 .eq a v).1 (fCmp .f32 .eq a v).2) g src s)

/-- VX_FCMP_LT_F32 (R344). -/
def execVxFcmpLtF32 (g : Guard) (src : Src) (s : State) : Host.Outcome State Fault Refusal :=
  .next (runLanes 0x110 [.vxa] 3 32 (fun _ a _ v => maskLane32 (fCmp .f32 .lt a v).1 (fCmp .f32 .lt a v).2) g src s)

/-- VX_FCMP_LE_F32 (R344). -/
def execVxFcmpLeF32 (g : Guard) (src : Src) (s : State) : Host.Outcome State Fault Refusal :=
  .next (runLanes 0x111 [.vxa] 3 32 (fun _ a _ v => maskLane32 (fCmp .f32 .le a v).1 (fCmp .f32 .le a v).2) g src s)

/-- VX_FCMP_UN_F32 (R344). -/
def execVxFcmpUnF32 (g : Guard) (src : Src) (s : State) : Host.Outcome State Fault Refusal :=
  .next (runLanes 0x112 [.vxa] 3 32 (fun _ a _ v => maskLane32 (fCmp .f32 .un a v).1 (fCmp .f32 .un a v).2) g src s)

/-- VX_IADD_I32 (R345). -/
def execVxIaddI32 (g : Guard) (src : Src) (s : State) : Host.Outcome State Fault Refusal :=
  .next (runLanes 0x123 [.vxa] 2 32 (fun _ a _ v => ⟨(a + v) % 2 ^ 32, 0⟩) g src s)

/-- VX_ISUB_I32 (R345). -/
def execVxIsubI32 (g : Guard) (src : Src) (s : State) : Host.Outcome State Fault Refusal :=
  .next (runLanes 0x124 [.vxa] 2 32 (fun _ a _ v => ⟨(a + 2 ^ 32 - v) % 2 ^ 32, 0⟩) g src s)

/-- VX_IADD_S_I32 (R345). -/
def execVxIaddSI32 (g : Guard) (src : Src) (s : State) : Host.Outcome State Fault Refusal :=
  .next (runLanes 0x125 [.vxa] 2 32 (fun _ a _ v => ⟨satInt 32 (signedOf 32 a + signedOf 32 v), 0⟩) g src s)

/-- VX_ISUB_S_I32 (R345). -/
def execVxIsubSI32 (g : Guard) (src : Src) (s : State) : Host.Outcome State Fault Refusal :=
  .next (runLanes 0x126 [.vxa] 2 32 (fun _ a _ v => ⟨satInt 32 (signedOf 32 a - signedOf 32 v), 0⟩) g src s)

/-- VX_IMUL_I32 (R345). -/
def execVxImulI32 (g : Guard) (src : Src) (s : State) : Host.Outcome State Fault Refusal :=
  .next (runLanes 0x127 [.vxa] 4 32 (fun _ a _ v => ⟨a * v % 2 ^ 32, 0⟩) g src s)

/-- VX_IMAD_I32 (R345). -/
def execVxImadI32 (g : Guard) (src : Src) (s : State) : Host.Outcome State Fault Refusal :=
  .next (runLanes 0x128 [.vxa, .vxb] 4 32 (fun _ a b v => ⟨(a * b + v) % 2 ^ 32, 0⟩) g src s)

/-- VX_IMIN_I32 (R345). -/
def execVxIminI32 (g : Guard) (src : Src) (s : State) : Host.Outcome State Fault Refusal :=
  .next (runLanes 0x129 [.vxa] 2 32 (fun _ a _ v => ⟨if signedOf 32 v < signedOf 32 a then v else a, 0⟩) g src s)

/-- VX_IMAX_I32 (R345). -/
def execVxImaxI32 (g : Guard) (src : Src) (s : State) : Host.Outcome State Fault Refusal :=
  .next (runLanes 0x12A [.vxa] 2 32 (fun _ a _ v => ⟨if signedOf 32 a < signedOf 32 v then v else a, 0⟩) g src s)

/-- VX_IMINU_I32 (R345). -/
def execVxIminuI32 (g : Guard) (src : Src) (s : State) : Host.Outcome State Fault Refusal :=
  .next (runLanes 0x12B [.vxa] 2 32 (fun _ a _ v => ⟨min a v, 0⟩) g src s)

/-- VX_IMAXU_I32 (R345). -/
def execVxImaxuI32 (g : Guard) (src : Src) (s : State) : Host.Outcome State Fault Refusal :=
  .next (runLanes 0x12C [.vxa] 2 32 (fun _ a _ v => ⟨max a v, 0⟩) g src s)

/-- VX_ICMP_EQ_I32 (R345). -/
def execVxIcmpEqI32 (g : Guard) (src : Src) (s : State) : Host.Outcome State Fault Refusal :=
  .next (runLanes 0x12D [.vxa] 2 32 (fun _ a _ v => maskLane32 (a == v) 0) g src s)

/-- VX_ICMP_LT_I32 (R345). -/
def execVxIcmpLtI32 (g : Guard) (src : Src) (s : State) : Host.Outcome State Fault Refusal :=
  .next (runLanes 0x12E [.vxa] 2 32 (fun _ a _ v => maskLane32 (decide (signedOf 32 a < signedOf 32 v)) 0) g src s)

/-- VX_ICMP_LTU_I32 (R345). -/
def execVxIcmpLtuI32 (g : Guard) (src : Src) (s : State) : Host.Outcome State Fault Refusal :=
  .next (runLanes 0x12F [.vxa] 2 32 (fun _ a _ v => maskLane32 (decide (a < v)) 0) g src s)

/-- VX_SHL_I32 (R345). -/
def execVxShlI32 (g : Guard) (src : Src) (s : State) : Host.Outcome State Fault Refusal :=
  .next (runLanes 0x130 [.vxa] 2 32 (fun _ a _ v => ⟨a * 2 ^ (v % 32) % 2 ^ 32, 0⟩) g src s)

/-- VX_SHR_I32 (R345). -/
def execVxShrI32 (g : Guard) (src : Src) (s : State) : Host.Outcome State Fault Refusal :=
  .next (runLanes 0x131 [.vxa] 2 32 (fun _ a _ v => ⟨a / 2 ^ (v % 32), 0⟩) g src s)

/-- VX_SAR_I32 (R345). -/
def execVxSarI32 (g : Guard) (src : Src) (s : State) : Host.Outcome State Fault Refusal :=
  .next (runLanes 0x132 [.vxa] 2 32 (fun _ a _ v => intRes 32 (signedOf 32 a / (2 ^ (v % 32) : Nat))) g src s)

/-- VX_POPC_I32 (R345). -/
def execVxPopcI32 (g : Guard) (src : Src) (s : State) : Host.Outcome State Fault Refusal :=
  .next (runLanes 0x133 [] 2 32 (fun _ _ _ v => ⟨popcount 32 v, 0⟩) g src s)

/-- VX_CLZ_I32 (R345). -/
def execVxClzI32 (g : Guard) (src : Src) (s : State) : Host.Outcome State Fault Refusal :=
  .next (runLanes 0x134 [] 2 32 (fun _ _ _ v => ⟨clz32 v, 0⟩) g src s)

/-- VX_IADD_I16 (R345). -/
def execVxIaddI16 (g : Guard) (src : Src) (s : State) : Host.Outcome State Fault Refusal :=
  .next (runLanes 0x135 [.vxa] 2 16 (fun _ a _ v => ⟨(a + v) % 2 ^ 16, 0⟩) g src s)

/-- VX_IADD_I8 (R345). -/
def execVxIaddI8 (g : Guard) (src : Src) (s : State) : Host.Outcome State Fault Refusal :=
  .next (runLanes 0x136 [.vxa] 2 8 (fun _ a _ v => ⟨(a + v) % 2 ^ 8, 0⟩) g src s)

/-- VX_IADD_S_I8 (R345). -/
def execVxIaddSI8 (g : Guard) (src : Src) (s : State) : Host.Outcome State Fault Refusal :=
  .next (runLanes 0x137 [.vxa] 2 8 (fun _ a _ v => ⟨satInt 8 (signedOf 8 a + signedOf 8 v), 0⟩) g src s)

/-- VX_AND (R346). -/
def execVxAnd (g : Guard) (src : Src) (s : State) : Host.Outcome State Fault Refusal :=
  .next (runBytes 0x138 [.vxa] (fun a i => bitwiseRow (fun a v => a &&& v) (fun a v => a &&& v) (a.ra i) (a.rv i)) g src s)

/-- VX_OR (R346). -/
def execVxOr (g : Guard) (src : Src) (s : State) : Host.Outcome State Fault Refusal :=
  .next (runBytes 0x139 [.vxa] (fun a i => bitwiseRow (fun a v => a ||| v) (fun a v => a ||| v) (a.ra i) (a.rv i)) g src s)

/-- VX_XOR (R346). -/
def execVxXor (g : Guard) (src : Src) (s : State) : Host.Outcome State Fault Refusal :=
  .next (runBytes 0x13A [.vxa] (fun a i => bitwiseRow (fun a v => a ^^^ v) (fun a v => a ^^^ v) (a.ra i) (a.rv i)) g src s)

/-- VX_ANDN (R346). -/
def execVxAndn (g : Guard) (src : Src) (s : State) : Host.Outcome State Fault Refusal :=
  .next (runBytes 0x13B [.vxa] (fun a i => bitwiseRow (fun a v => a &&& ~~~v) (fun a v => a &&& ~~~v) (a.ra i) (a.rv i)) g src s)

/-- VX_LUT3 (R346): the side lane is computed, as R346 and Table 14.4 say of this form; R340's list does not name it (log 52). -/
def execVxLut3 (g : Guard) (src : Src) (s : State) : Host.Outcome State Fault Refusal :=
  .next (runShift 0x13C [.vxa, .vxb, .vxc] 256 1 (fun a i => ⟨lutBits a.word.toNat (a.ra i).data (a.rb i).data (a.rc i).data, lutBits a.word.toNat (a.ra i).side (a.rb i).side (a.rc i).side⟩) g src s)

/-- VX_SEL (R346). -/
def execVxSel (g : Guard) (src : Src) (s : State) : Host.Outcome State Fault Refusal :=
  .next (runBytes 0x13D [.vxa, .vxb] (fun a i => selRow (a.ra i) (a.rb i) (a.rv i)) g src s)

/-- VX_ROT (R346). -/
def execVxRot (g : Guard) (src : Src) (s : State) : Host.Outcome State Fault Refusal :=
  .next (runShift 0x13E [.vxa] 2048 2 (fun a i => rotRow a.word.toNat (a.ra i)) g src s)

/-- VX_FSH (R346). -/
def execVxFsh (g : Guard) (src : Src) (s : State) : Host.Outcome State Fault Refusal :=
  .next (runShift 0x13F [.vxa, .vxb] 2048 2 (fun a i => fshRow a.word.toNat (a.ra i) (a.rb i)) g src s)

/-- VX_CVT_F32_BF16 (R347, Table 14.5). -/
def execVxCvtF32Bf16 (g : Guard) (src : Src) (s : State) : Host.Outcome State Fault Refusal :=
  .next (runCvt 0x148 ⟨32, 16, fun md p1 x => fConv .bf16 .f32 false md p1 x, false, none, false⟩ g src s)

/-- VX_CVT_F32_F16 (R347, Table 14.5). -/
def execVxCvtF32F16 (g : Guard) (src : Src) (s : State) : Host.Outcome State Fault Refusal :=
  .next (runCvt 0x149 ⟨32, 16, fun md p1 x => fConv .f16 .f32 false md p1 x, false, none, false⟩ g src s)

/-- VX_CVT_BF16_F32 (R347, Table 14.5). -/
def execVxCvtBf16F32 (g : Guard) (src : Src) (s : State) : Host.Outcome State Fault Refusal :=
  .next (runCvt 0x14A ⟨16, 32, fun md p1 x => fConv .f32 .bf16 false md p1 x, false, none, false⟩ g src s)

/-- VX_CVT_F16_F32 (R347, Table 14.5). -/
def execVxCvtF16F32 (g : Guard) (src : Src) (s : State) : Host.Outcome State Fault Refusal :=
  .next (runCvt 0x14B ⟨16, 32, fun md p1 x => fConv .f32 .f16 false md p1 x, false, none, false⟩ g src s)

/-- VX_CVT_F32_E4M3_SAT (R347, Table 14.5). -/
def execVxCvtF32E4m3Sat (g : Guard) (src : Src) (s : State) : Host.Outcome State Fault Refusal :=
  .next (runCvt 0x14C ⟨32, 8, fun md p1 x => fConv .e4m3 .f32 true md p1 x, false, none, true⟩ g src s)

/-- VX_CVT_F32_E4M3_NAN (R347, Table 14.5). -/
def execVxCvtF32E4m3Nan (g : Guard) (src : Src) (s : State) : Host.Outcome State Fault Refusal :=
  .next (runCvt 0x14D ⟨32, 8, fun md p1 x => fConv .e4m3 .f32 false md p1 x, false, none, true⟩ g src s)

/-- VX_CVT_F32_E5M2_SAT (R347, Table 14.5). -/
def execVxCvtF32E5m2Sat (g : Guard) (src : Src) (s : State) : Host.Outcome State Fault Refusal :=
  .next (runCvt 0x14E ⟨32, 8, fun md p1 x => fConv .e5m2 .f32 true md p1 x, false, none, false⟩ g src s)

/-- VX_CVT_F32_E5M2_INF (R347, Table 14.5). -/
def execVxCvtF32E5m2Inf (g : Guard) (src : Src) (s : State) : Host.Outcome State Fault Refusal :=
  .next (runCvt 0x14F ⟨32, 8, fun md p1 x => fConv .e5m2 .f32 false md p1 x, false, none, false⟩ g src s)

/-- VX_CVT_F32_E2M1 (R347, Table 14.5). -/
def execVxCvtF32E2m1 (g : Guard) (src : Src) (s : State) : Host.Outcome State Fault Refusal :=
  .next (runCvt 0x150 ⟨32, 4, fun md p1 x => fConv .e2m1 .f32 true md p1 x, false, none, false⟩ g src s)

/-- VX_CVT_BF16_E4M3_SAT (R347, Table 14.5). -/
def execVxCvtBf16E4m3Sat (g : Guard) (src : Src) (s : State) : Host.Outcome State Fault Refusal :=
  .next (runCvt 0x151 ⟨16, 8, fun md p1 x => fConv .e4m3 .bf16 true md p1 x, false, none, true⟩ g src s)

/-- VX_CVT_BF16_E5M2_SAT (R347, Table 14.5). -/
def execVxCvtBf16E5m2Sat (g : Guard) (src : Src) (s : State) : Host.Outcome State Fault Refusal :=
  .next (runCvt 0x152 ⟨16, 8, fun md p1 x => fConv .e5m2 .bf16 true md p1 x, false, none, false⟩ g src s)

/-- VX_CVT_E4M3_F32 (R347, Table 14.5). -/
def execVxCvtE4m3F32 (g : Guard) (src : Src) (s : State) : Host.Outcome State Fault Refusal :=
  .next (runCvt 0x153 ⟨8, 32, fun md p1 x => fConv .f32 .e4m3 false md p1 x, false, none, false⟩ g src s)

/-- VX_CVT_E5M2_F32 (R347, Table 14.5). -/
def execVxCvtE5m2F32 (g : Guard) (src : Src) (s : State) : Host.Outcome State Fault Refusal :=
  .next (runCvt 0x154 ⟨8, 32, fun md p1 x => fConv .f32 .e5m2 false md p1 x, false, none, false⟩ g src s)

/-- VX_CVT_E2M1_F32 (R347, Table 14.5). -/
def execVxCvtE2m1F32 (g : Guard) (src : Src) (s : State) : Host.Outcome State Fault Refusal :=
  .next (runCvt 0x155 ⟨4, 32, fun md p1 x => fConv .f32 .e2m1 false md p1 x, false, none, false⟩ g src s)

/-- VX_CVT_E4M3_BF16 (R347, Table 14.5). -/
def execVxCvtE4m3Bf16 (g : Guard) (src : Src) (s : State) : Host.Outcome State Fault Refusal :=
  .next (runCvt 0x156 ⟨8, 16, fun md p1 x => fConv .bf16 .e4m3 false md p1 x, false, none, false⟩ g src s)

/-- VX_CVT_F32_I32 (R347, Table 14.5). -/
def execVxCvtF32I32 (g : Guard) (src : Src) (s : State) : Host.Outcome State Fault Refusal :=
  .next (runCvt 0x157 ⟨32, 32, fun md _ x => fToInt 32 .f32 md x, false, none, false⟩ g src s)

/-- VX_CVT_I32_F32 (R347, Table 14.5). -/
def execVxCvtI32F32 (g : Guard) (src : Src) (s : State) : Host.Outcome State Fault Refusal :=
  .next (runCvt 0x158 ⟨32, 32, fun md _ x => fOfInt .f32 md (signedOf 32 x), false, none, false⟩ g src s)

/-- VX_CVT_I8_F32 (R347, Table 14.5). -/
def execVxCvtI8F32 (g : Guard) (src : Src) (s : State) : Host.Outcome State Fault Refusal :=
  .next (runCvt 0x159 ⟨8, 32, fun md _ x => fOfInt .f32 md (signedOf 8 x), false, none, false⟩ g src s)

/-- VX_CVT_F32_I8 (R347, Table 14.5). -/
def execVxCvtF32I8 (g : Guard) (src : Src) (s : State) : Host.Outcome State Fault Refusal :=
  .next (runCvt 0x15A ⟨32, 8, fun md _ x => fToInt 8 .f32 md x, false, none, false⟩ g src s)

/-- VX_CVT_I4_I8 (R347, Table 14.5). -/
def execVxCvtI4I8 (g : Guard) (src : Src) (s : State) : Host.Outcome State Fault Refusal :=
  .next (runCvt 0x15B ⟨4, 8, fun _ _ x => sextLane 4 8 x, false, none, false⟩ g src s)

/-- VX_CVT_I32_I8_S (R347, Table 14.5). -/
def execVxCvtI32I8S (g : Guard) (src : Src) (s : State) : Host.Outcome State Fault Refusal :=
  .next (runCvt 0x15C ⟨32, 8, fun _ _ x => ⟨satInt 8 (signedOf 32 x), 0⟩, false, none, false⟩ g src s)

/-- VX_CVT_F32_E4M3_SAT_AMAX (R347, Table 14.5). -/
def execVxCvtF32E4m3SatAmax (g : Guard) (src : Src) (s : State) : Host.Outcome State Fault Refusal :=
  .next (runCvt 0x15D ⟨32, 8, fun md p1 x => fConv .e4m3 .f32 true md p1 x, false, some .f32, true⟩ g src s)

/-- VX_CVT_F32_E5M2_SAT_AMAX (R347, Table 14.5). -/
def execVxCvtF32E5m2SatAmax (g : Guard) (src : Src) (s : State) : Host.Outcome State Fault Refusal :=
  .next (runCvt 0x15E ⟨32, 8, fun md p1 x => fConv .e5m2 .f32 true md p1 x, false, some .f32, false⟩ g src s)

/-- VX_CVT_F32_BF16_AMAX (R347, Table 14.5). -/
def execVxCvtF32Bf16Amax (g : Guard) (src : Src) (s : State) : Host.Outcome State Fault Refusal :=
  .next (runCvt 0x15F ⟨32, 16, fun md p1 x => fConv .bf16 .f32 false md p1 x, false, some .f32, false⟩ g src s)

/-- VX_CVT_SR_F32_E4M3_SAT (R347, Table 14.5). -/
def execVxCvtSrF32E4m3Sat (g : Guard) (src : Src) (s : State) : Host.Outcome State Fault Refusal :=
  .next (runCvt 0x160 ⟨32, 8, fun md p1 x => fConv .e4m3 .f32 true md p1 x, true, none, false⟩ g src s)

/-- VX_CVT_SR_F32_E5M2_SAT (R347, Table 14.5). -/
def execVxCvtSrF32E5m2Sat (g : Guard) (src : Src) (s : State) : Host.Outcome State Fault Refusal :=
  .next (runCvt 0x161 ⟨32, 8, fun md p1 x => fConv .e5m2 .f32 true md p1 x, true, none, false⟩ g src s)

/-- VX_CVT_SR_F32_BF16 (R347, Table 14.5). -/
def execVxCvtSrF32Bf16 (g : Guard) (src : Src) (s : State) : Host.Outcome State Fault Refusal :=
  .next (runCvt 0x162 ⟨32, 16, fun md p1 x => fConv .bf16 .f32 false md p1 x, true, none, false⟩ g src s)

/-- VX_RCP_F32 (R349). -/
def execVxRcpF32 (g : Guard) (src : Src) (s : State) : Host.Outcome State Fault Refusal :=
  .next (runFun 0x163 12 fRcp (some (48, rcp1)) g src s)

/-- VX_RSQRT_F32 (R349). -/
def execVxRsqrtF32 (g : Guard) (src : Src) (s : State) : Host.Outcome State Fault Refusal :=
  .next (runFun 0x164 12 fRsqrt (some (48, rsqrt1)) g src s)

/-- VX_SQRT_F32 (R349). -/
def execVxSqrtF32 (g : Guard) (src : Src) (s : State) : Host.Outcome State Fault Refusal :=
  .next (runFun 0x165 12 fSqrt none g src s)

/-- VX_EXP2_F32 (R349). -/
def execVxExp2F32 (g : Guard) (src : Src) (s : State) : Host.Outcome State Fault Refusal :=
  .next (runFun 0x166 14 fExp2 (some (64, exp2_1)) g src s)

/-- VX_LOG2_F32 (R349). -/
def execVxLog2F32 (g : Guard) (src : Src) (s : State) : Host.Outcome State Fault Refusal :=
  .next (runFun 0x167 14 fLog2 none g src s)

/-- VX_RSUM_F32 (R350). -/
def execVxRsumF32 (g : Guard) (src : Src) (s : State) : Host.Outcome State Fault Refusal :=
  .next (runReduce 0x168 32 canonF32 idAdd addF32 g src s)

/-- VX_RSUM_BF16 (R350). -/
def execVxRsumBf16 (g : Guard) (src : Src) (s : State) : Host.Outcome State Fault Refusal :=
  .next (runReduce 0x169 16 canonBf16 idAdd addF32 g src s)

/-- VX_RMAX_F32 (R350). -/
def execVxRmaxF32 (g : Guard) (src : Src) (s : State) : Host.Outcome State Fault Refusal :=
  .next (runReduce 0x16A 32 canonF32 idMax maxF32 g src s)

/-- VX_RMAX_BF16 (R350). -/
def execVxRmaxBf16 (g : Guard) (src : Src) (s : State) : Host.Outcome State Fault Refusal :=
  .next (runReduce 0x16B 16 canonBf16 idMax maxF32 g src s)

/-- VX_RMIN_F32 (R350). -/
def execVxRminF32 (g : Guard) (src : Src) (s : State) : Host.Outcome State Fault Refusal :=
  .next (runReduce 0x16C 32 canonF32 idMin minF32 g src s)

/-- VX_RMIN_BF16 (R350). -/
def execVxRminBf16 (g : Guard) (src : Src) (s : State) : Host.Outcome State Fault Refusal :=
  .next (runReduce 0x16D 16 canonBf16 idMin minF32 g src s)

/-- VX_RSUM_I32 (R350). -/
def execVxRsumI32 (g : Guard) (src : Src) (s : State) : Host.Outcome State Fault Refusal :=
  .next (runReduce 0x16E 32 (fun x => ⟨x, 0⟩) idAdd addI32 g src s)

/-- VX_RSUM_I8 (R350). -/
def execVxRsumI8 (g : Guard) (src : Src) (s : State) : Host.Outcome State Fault Refusal :=
  .next (runReduce 0x16F 8 (sextLane 8 32) idAdd addI32 g src s)

/-- VX_BSCALE_E4M3 (R351). -/
def execVxBscaleE4m3 (g : Guard) (src : Src) (s : State) : Host.Outcome State Fault Refusal :=
  .next (runBscale 0x170 .e4m3 g src s)

/-- VX_BQUANT_E4M3 (R352). -/
def execVxBquantE4m3 (g : Guard) (src : Src) (s : State) : Host.Outcome State Fault Refusal :=
  .next (runBquant 0x173 .e4m3 g src s)

/-- VX_BSCALE_E5M2 (R351). -/
def execVxBscaleE5m2 (g : Guard) (src : Src) (s : State) : Host.Outcome State Fault Refusal :=
  .next (runBscale 0x171 .e5m2 g src s)

/-- VX_BQUANT_E5M2 (R352). -/
def execVxBquantE5m2 (g : Guard) (src : Src) (s : State) : Host.Outcome State Fault Refusal :=
  .next (runBquant 0x174 .e5m2 g src s)

/-- VX_BSCALE_E2M1 (R351). -/
def execVxBscaleE2m1 (g : Guard) (src : Src) (s : State) : Host.Outcome State Fault Refusal :=
  .next (runBscale 0x172 .e2m1 g src s)

/-- VX_BQUANT_E2M1 (R352). -/
def execVxBquantE2m1 (g : Guard) (src : Src) (s : State) : Host.Outcome State Fault Refusal :=
  .next (runBquant 0x175 .e2m1 g src s)

end Sys2Proof.Machine
end

