-- ==== Sys2Proof/Machine/Matrix.lean ====
section
/-! DEFINITION. The matrix wall (15 R370 to R376, 10 R253, R254): pushes, swap, beats, drains, zero. -/

namespace Sys2Proof.Machine

/-- What a dense form reads of a row: its tag, its format or signed bytes, lanes. -/
structure MxForm where
  tag : Tag
  fmt : Option Fmt
  scales : Bool

/-- The dense forms (R372, R374). -/
def mxE4m3 : MxForm := ⟨.e4m3, some .e4m3, true⟩
def mxE5m2 : MxForm := ⟨.e5m2, some .e5m2, true⟩
def mxE2m1 : MxForm := ⟨.e2m1, some .e2m1, true⟩
def mxBf16 : MxForm := ⟨.bf16, some .bf16, false⟩
def mxF16 : MxForm := ⟨.f16, some .f16, false⟩
def mxI8 : MxForm := ⟨.i8, none, false⟩

/-- Bits of an element of a form. -/
def MxForm.width (f : MxForm) : Nat := match f.fmt with | some x => x.width | none => 8

/-- The exact value of an element of a form. -/
def MxForm.value (f : MxForm) (x : Nat) : Exact :=
  match f.fmt with
  | some m => fDecode m x
  | none => .num (decide (signedOf 8 x < 0)) (signedOf 8 x).natAbs 0

/-- The exact values of a row under a form. -/
def MxForm.values (f : MxForm) (r : Row) : List Exact := (rowLanes f.width r).map f.value

/-- Scale 1.0 (R245). -/
def scaleOne : Exact := .num false 1 0

/-- The scale of block `k` of a row; 1.0 when it is not block-scaled (R245). -/
def scaleOf (on : Bool) (r : Row) (k : Nat) : Exact :=
  if on then fDecode .ue5m3 (bits r.side.toNat (8 * k) 8) else scaleOne

/-- Zero values in place of a column tagged NONE (R370). -/
def zeros (n : Nat) : List Exact := List.replicate n (.num false 0 0)

/-- EXACT_DOT of an A row with one column, given their values and the scales of their blocks (R253). -/
def dotProduct (a b : List Exact) (sa sb : Nat → Exact) : Exact :=
  exactDot ((a.zip b).zipIdx.map fun x => dotTerm x.1.1 (sa (x.2 / 16)) x.1.2 (sb (x.2 / 16)))

/-- The 16 sums of one cell for a dense beat (R253, R374). -/
def denseSums (f : MxForm) (sc : Bool) (c : Cell) (a : Row) : List Exact :=
  let av := f.values a
  (List.range 16).map fun j =>
    let col := c.active.cols.toList.getD j Row.zero
    let on := c.active.sc.getLsbD j
    let bv := if c.active.tags.toList.getD j .none == .none then zeros av.length else f.values col
    dotProduct av bv (scaleOf sc a) (scaleOf on col)

/-- The form of a sparse tag. -/
def sparseForm : Tag → Option MxForm
  | .sE4m3 => some ⟨.sE4m3, some .e4m3, true⟩
  | .sE5m2 => some ⟨.sE5m2, some .e5m2, true⟩
  | .sI8 => some ⟨.sI8, none, false⟩
  | _ => none

/-- IDX(j, v): the index of kept value v of column j (R373). -/
def BBuf.idx (b : BBuf) (j v : Nat) : Nat :=
  bits (b.ix.toList.getD (j / 4) 0).toNat (512 * (j % 4) + 2 * v) 2

/-- The logical column of 512 values of a sparse column, and which positions are selected (R373): kept values 2g and 2g + 1
land in group g; the flag tells of opposite infinities, or signalling NaNs, that coincide. -/
def BBuf.logical (b : BBuf) (j : Nat) (kept : List Exact) : List (Option (Exact × Bool)) :=
  (List.range 512).map fun i =>
    let g := i / 4
    let one (v : Nat) : List Exact := if b.idx j v = i % 4 then [kept.getD v (.num false 0 0)] else []
    match one (2 * g) ++ one (2 * g + 1) with
    | [] => none
    | [x] => some (x, false)
    | x :: y :: _ =>
      let r := Exact.add false x y
      some (r.1, r.2 || x.sig || y.sig)

/-- The 16 sums of one cell for a sparse beat: positions not selected are +0 (R253, R373). -/
def sparseSums (f : MxForm) (sc : Bool) (c : Cell) (a g1 : Row) : List Exact :=
  let av := f.values a ++ f.values g1
  let sa (k : Nat) : Exact := if k < 16 then scaleOf sc a k else scaleOf sc g1 (k - 16)
  (List.range 16).map fun j =>
    let col := c.active.cols.toList.getD j Row.zero
    let on := c.active.sc.getLsbD j
    let kept := if c.active.tags.toList.getD j .none == .none then zeros 256 else f.values col
    let ts := (av.zip (c.active.logical j kept)).zipIdx.map fun x =>
      match x.1.2 with
      | some (b, bad) =>
        let sb := scaleOf on col (x.2 / 16)
        let t := dotTerm x.1.1 (sa (x.2 / 16)) b sb
        (t.1, t.2 || (bad && !sb.isZero))
      | none => (Exact.num false 0 0, false)
    exactDot ts

/-- Every tag of the active buffers of a die that is not NONE (R374). -/
def Wall.activeTags (w : Wall) : List Tag :=
  w.cells.flatMap fun c => c.active.tags.toList.filter fun t => t != .none

/-- Illegal operand unless a condition holds. -/
def needOk (b : Bool) : List Flt := if b then [] else [fltOperand]

/-! ### The forms -/

/-- Run a dense push (R371, R372): visible to beats from p + 2 on, once swapped. -/
def runPush (port : BitVec 9) (f : MxForm) (g : Guard) (src : Src) (s : State) : State :=
  runTrig g src port [.mxa, .mxb]
    (fun a => (a.ifOp .mxa fun x => needOk (decide (x.toNat < 16))) ++
      (a.ifOp .mxb fun x => needOk (decide (x.toNat < 16) && (f.scales || !bit x 0)))) noWait
    (fun a => a.st.after 2 (.push (a.op .mxa).toNat f.tag (bit (a.op .mxb) 0) a.tile)) s

/-- The tag of FMT of push.sp; 3 is refused (R372). -/
def spTag (x : Word) : Option Tag :=
  match fld x 2 2 with
  | 0 => some .sE4m3 | 1 => some .sE5m2 | 2 => some .sI8 | _ => none

/-- Run mx.push.sp (R372, R373). -/
def runPushSp (g : Guard) (src : Src) (s : State) : State :=
  runTrig g src 0x18E [.mxa, .mxb]
    (fun a => (a.ifOp .mxa fun x => needOk (decide (x.toNat < 16))) ++
      (a.ifOp .mxb fun x => needOk (decide (x.toNat < 16) && (spTag x).isSome && !(fld x 2 2 == 2 && bit x 0)))) noWait
    (fun a =>
      match spTag (a.op .mxb) with
      | some t => a.st.after 2 (.push (a.op .mxa).toNat t (bit (a.op .mxb) 0) a.tile)
      | none => a.st) s

/-- Run mx.push.ix (R373). -/
def runPushIx (g : Guard) (src : Src) (s : State) : State :=
  runTrig g src 0x18F [.mxa] (fun a => a.ifOp .mxa fun x => needOk (decide (x.toNat < 4))) noWait
    (fun a => a.st.after 2 (.pushIx (a.op .mxa).toNat a.tile)) s

/-- Run mx.swap: active and shadow exchange at the end of m + 1 (R371). -/
def runSwap (g : Guard) (src : Src) (s : State) : State :=
  runTrig g src 0x190 [] noFaults noWait (fun a => a.st.after 2 .swap) s

/-- The operand checks of a beat: the row in mx.a, SC and ZF in mx.b (R374). -/
def Args.accFaults (a : Args) (scales : Bool) : List Flt :=
  (a.ifOp .mxa fun x => needOk (decide (x.toNat < 64))) ++
    (a.ifOp .mxb fun x => needOk (decide (x.toNat < 4) && (scales || !bit x 0)))

/-- Run a dense beat (R374). -/
def runAcc (port : BitVec 9) (f : MxForm) (g : Guard) (src : Src) (s : State) : State :=
  runTrig g src port [.mxa, .mxb]
    (fun a => a.accFaults f.scales ++ needOk (a.st.die.wall.activeTags.all fun t => t == f.tag)) noWait
    (fun a =>
      let b := a.op .mxb
      let sums := a.st.die.wall.cells.zipIdx.map fun c => denseSums f (bit b 0) c.1 (a.rv c.2)
      a.st.after 10 (.beat (a.op .mxa).toNat (bit b 1) f.fmt.isNone sums)) s

/-- The form of a sparse beat: that of the one sparse tag the columns carry, E4M3 when every column is NONE; none when the
tags do not allow the beat (R374). -/
def Wall.sparseForm (w : Wall) : Option MxForm :=
  match w.activeTags with
  | [] => Sys2Proof.Machine.sparseForm .sE4m3
  | t :: l => if l.all (fun x => x == t) then Sys2Proof.Machine.sparseForm t else none

/-- Run mx.acc.sp (R373, R374). -/
def runAccSp (g : Guard) (src : Src) (s : State) : State :=
  runTrig g src 0x197 [.mxa, .mxb]
    (fun a => match a.st.die.wall.sparseForm with
      | some f => a.accFaults f.scales
      | none => fltOperand :: a.accFaults true) noWait
    (fun a =>
      match a.st.die.wall.sparseForm with
      | none => a.st
      | some f =>
        let b := a.op .mxb
        let g1 := valTile (a.st.ctx.port .g1)
        let sums := a.st.die.wall.cells.zipIdx.map fun c => sparseSums f (bit b 0) c.1 (a.rv c.2) (g1.row c.2)
        a.st.after 10 (.beat (a.op .mxa).toNat (bit b 1) f.fmt.isNone sums)) s

/-! ### Drains (R375) -/

/-- Accumulator row `k` of a cell. -/
def Cell.accRow (c : Cell) (k : Nat) : List Nat := (c.acc.getD k []).map BitVec.toNat

/-- The rows b .. b + n - 1 of a cell in order. -/
def Cell.accLanes (c : Cell) (b n : Nat) : List Nat := (List.range n).flatMap fun i => c.accRow (b + i)

/-- One slice of drain4: 64 lanes, bits unchanged. -/
def drain4Row (b : Nat) (c : Cell) : Row × Flags := (dataRow (packOf 32 (c.accLanes b 4)), 0)

/-- One slice of drain8.bf16: 128 lanes rounded under RNE. -/
def drain8Row (b : Nat) (c : Cell) : Row × Flags :=
  let rs := (c.accLanes b 8).map fun x => fRound .bf16 .rne (fDecode .f32 x)
  (dataRow (packOf 16 (rs.map (·.v))), flagsOf rs)

/-- One slice of drain.e4m3: 16 blocks with their scales. -/
def drainE4m3Row (b : Nat) (c : Cell) : Row × Flags :=
  let blocks := (List.range 16).map fun i => c.accRow (b + i)
  let scs := blocks.map fun x => bscale .e4m3 x
  let qs := (blocks.zip scs).flatMap fun x => x.1.map fun v => bquant1 .e4m3 .rne x.2.v v
  (⟨BitVec.ofNat 2048 (packOf 8 (qs.map (·.v))), BitVec.ofNat 256 (packOf 8 (scs.map (·.v)))⟩, flagsOf (scs ++ qs))

/-- Run a drain: `step` the multiple that its base row keeps, `f` one slice. -/
def runDrain (port : BitVec 9) (step : Nat) (f : Nat → Cell → Row × Flags) (g : Guard) (src : Src) (s : State) : State :=
  runTrig g src port [] (fun a => needOk (decide (a.word.toNat < 64) && a.word.toNat % step == 0)) noWait
    (fun a =>
      let rs := a.st.die.wall.cells.map (f a.word.toNat)
      (a.st.after 6 (.port .mxq (.t (rs.map (·.1))))).raise 6 (rs.foldl (fun x r => x ||| r.2) 0)) s

/-- Run mx.zero (R376). -/
def runZero (g : Guard) (src : Src) (s : State) : State :=
  runTrig g src 0x19B []
    (fun a =>
      let n := fld a.word 6 7
      needOk (decide (a.word.toNat < 2 ^ 13 ∧ 1 ≤ n ∧ n ≤ 64 ∧ fld a.word 0 6 + n ≤ 64))) noWait
    (fun a => a.st.after 10 (.zero (fld a.word 0 6) (fld a.word 6 7))) s

/-- MX_PUSH_E4M3 (R371, R372). -/
def execMxPushE4m3 (g : Guard) (src : Src) (s : State) : Host.Outcome State Fault Refusal :=
  .next (runPush 0x188 mxE4m3 g src s)

/-- MX_PUSH_E5M2 (R371, R372). -/
def execMxPushE5m2 (g : Guard) (src : Src) (s : State) : Host.Outcome State Fault Refusal :=
  .next (runPush 0x189 mxE5m2 g src s)

/-- MX_PUSH_E2M1 (R371, R372). -/
def execMxPushE2m1 (g : Guard) (src : Src) (s : State) : Host.Outcome State Fault Refusal :=
  .next (runPush 0x18A mxE2m1 g src s)

/-- MX_PUSH_BF16 (R371, R372). -/
def execMxPushBf16 (g : Guard) (src : Src) (s : State) : Host.Outcome State Fault Refusal :=
  .next (runPush 0x18B mxBf16 g src s)

/-- MX_PUSH_F16 (R371, R372). -/
def execMxPushF16 (g : Guard) (src : Src) (s : State) : Host.Outcome State Fault Refusal :=
  .next (runPush 0x18C mxF16 g src s)

/-- MX_PUSH_I8 (R371, R372). -/
def execMxPushI8 (g : Guard) (src : Src) (s : State) : Host.Outcome State Fault Refusal :=
  .next (runPush 0x18D mxI8 g src s)

/-- MX_PUSH_SP (R373). -/
def execMxPushSp (g : Guard) (src : Src) (s : State) : Host.Outcome State Fault Refusal :=
  .next (runPushSp g src s)

/-- MX_PUSH_IX (R373). -/
def execMxPushIx (g : Guard) (src : Src) (s : State) : Host.Outcome State Fault Refusal :=
  .next (runPushIx g src s)

/-- MX_SWAP (R371). -/
def execMxSwap (g : Guard) (src : Src) (s : State) : Host.Outcome State Fault Refusal :=
  .next (runSwap g src s)

/-- MX_ACC_E4M3 (R374). -/
def execMxAccE4m3 (g : Guard) (src : Src) (s : State) : Host.Outcome State Fault Refusal :=
  .next (runAcc 0x191 mxE4m3 g src s)

/-- MX_ACC_E5M2 (R374). -/
def execMxAccE5m2 (g : Guard) (src : Src) (s : State) : Host.Outcome State Fault Refusal :=
  .next (runAcc 0x192 mxE5m2 g src s)

/-- MX_ACC_E2M1 (R374). -/
def execMxAccE2m1 (g : Guard) (src : Src) (s : State) : Host.Outcome State Fault Refusal :=
  .next (runAcc 0x193 mxE2m1 g src s)

/-- MX_ACC_BF16 (R374). -/
def execMxAccBf16 (g : Guard) (src : Src) (s : State) : Host.Outcome State Fault Refusal :=
  .next (runAcc 0x194 mxBf16 g src s)

/-- MX_ACC_F16 (R374). -/
def execMxAccF16 (g : Guard) (src : Src) (s : State) : Host.Outcome State Fault Refusal :=
  .next (runAcc 0x195 mxF16 g src s)

/-- MX_ACC_I8 (R374). -/
def execMxAccI8 (g : Guard) (src : Src) (s : State) : Host.Outcome State Fault Refusal :=
  .next (runAcc 0x196 mxI8 g src s)

/-- MX_ACC_SP (R373, R374). -/
def execMxAccSp (g : Guard) (src : Src) (s : State) : Host.Outcome State Fault Refusal :=
  .next (runAccSp g src s)

/-- MX_DRAIN4 (R375). -/
def execMxDrain4 (g : Guard) (src : Src) (s : State) : Host.Outcome State Fault Refusal :=
  .next (runDrain 0x198 4 drain4Row g src s)

/-- MX_DRAIN8_BF16 (R375). -/
def execMxDrain8Bf16 (g : Guard) (src : Src) (s : State) : Host.Outcome State Fault Refusal :=
  .next (runDrain 0x199 8 drain8Row g src s)

/-- MX_DRAIN_E4M3 (R375). -/
def execMxDrainE4m3 (g : Guard) (src : Src) (s : State) : Host.Outcome State Fault Refusal :=
  .next (runDrain 0x19A 16 drainE4m3Row g src s)

/-- MX_ZERO (R376). -/
def execMxZero (g : Guard) (src : Src) (s : State) : Host.Outcome State Fault Refusal :=
  .next (runZero g src s)

end Sys2Proof.Machine
end

