-- ==== Sys2Proof/Machine/Sync.lean ====
section
/-! DEFINITION. Atomics (R325), fences (R326), tokens (R327, R328), barriers (R329), phases (R330) and claims (R331). -/

namespace Sys2Proof.Machine

/-! ### Atomics -/

/-- The precise faults of an atomic: a misaligned address, SP bounds, no place on sy.q (R202, R323, R325). -/
def State.amoFaults (s : State) (a : Word) (n : Nat) : List Flt :=
  (if a.toNat % n != 0 then [{ fltAlign with addr := a }] else []) ++ s.accessFaults a n false

/-- Run an atomic (R325): one place in both queues, the old value on sy.q. -/
def runAmo (port : BitVec 9) (op : AmoOp) (wide : Bool) (g : Guard) (src : Src) (s : State) : State :=
  let n := if wide then 8 else 4
  runTrig g src port (if op == .cas then [.sya, .syb] else [.sya])
    (fun a => (a.ifOp .sya fun x => a.st.amoFaults x n) ++ (if a.st.ctx.placesFull .syq then [fltFull] else []))
    (fun a => a.st.ctx.queueFull .both)
    (fun a => ((a.st.place .syq).push .both (.amo op wide a.word (a.op .syb)) (a.op .sya) (List.range n)).traceMem
      (a.op .sya) n 2) s

/-! ### Fences -/

/-- Run a fence (R207, R326): it stands between the entries before it and those after it and does not stall issue. -/
def runFence (port : BitVec 9) (loads stores : Bool) (g : Guard) (src : Src) (s : State) : State :=
  runTrig g src port [.sya, .syb] (fun a => if a.word.toNat < 4 then [] else [fltOperand]) noWait
    (fun a => a.st.onCtx fun c =>
      { c with fences := c.fences ++ [{ seq := c.seq, loads := loads, stores := stores, base := a.op .sya,
                                        len := a.op .syb, scope := BitVec.ofNat 2 a.word.toNat }],
               seq := c.seq + 1 }) s

/-! ### Tokens -/

/-- State of a token of a task on a die (R211). -/
def Task.token (t : Task) (d : DieId) (k : Nat) : Tok := (t.onDie d).tokens.toList.getD k .clear

/-- Set the state of a token. -/
def Task.setToken (t : Task) (d : DieId) (k : Nat) (v : Tok) : Task :=
  t.setDie d fun x => { x with tokens := x.tokens.setIfInBounds k v }

/-- A token of a task becomes clear, pending or set; a token that becomes set lets go the accesses that its tok.id holds
(R211, R213). -/
def State.setTok (s : State) (lid : BitVec 32) (d : DieId) (k : Nat) (v : Tok) : State :=
  let s := s.onTask lid fun t => t.setToken d k v
  if v == .set then
    s.onDieAt d fun x => x.mapCtxs fun c =>
      if c.lid == lid then { c with holds := c.holds.filter fun h => h.2 != k } else c
  else s

/-- State of a token of the issuing context's task on its die. -/
def State.curToken (s : State) (k : Nat) : Tok :=
  match s.curTask with
  | some t => t.token s.turn k
  | none => .clear

/-- Faults of a token number (R327). -/
def tokNumFaults (v : Word) : List Flt := if v.toNat < 64 then [] else [fltOperand]

/-- The token-not-ready fault (code 0x12). -/
def fltToken (reason : BitVec 4) : Flt := ⟨0x12, reason, 0⟩

/-- sy.tok.wait: the free context waits until the token is set (R327). -/
def runTokWait (g : Guard) (src : Src) (s : State) : State :=
  runTrig g src 0x0B7 [] (fun a => tokNumFaults a.word)
    (fun a => a.st.curToken a.word.toNat != .set) (fun a => a.st) s

/-- sy.tok.test (R211, R327): the token's state on sy.r; in timed code a token that is not set is a fault. -/
def runTokTest (g : Guard) (src : Src) (s : State) : State :=
  runTrig g src 0x0B8 []
    (fun a => tokNumFaults a.word ++
      (if a.st.ctx.timedNow && decide (a.word.toNat < 64) then
        (match a.st.curToken a.word.toNat with
         | .clear => [fltToken 1]
         | .pending => [fltToken 2]
         | .set => [])
       else [])) noWait
    (fun a => a.st.after 1 (.port .syr (.s (boolWord (a.st.curToken a.word.toNat == .set))))) s

/-- sy.tok.clr (R327): clears a token; a pending one is BUSY. -/
def runTokClr (g : Guard) (src : Src) (s : State) : State :=
  runTrig g src 0x0BA []
    (fun a => tokNumFaults a.word ++
      (if decide (a.word.toNat < 64) && a.st.curToken a.word.toNat == .pending then [fltToken 3] else [])) noWait
    (fun a => a.st.setTok a.st.ctx.lid a.st.turn a.word.toNat .clear) s

/-- The copy channel and offset that a device-memory address names (R192): DIE 3 is the own die. -/
def apertureOf (own : DieId) (va : Nat) : Option (DieId × Fin 16 × Nat) :=
  if 0xFFFFFF000000 ≤ va then
    let x := va - 0xFFFFFF000000
    if h : x / 0x1000 % 0x100 < 16 then
      let c : Fin 16 := ⟨x / 0x1000 % 0x100, h⟩
      match x / 0x100000 with
      | 0 => some (0, c, x % 0x1000)
      | 1 => some (1, c, x % 0x1000)
      | 2 => some (2, c, x % 0x1000)
      | 3 => some (own, c, x % 0x1000)
      | _ => none
    else none
  else none

/-- May a task use channel `c` of die `d`: does it hold context c / 4 there (R192)? -/
def Task.usesChan (t : Task) (d : DieId) (c : Fin 16) : Bool :=
  t.ctxs.any fun p => p.1 == d && decide (p.2.val = c.val / 4)

/-- Has DONEID passed an identifier: (DONEID − id) mod 2^32 < 2^31 (R328)? -/
def passed (done id : BitVec 32) : Bool := decide ((done - id).toNat < 2 ^ 31)

/-- The channel that sy.a names for tok.id, when the context may use it (R328). -/
def State.tokChan (s : State) (a : Word) : Option (DieId × Fin 16) :=
  match spaceOf a, s.curTask with
  | .device va, some t =>
    match apertureOf s.turn va with
    | some (d, c, off) => if off = 0 ∧ t.usesChan d c then some (d, c) else none
    | none => none
  | _, _ => none

/-- sy.tok.id (R328): the token is pending until DONEID passes the identifier, and later accesses are held until then
(R213). -/
def runTokId (g : Guard) (src : Src) (s : State) : State :=
  runTrig g src 0x0B9 [.sya, .syb]
    (fun a => tokNumFaults a.word ++
      (a.ifOp .sya fun x => if (a.st.tokChan x).isNone then [fltOperand] else []) ++
      (if decide (a.word.toNat < 64) && a.st.curToken a.word.toNat != .clear then [fltToken 3] else [])) noWait
    (fun a =>
      match a.st.tokChan (a.op .sya) with
      | none => a.st
      | some (d, c) =>
        let s := a.st
        let id := BitVec.ofNat 32 (a.op .syb).toNat
        let k := a.word.toNat
        let done := passed ((s.dieAt d).chans.get c).doneId id
        let s := s.after 1 (.port .syr (.s (boolWord done)))
        if done then s.setTok s.ctx.lid s.turn k .set
        else
          let s := s.setTok s.ctx.lid s.turn k .pending
          let s := s.onTask s.ctx.lid fun t => t.setDie s.turn fun x => { x with tokIds := x.tokIds ++ [(k, d, c, id)] }
          s.onCtx fun c => { c with holds := c.holds ++ [(c.seq, k)], seq := c.seq + 1 }) s

/-! ### Barriers -/

/-- The epoch of a level (R172). -/
def Ctx.epoch (c : Ctx) (level : Nat) : Nat := if level = 0 then c.epoch0 else c.epoch1

/-- An ordered atomic that its owner has accepted: it counts as performed, and waits for the close of its superstep (R219, R423). -/
def Entry.waitsClose (e : Entry) : Bool :=
  e.sent && e.left.isEmpty && (match e.op with | .remote (.amoOrd ..) _ => true | _ => false)

/-- Do writes that a timed context triggered still wait to be applied at a count (R214)? In a handler those of the interrupted
code count, and all of the handler's own. -/
def Ctx.writesDue (c : Ctx) (n : Nat) : Bool :=
  let own (l : List Pending) : Bool := l.any fun p => decide (p.due ≤ n) && p.eff.isWrite
  match c.snap with
  | some x => own x.pend || c.pend.any fun p => p.eff.isWrite
  | none => own c.pend

/-- Has an arrival been counted (R214)? `q` is its place in program order, `n` the count it waits for. -/
def Ctx.arrivalDone (c : Ctx) (scy : Word) (q n : Nat) : Bool :=
  !(c.entries.any fun e => decide (e.seq < q) && !e.waitsClose) &&
    (c.kind != .timed || (decide (n ≤ c.fc scy) && !c.writesDue n))

/-- Arrivals of a context at a level that count (R214). -/
def Ctx.arrivals (c : Ctx) (scy : Word) (level : Nat) : Nat :=
  c.epoch level - (c.arriving.filter fun x => x.1 == level && !c.arrivalDone scy x.2.1 x.2.2).length

/-- sy.bar.arrive (R172, R214, R329). -/
def runBarArrive (g : Guard) (src : Src) (s : State) : State :=
  runTrig g src 0x0BB [] (fun a => if a.word.toNat < 2 then [] else [fltOperand]) noWait
    (fun a =>
      let scy := a.st.die.scy
      let n := if a.st.ctx.inh then 0 else a.st.group.count + 4
      a.st.onCtx fun c =>
        { c with epoch0 := if a.word = 0 then c.epoch0 + 1 else c.epoch0
                 epoch1 := if a.word = 0 then c.epoch1 else c.epoch1 + 1
                 arriving := (c.arriving.filter fun x => !c.arrivalDone scy x.2.1 x.2.2) ++
                   [(a.word.toNat, c.seq, n)] }) s

/-- Has every context of a level arrived at least as often as the issuing context (R172)? -/
def State.barrierOpen (s : State) (level : Nat) : Bool :=
  let own := s.ctx.epoch level
  match s.curTask with
  | none => true
  | some t =>
    t.ctxs.all fun p =>
      let x := s.dieAt p.1
      let c := x.ctxAt p.2
      (level == 0 && p.1 != s.turn) || c.status == .retired || decide (own ≤ c.arrivals x.scy level)

/-- sy.bar.wait (R172, R329). -/
def runBarWait (g : Guard) (src : Src) (s : State) : State :=
  runTrig g src 0x0BC [] (fun a => if a.word.toNat < 2 then [] else [fltOperand])
    (fun a => !a.st.barrierOpen a.word.toNat) (fun a => a.st) s

/-! ### Templates (Table 07.11) -/

/-- The bytes of a copy template of a task's object for a die (R311); a template that is not declared is none. -/
def State.template (s : State) (t : Task) (d : DieId) (i : Nat) : Option (List Byte) :=
  match s.objOf t with
  | none => none
  | some o =>
    (o.sectsOf 6 d).findSome? fun x =>
      (List.range (x.body.length / 72)).findSome? fun k =>
        if leAt x.body (72 * k) 8 = i then some (slice x.body (72 * k + 8) 64) else none

/-- A copy template. -/
structure Tmpl where
  srca : Nat
  dsta : Nat
  psrc : Bool
  pdst : Bool
  dstf : Bool
  blen : Nat
  nblk : Nat
  sstride : Int
  dstride : Int
  pscale : Int
  deriving DecidableEq, Repr

/-- A 64-bit field read as a signed number. -/
def signedAt (b : List Byte) (off : Nat) : Int := signedOf 64 (leAt b off 8)

/-- Read a template; none for a non-zero reserved field or a field out of its range (R194). -/
def tmplOf (b : List Byte) : Option Tmpl :=
  let f := leAt b 16 1
  let blen := leAt b 20 4
  let nblk := leAt b 24 4
  if 8 ≤ f ∨ leAt b 17 3 ≠ 0 ∨ leAt b 28 4 ≠ 0 ∨ leAt b 56 8 ≠ 0 ∨ blen = 0 ∨ 65536 < blen ∨ nblk = 0 ∨ 2 ^ 24 < nblk then none
  else some { srca := leAt b 0 8, dsta := leAt b 8 8, psrc := f.testBit 0, pdst := f.testBit 1, dstf := f.testBit 2,
              blen := blen, nblk := nblk, sstride := signedAt b 32, dstride := signedAt b 40, pscale := signedAt b 48 }

/-- The template of a copy. -/
def State.tmpl (s : State) (t : Task) (d : DieId) (cp : Copy) : Option Tmpl := (s.template t d cp.template).bind tmplOf

/-- Source and destination address of block `i` (R193). -/
def Tmpl.src (t : Tmpl) (param : Int) (i : Nat) : Word :=
  BitVec.ofInt 64 ((t.srca : Int) + i * t.sstride + (if t.psrc then param * t.pscale else 0))
def Tmpl.dst (t : Tmpl) (param : Int) (i : Nat) : Word :=
  BitVec.ofInt 64 ((t.dsta : Int) + i * t.dstride + (if t.pdst then param * t.pscale else 0))

/-! ### Phases and claims -/

/-- Does a tagged address name the scratchpad of die `d`, formed on die `own`? -/
def namesDie (own d : DieId) (a : Word) : Bool :=
  match spaceOf a with
  | .scratch x => spDie own x == d
  | _ => false

/-- The group that a group address names (R385). -/
def fabGroup (a : Word) : Nat := fld a 57 6

/-- The list of a group: its members in ascending order (R74). -/
def Links.groupMembers (l : Links) (g : Nat) : List (BitVec 7) :=
  let m := l.groups.toList.getD g 0
  ((List.range 128).filter fun i => m.getLsbD i).map fun i => BitVec.ofNat 7 i

/-- Is the window that a fabric or group address names one of this package's scratchpad on die `d`? -/
def State.windowOn (s : State) (d : DieId) (a : Word) : Bool :=
  let w := fld a 48 9
  bit (s.links.windowWord w 0) 5 && fld (s.links.windowWord w 1) 28 2 == d.val

/-- Does a fabric address reach a scratchpad window of its own package on die `d`? -/
def State.reachesDie (s : State) (d : DieId) (a : Word) : Bool := fld a 57 7 == s.links.memberSet.toNat && s.windowOn d a

/-- Does a group address reach a scratchpad window of its own package on die `d`? -/
def State.groupReaches (s : State) (d : DieId) (a : Word) : Bool :=
  (s.links.groupMembers (fabGroup a)).contains s.links.memberSet && s.windowOn d a

/-- Does an entry of die `own` access the scratchpad of die `d` as an inbound access (Table 07.12, engine 3): by the far path from another
die, or by the fabric, as an owner, as a consumer, or as the place of a fetched value? -/
def State.entryInbound (s : State) (own d : DieId) (e : Entry) : Bool :=
  match e.op with
  | .ld .. | .ldrow | .st .. | .strow .. | .amo .. => own != d && namesDie own d e.addr
  | .remote (.mlr _ dst _) _ => (own != d && namesDie own d dst) || s.groupReaches d e.addr
  | .remote (.rdel c _) _ => s.reachesDie d e.addr || s.reachesDie d c
  | .remote (.rdelg c _) _ => s.reachesDie d e.addr || s.groupReaches d c
  | .remote (.amoOrd _ _ _ dst _ _) _ => s.reachesDie d e.addr || namesDie own d (dst.setWidth 64)
  | .remote _ _ => s.reachesDie d e.addr
  | _ => false

/-- Does a copy of die `own` access the scratchpad of die `d` as an inbound access: by the far path, or by the fabric? -/
def State.copyInbound (s : State) (t : Task) (own d : DieId) (cp : Copy) : Bool :=
  match (s.template t own cp.template).bind tmplOf with
  | none => false
  | some m => (List.range m.nblk).any fun i =>
      (own != d && namesDie own d (m.src cp.param i)) ||
        if m.dstf then s.reachesDie d (m.dst cp.param i) else own != d && namesDie own d (m.dst cp.param i)

/-- The copies of a task that a die's channels hold. -/
def Die.copiesOf (d : Die) (lid : BitVec 32) : List Copy := (d.chans.toList.flatMap (·.copies)).filter fun c => c.lid == lid

/-- The queue entries of a task on a die. -/
def Die.entriesOf (d : Die) (lid : BitVec 32) : List Entry :=
  allCtxs.flatMap fun c => if (d.ctxAt c).lid == lid then (d.ctxAt c).entries else []

/-- Earlier phases of a die under which an engine still has work (R197). -/
def State.workPhases (s : State) (t : Task) (d : DieId) (engine : Nat) : List Nat :=
  let x := s.dieAt d
  let at' (p : Phases) : Nat := (p.get d).toNat
  let mine (c : CtxId) : List Nat := if (x.ctxAt c).lid == t.lid then (x.ctxAt c).entries.map fun e => at' e.phase else []
  match engine with
  | 1 => (x.fills.filter fun f => f.lid == t.lid).map fun f => f.phase.toNat
  | 2 => (x.copiesOf t.lid).map fun c => at' c.phase
  | 3 => allDies.flatMap fun o =>
      (((s.dieAt o).entriesOf t.lid).filter (s.entryInbound o d)).map (fun e => at' e.phase) ++
        (((s.dieAt o).copiesOf t.lid).filter (s.copyInbound t o d)).map fun c => at' c.phase
  | 4 => mine 0
  | 5 => mine 1
  | 6 => mine 2
  | 7 => mine 3
  | _ => []

/-- Read and write ranges an engine is taken to hold when a set becomes current (R197). -/
def State.heldRanges (s : State) (t : Task) (d : DieId) (set engine : Nat) : List (Nat × Nat) × List (Nat × Nat) :=
  (set :: s.workPhases t d engine).foldl (fun r p =>
    let x := s.phaseRanges t d p engine
    (r.1 ++ x.1, r.2 ++ x.2)) ([], [])

/-- Do two lists of ranges share a row unit? -/
def rangesMeet (a b : List (Nat × Nat)) : Bool := a.any fun x => b.any fun y => overlaps x.1 x.2 y.1 y.2

/-- PHASEOVERLAP: some engine's write set meets another engine's sets (R197). -/
def State.phaseOverlap (s : State) (t : Task) (d : DieId) (set : Nat) : Bool :=
  let rs := (List.range 8).map fun e => (e, s.heldRanges t d set e)
  rs.any fun a => rs.any fun b => a.1 != b.1 && (rangesMeet a.2.2 b.2.1 || rangesMeet a.2.2 b.2.2)

/-- sy.phase (R197, R330). -/
def runPhase (g : Guard) (src : Src) (s : State) : State :=
  runTrig g src 0x0BD []
    (fun a =>
      if 64 ≤ a.word.toNat then [fltOperand]
      else
        match a.st.curTask with
        | some t => if t.det && a.st.phaseOverlap t a.st.turn a.word.toNat then [⟨0x0C, 0, 0⟩] else []
        | none => []) noWait
    (fun a => a.st.onTask a.st.ctx.lid fun t =>
      t.setDie a.st.turn fun x => { x with phase := BitVec.ofNat 6 a.word.toNat }) s

/-- The range that a claim names on its die: start and length in bytes (R331). -/
def claimRange (a v : Word) : Nat × Nat := (spOff a.toNat, v.toNat)

/-- Faults of a claim (R159, R331). -/
def State.claimFaults (s : State) (a v : Word) : List Flt :=
  match s.curTask with
  | none => []
  | some t =>
    let d := spDie s.turn a.toNat
    if 2 ^ 32 ≤ a.toNat ∨ a.toNat % 256 ≠ 0 ∨ v = 0 ∨ v.toNat % 256 ≠ 0 then [fltOperand]
    else
      (if 2 ^ 30 ≤ a.toNat ∨ !coversRange (t.onDie d).bounds (spOff a.toNat) v.toNat then [{ fltBounds with addr := a }] else []) ++
        if 16 < (joinRange (t.onDie d).owned (claimRange a v)).length then [fltOperand] else []

/-- sy.claim: the range joins the task's owned ranges on its die (R159, R331). -/
def runClaim (g : Guard) (src : Src) (s : State) : State :=
  runTrig g src 0x1E8 [.sya] (fun a => a.ifOp .sya fun x => a.st.claimFaults x a.word) noWait
    (fun a => a.st.onTask a.st.ctx.lid fun t =>
      t.setDie (spDie a.st.turn (a.op .sya).toNat) fun x =>
        { x with owned := joinRange x.owned (claimRange (a.op .sya) a.word) }) s

/-- SY_AMO_ADD_W (R325). -/
def execSyAmoAddW (g : Guard) (src : Src) (s : State) : Out :=
  .next (runAmo 0x0A0 .add false g src s)

/-- SY_AMO_ADD_D (R325). -/
def execSyAmoAddD (g : Guard) (src : Src) (s : State) : Out :=
  .next (runAmo 0x0A1 .add true g src s)

/-- SY_AMO_AND_W (R325). -/
def execSyAmoAndW (g : Guard) (src : Src) (s : State) : Out :=
  .next (runAmo 0x0A2 .and false g src s)

/-- SY_AMO_AND_D (R325). -/
def execSyAmoAndD (g : Guard) (src : Src) (s : State) : Out :=
  .next (runAmo 0x0A3 .and true g src s)

/-- SY_AMO_OR_W (R325). -/
def execSyAmoOrW (g : Guard) (src : Src) (s : State) : Out :=
  .next (runAmo 0x0A4 .or false g src s)

/-- SY_AMO_OR_D (R325). -/
def execSyAmoOrD (g : Guard) (src : Src) (s : State) : Out :=
  .next (runAmo 0x0A5 .or true g src s)

/-- SY_AMO_XOR_W (R325). -/
def execSyAmoXorW (g : Guard) (src : Src) (s : State) : Out :=
  .next (runAmo 0x0A6 .xor false g src s)

/-- SY_AMO_XOR_D (R325). -/
def execSyAmoXorD (g : Guard) (src : Src) (s : State) : Out :=
  .next (runAmo 0x0A7 .xor true g src s)

/-- SY_AMO_MIN_W (R325). -/
def execSyAmoMinW (g : Guard) (src : Src) (s : State) : Out :=
  .next (runAmo 0x0A8 .min false g src s)

/-- SY_AMO_MIN_D (R325). -/
def execSyAmoMinD (g : Guard) (src : Src) (s : State) : Out :=
  .next (runAmo 0x0A9 .min true g src s)

/-- SY_AMO_MAX_W (R325). -/
def execSyAmoMaxW (g : Guard) (src : Src) (s : State) : Out :=
  .next (runAmo 0x0AA .max false g src s)

/-- SY_AMO_MAX_D (R325). -/
def execSyAmoMaxD (g : Guard) (src : Src) (s : State) : Out :=
  .next (runAmo 0x0AB .max true g src s)

/-- SY_AMO_MINU_W (R325). -/
def execSyAmoMinuW (g : Guard) (src : Src) (s : State) : Out :=
  .next (runAmo 0x0AC .minu false g src s)

/-- SY_AMO_MINU_D (R325). -/
def execSyAmoMinuD (g : Guard) (src : Src) (s : State) : Out :=
  .next (runAmo 0x0AD .minu true g src s)

/-- SY_AMO_MAXU_W (R325). -/
def execSyAmoMaxuW (g : Guard) (src : Src) (s : State) : Out :=
  .next (runAmo 0x0AE .maxu false g src s)

/-- SY_AMO_MAXU_D (R325). -/
def execSyAmoMaxuD (g : Guard) (src : Src) (s : State) : Out :=
  .next (runAmo 0x0AF .maxu true g src s)

/-- SY_AMO_SWAP_W (R325). -/
def execSyAmoSwapW (g : Guard) (src : Src) (s : State) : Out :=
  .next (runAmo 0x0B0 .swap false g src s)

/-- SY_AMO_SWAP_D (R325). -/
def execSyAmoSwapD (g : Guard) (src : Src) (s : State) : Out :=
  .next (runAmo 0x0B1 .swap true g src s)

/-- SY_AMO_CAS_W (R325). -/
def execSyAmoCasW (g : Guard) (src : Src) (s : State) : Out :=
  .next (runAmo 0x0B2 .cas false g src s)

/-- SY_AMO_CAS_D (R325). -/
def execSyAmoCasD (g : Guard) (src : Src) (s : State) : Out :=
  .next (runAmo 0x0B3 .cas true g src s)

/-- SY_FENCE_R (R207, R326). -/
def execSyFenceR (g : Guard) (src : Src) (s : State) : Out := .next (runFence 0x0B4 true false g src s)

/-- SY_FENCE_W (R207, R326). -/
def execSyFenceW (g : Guard) (src : Src) (s : State) : Out := .next (runFence 0x0B5 false true g src s)

/-- SY_FENCE_RW (R207, R326). -/
def execSyFenceRw (g : Guard) (src : Src) (s : State) : Out := .next (runFence 0x0B6 true true g src s)

/-- SY_TOK_WAIT (R327). -/
def execSyTokWait (g : Guard) (src : Src) (s : State) : Out := .next (runTokWait g src s)

/-- SY_TOK_TEST (R327). -/
def execSyTokTest (g : Guard) (src : Src) (s : State) : Out := .next (runTokTest g src s)

/-- SY_TOK_ID (R328). -/
def execSyTokId (g : Guard) (src : Src) (s : State) : Out := .next (runTokId g src s)

/-- SY_TOK_CLR (R327). -/
def execSyTokClr (g : Guard) (src : Src) (s : State) : Out := .next (runTokClr g src s)

/-- SY_BAR_ARRIVE (R329). -/
def execSyBarArrive (g : Guard) (src : Src) (s : State) : Out := .next (runBarArrive g src s)

/-- SY_BAR_WAIT (R329). -/
def execSyBarWait (g : Guard) (src : Src) (s : State) : Out := .next (runBarWait g src s)

/-- SY_PHASE (R330). -/
def execSyPhase (g : Guard) (src : Src) (s : State) : Out := .next (runPhase g src s)

/-- SY_CLAIM (R331). -/
def execSyClaim (g : Guard) (src : Src) (s : State) : Out := .next (runClaim g src s)

end Sys2Proof.Machine
end

