-- ==== Sys2Proof/Machine/Network.lean ====
section
/-! DEFINITION. Address generators (07 R183, R184, 15 R358), the two networks (R359 to R362), table loads (R363, R364), the
routing solver (R365 to R368), far lanes (02 R42 to R44, 15 R361, R369), token words (R357). -/

namespace Sys2Proof.Machine

/-! ### Far lanes (R42, R44) -/

/-- The peer of a far lane: die and lane there, and whether it is a through lane; none when the lane is absent
(Table 02.2). -/
def lanePeer (d : DieId) (l : Nat) : Option (DieId × Nat × Bool) :=
  match d.val with
  | 0 => if l < 8 then some (1, l, false) else if l < 12 then some (2, l, true) else none
  | 1 => if l < 8 then some (0, l, false) else if l < 12 then some (2, l - 8, false)
         else if l < 16 then some (2, l - 8, false) else none
  | _ => if l < 8 then some (1, l + 8, false) else if l < 12 then some (0, l, true) else none

/-- Rows held in the skew buffer of a lane. -/
def Die.lane (d : Die) (l : Nat) : List (Row × BitVec 16) := d.rx.toList.getD l []

/-- The STAMP due at count `y` (R44). -/
def stampDue (through : Bool) (y : Nat) : BitVec 16 := BitVec.ofInt 16 ((y : Int) - (if through then 64 else 40))

/-- The check of a receive at count `y`: none when the head row is due, else the reason 1 EMPTY or 2 STALE (R44). -/
def Die.laneCheck (d : Die) (own : DieId) (l y : Nat) : Option (BitVec 4) :=
  match d.lane l, lanePeer own l with
  | (_, st) :: _, some (_, _, through) =>
    let due := stampDue through y
    if st = due then none else if (st - due).toNat < 2 ^ 15 then some 1 else some 2
  | _, _ => some 1

/-- Take the head row of a lane. -/
def Die.laneTake (d : Die) (l : Nat) : Row × Die :=
  ((d.lane l).head?.map (·.1) |>.getD Row.zero, { d with rx := d.rx.setIfInBounds l ((d.lane l).drop 1) })

/-! ### Switches (R359) -/

/-- One stage of switches on neighbouring pairs from bit `b` of a setting: the upper and the lower outputs. -/
def switchPairs {α : Type} (S : Nat) : Nat → List α → List α × List α
  | b, x :: y :: l =>
    let r := switchPairs S (b + 1) l
    if S.testBit b then (y :: r.1, x :: r.2) else (x :: r.1, y :: r.2)
  | _, _ => ([], [])

/-- The last stage: pairs of the two halves' outputs, switched. -/
def joinPairs {α : Type} (S : Nat) : Nat → List α → List α → List α
  | b, x :: xs, y :: ys =>
    if S.testBit b then y :: x :: joinPairs S (b + 1) xs ys else x :: y :: joinPairs S (b + 1) xs ys
  | _, _, _ => []

/-- SUB(x, S, N, n, t0, w0) for n = 2^k inputs (R359); `h` is N / 2. -/
def benesSub {α : Type} (S h : Nat) : Nat → Nat → Nat → List α → List α
  | 0, _, _, x => x
  | 1, t0, w0, x =>
    match x with
    | [a, b] => if S.testBit (t0 * h + w0) then [b, a] else [a, b]
    | l => l
  | k + 2, t0, w0, x =>
    let u := switchPairs S (t0 * h + w0) x
    let top := benesSub S h (k + 1) (t0 + 1) w0 u.1
    let bot := benesSub S h (k + 1) (t0 + 1) (w0 + 2 ^ k) u.2
    joinPairs S ((t0 + 2 * (k + 2) - 2) * h + w0) top bot

/-- BENES(x, S, 2^k); the all-zero setting is the identity. -/
def benes {α : Type} (k S : Nat) (x : List α) : List α := if S = 0 then x else benesSub S (2 ^ (k - 1)) k 0 0 x

/-! ### Routes (R360) -/

/-- Replace an entry of a table. -/
def setEntry (l : List (Nat × List Byte)) (i : Nat) (b : List Byte) : List (Nat × List Byte) :=
  (i, b) :: l.filter fun x => x.1 != i

/-- A table entry as a number; an entry that is not listed is all zero, the identity. -/
def entryOf (l : List (Nat × List Byte)) (i : Nat) : Nat := ((l.lookup i).map leNat).getD 0

/-- The granules of a row (R359). -/
def granules (r : Row) : List Nat := rowLanes 16 r

/-- The index of the lane pattern of an input slice, of the plane setting of a position, of an output slice's lane pattern
(Table 12.14). -/
def routeA (rt i : Nat) : Nat := bits rt (8 * i) 8
def routeP (rt k : Nat) : Nat := bits rt (8 * 256 + 10 * k) 10
def routeC (rt j : Nat) : Nat := bits rt (8 * (416 + j)) 8

/-- A far word of a route: slice, lane and direction (Table 12.14). -/
structure FarWord where
  slice : Nat
  lane : Nat
  dirIn : Bool
  deriving DecidableEq, Repr

/-- The valid far words of a route entry, as a number. -/
def farWords (rt : Nat) : List FarWord :=
  (List.range 16).filterMap fun i =>
    let w := bits rt (8 * (672 + 4 * i)) 32
    if w.testBit 31 then some ⟨bits w 0 8, bits w 8 4, w.testBit 12⟩ else none

/-- The three stages of a route (R360): the settings of the input slices, of the positions, of the output slices. -/
def threeStages (a p c : Nat → Nat) (x : Nat → List Nat) : List (List Nat) :=
  let u := (List.range 256).map fun i => benes 7 (a i) (x i)
  let cols := (List.range 128).map fun k => benes 8 (p k) (u.map fun g => g.getD k 0)
  (List.range 256).map fun j => benes 7 (c j) (cols.map fun c => c.getD j 0)

/-- ROUTE through a stored entry, without its far words (R360). -/
def Wall.routeStored (w : Wall) (rt : Nat) (x : Tile) : Tile :=
  let lp (i : Nat) : Nat := entryOf w.pats i
  let ps (i : Nat) : Nat := entryOf w.planes i
  let out := threeStages (fun i => lp (routeA rt i)) (fun k => ps (routeP rt k)) (fun j => lp (routeC rt j)) fun i => granules (x.row i)
  let src := benes 8 (ps (routeP rt 0)) (List.range 256)
  out.zipIdx.map fun (y, j) =>
    let s := src.getD j 0
    ⟨BitVec.ofNat 2048 (packOf 16 y), if routeA rt s = 0 ∧ routeC rt j = 0 then (x.row s).side else 0⟩

/-- ROUTE through a live route: granule g goes to output granule perm[g]; side lanes are 0 (R366). -/
def routeLive (perm : List Nat) (x : Tile) : Tile :=
  let all := (List.range 256).flatMap fun i => granules (x.row i)
  let out := (perm.zip all).foldl (fun (v : Vector Nat 32768) p => v.setIfInBounds p.1 p.2) (.replicate 32768 0)
  (List.range 256).map fun i => dataRow (packOf 16 ((List.range 128).map fun k => out.toList.getD (128 * i + k) 0))

/-- The identity through a live route. -/
def routeLiveId (x : Tile) : Tile := x.map fun r => ⟨r.data, 0⟩

/-- ROUTE as it stands, without far words: a route never loaded is the identity (R158, R360); a live route, solved or not, delivers
zero side lanes (R360, R366). -/
def Wall.route (w : Wall) (i : Nat) (x : Tile) : Tile :=
  if i < 448 then
    match w.routes.lookup i with
    | none => x
    | some b => w.routeStored (leNat b) x
  else
    match w.live.find? fun l => l.route == i with
    | none => routeLiveId x
    | some l => if l.perm.isEmpty then routeLiveId x else routeLive l.perm x

/-- The far words of a route as it stands. -/
def Wall.far (w : Wall) (i : Nat) (dirIn : Bool) : List FarWord :=
  if i < 448 then (farWords (entryOf w.routes i)).filter fun f => f.dirIn == dirIn else []

/-! ### Address generators -/

/-- ROT(CODE, s) (Table 07.5). -/
def rotCode (code s : Nat) : Nat :=
  match code with
  | 0 => 0 | 1 => s | 2 => 255 - s | 3 => s % 16 | 4 => s / 16 | 5 => 2 * s
  | 6 => (List.range 8).foldl (fun n i => n + bits s i 1 * 2 ^ (7 - i)) 0
  | _ => s / 8

/-- The row of bank `s` (R184). -/
def Gen.row (g : Gen) (s : Nat) : Nat :=
  g.base + (((g.step : Int) * g.pitch + (rotCode g.code s : Int)) % (g.tpitch : Int)).toNat

/-- The row units of the 256 banks. -/
def Gen.units (g : Gen) : List Nat := (List.range 256).map fun s => 256 * g.row s + s

/-- STEP advances (R184). -/
def Gen.advance (g : Gen) (v : Nat) : Gen := { g with step := (g.step + v) % g.count }

/-- Read a descriptor from its pair; none when it is illegal (R183, Table 07.4). -/
def genOf (lo hi : Word) : Option Gen :=
  let base := fld lo 0 12
  let tp := fld lo 32 12
  if fld lo 44 20 = 0 ∧ fld lo 12 4 < 8 ∧ tp ≠ 0 ∧ base + tp ≤ 3072 ∧ fld hi 0 32 ≠ 0 ∧ fld hi 32 32 < fld hi 0 32 then
    some { base := base, code := fld lo 12 4, pitch := signedOf 16 (fld lo 16 16), tpitch := tp, count := fld hi 0 32,
           step := fld hi 32 32 }
  else none

/-- A generator of the current die. -/
def State.gen (s : State) (k : Fin 4) : Option Gen := s.die.wall.ag.get k

/-- Change a generator. -/
def State.setGen (s : State) (k : Fin 4) (g : Option Gen) : State :=
  s.onDie fun d => { d with wall := { d.wall with ag := d.wall.ag.set k.val g k.isLt } }

/-- The illegal-descriptor fault. -/
abbrev fltDesc : Flt := ⟨0x08, 0, 0⟩

/-- Run agK.set: a pair of s registers, named by its even register (R358): the physical register that it stands for, which must be
even, and the next one (R290). -/
def runAgSet (k : Fin 4) (port : BitVec 9) (g : Guard) (r : BitVec 5) (s : State) : State :=
  let lo (st : State) : Word := st.ctx.readS r
  let hi (st : State) : Word := st.ctx.s.toList.getD (st.ctx.physS r + 1) 0
  runTrig g (.s r) port []
    (fun a => (if r.toNat % 2 = 0 then [] else [fltPort]) ++ (if a.st.ctx.physS r % 2 = 0 then [] else [⟨0x02, 0, 0⟩]) ++
      (match genOf (lo a.st) (hi a.st) with | some _ => [] | none => [fltDesc])) noWait
    (fun a => a.st.setGen k (genOf (lo a.st) (hi a.st))) s

/-- Run agK.step (R358). -/
def runAgStep (k : Fin 4) (port : BitVec 9) (g : Guard) (src : Src) (s : State) : State :=
  runTrig g src port [] (fun a => if (a.st.gen k).isSome then [] else [fltDesc]) noWait
    (fun a => a.st.setGen k ((a.st.gen k).map fun x => x.advance a.word.toNat)) s

/-- A fault at the first row unit of a list that a test does not pass, with its address in FADDR (R267). -/
def unitFault (f : Flt) (units : List Nat) (ok : Nat → Bool) : List Flt :=
  ((units.find? fun u => !ok u).map fun u => { f with addr := BitVec.ofNat 64 (256 * u) }).toList

/-- Faults of touching row units by the timed datapath: bounds of every unit, sets of those accessed (R184, R198). -/
def State.unitFaults (s : State) (write : Bool) (units touched : List Nat) : List Flt :=
  match s.curTask with
  | none => []
  | some t =>
    unitFault fltBounds units (fun u => s.unitOk t s.turn u) ++ unitFault fltSet touched fun u => s.setAllows t s.turn 0 write u

/-- The faults of a gather's far words: the head row must be due (R44, R361). -/
def State.gatherFaults (s : State) (route n : Nat) : List Flt :=
  (s.die.wall.far route true).filterMap fun f =>
    (s.die.laneCheck s.turn f.lane n).map fun r => ⟨0x11, r, 0⟩

/-- Substitute the head rows of a gather's lanes (R361). -/
def State.gatherFar (s : State) (y : Tile) : List FarWord → Tile × State
  | [] => (y, s)
  | f :: l =>
    let (r, d) := s.die.laneTake f.lane
    State.gatherFar (s.onDie fun _ => d) (y.set f.slice r) l

/-- Run ag0.rd or ag1.rd (R184, R358, R361). A read that meets an uncorrectable error delivers nothing (R195). -/
def runAgRd (k : Fin 4) (port : BitVec 9) (out : LatPort) (routeOf : GroupCtx → BitVec 9) (g : Guard) (src : Src)
    (s : State) : State :=
  runTrig g src port []
    (fun a =>
      match a.st.gen k with
      | none => [fltDesc]
      | some x => a.st.unitFaults false x.units x.units ++
          a.st.gatherFaults (routeOf a.st.group).toNat a.st.group.count) noWait
    (fun a =>
      match a.st.gen k with
      | none => a.st
      | some x =>
        let route := (routeOf a.st.group).toNat
        let rows := x.units.map fun u => a.st.die.row u
        let (s1, ok) := a.st.eccReads a.st.turn x.units
        let (y, s2) := s1.gatherFar (s1.die.wall.route route rows) (s1.die.wall.far route true)
        let s3 := s2.setGen k (some (x.advance 1))
        if ok then s3.after 5 (.port out (.t y)) else s3) s

/-- Is a far lane of the current die one that leads to a member of the task's fold (R171)? -/
def State.laneInFold (s : State) (l : Nat) : Bool :=
  match lanePeer s.turn l, s.curTask with
  | some (d, _, _), some t => t.fold.getLsbD d.val
  | _, _ => false

/-- Send a row on a far lane with a stamp (R43, R361): it is written at the peer 28 tk later, 52 tk on a through lane. -/
def State.sendFar (s : State) (l : Nat) (r : Row) (stamp : BitVec 16) : State :=
  match lanePeer s.turn l with
  | none => s
  | some (d, n, through) =>
    s.onDieAt d fun x =>
      { x with flight := x.flight ++ [{ lane := BitVec.ofNat 4 n, row := r, stamp := stamp,
                                        arrive := x.tick + (if through then 52 else 28) }] }

/-- Run ag2.wr or ag3.wr (R184, R358, R361). -/
def runAgWr (k : Fin 4) (port : BitVec 9) (g : Guard) (src : Src) (s : State) : State :=
  runTrig g src port []
    (fun a =>
      let far := a.st.die.wall.far a.st.group.sr.toNat false
      match a.st.gen k with
      | none => [fltDesc]
      | some x =>
        a.st.unitFaults true x.units (x.units.filter fun u => !far.any fun f => f.slice == u % 256) ++
          (if far.all fun f => a.st.laneInFold f.lane then [] else [⟨0x11, 4, 0⟩])) noWait
    (fun a =>
      match a.st.gen k with
      | none => a.st
      | some x =>
        let route := a.st.group.sr.toNat
        let y := a.st.die.wall.route route a.tile
        let far := a.st.die.wall.far route false
        let s1 := far.foldl (fun s f => s.sendFar f.lane (y.row f.slice) (BitVec.ofNat 16 a.st.group.count)) a.st
        let rows := (x.units.zip y).filter fun p => !far.any fun f => f.slice == p.1 % 256
        (s1.setGen k (some (x.advance 1))).after 4 (.rows rows)) s

/-! ### Token words (R357) -/

/-- A token word: the token produced, the tokens consumed, START. -/
structure TokWord where
  prod : Nat
  cons : List Nat
  start : Nat

/-- Read a token word; none when a field that must be 0 or 1 is not (Table 15.1). -/
def tokWord (v : Word) : Option TokWord :=
  if bit v 6 && !bit v 7 && !bit v 15 && !bit v 23 && !bit v 31 then
    some { prod := fld v 0 6,
           cons := [(8, 14), (16, 22), (24, 30)].filterMap fun p => if bit v p.2 then some (fld v p.1 6) else none,
           start := fld v 32 32 }
  else none

/-- BUSY: the token produced is pending or set (R211, R357). -/
def State.busyFault (s : State) (k : Nat) : List Flt := if s.curToken k == .clear then [] else [fltToken 3]

/-- Faults of the tokens that a command consumes when it starts now (R212, R357). -/
def State.consFaults (s : State) (l : List Nat) : List Flt :=
  l.filterMap fun k => match s.curToken k with
    | .clear => some (fltToken 1)
    | .pending => some (fltToken 2)
    | .set => none

/-- Faults of an nw command's token word: START must be 0 (Table 15.1). -/
def State.nwTokFaults (s : State) (v : Word) : List Flt :=
  match tokWord v with
  | none => [fltOperand]
  | some t => (if t.start = 0 then [] else [fltOperand]) ++ s.busyFault t.prod ++ s.consFaults t.cons

/-- An accepted command makes its token pending (R357). -/
def State.pend (s : State) (k : Nat) : State := s.setTok s.ctx.lid s.turn k .pending

/-! ### Table loads (R363, R364) -/

/-- The record of an index in a ROUTES section: kind 0 route, 1 lane pattern, 2 plane (R310). -/
def routesRecord (b : List Byte) (kind i : Nat) : Option (List Byte) :=
  let nl := leAt b 0 4
  let np := leAt b 4 4
  let nr := leAt b 8 4
  let (base, n, len) := match kind with
    | 0 => (16 + 112 * nl + 248 * np, nr, 776)
    | 1 => (16, nl, 112)
    | _ => (16 + 112 * nl, np, 248)
  (List.range n).findSome? fun k =>
    if leAt b (base + len * k) 2 = i then some (slice b (base + len * k + 8) (len - 8)) else none

/-- The record that the issuing context's object holds for its die. -/
def State.routesEntry (s : State) (kind i : Nat) : Option (List Byte) :=
  match s.curTask.bind s.objOf with
  | none => none
  | some o => (o.sectsOf 4 s.turn).findSome? fun x => routesRecord x.body kind i

/-- No element of a list of numbers twice. -/
def noTwice (l : List Nat) : Bool := distinct l

/-- Is a route entry legal on a die (R364)? -/
def routeLegal (d : DieId) (b : List Byte) : Bool :=
  let rt := leNat b
  let far := farWords rt
  let key (f : FarWord) (n : Nat) : Nat := 512 * f.dirIn.toNat + n
  ((List.range 16).all fun i => bits (bits rt (8 * (672 + 4 * i)) 32) 13 18 == 0) && bits rt (8 * 736) 256 == 0 &&
    far.all (fun f => (lanePeer d f.lane).isSome) && noTwice (far.map fun f => key f f.slice) &&
    noTwice (far.map fun f => key f f.lane)

/-- Run a table load: `top` the greatest index (Table 15.3). -/
def runLoadTable (port : BitVec 9) (kind top : Nat) (g : Guard) (src : Src) (s : State) : State :=
  runTrig g src port [.nwa]
    (fun a =>
      a.st.nwTokFaults a.word ++
        a.ifOp .nwa fun x =>
          match a.st.routesEntry kind x.toNat with
          | some b => needOk (decide (1 ≤ x.toNat ∧ x.toNat ≤ top) && (kind != 0 || routeLegal a.st.turn b))
          | none => [fltOperand]) noWait
    (fun a =>
      match tokWord a.word, a.st.routesEntry kind (a.op .nwa).toNat with
      | some t, some b => (a.st.pend t.prod).after 64 (.table kind (a.op .nwa).toNat b t.prod)
      | _, _ => a.st) s

/-! ### The routing solver (R365 to R368) -/

/-- Destinations of the granules named by a tile: bit 15 set is none (R365). -/
def destinations (t : Tile) : List (Option Nat) :=
  ((List.range 256).flatMap fun i => granules (t.row i)).map fun g => if g < 2 ^ 15 then some g else none

/-- The completed permutation (R366): inputs without a destination take the outputs that no input reaches, ascending. -/
def completePerm : List (Option Nat) → List Nat → List Nat
  | [], _ => []
  | some g :: l, free => g :: completePerm l free
  | none :: l, f :: free => f :: completePerm l free
  | none :: l, [] => 0 :: completePerm l []

/-- Solve: the permutation, or none when two inputs name one output (R366). -/
def solvePerm (t : Tile) : Option (List Nat) :=
  let ds := destinations t
  let used := ds.foldl (fun (v : Vector Nat 32768) d => match d with
    | some g => v.setIfInBounds g (v.toList.getD g 0 + 1)
    | none => v) (.replicate 32768 0)
  if used.toList.any fun n => decide (1 < n) then none
  else some (completePerm ds (used.toList.zipIdx.filterMap fun x => if x.1 = 0 then some x.2 else none))

/-- SOLVER of CAPS (R5, Table 01.4). -/
def State.hasSolver (s : State) : Bool := bit s.pkg.caps 1

/-- The block of a route that holds one (R367). -/
def Wall.blockOf (w : Wall) (route : Nat) : Option Nat := w.blocks.lookup route

/-- Are the 328 row units from a unit in the task's owned ranges (R367)? -/
def Task.ownsBlock (t : Task) (d : DieId) (u : Nat) : Bool := coversRange (t.onDie d).owned (256 * u) (256 * 328)

/-- Faults of nw.a of a solve: its fields, ownership of the block, blocks of other live routes (R365, R367). -/
def State.solveFaults (s : State) (x : Word) : List Flt :=
  let route := fld x 0 9
  let u := 256 * fld x 9 12
  if 2 ^ 21 ≤ x.toNat ∨ route < 448 then [fltOperand]
  else
    match s.curTask with
    | none => []
    | some t =>
      needOk (t.ownsBlock s.turn u && !s.die.wall.blocks.any fun b => b.1 != route && overlaps u 328 b.2 328)

/-- Run nw.solve (R365 to R367). -/
def runSolve (g : Guard) (src : Src) (s : State) : State :=
  runTrig g src 0x1B3 [.nwa, .nwb]
    (fun a =>
      if !a.st.hasSolver then [⟨0x06, 2, 0⟩]
      else
        (match a.st.die.wall.lastSolve with
         | some m => needOk (decide (m + 320 ≤ a.st.group.count))
         | none => []) ++
          (a.ifOp .nwa a.st.solveFaults) ++ (a.ifOp .nwb a.st.nwTokFaults)) noWait
    (fun a =>
      match tokWord (a.op .nwb) with
      | none => a.st
      | some t =>
        let x := a.op .nwa
        let route := fld x 0 9
        let u := 256 * fld x 9 12
        let perm := solvePerm a.tile
        let n := a.st.group.count
        let s1 := a.st.onDie fun d =>
          { d with wall := { d.wall with lastSolve := some n,
                                         blocks := d.wall.blocks ++ (if d.wall.blocks.contains (route, u) then []
                                                                     else [(route, u)]) } }
        ((s1.pend t.prod).after 320 (.live route (perm.getD []) u t.prod)).after 320
          (.port .nwq (.s (if perm.isSome then 0 else 10)))) s

/-! ### Far-lane control (R369) -/

/-- Faults of a lane number: a lane absent on the die. -/
def State.laneFaults (s : State) (v : Word) : List Flt :=
  needOk (decide (v.toNat < 16) && (lanePeer s.turn v.toNat).isSome)

/-- Run nw.farclr. -/
def runFarclr (g : Guard) (src : Src) (s : State) : State :=
  runTrig g src 0x1B4 [] (fun a => a.st.laneFaults a.word) noWait
    (fun a => a.st.onDie fun d => { d with rx := d.rx.setIfInBounds a.word.toNat [] }) s

/-- The state of a lane (R369). -/
def State.farstat (s : State) (l : Nat) : Word :=
  let rows := s.die.lane l
  let head := match rows with | (_, st) :: _ => st.toNat | [] => 0
  BitVec.ofNat 64 (rows.length % 32 + 32 + 64 * (s.laneInFold l).toNat + head * 2 ^ 16)

/-- Run nw.farstat. -/
def runFarstat (g : Guard) (src : Src) (s : State) : State :=
  runTrig g src 0x1B5 [] (fun a => a.st.laneFaults a.word) noWait
    (fun a => a.st.after 1 (.port .nwq (.s (a.st.farstat a.word.toNat)))) s

/-! ### Completion of table loads and solves (R362, R366, R368) -/

/-- Take the first operation in flight of the timed context that matches and is due (R362). -/
def Ctx.takeDue (c : Ctx) (scy : Word) (p : Effect → Bool) : Option (Pending × Ctx) :=
  match c.pend.find? fun x => p x.eff && decide (x.due ≤ c.fc scy) with
  | some x => if c.inh then none else some (x, { c with pend := c.pend.erase x })
  | none => none

/-- Is the effect a table load, a solve, a pin? -/
def Effect.isTable : Effect → Bool
  | .table .. => true
  | _ => false
def Effect.isLive : Effect → Bool
  | .live .. => true
  | _ => false
def Effect.isPin : Effect → Bool
  | .pin .. => true
  | _ => false

/-- A table entry is replaced. -/
def Wall.setTable (w : Wall) (kind i : Nat) (b : List Byte) : Wall :=
  match kind with
  | 0 => { w with routes := setEntry w.routes i b }
  | 1 => { w with pats := setEntry w.pats i b }
  | _ => { w with planes := setEntry w.planes i b }

/-- A live route takes its permutation; a block it held before under another name is released and reads 0 (R366, R368). -/
def Die.setLive (d : Die) (route : Nat) (perm : List Nat) (u : Nat) : Die :=
  let gone := d.wall.blocks.filter fun b => b.1 == route && b.2 != u
  let d := gone.foldl (fun d b => d.zeroUnits b.2 328) d
  { d with wall := { d.wall with blocks := d.wall.blocks.filter fun b => !(gone.contains b),
                                 live := { route := route, perm := perm, block := u } ::
                                   d.wall.live.filter fun l => l.route != route } }

/-- A table load of a die completes (R362). -/
def State.tableDone (s : State) (d : DieId) : Option State :=
  match (s.dieAt d).timedCid with
  | none => none
  | some c =>
    match ((s.dieAt d).ctxAt c).takeDue (s.dieAt d).scy Effect.isTable with
    | some (⟨_, .table kind i b k⟩, x) =>
      let s1 := s.onCtxAt d c fun _ => x
      let s2 := s1.onDieAt d fun y => { y with wall := y.wall.setTable kind i b }
      some (s2.setTok x.lid d k .set)
    | _ => none

/-- A solve of a die completes (R366). -/
def State.solveDone (s : State) (d : DieId) : Option State :=
  match (s.dieAt d).timedCid with
  | none => none
  | some c =>
    match ((s.dieAt d).ctxAt c).takeDue (s.dieAt d).scy Effect.isLive with
    | some (⟨_, .live route perm u k⟩, x) =>
      let s1 := s.onCtxAt d c fun _ => x
      some ((s1.onDieAt d fun y => y.setLive route perm u).setTok x.lid d k .set)
    | _ => none

/-- The outcome of an event of the package: refused where its condition does not hold (log 7). -/
def enabled (name : String) (o : Option State) : Host.Outcome State Fault Refusal :=
  match o with
  | some s => .next s
  | none => .refused (.notEnabled name)

/-- TABLE_LOAD_COMPLETE (R362). -/
def execTableLoadComplete (d : DieId) (s : State) : Host.Outcome State Fault Refusal :=
  enabled "TABLE_LOAD_COMPLETE" (s.tableDone d)

/-- SOLVE_COMPLETE (R366). -/
def execSolveComplete (d : DieId) (s : State) : Host.Outcome State Fault Refusal :=
  enabled "SOLVE_COMPLETE" (s.solveDone d)

/-- AG0_SET (R183, R358). -/
def execAg0Set (g : Guard) (r : BitVec 5) (s : State) : Host.Outcome State Fault Refusal :=
  .next (runAgSet 0 0x1A0 g r s)

/-- AG0_RD (R184, R358). -/
def execAg0Rd (g : Guard) (src : Src) (s : State) : Host.Outcome State Fault Refusal :=
  .next (runAgRd 0 0x1A1 .g0 GroupCtx.g0 g src s)

/-- AG0_STEP (R358). -/
def execAg0Step (g : Guard) (src : Src) (s : State) : Host.Outcome State Fault Refusal :=
  .next (runAgStep 0 0x1A2 g src s)

/-- AG1_SET (R183, R358). -/
def execAg1Set (g : Guard) (r : BitVec 5) (s : State) : Host.Outcome State Fault Refusal :=
  .next (runAgSet 1 0x1A3 g r s)

/-- AG1_RD (R184, R358). -/
def execAg1Rd (g : Guard) (src : Src) (s : State) : Host.Outcome State Fault Refusal :=
  .next (runAgRd 1 0x1A4 .g1 GroupCtx.g1 g src s)

/-- AG1_STEP (R358). -/
def execAg1Step (g : Guard) (src : Src) (s : State) : Host.Outcome State Fault Refusal :=
  .next (runAgStep 1 0x1A5 g src s)

/-- AG2_SET (R183, R358). -/
def execAg2Set (g : Guard) (r : BitVec 5) (s : State) : Host.Outcome State Fault Refusal :=
  .next (runAgSet 2 0x1A6 g r s)

/-- AG2_WR (R184, R358). -/
def execAg2Wr (g : Guard) (src : Src) (s : State) : Host.Outcome State Fault Refusal :=
  .next (runAgWr 2 0x1A7 g src s)

/-- AG2_STEP (R358). -/
def execAg2Step (g : Guard) (src : Src) (s : State) : Host.Outcome State Fault Refusal :=
  .next (runAgStep 2 0x1A8 g src s)

/-- AG3_SET (R183, R358). -/
def execAg3Set (g : Guard) (r : BitVec 5) (s : State) : Host.Outcome State Fault Refusal :=
  .next (runAgSet 3 0x1A9 g r s)

/-- AG3_WR (R184, R358). -/
def execAg3Wr (g : Guard) (src : Src) (s : State) : Host.Outcome State Fault Refusal :=
  .next (runAgWr 3 0x1AA g src s)

/-- AG3_STEP (R358). -/
def execAg3Step (g : Guard) (src : Src) (s : State) : Host.Outcome State Fault Refusal :=
  .next (runAgStep 3 0x1AB g src s)

/-- NW_LDROUTE (R363, R364). -/
def execNwLdroute (g : Guard) (src : Src) (s : State) : Host.Outcome State Fault Refusal :=
  .next (runLoadTable 0x1B0 0 447 g src s)

/-- NW_LDPAT (R363). -/
def execNwLdpat (g : Guard) (src : Src) (s : State) : Host.Outcome State Fault Refusal :=
  .next (runLoadTable 0x1B1 1 255 g src s)

/-- NW_LDPLANE (R363). -/
def execNwLdplane (g : Guard) (src : Src) (s : State) : Host.Outcome State Fault Refusal :=
  .next (runLoadTable 0x1B2 2 1023 g src s)

/-- NW_SOLVE (R365 to R367). -/
def execNwSolve (g : Guard) (src : Src) (s : State) : Host.Outcome State Fault Refusal :=
  .next (runSolve g src s)

/-- NW_FARCLR (R369). -/
def execNwFarclr (g : Guard) (src : Src) (s : State) : Host.Outcome State Fault Refusal :=
  .next (runFarclr g src s)

/-- NW_FARSTAT (R369). -/
def execNwFarstat (g : Guard) (src : Src) (s : State) : Host.Outcome State Fault Refusal :=
  .next (runFarstat g src s)

end Sys2Proof.Machine
end

