-- ==== Sys2Proof/Machine/BringUp.lean ====
section
/-! DEFINITION. Bring-up and its end (01 R10, R11, R20, R28 to R38, 03 R79): the stages of Table 01.7, their failures, a reset of
the physical function, the thermal power-off, and the clock machine check. -/

namespace Sys2Proof.Machine

/-- Does the part stay at the level it has: a stage has failed, or level 1 is reached with an unusable identity (R11, R31, R33,
R37)? -/
def Package.stopped (p : Package) : Bool := p.halted || (!p.idOk && decide (1 ≤ p.level.toNat))

/-- Is the stage under way, with nothing failed before it? -/
def State.inStage (s : State) (n : Nat) : Bool := s.pkg.power && s.pkg.stage == n && !s.pkg.stopped

/-- Change the package's registers. -/
def State.onPkg (s : State) (f : Package → Package) : State := { s with pkg := f s.pkg }

/-- What outlives a loss of power or a restart: the boot ROM, the manifest and the words of its flash, the SRAM source of the
identity, what the sensors show, the host's memory, what arrives from outside, and the model's own counters. -/
def State.restart (s : State) (power : Bool) : State :=
  let p := Package.reset
  { State.reset with
    pkg := { p with power := power, manifest := s.pkg.manifest, rootHash := s.pkg.rootHash, svnHeld := s.pkg.svnHeld,
                    idSeed := s.pkg.idSeed, sensors := s.pkg.sensors, flashFail := s.pkg.flashFail,
                    pwrLimit := BitVec.ofNat 12 s.pkg.manifest.pwrDef.toNat }
    host := { HostSide.reset with mem := s.host.mem }
    agenda := s.agenda
    fresh := s.fresh }

/-- Stage A begins: die 1 runs, the others are held in reset; FAIL is loaded from the flash and the word cleared (R28, R34). -/
def State.beginStageA (s : State) : State :=
  let s1 := (s.restart true).onPkg fun p => { p with stage := 1, fail := p.flashFail, flashFail := 0 }
  (s1.onDieAt 0 fun d => { d with heldReset := true }).onDieAt 2 fun d => { d with heldReset := true }

/-- PERST_RELEASE (R34). -/
def State.perst (s : State) : Option State := if s.pkg.power then none else some s.beginStageA

/-- The fields of the manifest that its signature covers, in the order of Table 01.6 (log 24). -/
def Manifest.bytes (m : Manifest) : List Byte :=
  leBytes 4 m.format.toNat ++ slice m.partno 0 16 ++ [m.variant, m.units] ++ slice m.serial 0 16 ++ leBytes 4 m.svn.toNat ++
    leBytes 2 m.pwrDef.toNat ++ slice m.dieTrim 0 768 ++ slice m.sramRep 0 12288 ++ slice m.hbmTrim 0 4608 ++
    slice m.optTrim 0 12288 ++ slice m.idHelp 0 2048 ++ slice m.idPub 0 32 ++ slice m.rootPub 0 32

/-- The check of R30 that the manifest fails: 1 root key, 2 signature, 3 security version. -/
def Package.failing (p : Package) : Option Nat :=
  let m := p.manifest
  if sha512 (slice m.rootPub 0 32) ≠ p.rootHash then some 1
  else if !edVerify m.rootPub (digestBytes (sha512 m.bytes)) m.sig then some 2
  else if m.svn < p.svnHeld then some 3
  else none

/-- Does the rebuilt identity key match IDPUB (R31)? -/
def Package.identityMatches (p : Package) : Bool := edPublic (leBytes 32 p.idSeed.toNat) == slice p.manifest.idPub 0 32

/-- The digest of a measurement block (Table 03.5): of the manifest it is computed, of a firmware it is free (log 9). -/
def State.digestOf (s : State) (k : Nat) : BitVec 512 :=
  if k = 2 then sha512 (s.pkg.manifest.bytes ++ slice s.pkg.manifest.sig 0 64) else Config.measurement k

/-- Record measurement blocks (R82). -/
def State.measure (s : State) (l : List Nat) : State :=
  { s with host := { s.host with
      meas := l.foldl (fun (v : Vector (BitVec 512) 8) k => v.setIfInBounds (k - 1) (s.digestOf k)) s.host.meas } }

/-- Stage A when the manifest passes (R31, R83): the identity, the first measurements; the log heads start. -/
def State.bootA (s : State) : State :=
  let ok := s.pkg.identityMatches
  let s1 := (s.onPkg fun p => { p with stage := 2, idOk := ok, fail := if ok then p.fail else 0x12 }).measure [1, 2]
  { s1 with host := { s1.host with logHead := 0, log := [], fns := s1.host.fns.map fun (f : Fn) => { f with logHead := 0 } } }

/-- STAGE_A (R30, R31, R33, R83): the boot ROM goes on, or no further than a failing manifest. -/
def State.stageA (s : State) : Option State :=
  if !s.inStage 1 then none
  else some (match s.pkg.failing with
    | some k => s.onPkg fun p => { p with bootFail := BitVec.ofNat 4 k, fail := 0x11, halted := true }
    | none => s.bootA)

/-- CAPS as the manifest gives it (Table 00.3). -/
def capsOf (m : Manifest) : Word := BitVec.ofNat 64 (0x02010000 + m.units.toNat % 8 + 256 * m.variant.toNat)

/-- STAGE_B (R3). -/
def State.stageB (s : State) : Option State :=
  if s.inStage 2 then some (s.onPkg fun p => { p with stage := 3, caps := capsOf p.manifest }) else none

/-- STAGE_C (R34, R82, R85, R90): level 1; slot 0 draws its key, the slot map starts at 0. -/
def State.stageC (s : State) : Option State :=
  if s.inStage 3 then
    let s1 := (s.measure [3, 6, 7]).onPkg fun p => { p with stage := 4, level := 1, dieUp := 2 }
    some { s1 with host := { s1.host with slotKeys := s1.host.slotKeys.set 0 s1.fresh, slotmap := [] }, fresh := s1.fresh + 1
                   sched := { s1.sched with want := true } }
  else none

/-- STAGE_D (R11, R34, R109): dies 0 and 2 are released with the code that was placed for them, and all stacks run at full rate; a die whose straps read 0b11 holds itself in
reset, and the package stays where it is. -/
def State.stageD (s : State) (strap0 strap2 : Bool) : Option State :=
  if !s.inStage 4 then none
  else if strap0 || strap2 then some (s.onPkg fun p => { p with fail := 0x21, halted := true })
  else
    let code := (s.dieAt 1).pstore
    let s1 := (s.putDieAt 0 { Die.reset 0 with pstore := code }).putDieAt 2 { Die.reset 2 with pstore := code }
    let s2 := (s1.measure [4]).onPkg fun p => { p with stage := 5, level := 2, dieUp := 7, hbmFull := true }
    some { s2 with sched := { s2.sched with want := true } }

/-- STAGE_E (R34, R37, R82): level 3 with the units that the part has and that have not failed. -/
def State.stageE (s : State) : Option State :=
  if s.inStage 5 && s.pkg.level == 2 then
    let s1 := if bit s.pkg.caps 0 then s.measure [5] else s
    let s2 := (if bit s.pkg.caps 2 then s1.measure [8] else s1).onPkg fun p =>
      { p with level := 3, optUp := !p.optFail && bit p.caps 2, padUp := !p.padFail && bit p.caps 0 }
    some { s2 with sched := { s2.sched with want := true } }
  else none

/-- The codes of Table 01.9 with which a stage may fail; a part that lacks a unit does not fail to bring it up (R2). -/
def Package.failsWith (p : Package) : List Nat :=
  match p.stage with
  | 1 => [0x21, 0x22]
  | 2 => [0x22]
  | 3 => [0x23]
  | 4 => [0x22, 0x23, 0x24]
  | 5 => if p.level == 2 then (if bit p.caps 2 && !p.optFail then [0x32] else []) ++ (if bit p.caps 0 && !p.padFail then [0x33] else [])
         else []
  | _ => []

/-- STAGE_FAILURE (R37): the part stays at its level, and die 1 with a strap fault holds itself in reset (R11); in stage E the part of
the optics or of the paddock fails, and the stage goes on without it. -/
def State.stageFailure (s : State) (code : BitVec 8) : Option State :=
  if !s.pkg.power || s.pkg.stopped || !s.pkg.failsWith.contains code.toNat then none
  else if s.pkg.stage == 5 then
    some (s.onPkg fun p => { p with fail := code, optFail := p.optFail || code == 0x32, padFail := p.padFail || code == 0x33 })
  else
    let s1 := s.onPkg fun p => { p with fail := code, halted := true }
    some (if code == 0x21 then s1.onDieAt 1 fun d => { d with heldReset := true } else s1)

/-- PF_RESET (R79): every function is reset and bring-up starts again at stage A. -/
def State.pfReset (s : State) : Option State := if s.pkg.power then some s.beginStageA else none

/-- Does a sensor show the temperature at which the package removes its power (R28)? The governor has read it (R27). -/
def Package.tooHot (p : Package) : Bool := decide (115 ≤ p.tempDie.toNat ∨ 80 ≤ p.tempLaser.toNat)

/-- THERMAL_POWER_OFF (R28): code 0x41 goes to the flash, and the package removes its power. -/
def State.thermalOff (s : State) : Option State :=
  if s.pkg.power && s.pkg.tooHot then some ((s.restart false).onPkg fun p => { p with flashFail := 0x41 }) else none

/-- Is a die in service (R20, Table 01.8)? -/
def State.inService (s : State) (d : DieId) : Bool :=
  s.clockedAt d && !(s.dieAt d).outOfService && s.pkg.dieUp.getLsbD d.val

/-- Every task that holds a context of the die takes a machine check, and the die leaves service with a failure code
(R20, R47). -/
def State.dieOut (s : State) (d : DieId) (code fail : BitVec 8) : State :=
  let ts := s.sched.tasks.filter fun t => t.ctxs.any fun p => p.1 == d
  let s1 := if ts.isEmpty then s.postEvent 0 0x24 d 0 (leBytes 8 0 ++ [code]) else
    ts.foldl (fun s t => s.checkTask t d code 0) s
  (s1.onDieAt d fun x => { x with outOfService := true }).onPkg fun p =>
    { p with fail := fail, dieUp := BitVec.ofNat 3 (setBits p.dieUp.toNat d.val 1 0) }

/-- Do the rates of a neighbour's TICK and the own one differ by more than 400 ppm (R20)? -/
def Die.drifts (d : Die) : Bool := d.partners.toList.any fun p => p.drift

/-- CLOCK_MACHINE_CHECK (R20). -/
def State.clockCheck (s : State) (d : DieId) : Option State :=
  if s.inService d && (s.dieAt d).drifts then some (s.dieOut d 0x45 0x31) else none

/-- PERST_RELEASE (R34). -/
def execPerstRelease (s : State) : Host.Outcome State Fault Refusal := enabled "PERST_RELEASE" s.perst

/-- STAGE_A (R34). -/
def execStageA (s : State) : Host.Outcome State Fault Refusal := enabled "STAGE_A" s.stageA

/-- STAGE_B (R34). -/
def execStageB (s : State) : Host.Outcome State Fault Refusal := enabled "STAGE_B" s.stageB

/-- STAGE_C (R34). -/
def execStageC (s : State) : Host.Outcome State Fault Refusal := enabled "STAGE_C" s.stageC

/-- STAGE_D (R34). -/
def execStageD (strap0 strap2 : Bool) (s : State) : Host.Outcome State Fault Refusal :=
  enabled "STAGE_D" (s.stageD strap0 strap2)

/-- STAGE_E (R34). -/
def execStageE (s : State) : Host.Outcome State Fault Refusal := enabled "STAGE_E" s.stageE

/-- STAGE_FAILURE (R37). -/
def execStageFailure (code : BitVec 8) (s : State) : Host.Outcome State Fault Refusal :=
  enabled "STAGE_FAILURE" (s.stageFailure code)

/-- PF_RESET (R79). -/
def execPfReset (s : State) : Host.Outcome State Fault Refusal := enabled "PF_RESET" s.pfReset

/-- THERMAL_POWER_OFF (R28). -/
def execThermalPowerOff (s : State) : Host.Outcome State Fault Refusal := enabled "THERMAL_POWER_OFF" s.thermalOff

/-- CLOCK_MACHINE_CHECK (R20). -/
def execClockMachineCheck (d : DieId) (s : State) : Host.Outcome State Fault Refusal :=
  enabled "CLOCK_MACHINE_CHECK" (s.clockCheck d)

end Sys2Proof.Machine
end

