-- ==== Sys2Proof/Machine/Control.lean ====
section
/-! DEFINITION. Control: branches and delay groups (R316, R317), call (R319), loop and the rotating files (R320, R321),
yield, ALIGN and exit (R160 to R166), br.trap (R318), the NOP and moves to destinations that are no trigger (R292, R293). -/

namespace Sys2Proof.Machine

/-- Faults of a taken branch to v: v [63:16] not 0 or a target outside CODE (R316). -/
def State.targetFaults (s : State) (v : Word) : List Flt :=
  if v.toNat < 2 ^ 16 ∧ v.toNat < s.ctx.codeLen then [] else [fltOperand]

/-- A branch or exit in a delay group of a taken branch is an illegal operand (R317). -/
def State.delayFaults (s : State) : List Flt := if s.ctx.delay.isSome then [fltOperand] else []

/-- A taken branch: two delay groups issue before the target (R317). -/
def State.branchTo (s : State) (v : Word) : State :=
  let s1 := s.onCtx fun c => { c with delay := some { target := c.base + v.toNat, groups := 2 } }
  (s1.onGroup fun g => { g with branched := true }).trace 0 v 1

/-- br.jmp (R316, R317). -/
def runJmp (g : Guard) (src : Src) (s : State) : State :=
  runTrig g src 0x088 [] (fun a => a.st.delayFaults ++ a.st.targetFaults a.word) noWait (fun a => a.st.branchTo a.word) s

/-- The link of a call: the relative index of the bundle after the one that holds the last slot of its second delay group
(R319). -/
def State.link (s : State) : Word :=
  let c := s.ctx
  let g := s.group
  BitVec.ofNat 64
    (lastBundle s.die.bundle c.codeEnd (c.codeLen + 1) 2 (g.nextBundle, g.nextSlot) + 1 - c.base)

/-- br.call: taken to v, the link into s15 (R319). -/
def runCall (g : Guard) (src : Src) (s : State) : State :=
  runTrig g src 0x089 [] (fun a => a.st.delayFaults ++ a.st.targetFaults a.word) noWait
    (fun a => (a.st.onCtx fun c => c.writeS 15 a.st.link).branchTo a.word) s

/-- LC after a loop (R320). -/
def Ctx.loopCount (c : Ctx) : Word := c.rotNow.lc - 1

/-- ROFS after a loop (R320). -/
def Ctx.loopOffset (c : Ctx) : Nat := if c.rotNow.rsz = 0 then c.rotNow.rofs else (c.rotNow.rofs + 1) % c.rotNow.rsz

/-- The counts of a loop: LC and ROFS for the groups after it (R320). -/
def State.loopStep (s : State) : State :=
  s.onCtx fun c => { c with rot := { c.rot with lc := c.loopCount, rofs := c.loopOffset } }

/-- br.loop (R320): taken to v unless LC reaches 0. -/
def runLoop (g : Guard) (src : Src) (s : State) : State :=
  runTrig g src 0x08A []
    (fun a => a.st.delayFaults ++ if a.st.ctx.loopCount = 0 then [] else a.st.targetFaults a.word) noWait
    (fun a =>
      if a.st.ctx.loopCount = 0 then a.st.loopStep.trace 0 a.word 0 else a.st.loopStep.branchTo a.word) s

/-- The values that br.rotcfg takes (R321). -/
def rotLegal (v : Word) : Bool :=
  decide (v.toNat < 128) && [0, 4, 8, 16].contains (fld v 0 5) && (fld v 5 2 != 0 || fld v 0 5 == 0)

/-- br.rotcfg: RSZ, RFILE, and ROFS := 0, for the groups after it (R321). -/
def runRotcfg (g : Guard) (src : Src) (s : State) : State :=
  runTrig g src 0x08B [] (fun a => if rotLegal a.word then [] else [fltOperand]) noWait
    (fun a => a.st.onCtx fun c =>
      { c with rot := { c.rot with rofs := 0, rsz := fld a.word 0 5, rfile := BitVec.ofNat 2 (fld a.word 5 2) } }) s

/-- br.yield: the next v cycles are given away (R160, R318). -/
def runYield (g : Guard) (src : Src) (s : State) : State :=
  runTrig g src 0x08C [] (fun a => if 1 ≤ a.word.toNat ∧ a.word.toNat ≤ 4096 then [] else [fltOperand]) noWait
    (fun a => a.st.onGroup fun g => { g with yield := some (g.count + a.word.toNat + 1) }) s

/-- br.align: the next group issues once every partner's estimate reaches its count; in a fold of one die it never waits
(R164). -/
def runAlign (g : Guard) (src : Src) (s : State) : State :=
  runTrig g src 0x08D [] noFaults noWait
    (fun a =>
      match a.st.curTask with
      | some t =>
        if t.multiDie then a.st.onGroup fun g => { g with align := true } else a.st
      | none => a.st) s

/-- br.exit: the context issues nothing more and retires when its work is complete (R161). -/
def runExit (g : Guard) (src : Src) (s : State) : State :=
  runTrig g src 0x08E [] (fun a => a.st.delayFaults) noWait
    (fun a => a.st.onGroup fun g => { g with exit := true }) s

/-- Is the entry a copy start that no channel has taken (R162, R192)? -/
def Entry.copyStart (e : Entry) : Bool :=
  match e.op with
  | .st _ _ | .amo .. => decide (0xFFFFFF000000 ≤ e.addr.toNat ∧ e.addr.toNat < 2 ^ 48)
  | _ => false

/-- What exit.abandon discards of an entry: kind (1 copy, 2 queue entry), token, channel, identifier (Table 11.10). -/
def Entry.discard (e : Entry) : Nat × Nat × Nat × Nat :=
  if e.copyStart then (1, 0, fld e.addr 12 4, e.seq) else (2, 0, 0, e.seq)

/-- Has the entry left its queue (R162)? -/
def Entry.started (e : Entry) : Bool := e.sent

/-- The commands and entries of the issuing context that have not started are discarded (R162). -/
def State.discardAll (s : State) : State :=
  let d := s.die
  let c := s.ctx
  let cid := d.issuing
  let mine := d.fills.filter fun f => f.ctx == cid && !f.started
  let gone := c.entries.filter fun e => !e.started
  let list := (mine.map fun f => (0, f.prod, f.ch, f.start)) ++ gone.map Entry.discard
  let s1 := s.onDie fun d =>
    { d with fills := d.fills.filter fun f => !(f.ctx == cid && !f.started)
             committed := mine.foldl (fun (v : Vector Nat 8) f =>
               v.setIfInBounds f.ch (v.toList.getD f.ch 0 - f.bytes)) d.committed }
  (s1.onCtx fun c => { c with entries := c.entries.filter Entry.started, discards := c.discards ++ list,
                              abandoned := true }).onGroup fun g => { g with exit := true }

/-- br.exit.abandon: exit that discards what has not started (R162). -/
def runAbandon (g : Guard) (src : Src) (s : State) : State :=
  runTrig g src 0x08F [] (fun a => a.st.delayFaults) noWait (fun a => a.st.discardAll) s

/-- br.trap: commits, writes v into FADDR and raises code 0x30 (R271, R318). -/
def runTrap (g : Guard) (src : Src) (s : State) : State :=
  runTrigTo g src 0x090 [] noFaults noWait (fun a => a.st.takeFault ⟨0x30, 0, a.word⟩ true) s

/-- BR_JMP (R316, R317). -/
def execBrJmp (g : Guard) (src : Src) (s : State) : Out := .next (runJmp g src s)

/-- BR_CALL (R319). -/
def execBrCall (g : Guard) (src : Src) (s : State) : Out := .next (runCall g src s)

/-- BR_LOOP (R320). -/
def execBrLoop (g : Guard) (src : Src) (s : State) : Out := .next (runLoop g src s)

/-- BR_ROTCFG (R321). -/
def execBrRotcfg (g : Guard) (src : Src) (s : State) : Out := .next (runRotcfg g src s)

/-- BR_YIELD (R160, R318). -/
def execBrYield (g : Guard) (src : Src) (s : State) : Out := .next (runYield g src s)

/-- BR_ALIGN (R164). -/
def execBrAlign (g : Guard) (src : Src) (s : State) : Out := .next (runAlign g src s)

/-- BR_EXIT (R161). -/
def execBrExit (g : Guard) (src : Src) (s : State) : Out := .next (runExit g src s)

/-- BR_EXIT_ABANDON (R162). -/
def execBrExitAbandon (g : Guard) (src : Src) (s : State) : Out := .next (runAbandon g src s)

/-- BR_TRAP (R271, R318). -/
def execBrTrap (g : Guard) (src : Src) (s : State) : Out := .next (runTrap g src s)

/-- NOP (R292): the move `0 > s0` issues as a group of its own and does nothing. -/
def execNop (s : State) : Out := .next s.openGroup.finishSlot

/-- MOVE (R292, R293): a move to a register, a latch, a sticky port or a stream register. -/
def execMove (g : Guard) (h : Bool) (src : Src) (dst : Dst) (s : State) : Out := .next (runMove g h src dst s)

end Sys2Proof.Machine
end

