-- ==== Sys2Proof/Machine/Fill.lean ====
section
/-! DEFINITION. The fill engine: commands and admission (15 R377 to R379, 07 R190, R191), transfers, start and completion
(R212), pins (R380, R189). -/

namespace Sys2Proof.Machine

/-! ### Operands (Table 15.7) -/

/-- SIDE of fe.a, B, WLOG; D, NROWS, L of fe.b. -/
def feSide (a : Word) : Bool := bit a 3
def feB (a : Word) : Nat := fld a 5 43 * 32
def feWlog (a : Word) : Nat := fld a 48 6
def feD (b : Word) : Nat := fld b 0 20
def feRows (b : Word) : Nat := fld b 20 13
def feL (b : Word) : Nat := fld b 33 20

/-- Does the command read an index list? -/
def FillKind.indexed : FillKind → Bool
  | .gfill | .sspill => true
  | _ => false

/-- Does the command write the scratchpad? -/
def FillKind.writesSp : FillKind → Bool
  | .fill | .bfill | .gfill => true
  | _ => false

/-- Field checks of fe.a and fe.b (Table 15.7, R378). -/
def feFields (k : FillKind) (a b : Word) : Bool :=
  !bit a 4 && fld a 54 10 == 0 && fld b 53 11 == 0 &&
    (if k.indexed then decide (feWlog a ≤ 24) else feWlog a == 0 && feL b == 0) &&
    decide (1 ≤ feRows b ∧ feRows b ≤ 4096) && (k != .bfill || feD b % 256 == 0)

/-- Bytes of a row in HBM (R378). -/
def rowSize (side : Bool) : Nat := if side then 288 else 256

/-- The count nearest to the issue count whose low 32 bits are START (R357). -/
def startCount (n start : Nat) : Int := (n : Int) + signedOf 32 (start + 2 ^ 32 - n % 2 ^ 32)

/-- The divisor of the completion bound on a die: HBM at a quarter rate for a task started at level 1, and on die 1 while such a task
has not exited (R35, R36). -/
def State.fillRate (s : State) (d : DieId) : Nat :=
  if s.sched.tasks.any fun t => t.bound1 && (d == 1 || t.ctxs.any fun p => p.1 == d) then 120 else 480

/-- The command of an fe trigger at issue count `n` (R190, R191, R377). -/
def State.fillOf (s : State) (k : FillKind) (a b : Word) (t : TokWord) : Fill :=
  let n := s.group.count
  let size := rowSize (feSide a) * feRows b
  let st := startCount n t.start
  let div := s.fillRate s.turn
  { kind := k, ch := fld a 0 3, side := feSide a, b := feB a, wlog := feWlog a, d := feD b, nrows := feRows b, l := feL b,
    start := st.toNat, bound := st.toNat + 1400 + (size + div - 1) / div, bytes := size, prod := t.prod, cons := t.cons,
    issued := n, order := s.die.fillOrder, ctx := s.die.issuing, lid := s.ctx.lid, started := false,
    left := List.range (feRows b), phase := ((s.curTask).map fun t => (t.onDie s.turn).phase).getD 0 }

/-- The bytes of HBM that a command may touch: base and length (R378). -/
def Fill.hbmRange (f : Fill) : Nat × Nat :=
  (f.b, if f.kind.indexed then 2 ^ f.wlog * rowSize f.side else f.nrows * rowSize f.side)

/-- The runs of row units that the rows of a command touch (R378). -/
def Fill.spRange (f : Fill) : Nat × Nat := if f.kind == .bfill then (f.d / 256 * 256, 256 * f.nrows) else (f.d, f.nrows)

/-- Row units of the index list. -/
def Fill.listRange (f : Fill) : Nat × Nat := (f.l, (4 * f.nrows + 255) / 256)

/-- Is a run of row units inside the task's bounds on a die (R178, R367)? -/
def State.unitsOk (s : State) (t : Task) (d : DieId) (r : Nat × Nat) : Bool :=
  decide (r.1 + r.2 ≤ spUnits) && coversRange (t.onDie d).bounds (256 * r.1) (256 * r.2) &&
    !(s.dieAt d).wall.blocks.any fun b => overlaps r.1 r.2 b.2 328

/-- Do an engine's current sets hold a run of row units (R198)? -/
def State.unitsSet (s : State) (t : Task) (d : DieId) (engine : Nat) (write : Bool) (r : Nat × Nat) : Bool :=
  !t.det ||
    (let x := s.phaseRanges t d (t.onDie d).phase.toNat engine
     coversRange (if write then x.2 else x.1 ++ x.2) r.1 r.2)

/-- Why a command is not admitted, all reasons (R190): 1 pages, 2 bounds, 3 start, 4 bytes, 5 set. -/
def State.admission (s : State) (f : Fill) (start : Int) : List (BitVec 4) :=
  match s.curTask with
  | none => []
  | some t =>
    let d := s.turn
    let lists := if f.kind.indexed then [f.listRange] else []
    (if coversRange (t.onDie d).pinned f.hbmRange.1 f.hbmRange.2 then [] else [1]) ++
      (if (f.spRange :: lists).all fun r => s.unitsOk t d r then [] else [2]) ++
      (if (s.group.count : Int) + 64 ≤ start then [] else [3]) ++
      (if (s.die.committed.toList.getD f.ch 0) + f.bytes ≤ 1048576 then [] else [4]) ++
      (if s.unitsSet t d 1 f.kind.writesSp f.spRange && lists.all fun r => s.unitsSet t d 1 false r then [] else [5])

/-- Run an fe transfer command (R190, R357, R377). -/
def runFill (port : BitVec 9) (k : FillKind) (g : Guard) (src : Src) (s : State) : State :=
  runTrig g src port [.fea, .feb]
    (fun a =>
      let x := a.op .fea
      let y := a.op .feb
      match tokWord a.word with
      | none => [fltOperand]
      | some t =>
        if (a.op? .fea).isNone || (a.op? .feb).isNone then []
        else if !feFields k x y then [fltOperand]
        else a.st.busyFault t.prod ++
          ((a.st.admission (a.st.fillOf k x y t) (startCount a.st.group.count t.start)).map fun r => ⟨0x13, r, 0⟩)) noWait
    (fun a =>
      match tokWord a.word with
      | none => a.st
      | some t =>
        let f := a.st.fillOf k (a.op .fea) (a.op .feb) t
        let s1 := a.st.onDie fun d =>
          { d with fills := d.fills ++ [f], fillOrder := d.fillOrder + 1
                   committed := d.committed.setIfInBounds f.ch (d.committed.toList.getD f.ch 0 + f.bytes) }
        (s1.pend t.prod).trace 3 (BitVec.ofNat 64 f.b) (BitVec.ofNat 64 (f.start + f.bytes * 2 ^ 32))) s

/-! ### Transfers (R378, R379) -/

/-- Physical pieces of pinned device memory (R189): physical address and length. -/
def State.pinnedPieces (s : State) (lid : BitVec 32) (d : DieId) (va n : Nat) : List (Nat × Nat) :=
  match s.task? lid with
  | none => []
  | some t => (pagePieces va n).filterMap fun p =>
      ((t.onDie d).pinMap.find? fun e => decide (e.vbase ≤ p.1 ∧ p.1 < e.vbase + 2 ^ e.bits)).map fun e => (e.phys p.1, p.2)

/-- Read pinned HBM; none when an uncorrectable error withholds it (R15). -/
def State.readPinned (s : State) (lid : BitVec 32) (d : DieId) (va n : Nat) : Option (List Byte) :=
  let ps := s.pinnedPieces lid d va n
  if ps.any fun p => s.hbmBad p.1 p.2 then none else some (ps.flatMap fun p => s.hbm.readN p.1 p.2)

/-- Write HBM pieces in order. -/
def State.writePieces (s : State) : List (Nat × Nat) → List Byte → State
  | [], _ => s
  | p :: l, bs => State.writePieces (s.hbmPut p.1 (slice bs 0 p.2)) l (bs.drop p.2)

/-- Write pinned device memory through the translations of the pin (R189). -/
def State.writePinned (s : State) (lid : BitVec 32) (d : DieId) (va : Nat) (bs : List Byte) : State :=
  s.writePieces (s.pinnedPieces lid d va bs.length) bs

/-- LST[i] (R378). -/
def State.listEntry (s : State) (d : DieId) (f : Fill) (i : Nat) : Nat :=
  leNat ((s.dieAt d).sp.readN (256 * f.l + 4 * i) 4)

/-- The HBM address of row `i` of a command. -/
def State.fillHbm (s : State) (d : DieId) (f : Fill) (i : Nat) : Nat :=
  f.b + (if f.kind.indexed then s.listEntry d f i % 2 ^ f.wlog else i) * rowSize f.side

/-- The scratchpad row units of row `i` of a command. -/
def Fill.units (f : Fill) (i : Nat) : List Nat :=
  if f.kind == .bfill then (List.range 256).map fun k => 256 * (f.d / 256 + i) + k else [f.d + i]

/-- Where row `i` of a command writes: (0, first unit, units) or (1, HBM address, bytes). -/
def State.fillDest (s : State) (d : DieId) (f : Fill) (i : Nat) : Nat × Nat × Nat :=
  if f.kind.writesSp then (0, (f.units i).headD 0, (f.units i).length)
  else (1, s.fillHbm d f i, rowSize f.side)

/-- Do two destinations meet? -/
def destMeets (a b : Nat × Nat × Nat) : Bool := a.1 == b.1 && overlaps a.2.1 a.2.2 b.2.1 b.2.2

/-- A machine check on the command's task (R15, R195). -/
def State.fillCheck (s : State) (d : DieId) (f : Fill) (code : BitVec 8) (addr : Nat) : State :=
  match s.task? f.lid with
  | some t => s.checkTask t d code (BitVec.ofNat 64 addr)
  | none => s

/-- Move row `i` of a command (R378); a row whose place in the list an error withholds is not moved (R195). -/
def State.moveRow (s : State) (d : DieId) (f : Fill) (i : Nat) : State :=
  let va := s.fillHbm d f i
  let (s, listed) := if f.kind.indexed then s.eccRead d (f.l + 4 * i / 256) else (s, true)
  if !listed then s
  else if f.kind.writesSp then
    match s.readPinned f.lid d va (rowSize f.side) with
    | none => s.fillCheck d f 0x41 va
    | some bs =>
      let r := mkRow (slice bs 0 256) (if f.side then slice bs 256 32 else [])
      s.onDieAt d fun x => x.writeRows ((f.units i).map fun u => (u, r))
  else
    let u := f.d + i
    let r := (s.dieAt d).row u
    let (s1, ok) := s.eccRead d u
    if ok then s1.writePinned f.lid d va (rowBytes r ++ (if f.side then rowSide r else [])) else s1

/-- A command is before another: by its S, then by its issue (R379). -/
def Fill.before (f g : Fill) : Bool := f.start < g.start || (f.start == g.start && decide (f.order < g.order))

/-- Row `i` of a command is no longer to move. -/
def Die.dropRow (d : Die) (order i : Nat) : Die :=
  { d with fills := d.fills.map fun f => if f.order = order then { f with left := f.left.filter fun j => j != i } else f }

/-- Insert a command in the order of R379. -/
def insertFill (f : Fill) : List Fill → List Fill
  | [] => [f]
  | g :: l => if g.before f then g :: insertFill f l else f :: g :: l

/-- Rows still to move of started commands, in the order in which their writes stand (R379). -/
def Die.pendingRows (d : Die) : List (Fill × Nat) :=
  (((d.fills.filter fun f => f.started).foldl (fun l f => insertFill f l) []).flatMap fun f => f.left.map fun i => (f, i))

/-- The rows to move with one row: earlier rows that write where it writes go first (R379). `later` are its destinations;
the list holds the earlier rows, latest first. -/
def State.forced (s : State) (d : DieId) : List (Nat × Nat × Nat) → List (Fill × Nat) → List (Fill × Nat)
  | _, [] => []
  | later, x :: l =>
    let dest := s.fillDest d x.1 x.2
    if later.any (destMeets dest) then State.forced s d (dest :: later) l ++ [x] else State.forced s d later l

/-- Move one row of a started command, after the earlier rows that it must follow. -/
def State.transfer (s : State) (d : DieId) (f : Fill) (i : Nat) : State :=
  let before := ((s.dieAt d).pendingRows.takeWhile fun x => !(x.1.order == f.order && x.2 == i)).reverse
  (s.forced d [s.fillDest d f i] before ++ [(f, i)]).foldl
    (fun s x => (s.moveRow d x.1 x.2).onDieAt d fun y => y.dropRow x.1.order x.2) s

/-- Move several rows of a command. -/
def State.transfers (s : State) (d : DieId) (order : Nat) (rows : List Nat) : State :=
  rows.foldl (fun s i =>
    match (s.dieAt d).fills.find? fun f => f.order == order with
    | some f => if f.left.contains i then s.transfer d f i else s
    | none => s) s

/-- FC of the timed context that issued a command. -/
def State.fcOf (s : State) (d : DieId) (c : CtxId) : Nat := ((s.dieAt d).ctxAt c).fc (s.dieAt d).scy

/-- The bytes of a command leave its channel and it is gone (R191, R212). -/
def Die.dropFill (d : Die) (f : Fill) : Die :=
  { d with fills := d.fills.filter fun x => x.order != f.order
           committed := d.committed.setIfInBounds f.ch (d.committed.toList.getD f.ch 0 - f.bytes) }

/-- The first consumed token that is not set, as the reason of code 0x12 (R212). -/
def unmetReason (t : Task) (d : DieId) (l : List Nat) : Option (BitVec 4) :=
  l.findSome? fun k => match t.token d k with
    | .clear => some 1
    | .pending => some 2
    | .set => none

/-- FILL_START: at S a command begins, or is discarded with the token-not-ready fault at the boundary (R212); a command
under way moves the rows named. What the timed context writes at this count is written first (R379). -/
def State.fillStart (s : State) (d : DieId) (k : Nat) (rows : List Nat) : Option State :=
  match (s.dieAt d).fills[k]? with
  | none => none
  | some f =>
    if (s.dieAt d).frozen || s.fcOf d f.ctx < f.start || (s.dieAt d).fills.any (fun x => !x.started && x.before f) then none
    else
    let s := s.onDieAt d Die.timedWrites
    if f.started then some (s.transfers d f.order rows)
    else
      match (s.task? f.lid).bind fun t => unmetReason t d f.cons with
      | none => some ((s.onDieAt d fun x => { x with fills := x.fills.map fun (y : Fill) =>
          if y.order = f.order then { y with started := true } else y }).transfers d f.order rows)
      | some r =>
        let s1 := (s.onDieAt d fun x => x.dropFill f).setTok f.lid d f.prod .clear
        some (s1.defer d f.ctx ⟨0x12, r, BitVec.ofNat 64 f.issued, f.start, 2, 0⟩)

/-- FILL_COMPLETION (the engine holds in frozen cycles): at E every row has moved, the token is set and the committed bytes leave (R191). -/
def State.fillDone (s : State) (d : DieId) (k : Nat) : Option State :=
  match (s.dieAt d).fills[k]? with
  | none => none
  | some f =>
    if (s.dieAt d).frozen || !f.started || s.fcOf d f.ctx < f.bound then none
    else
      let s1 := (s.onDieAt d Die.timedWrites).transfers d f.order f.left
      some ((s1.onDieAt d fun x => x.dropFill f).setTok f.lid d f.prod .set)

/-! ### Pins (R380, R189) -/

/-- The leaf entries that a range touches, at most `fuel` of them, and whether the range reaches further: each the leaf
found, or none for an unmapped 64 KiB page. -/
def State.leaves (s : State) (asid : BitVec 8) : Nat → Nat → Nat → List (Option TlbEntry) × Bool
  | 0, va, e => ([], decide (va < e))
  | n + 1, va, e =>
    if e ≤ va then ([], false)
    else
      match (if 2 ^ 48 ≤ va then .error reasonBadTag else s.walk asid va) with
      | .ok x =>
        let r := State.leaves s asid n (x.vbase + 2 ^ x.bits) e
        (some x :: r.1, r.2)
      | .error _ =>
        let r := State.leaves s asid n ((va / 65536 + 1) * 65536) e
        (none :: r.1, r.2)

/-- May a page be pinned on a die (R189)? -/
def State.pinnable (s : State) (t : Task) (d : DieId) (e : TlbEntry) : Bool :=
  e.rd && e.wr && e.kslot == t.kslot && hbmDie e.pbase == d.val

/-- Faults of fe.pin (R380). -/
def State.pinFaults (s : State) (a v : Word) : List Flt :=
  let len := v.toNat
  needOk (decide (fld a 0 16 = 0 ∧ fld a 48 16 = 0 ∧ len ≠ 0 ∧ len % 65536 = 0) &&
    (match s.die.wall.lastPin with
     | some m => decide (m + 65536 ≤ s.group.count)
     | none => true) &&
    !(s.leaves s.curAsid 1024 a.toNat (a.toNat + len)).2)

/-- Run fe.pin (R380). -/
def runPin (g : Guard) (src : Src) (s : State) : State :=
  runTrig g src 0x1E5 [.fea] (fun a => a.ifOp .fea fun x => a.st.pinFaults x a.word) noWait
    (fun a =>
      let n := a.st.group.count
      (a.st.onDie fun d => { d with wall := { d.wall with lastPin := some n } }).after 65536
        (.pin (a.op .fea).toNat a.word.toNat)) s

/-- The result of a pin (R380): 9 FULL, 3 RANGE, 0 OK. -/
def State.pinResult (s : State) (t : Task) (d : DieId) (base len : Nat) : Nat :=
  let r := s.leaves t.asid 1024 base (base + len)
  if 256 ≤ (t.onDie d).pinned.length then 9
  else if (s.tablesBad t.asid base len).isNone && !r.2 && r.1.all fun x =>
      match x with
      | some e => s.pinnable t d e
      | none => false then 0
  else 3

/-- PIN_COMPLETE (R380). -/
def State.pinDone (s : State) (d : DieId) : Option State :=
  match (s.dieAt d).timedCid with
  | none => none
  | some c =>
    match ((s.dieAt d).ctxAt c).takeDue (s.dieAt d).scy Effect.isPin with
    | some (⟨_, .pin base len⟩, x) =>
      match s.task? x.lid with
      | none => none
      | some t =>
        let r := s.pinResult t d base len
        let ls := (s.leaves t.asid 1024 base (base + len)).1.filterMap id
        let s0 := s.onCtxAt d c fun _ =>
          { x with ports := x.ports.set (latIx .feq).val (.s (BitVec.ofNat 64 r)) (latIx .feq).isLt }
        let s1 := match s.tablesBad t.asid base len with
          | some pa => s0.checkTask t d 0x41 (BitVec.ofNat 64 pa)
          | none => s0
        if r = 0 then
          some (s1.onTask t.lid fun t => t.setDie d fun y =>
            { y with pinned := y.pinned ++ [(base, len)], pinMap := y.pinMap ++ ls })
        else some s1
    | _ => none

/-- FILL_START (R212). -/
def execFillStart (d : DieId) (k : Nat) (rows : List Nat) (s : State) : Host.Outcome State Fault Refusal :=
  enabled "FILL_START" (s.fillStart d k rows)

/-- FILL_COMPLETION (R191). -/
def execFillCompletion (d : DieId) (k : Nat) (s : State) : Host.Outcome State Fault Refusal :=
  enabled "FILL_COMPLETION" (s.fillDone d k)

/-- PIN_COMPLETE (R380). -/
def execPinComplete (d : DieId) (s : State) : Host.Outcome State Fault Refusal := enabled "PIN_COMPLETE" (s.pinDone d)

/-- FE_FILL (R377, R378). -/
def execFeFill (g : Guard) (src : Src) (s : State) : Host.Outcome State Fault Refusal :=
  .next (runFill 0x1E0 .fill g src s)

/-- FE_SPILL (R377, R378). -/
def execFeSpill (g : Guard) (src : Src) (s : State) : Host.Outcome State Fault Refusal :=
  .next (runFill 0x1E1 .spill g src s)

/-- FE_BFILL (R377, R378). -/
def execFeBfill (g : Guard) (src : Src) (s : State) : Host.Outcome State Fault Refusal :=
  .next (runFill 0x1E2 .bfill g src s)

/-- FE_GFILL (R377, R378). -/
def execFeGfill (g : Guard) (src : Src) (s : State) : Host.Outcome State Fault Refusal :=
  .next (runFill 0x1E3 .gfill g src s)

/-- FE_SSPILL (R377, R378). -/
def execFeSspill (g : Guard) (src : Src) (s : State) : Host.Outcome State Fault Refusal :=
  .next (runFill 0x1E4 .sspill g src s)

/-- FE_PIN (R380). -/
def execFePin (g : Guard) (src : Src) (s : State) : Host.Outcome State Fault Refusal :=
  .next (runPin g src s)

end Sys2Proof.Machine
end

