-- ==== Sys2Proof/Machine/Aes.lean ====
section
/-! DEFINITION. AES-256 and its Galois counter mode with 96-bit nonces (02 R61, 03 R87), as the standards that the specification
names give them (log 9). Blocks are lists of 16 bytes, and numbers below 2^128, the first byte most significant. -/

namespace Sys2Proof.Machine

/-- The substitution table: byte `b` at bits `[8b+7:8b]`. -/
def aesTable : Nat :=
  0x16bb54b00f2d99416842e6bf0d89a18cdf2855cee9871e9b948ed9691198f8e19e1dc186b95735610ef6034866b53e708a8bbd4b1f74dde8c6b4a61c2e2578ba08ae7a65eaf4566ca94ed58d6d37c8e779e4959162acd3c25c2406490a3a32e0db0b5ede14b8ee4688902a22dc4f816073195d643d7ea7c41744975fec130ccdd2f3ff1021dab6bcf5389d928f40a351a89f3c507f02f94585334d43fbaaefd0cf584c4a39becb6a5bb1fc20ed00d153842fe329b3d63b52a05a6e1b1a2c830975b227ebe28012079a059618c323c7041531d871f1e5a534ccf73f362693fdb7c072a49cafa2d4adf04759fa7dc982ca76abd7fe2b670130c56f6bf27b777c63

/-- The substitution of a byte. -/
def aesSub (b : Byte) : Byte := BitVec.ofNat 8 (aesTable >>> (8 * b.toNat))

/-- Multiplication by 2 in the field. -/
def aesDouble (b : Byte) : Byte := (b <<< 1) ^^^ (if b.getLsbD 7 then 0x1B else 0)

/-- Byte by byte exclusive or. -/
def xorBytes (a b : List Byte) : List Byte := List.zipWith (· ^^^ ·) a b

/-- The key schedule from its last eight words, newest last: `n` words more, from word `i`. -/
def aesWords : Nat → Nat → Byte → List (List Byte) → List (List Byte)
  | 0, _, _, _ => []
  | n + 1, i, rc, ws =>
    let old := ws.getD 0 []
    let t := ws.getD 7 []
    let u := if i % 8 = 0 then xorBytes ((t.drop 1 ++ t.take 1).map aesSub) [rc, 0, 0, 0]
      else if i % 8 = 4 then t.map aesSub else t
    let w := xorBytes old u
    w :: aesWords n (i + 1) (if i % 8 = 0 then aesDouble rc else rc) (ws.drop 1 ++ [w])

/-- Four words as one block each. -/
def aesBlocks : Nat → List (List Byte) → List (List Byte)
  | 0, _ => []
  | n + 1, ws => (ws.take 4).flatten :: aesBlocks n (ws.drop 4)

/-- The fifteen round keys of a key of 32 bytes. -/
def aesKeys (key : List Byte) : List (List Byte) :=
  let first := (List.range 8).map fun i => slice key (4 * i) 4
  aesBlocks 15 (first ++ aesWords 52 8 1 first)

/-- The rows of a block turn. -/
def aesShift (s : List Byte) : List Byte := (List.range 16).map fun i => s.getD ((i + 4 * (i % 4)) % 16) 0

/-- A column of a block is mixed. -/
def aesColumn (a b c d : Byte) : List Byte :=
  let t := a ^^^ b ^^^ c ^^^ d
  [a ^^^ t ^^^ aesDouble (a ^^^ b), b ^^^ t ^^^ aesDouble (b ^^^ c), c ^^^ t ^^^ aesDouble (c ^^^ d), d ^^^ t ^^^ aesDouble (d ^^^ a)]

/-- The columns of a block are mixed. -/
def aesMix : List Byte → List Byte
  | a :: b :: c :: d :: s => aesColumn a b c d ++ aesMix s
  | _ => []

/-- The rounds under the keys that follow. -/
def aesRounds : List (List Byte) → List Byte → List Byte
  | [], s => s
  | [k], s => xorBytes (aesShift (s.map aesSub)) k
  | k :: ks, s => aesRounds ks (xorBytes (aesMix (aesShift (s.map aesSub))) k)

/-- AES-256 of a block under its round keys. -/
def aesBlock (keys : List (List Byte)) (s : List Byte) : List Byte :=
  match keys with
  | [] => s
  | k :: ks => aesRounds ks (xorBytes s k)

/-! ### Galois counter mode -/

/-- The product of two field elements of 128 bits: `n` bits of the first still to take. -/
def gcmMul : Nat → Nat → Nat → Nat → Nat
  | 0, _, _, z => z
  | n + 1, x, v, z =>
    strict (if x.testBit n then z ^^^ v else z) fun z1 =>
      strict (v >>> 1 ^^^ (if v.testBit 0 then 0xE1 <<< 120 else 0)) fun v1 => gcmMul n x v1 z1

/-- The hash of a run of blocks under a key. -/
def ghash (h : Nat) (bs : List Byte) : Nat :=
  (beWords 16 ((bs.length + 15) / 16) bs).foldl (fun y x => strict (y ^^^ x) fun a => gcmMul 128 a h 0) 0

/-- A run of bytes padded to whole blocks. -/
def padBlocks (bs : List Byte) : List Byte := slice bs 0 ((bs.length + 15) / 16 * 16)

/-- A run of bytes under the key stream that follows the first counter block of a nonce. -/
def gcmStream (keys : List (List Byte)) (nonce : Nat) (bs : List Byte) : List Byte :=
  xorBytes bs ((List.range ((bs.length + 15) / 16)).flatMap fun i => aesBlock keys (beBytes 16 (nonce * 2 ^ 32 + i + 2)))

/-- The tag of a ciphertext with its associated data. -/
def gcmTag (keys : List (List Byte)) (nonce : Nat) (aad ct : List Byte) : List Byte :=
  let h := beNat (aesBlock keys (List.replicate 16 0))
  let y := ghash h (padBlocks aad ++ padBlocks ct ++ beBytes 8 (8 * aad.length) ++ beBytes 8 (8 * ct.length))
  xorBytes (beBytes 16 y) (aesBlock keys (beBytes 16 (nonce * 2 ^ 32 + 1)))

/-- Encryption under a key of 256 bits and a nonce of 96 bits: the ciphertext and its tag of 16 bytes. -/
def gcmSeal (key : BitVec 256) (nonce : Nat) (aad pt : List Byte) : List Byte × List Byte :=
  let keys := aesKeys (beBytes 32 key.toNat)
  let ct := gcmStream keys nonce pt
  (ct, gcmTag keys nonce aad ct)

/-- Decryption: the plaintext, when the tag, or the first bytes of it that are given, is right. -/
def gcmOpen (key : BitVec 256) (nonce : Nat) (aad ct tag : List Byte) : Option (List Byte) :=
  let keys := aesKeys (beBytes 32 key.toNat)
  if (gcmTag keys nonce aad ct).take tag.length = tag then some (gcmStream keys nonce ct) else none

end Sys2Proof.Machine
end

