-- ==== Sys2Proof/Machine/System.lean ====
section
/-! DEFINITION. Special registers (R332, R333, Table 13.9) with their privilege checks (R76, R86, R90, R101), STOPCTL (R270),
sy.publish, sy.rfe and sy.brk (R335, R336). -/

namespace Sys2Proof.Machine

/-! ### Classes of special registers -/

/-- Window descriptor words, address groups, outbound keys and STREAMCFG: queued supervisor registers (Table 13.9). -/
def fabricReg (n : Nat) : Bool :=
  (decide (0x0400 ≤ n ∧ n < 0x1400) && decide (n % 8 < 6)) || decide (0x1400 ≤ n ∧ n < 0x1590)

/-- Queued registers (R333). -/
def queuedReg (n : Nat) : Bool := n == 0x0030 || fabricReg n

/-- Supervisor registers that are not queued (Table 13.9). -/
def supReg (n : Nat) : Bool :=
  decide (0x1600 ≤ n ∧ n ≤ 0x1701) || decide (0x1800 ≤ n ∧ n ≤ 0x1804) || decide (0x1808 ≤ n ∧ n ≤ 0x180B) ||
    decide (0x1810 ≤ n ∧ n ≤ 0x1826)

/-- Task registers (Table 13.9). -/
def taskReg (n : Nat) : Bool :=
  decide (n ≤ 0x000B) || decide (0x0010 ≤ n ∧ n ≤ 0x0014) || decide (0x0018 ≤ n ∧ n ≤ 0x001D) ||
    decide (0x0020 ≤ n ∧ n ≤ 0x0025) || n == 0x0030 || n == 0x0040 || n == 0x0041 ||
    decide (0x0044 ≤ n ∧ n ≤ 0x004B)

/-- Is the number assigned (Table 13.9)? -/
def assignedReg (n : Nat) : Bool := taskReg n || fabricReg n || supReg n

/-! ### Fabric registers -/

/-- The address space that owns a fabric register: of a window, an outbound key, a stream; none of a group mask. -/
def State.regAsid (s : State) (d : DieId) (n : Nat) : Option (BitVec 8) :=
  if n < 0x1400 then some (BitVec.ofNat 8 (fld (s.links.windowWord ((n - 0x400) / 8) 0) 8 8))
  else if n < 0x1480 then none
  else if n < 0x1580 then some (BitVec.ofNat 8 (fld (s.links.okeys.toList.getD (n - 0x1480) 0) 48 8))
  else some (BitVec.ofNat 8 (fld (((s.dieAt d).streams.toList.map (·.cfg)).getD (n - 0x1580) 0) 17 8))

/-- The address space that a written value leaves in a fabric register (R101, log 13). -/
def State.asidAfter (s : State) (d : DieId) (n : Nat) (v : Word) : Option (BitVec 8) :=
  if n < 0x1400 then if n % 8 = 0 then some (BitVec.ofNat 8 (fld v 8 8)) else s.regAsid d n
  else if n < 0x1480 then none
  else if n < 0x1580 then some (BitVec.ofNat 8 (fld v 48 8))
  else some (BitVec.ofNat 8 (fld v 17 8))

/-- The address space for which a function loads, launches and transfers: the first that the firmware created for it (R101,
log 13). -/
def State.asidOf (s : State) (fn : BitVec 6) : BitVec 8 := (s.fn fn).asids.headD 0

/-- The function for which an address space was created: the lowest-numbered that has it, else the PF (R101, log 13). -/
def State.asidFn (s : State) (asid : BitVec 8) : BitVec 6 :=
  (((List.range 64).map fun i => BitVec.ofNat 6 i).find? fun f => (s.fn f).asids.contains asid).getD 0

/-- Fields of a fabric register that a write takes (Tables 02.13, 02.15, 16.10). -/
def fabricMask (n : Nat) : Nat :=
  if n < 0x1400 then
    match n % 8 with
    | 0 => 0xFFFFFFFFFF3F
    | 1 => 0xFFFFFFFFFFFF
    | 2 => 0xFFFFFFFFFFFF
    | _ => 2 ^ 64 - 1
  else if n < 0x1480 then 2 ^ 64 - 1
  else if n < 0x1580 then 0x80FFFFFFFFFFFFFF
  else 0x00FFFFFF01FFFFFF

/-- BASE [29:28] = 3 of a scratchpad window is stored as the writer's die (R71). -/
def resolveBase (d : DieId) (w : Vector Word 6) : Vector Word 6 :=
  if bit (w.get 0) 5 && fld (w.get 1) 28 2 == 3 then w.set 1 (setFld (w.get 1) 28 2 d.val) else w

/-- Does a task of the address space that owns a stream hold rows in its buffer (R396)? -/
def State.holdsRows (s : State) (d : DieId) (n : Nat) : Bool :=
  match (s.dieAt d).streams[n]? with
  | some x => !x.buf.isEmpty && s.sched.tasks.any fun t => t.asid.toNat == fld x.cfg 17 8
  | none => false

/-- Write a fabric register on behalf of die `d` (R71, R74, R394, R396). A write of a group mask restarts its superstep numbers;
a change of STREAMCFG discards the receive buffer and resets the credits. -/
def State.writeFabric (s : State) (d : DieId) (n : Nat) (v : Word) : State :=
  let v := BitVec.ofNat 64 (v.toNat &&& fabricMask n)
  if n < 0x1400 then
    let w := (n - 0x400) / 8
    let x := (s.links.window w).setIfInBounds (n % 8) v
    let x := if n % 8 < 2 then resolveBase d x else x
    { s with links := { s.links with windows := s.links.windows.setIfInBounds w x } }
  else if n < 0x1480 then
    let g := (n - 0x1400) / 2
    let old := (s.links.groups.toList.getD g 0).toNat
    let new : BitVec 128 := BitVec.ofNat 128 (setBits old (64 * (n % 2)) 64 v.toNat)
    { s with links := { s.links with groups := s.links.groups.setIfInBounds g new,
                                     sstepNext := s.links.sstepNext.setIfInBounds g 0,
                                     arrivals := s.links.arrivals.filter fun x => x.2.1.toNat != g } }
  else if n < 0x1580 then
    { s with links := { s.links with okeys := s.links.okeys.setIfInBounds (n - 0x1480) v } }
  else if bit v 16 && s.holdsRows d (n - 0x1580) then s
  else
    let y : Stream := ⟨v, [], if bit v 16 then 32 else 0⟩
    s.onDieAt d fun x => { x with streams := x.streams.setIfInBounds (n - 0x1580) y }

/-- Read a fabric register from die `d`. -/
def State.readFabric (s : State) (d : DieId) (n : Nat) : Word :=
  if n < 0x1400 then s.links.windowWord ((n - 0x400) / 8) (n % 8)
  else if n < 0x1480 then
    BitVec.ofNat 64 (bits (s.links.groups.toList.getD ((n - 0x1400) / 2) 0).toNat (64 * (n % 2)) 64)
  else if n < 0x1580 then s.links.okeys.toList.getD (n - 0x1480) 0
  else ((s.dieAt d).streams.toList.map (·.cfg)).getD (n - 0x1580) 0

/-- A privilege fault recorded on the PF's ring (R86, R90). -/
def State.privilegeEvent (s : State) (lid : BitVec 32) (d : DieId) : State :=
  s.postEvent 0 0x20 d 0 (leBytes 4 lid.toNat ++ [0x04])

/-- Does an address space belong to a sealed VF (R86, log 13)? -/
def State.sealedAsid (s : State) (a : Option (BitVec 8)) : Bool :=
  match a with
  | some x => s.sealed (s.asidFn x)
  | none => false

/-- A queued write is performed (R71, R76, R86): the operator cannot change a window of a sealed VF. -/
def State.writeQueued (s : State) (lid : BitVec 32) (d : DieId) (n : Nat) (v : Word) : State :=
  if n = 0x0030 then
    s.onTask lid fun t => if t.polgen.toNat < fld v 0 32 then { t with polgen := BitVec.ofNat 32 v.toNat } else t
  else
    match s.task? lid with
    | some t =>
      if n < 0x1400 && t.fn == 0 && s.sealedAsid (s.regAsid d n) then s.privilegeEvent lid d
      else s.writeFabric d n v
    | none => s

/-- A queued read is performed (R235, R333). -/
def State.readQueued (s : State) (lid : BitVec 32) (d : DieId) (n : Nat) : Word :=
  if n = 0x0030 then ((s.task? lid).map fun t => BitVec.ofNat 64 t.polgen.toNat).getD 0 else s.readFabric d n

/-! ### Registers read at issue -/

/-- CSW of a context (Table 11.2). -/
def Ctx.csw (c : Ctx) : Word :=
  BitVec.ofNat 64 (c.priv.toNat + 2 * c.inh.toNat + 2 ^ 8 * c.fcode.toNat + 2 ^ 16 * c.reason.toNat +
    2 ^ 40 * c.cswSlot + 2 ^ 48 * c.guards.toNat)

/-- AMAXk as a register (Table 10.8). -/
def Ctx.amaxReg (c : Ctx) (k : Nat) : Word :=
  match c.amax[k]? with
  | some x => BitVec.ofNat 64 (x.2.toNat + 2 ^ 32 * x.1.toNat)
  | none => 0

/-- A task register as the issuing context reads it (Table 13.9). -/
def State.readTask (s : State) (n : Nat) : Word :=
  let c := s.ctx
  let d := s.die
  match n with
  | 0x0000 => s.group.tick
  | 0x0001 => d.scy
  | 0x0002 => BitVec.ofNat 64 d.issuing.val
  | 0x0003 => BitVec.ofNat 64 d.id.toNat
  | 0x0004 => (s.curTask.map fun t => BitVec.ofNat 64 t.fold.toNat).getD 0
  | 0x0005 => BitVec.ofNat 64 s.links.memberSet.toNat
  | 0x0006 => s.pkg.caps
  | 0x0007 => BitVec.ofNat 64 c.numProf.toNat
  | 0x0008 => c.rotNow.lc
  | 0x0009 => BitVec.ofNat 64 c.rotNow.rofs
  | 0x000A => BitVec.ofNat 64 (c.rotNow.rsz + 32 * c.rotNow.rfile.toNat)
  | 0x000B => (s.curTask.map fun t => BitVec.ofNat 64 (t.onDie s.turn).phase.toNat).getD 0
  | 0x0010 => c.csw
  | 0x0011 => BitVec.ofNat 64 c.epc
  | 0x0012 => BitVec.ofNat 64 (c.tvec.toNat + 2 ^ 63 * c.tvecValid.toNat)
  | 0x0013 => c.faddr
  | 0x0014 => c.fcnt
  | 0x0040 => BitVec.ofNat 64 c.fflags.toNat
  | 0x0041 => BitVec.ofNat 64 c.rmode.toNat
  | 0x0044 => c.amaxReg 0
  | 0x0045 => c.amaxReg 1
  | 0x0046 => c.amaxReg 2
  | 0x0047 => c.amaxReg 3
  | 0x0048 => BitVec.ofNat 64 c.rngKey.toNat
  | 0x0049 => BitVec.ofNat 64 (c.rngKey.toNat / 2 ^ 64)
  | 0x004A => BitVec.ofNat 64 c.rngCtr.toNat
  | 0x004B => BitVec.ofNat 64 (c.rngCtr.toNat / 2 ^ 64)
  | n =>
    if 0x18 ≤ n ∧ n ≤ 0x1D then BitVec.ofNat 64 (c.shape.toList.getD (n - 0x18) 0).toNat
    else if 0x20 ≤ n ∧ n ≤ 0x25 then BitVec.ofNat 64 (c.padShape.toList.getD (n - 0x20) 0).toNat
    else 0

/-- Does a context of die `d` run a task launched from a sealed VF (R283)? -/
def State.sealedAt (s : State) (d : DieId) (c : Nat) : Bool := s.sealedCtx ((s.dieAt d).ctxs.toList.getD c Ctx.reset)

/-- A supervisor register that is not queued, read on die `d` (Tables 07.8, 11.4, 11.8; R283, R284). -/
def State.readSup (s : State) (d : DieId) (n : Nat) : Word :=
  let x := s.dieAt d
  if 0x1600 ≤ n ∧ n < 0x1700 then s.host.asidRoot.toList.getD (n - 0x1600) 0
  else if 0x1800 ≤ n ∧ n < 0x1804 then x.savelist.toList.getD (n - 0x1800) 0
  else if 0x1808 ≤ n ∧ n < 0x180C then
    if s.sealedAt d (n - 0x1808) then 0 else x.dbgCtl.toList.getD (n - 0x1808) 0
  else if 0x1810 ≤ n ∧ n < 0x1820 then
    if s.sealedAt d ((n - 0x1810) / 4) then 0 else x.dbgBp.toList.getD (n - 0x1810) 0
  else if n = 0x1820 then x.trcCtl
  else if n = 0x1821 then x.trcTrig
  else if n = 0x1822 then x.trcIdx
  else if 0x1823 ≤ n ∧ n ≤ 0x1826 then
    let r : TraceRec := (x.trcBuf.lookup (x.trcIdx.toNat % 16384)).getD 0
    BitVec.ofNat 64 (bits r.toNat (64 * (n - 0x1823)) 64)
  else 0

/-! ### Writes of supervisor registers -/

/-- Has a copy of the task failed on a channel whose ERR is still 1 (R273)? -/
def State.copyFailed (s : State) (t : Task) : Bool :=
  allDies.any fun d => (s.dieAt d).chans.toList.any fun ch => ch.err && (ch.copies.head?.map fun (c : Copy) => c.lid) == some t.lid

/-- A held task is resumed (R270): with a timed context in its handler, the fold waits for the return from it. -/
def State.resumeHeld (s : State) (t : Task) : State :=
  if s.inHandler t then
    (t.ctxs.foldl (fun s p =>
      if ((s.dieAt p.1).ctxAt p.2).kind == CtxKind.free || ((s.dieAt p.1).ctxAt p.2).inh then s.onCtxAt p.1 p.2 Ctx.unhold
      else s) s).onTask t.lid fun t => { t with st := .running, causes := [], reported := false }
  else s.resumeTask t []

/-- System software resumes or ends a held task (R270); every other write has no effect. A task that a copy fault stopped is not
resumed before ERR is cleared (R273). -/
def State.stopctl (s : State) (v : Word) : State :=
  match s.task? (BitVec.ofNat 32 v.toNat) with
  | none => s
  | some t =>
    if t.st != .held then s
    else if fld v 32 2 = 1 then (if s.copyFailed t then s else s.resumeHeld t)
    else if fld v 32 2 = 2 then s.endTask t 4 (match t.primary with | some p => p.toNat | none => ((primaryCause t.causes).map Cause.detail).getD 0)
    else s

/-- Drop the cached translations that INVAL names (R188). -/
def State.invalidate (s : State) (v : Word) : State :=
  let asid : BitVec 8 := BitVec.ofNat 8 v.toNat
  let all := bit v 8
  let page := fld v 16 32 * 65536
  allDies.foldl (fun s d => s.onDieAt d fun x =>
    { x with tlb := x.tlb.filter fun e => !(e.asid == asid && (all || e.hits asid page)) }) s

/-- Pages of the slot map that a SLOTMAP value names: first and count (R90). -/
def slotPages (v : Word) : Nat × Nat := (fld v 0 23, fld v 23 16 + 1)

/-- Does the range reach 432 GiB (R90)? -/
def slotBad (v : Word) : Bool := decide (hbmSize < ((slotPages v).1 + (slotPages v).2) * 65536)

/-- A page whose slot changes is read under another key from then on: what stood in it, zeros where it leaves a tenant slot (R90),
reads as free values (log 9). -/
def State.rekey (s : State) (page : Nat) : State :=
  { s.hbmPut (page * 65536) (freeBytes s.fresh 65536) with fresh := s.fresh + 65536 }

/-- Give pages a slot (R90). -/
def State.moveSlots (s : State) (first count slot : Nat) : State :=
  let moved := ((List.range count).map fun i => first + i).filter fun p => (s.slotOf (p * 65536)).toNat != slot
  let s := moved.foldl State.rekey s
  let keep := s.host.slotmap.filter fun p => !decide (first ≤ p.1 ∧ p.1 < first + count)
  let new := if slot = 0 then [] else (List.range count).map fun i => (first + i, BitVec.ofNat 4 slot)
  { s with host := { s.host with slotmap := keep ++ new } }

/-- The tenant slots of the sealed VFs. -/
def State.sealedSlots (s : State) : List (BitVec 4) :=
  (List.range 64).filterMap fun i =>
    let f : BitVec 6 := BitVec.ofNat 6 i
    if s.sealed f then some (s.fn f).slot else none

/-- A write of SLOTMAP on behalf of the PF (R90): it neither moves a page of a sealed VF's slot nor moves a page into a
tenant slot, which the runtime firmware alone does. -/
def State.writeSlotmap (s : State) (lid : BitVec 32) (d : DieId) (v : Word) : State :=
  let (first, count) := slotPages v
  let slot := fld v 40 4
  if s.host.slotmap.any fun p => decide (first ≤ p.1 ∧ p.1 < first + count) && s.sealedSlots.contains p.2 then
    s.privilegeEvent lid d
  else if slot ≠ 0 then s
  else s.moveSlots first count slot

/-- Fields that a write of TRCCTL takes; EN = 1 re-arms a frozen buffer (R284, Table 11.8). -/
def Die.writeTrcCtl (d : Die) (v : Word) : Die :=
  let old := d.trcCtl.toNat
  let new := setBits (setBits old 0 11 (v.toNat % 2 ^ 11)) 16 14 (fld v 16 14)
  let new := if bit v 0 then setBits new 30 1 0 else new
  { d with trcCtl := BitVec.ofNat 64 new, trcPost := if bit v 0 && bit d.trcCtl 30 then none else d.trcPost }

/-- Write a supervisor register that is not queued, on die `d` (Tables 07.8, 11.4, 11.8; R188, R270, R283, R284, R90). -/
def State.writeSup (s : State) (lid : BitVec 32) (d : DieId) (n : Nat) (v : Word) : State :=
  if 0x1600 ≤ n ∧ n < 0x1700 then
    { s with host := { s.host with
        asidRoot := s.host.asidRoot.setIfInBounds (n - 0x1600) (BitVec.ofNat 64 (v.toNat &&& 0xFFFFFFFFF0F1)) } }
  else if n = 0x1700 then s.invalidate v
  else if n = 0x1701 then s.writeSlotmap lid d v
  else if 0x1800 ≤ n ∧ n < 0x1804 then
    if ((s.dieAt d).ctxs.toList.getD (n - 0x1800) Ctx.reset).kind != .none then s
    else s.onDieAt d fun x => { x with
      savelist := x.savelist.setIfInBounds (n - 0x1800) (BitVec.ofNat 64 (v.toNat &&& 0x80FFFFFFFFFFF000)) }
  else if n = 0x1804 then s.stopctl v
  else if 0x1808 ≤ n ∧ n < 0x180C then
    if s.sealedAt d (n - 0x1808) then s
    else s.onDieAt d fun x => { x with dbgCtl := x.dbgCtl.setIfInBounds (n - 0x1808) (v &&& 1) }
  else if 0x1810 ≤ n ∧ n < 0x1820 then
    if s.sealedAt d ((n - 0x1810) / 4) then s
    else s.onDieAt d fun x => { x with
      dbgBp := x.dbgBp.setIfInBounds (n - 0x1810) (BitVec.ofNat 64 (v.toNat &&& 0x800000000007FFFF)) }
  else if n = 0x1820 then s.onDieAt d fun x => x.writeTrcCtl v
  else if n = 0x1821 then s.onDieAt d fun x => { x with trcTrig := v }
  else if n = 0x1822 then s.onDieAt d fun x => { x with trcIdx := v }
  else s

/-! ### Checks -/

/-- Is it ARRCNT of a window of the task's own address space (R76, R332)? -/
def State.ownArrcnt (s : State) (n : Nat) : Bool :=
  decide (0x0400 ≤ n ∧ n < 0x1400) && n % 8 == 5 && s.regAsid s.turn n == some s.curAsid

/-- Privilege of naming a supervisor register (R76, R101, R332): the register's ASID, and with a write `after`, the ASID that it
leaves, name address spaces created for the VF. -/
def State.privFaults (s : State) (n : Nat) (read : Bool) (after : Option (BitVec 8)) : List Flt :=
  if !(fabricReg n || supReg n) then []
  else if read && s.ownArrcnt n then []
  else if !s.ctx.priv then [fltPrivilege]
  else
    match s.curTask with
    | none => []
    | some t =>
      if t.fn == 0 then []
      else
        let mine (a : Option (BitVec 8)) : Bool := (a.map fun x => (s.fn t.fn).asids.contains x).getD false
        if fabricReg n && mine (s.regAsid s.turn n) && mine after then [] else [fltPrivilege]

/-- Faults of sy.srd (R332, R333). -/
def State.srdFaults (s : State) (v : Word) : List Flt :=
  let n := v.toNat
  if 2 ^ 16 ≤ n ∨ !assignedReg n then [fltOperand]
  else
    s.privFaults n true (if fabricReg n then s.regAsid s.turn n else none) ++
      (if queuedReg n && s.ctx.timedNow then [fltKindCtx] else []) ++
      (if queuedReg n && s.ctx.placesFull .syq then [fltFull] else [])

/-- Values that a register refuses as an illegal operand: RMODE 5..7 (R247), STREAMCFG with PDIE 3 (Table 16.10), a SLOTMAP
range beyond 432 GiB (R90). -/
def refusedValue (n : Nat) (v : Word) : Bool :=
  (n == 0x0041 && decide (5 ≤ fld v 0 3)) || (decide (0x1580 ≤ n ∧ n < 0x1590) && fld v 11 2 == 3) ||
    (n == 0x1701 && slotBad v)

/-- Faults of sy.swr to register `i` of value `v` (R332, R333). -/
def State.swrFaults (s : State) (i v : Word) : List Flt :=
  let n := i.toNat
  if 2 ^ 16 ≤ n ∨ !assignedReg n then [fltOperand]
  else
    s.privFaults n false (if fabricReg n then s.asidAfter s.turn n v else none) ++
      (if queuedReg n && s.ctx.timedNow then [fltKindCtx] else []) ++
      (if refusedValue n v then [fltOperand] else [])

/-- sy.srd (R332, R333): on sy.r at n + 1, or for a queued register through the load queue on sy.q. -/
def runSrd (g : Guard) (src : Src) (s : State) : State :=
  runTrig g src 0x1E6 [] (fun a => a.st.srdFaults a.word)
    (fun a => queuedReg a.word.toNat && a.st.ctx.queueFull .load)
    (fun a =>
      let n := a.word.toNat
      if queuedReg n then (a.st.place .syq).push .load (.srd n) 0 [0]
      else a.st.after 1 (.port .syr (.s (if supReg n then a.st.readSup a.st.turn n else a.st.readTask n)))) s

/-- The value that a write of a task register leaves for the groups after it (R249, R259, R332). -/
def GroupCtx.written (g : GroupCtx) (n : Nat) (v : Word) : Word :=
  match n with
  | 0x0040 => flagsWritten g v
  | 0x0044 => amaxWritten g 0 v
  | 0x0045 => amaxWritten g 1 v
  | 0x0046 => amaxWritten g 2 v
  | 0x0047 => amaxWritten g 3 v
  | _ => v

/-- Task registers with fields that sy.swr writes (Table 13.9); CSW and EPC while INH = 1 (Table 11.2). -/
def writableReg (c : Ctx) (n : Nat) : Bool :=
  n == 0x0008 || n == 0x0012 || n == 0x0040 || n == 0x0041 || decide (0x0044 ≤ n ∧ n ≤ 0x004B) ||
    (c.inh && (n == 0x0010 || n == 0x0011))

/-- The effect of sy.swr (R332, R333). -/
def State.swr (s : State) (n : Nat) (v : Word) : State :=
  if queuedReg n then s.push .store (.swr n v) 0 [0]
  else if supReg n then s.after 1 (.sreg n v)
  else if writableReg s.ctx n then s.after 1 (.sreg n (s.group.written n v))
  else s

/-- sy.swr (R332, R333). -/
def runSwr (g : Guard) (src : Src) (s : State) : State :=
  runTrig g src 0x1E7 [.sysri] (fun a => a.ifOp .sysri fun i => a.st.swrFaults i a.word)
    (fun a => queuedReg (a.op .sysri).toNat && a.st.ctx.queueFull .store)
    (fun a => a.st.swr (a.op .sysri).toNat a.word) s

/-- sy.publish (R335): it enters the load queue and is performed after every earlier entry of both queues. -/
def runPublish (g : Guard) (src : Src) (s : State) : State :=
  runTrig g src 0x1E9 [.sya] (fun a => if a.st.ctx.placesFull .syq then [fltFull] else [])
    (fun a => a.st.ctx.queueFull .load)
    (fun a => (a.st.place .syq).push .load (.publish a.word) (a.op .sya) [0]) s

/-- sy.rfe (R269, R336): the handler ends when its group has committed. -/
def runRfe (g : Guard) (src : Src) (s : State) : State :=
  runTrig g src 0x1EA [] (fun a => if a.st.ctx.inh then [] else [fltOperand]) noWait
    (fun a => a.st.onGroup fun x => { x with rfe := true }) s

/-- sy.brk (R271, R336): commits, writes its value into FADDR and raises code 0x31. -/
def runBrk (g : Guard) (src : Src) (s : State) : State :=
  runTrigTo g src 0x1EB [] noFaults noWait (fun a => a.st.takeFault ⟨0x31, 0, a.word⟩ true) s

/-- SY_SRD (R332, R333). -/
def execSySrd (g : Guard) (src : Src) (s : State) : Out := .next (runSrd g src s)

/-- SY_SWR (R332, R333). -/
def execSySwr (g : Guard) (src : Src) (s : State) : Out := .next (runSwr g src s)

/-- SY_PUBLISH (R335). -/
def execSyPublish (g : Guard) (src : Src) (s : State) : Out := .next (runPublish g src s)

/-- SY_RFE (R269, R336). -/
def execSyRfe (g : Guard) (src : Src) (s : State) : Out := .next (runRfe g src s)

/-- SY_BRK (R271, R336). -/
def execSyBrk (g : Guard) (src : Src) (s : State) : Out := .next (runBrk g src s)

end Sys2Proof.Machine
end

