-- ==== Sys2Proof/Machine/Fabric.lean ====
section
/-! DEFINITION. The fx family at issue (16 R382 to R401): operands and precise faults, result places, status words, and how an
entry joins the queues. What happens to an entry after that stands in Queues, Owner and Superstep. -/

namespace Sys2Proof.Machine

/-! ### Results (R383, Tables 16.1 and 16.2) -/

/-- The status codes that every chapter shares (00, "Status codes"). -/
abbrev stOk : Nat := 0
abbrev stAbsent : Nat := 1
abbrev stKey : Nat := 2
abbrev stRange : Nat := 3
abbrev stRefused : Nat := 4
abbrev stTimeout : Nat := 5
abbrev stLink : Nat := 6
abbrev stGen : Nat := 7
abbrev stStray : Nat := 8
abbrev stFull : Nat := 9
abbrev stNotinj : Nat := 10

/-- The data result of a form on fx.q: none, a scalar (false) or a row (true). -/
def RemOp.data : RemOp → Option Bool
  | .ld _ | .amo .. => some false
  | .ldrow | .rdelg .. | .mbrecv _ | .mbpeek _ | .spop _ => some true
  | _ => none

/-- Does the form place a status word on fx.st in both variants? -/
def RemOp.always : RemOp → Bool
  | .ld _ | .ldrow | .amo .. | .mbrecv _ | .mbpeek _ | .spop _ => false
  | _ => true

/-- Does the form place a status word in this variant? -/
def RemOp.hasStatus (op : RemOp) (st : Bool) : Bool :=
  match op with
  | .spop _ => false
  | _ => op.always || st

/-- The value of a data result that is not delivered: 0, or a zero row. -/
def RemOp.noData (op : RemOp) : Value :=
  match op.data with
  | some true => .w Row.zero
  | _ => .s 0

/-- The status word of Table 16.2. -/
def statusWord (status who info : Nat) : Word :=
  BitVec.ofNat 64 (status % 256 + who % 128 * 2 ^ 8 + info % 2 ^ 32 * 2 ^ 16)

/-- Fill the result place of an entry on a port. -/
def fillPlace (l : List QRes) (seq : Nat) (v : Value) (trap : Option (BitVec 4 × Word)) : List QRes :=
  l.map fun r => if r.seq = seq && r.val.isNone then { r with val := some v, trap := trap } else r

/-- A form ends with a status (R383): its data result, which is 0 when the status is not OK unless the form gives data
with any status (rdelg's bitmap), and its status word. In the plain variant a status other than OK traps at the read of
the status word, or of the data where there is none. -/
def Ctx.fxResult (c : Ctx) (seq : Nat) (op : RemOp) (st : Bool) (addr : Word) (status who info : Nat) (v : Value) : Ctx :=
  let trap : Option (BitVec 4 × Word) := if st || status = 0 then none else some (BitVec.ofNat 4 status, addr)
  let keep := match op with | .rdelg .. => true | _ => false
  let v := if status = 0 || keep then v else op.noData
  let c := if op.data.isSome then
      { c with fxq := fillPlace c.fxq seq v (if op.hasStatus st then none else trap) } else c
  if op.hasStatus st then { c with fxst := fillPlace c.fxst seq (.s (statusWord status who info)) trap } else c

/-! ### Issue -/

/-- The member that a fabric address names (R385). -/
def fabMember (a : Word) : BitVec 7 := BitVec.ofNat 7 (fld a 57 7)

/-- The window that a fabric address names. -/
def fabWindow (a : Word) : Nat := fld a 48 9

/-- The offset that a fabric address names. -/
def fabOffset (a : Word) : Nat := fld a 0 48

/-- The members that a form names (R6, R38): of rdel and rdelg the owner and the consumers. The members of a reduction and of a
superstep end with ABSENT by their own rules (R392, R433). -/
def State.named (s : State) (op : RemOp) (addr : Word) : List (BitVec 7) :=
  match op with
  | .mlr .. | .sstep _ | .mbsend .. | .mbrecv _ | .mbpeek _ | .pen .. | .spop _ => []
  | .rdel c _ => [fabMember addr, fabMember c]
  | .rdelg c _ => fabMember addr :: s.links.groupMembers (fabGroup c)
  | _ => [fabMember addr]

/-- Does the form reach the paddock? -/
def RemOp.paddock : RemOp → Bool
  | .mbsend .. | .mbrecv _ | .mbpeek _ | .pen .. => true
  | _ => false

/-- A status that a form gets at its issue, with WHO: optics absent or not in service and another member named (R6, R38),
the paddock not in service (R38), the target of an ordered atomic outside its group (R388). -/
def State.atIssue (s : State) (op : RemOp) (addr : Word) : Option (Nat × Nat) :=
  if op.paddock && !s.pkg.padUp then some (stAbsent, 0)
  else
    match (if s.opticsUp then none else (s.named op addr).find? fun m => m != s.links.memberSet) with
    | some m => some (stAbsent, m.toNat)
    | none =>
      match op with
      | .amoOrd _ _ _ _ g _ =>
        if (s.links.groupMembers g.toNat).contains (fabMember addr) then none else some (stAbsent, (fabMember addr).toNat)
      | _ => none

/-- The bitmap of group deliveries: bit m marks a member that did not accept (R391). -/
def bitmapRow (l : List (BitVec 7)) : Row :=
  ⟨BitVec.ofNat 2048 (l.foldl (fun n m => if n.testBit m.toNat then n else n + 2 ^ m.toNat) 0), 0⟩

/-- The data result of a form that ends at its issue: of a group delivery every member is marked (R391). -/
def State.issueValue (s : State) (op : RemOp) : Value :=
  match op with
  | .rdelg c _ => .w (bitmapRow (s.links.groupMembers (fabGroup c)))
  | _ => op.noData

/-- Result places of the issuing context for the form that is about to issue (R384). -/
def State.fxPlaces (s : State) (op : RemOp) (st : Bool) : State :=
  let s := if op.data.isSome then s.place .fxq else s
  if op.hasStatus st then s.place .fxst else s

/-- No place on a port that the form needs (R384). -/
def Ctx.fxFull (c : Ctx) (op : RemOp) (st : Bool) : List Flt :=
  if (op.data.isSome && c.placesFull .fxq) || (op.hasStatus st && c.placesFull .fxst) then [fltFull] else []

/-- The form issues: its places are taken and its entry joins its queue, or its status is there at once. -/
def State.fxIssue (s : State) (side : QSide) (op : RemOp) (st : Bool) (addr : Word) : State :=
  let n := s.ctx.seq
  let s1 := s.fxPlaces op st
  match s1.atIssue op addr with
  | some (status, who) =>
    (s1.onCtx fun c => { (c.fxResult n op st addr status who 0 (s1.issueValue op)) with seq := n + 1 }).trace 4 addr
      (BitVec.ofNat 64 status)
  | none => s1.push side (.remote op st) addr [0]

/-- Absent paddock (R5). -/
def State.paddockFaults (s : State) : List Flt := if bit s.pkg.caps 0 then [] else [⟨0x06, 1, 0⟩]

/-- An offset that must be a multiple of `n` (R386, R387, R393). -/
def offsetFaults (a : Word) (n : Nat) : List Flt := if fabOffset a % n = 0 then [] else [{ fltAlign with addr := a }]

/-- The illegal-operand fault unless a condition holds (R382). -/
def operandFaults (ok : Bool) : List Flt := if ok then [] else [fltOperand]

/-- Run an fx form: `mk` its operation and the address it reports, `chk` its own faults. -/
def runFx (port : BitVec 9) (side : QSide) (need : List Latch) (mk : Args → RemOp × Word) (chk : Args → List Flt)
    (g : Guard) (h : Bool) (src : Src) (s : State) : State :=
  runTrig g src port need (fun a => chk a ++ a.st.ctx.fxFull (mk a).1 h)
    (fun a => a.st.ctx.queueFull side) (fun a => a.st.fxIssue side (mk a).1 h (mk a).2) s

/-- rld.w, rld.d (R386). -/
def runRld (port : BitVec 9) (wide : Bool) (g : Guard) (h : Bool) (src : Src) (s : State) : State :=
  runFx port .load [] (fun a => (.ld wide, a.word)) noFaults g h src s

/-- rldrow (R386). -/
def runRldrow (g : Guard) (h : Bool) (src : Src) (s : State) : State :=
  runFx 0x0DA .load [] (fun a => (.ldrow, a.word)) (fun a => offsetFaults a.word 256) g h src s

/-- rst.w, rst.d (R386). -/
def runRst (port : BitVec 9) (wide : Bool) (g : Guard) (h : Bool) (src : Src) (s : State) : State :=
  runFx port .store [.fxa] (fun a => (.st wide a.word, a.op .fxa)) noFaults g h src s

/-- rstrow (R386). -/
def runRstrow (g : Guard) (h : Bool) (src : Src) (s : State) : State :=
  runFx 0x0DD .store [.fxa] (fun a => (.strow (valRow a.v), a.op .fxa))
    (fun a => a.ifOp .fxa fun x => offsetFaults x 256) g h src s

/-- The latches of an atomic. -/
def ramoLatches (op : AmoOp) : List Latch := if op == .cas then [.fxa, .fxb] else [.fxa]

/-- The plain atomics (R387). -/
def runRamo (port : BitVec 9) (op : AmoOp) (g : Guard) (h : Bool) (src : Src) (s : State) : State :=
  runFx port .both (ramoLatches op) (fun a => (.amo op a.word (a.op .fxb), a.op .fxa))
    (fun a => a.ifOp .fxa fun x => offsetFaults x 8) g h src s

/-- Faults of fx.c of an ordered atomic (R388). -/
def State.ordFaults (s : State) (c : Word) : List Flt :=
  let x := fld c 0 32
  operandFaults (fld c 38 26 == 0) ++ (if x % 8 = 0 then [] else [{ fltAlign with addr := BitVec.ofNat 64 x }]) ++
    (match s.curTask with
     | some t => if s.spRangeOk t s.turn x 8 then [] else [{ fltBounds with addr := BitVec.ofNat 64 x }]
     | none => [])

/-- The ordered atomics (R388): the issue sequence counts every one of the context's to the group. -/
def runRamoOrd (port : BitVec 9) (op : AmoOp) (g : Guard) (h : Bool) (src : Src) (s : State) : State :=
  let grp (a : Args) : BitVec 6 := BitVec.ofNat 6 (fld (a.op .fxc) 32 6)
  runTrig g src port (ramoLatches op ++ [.fxc])
    (fun a => (a.ifOp .fxa fun x => offsetFaults x 8) ++ (a.ifOp .fxc fun c => a.st.ordFaults c) ++
      a.st.ctx.fxFull (.amoOrd op 0 0 0 0 0) h)
    (fun a => a.st.ctx.queueFull .both)
    (fun a =>
      let n := a.st.ctx.ordSeq.get ⟨(grp a).toNat, (grp a).isLt⟩
      let s1 := a.st.onCtx fun c => { c with ordSeq := c.ordSeq.set (grp a).toNat (n + 1) (grp a).isLt }
      let r := spDie a.st.turn (fld (a.op .fxc) 0 32)
      let dst := BitVec.ofNat 32 (setBits (fld (a.op .fxc) 0 32) 28 2 r.val)
      s1.fxIssue .both (.amoOrd op a.word (a.op .fxb) dst (grp a) n) h (a.op .fxa)) s

/-- Is a three-party length legal (R389)? -/
def rdelLen (v : Word) : Bool := decide (v.toNat % 32 = 0 ∧ 32 ≤ v.toNat ∧ v.toNat ≤ 2 ^ 24)

/-- Is a group address well formed (R385)? -/
def groupAddr (a : Word) : Bool := !bit a 63

/-- rdel (R389). -/
def runRdel (g : Guard) (h : Bool) (src : Src) (s : State) : State :=
  runFx 0x0EE .load [.fxa, .fxb] (fun a => (.rdel (a.op .fxb) a.word.toNat, a.op .fxa))
    (fun a => operandFaults (rdelLen a.word) ++
      (a.ifOp .fxa fun x => operandFaults (fabOffset x % 32 == 0)) ++
      (a.ifOp .fxb fun x => operandFaults (fabOffset x % 32 == 0))) g h src s

/-- rdelg (R391). -/
def runRdelg (g : Guard) (h : Bool) (src : Src) (s : State) : State :=
  runFx 0x0EF .load [.fxa, .fxb] (fun a => (.rdelg (a.op .fxb) a.word.toNat, a.op .fxa))
    (fun a => operandFaults (rdelLen a.word) ++
      (a.ifOp .fxa fun x => operandFaults (fabOffset x % 32 == 0)) ++
      (a.ifOp .fxb fun x => operandFaults (fabOffset x % 32 == 0 && groupAddr x))) g h src s

/-- Element width of a reduction (R392). -/
def mlrWidth : MlrOp → Nat
  | .addF32 | .maxF32 | .minF32 | .addI32 => 4
  | .addBf16 | .maxBf16 | .minBf16 => 2
  | .addI64 => 8

/-- Is it one of the integer forms? -/
def mlrInt : MlrOp → Bool
  | .addI32 | .addI64 => true
  | _ => false

/-- Bytes that a reduction writes (R392). -/
def mlrOut (op : MlrOp) (len : Nat) : Nat := if mlrInt op then len else len * 4 / mlrWidth op

/-- The destination's precise check (R392): every byte in the task's bounds when it lies in the scratchpad. -/
def State.mlrDest (s : State) (op : MlrOp) (x : Word) (len : Nat) : List Flt :=
  match spaceOf x, s.curTask with
  | .scratch a, some t =>
    if (List.range ((mlrOut op len + 255) / 256)).all fun i =>
        s.spRangeOk t s.turn (a + 256 * i) (min 256 (mlrOut op len - 256 * i)) then []
    else [{ fltBounds with addr := x }]
  | _, _ => []

/-- The load-and-reduce forms (R392). -/
def runMlr (port : BitVec 9) (op : MlrOp) (g : Guard) (h : Bool) (src : Src) (s : State) : State :=
  runFx port .load [.fxa, .fxb] (fun a => (.mlr op (a.op .fxb) a.word.toNat, a.op .fxa))
    (fun a =>
      let n := a.word.toNat
      operandFaults (decide (n % mlrWidth op = 0 ∧ mlrWidth op ≤ n ∧ n ≤ 4096)) ++
      (a.ifOp .fxa fun x => operandFaults (groupAddr x && fabOffset x % mlrWidth op == 0)) ++
      (if n ≤ 4096 then a.ifOp .fxb fun x => a.st.mlrDest op x n else [])) g h src s

/-- flag (R393). -/
def runFlag (g : Guard) (h : Bool) (src : Src) (s : State) : State :=
  runFx 0x0F8 .store [.fxa] (fun a => (.flag a.word, a.op .fxa)) (fun a => a.ifOp .fxa fun x => offsetFaults x 8) g h src s

/-- sstep (R394). -/
def runSstep (g : Guard) (h : Bool) (src : Src) (s : State) : State :=
  runFx 0x0F9 .both [] (fun a => (.sstep (BitVec.ofNat 6 a.word.toNat), a.word))
    (fun a => operandFaults (decide (a.word.toNat < 64))) g h src s

/-- The optics absent or not in service (R5, R38, R385). -/
def State.opticsFaults (s : State) : List Flt := if s.opticsUp then [] else [⟨0x06, 3, 0⟩]

/-- Faults of a stream number (R396, R397). -/
def State.streamNoFaults (s : State) (v : Word) : List Flt :=
  if v.toNat < 16 then s.streamFaults (BitVec.ofNat 4 v.toNat) else [fltOperand]

/-- spush (R397). -/
def runSpush (g : Guard) (src : Src) (s : State) : State :=
  runTrig g src 0x0FA [.fxa] (fun a => a.st.opticsFaults ++ a.ifOp .fxa fun x => a.st.streamNoFaults x)
    (fun a => a.st.noCredit (BitVec.ofNat 4 (a.op .fxa).toNat))
    (fun a => a.st.pushStream (BitVec.ofNat 4 (a.op .fxa).toNat) (valRow a.v)) s

/-- Does an earlier spop of the die wait for a row of the stream? -/
def State.spopWaits (s : State) (d : DieId) (n : BitVec 4) : Option Trans :=
  s.links.trans.find? fun t => t.op == .spop n && t.die == d

/-- A spop whose row has not arrived (R397). -/
def State.waitSpop (s : State) (n : BitVec 4) : State :=
  let c := s.ctx
  let t : Trans := { tag := 0, die := s.turn, ctx := s.die.issuing, lid := c.lid, seq := c.seq, op := .spop n, st := false,
                     addr := BitVec.ofNat 64 n.toNat, await := [], failed := [], values := [], reached := false,
                     step := 0, sentAt := s.die.tick, hops := [] }
  { s with links := { s.links with trans := s.links.trans ++ [t] } }

/-- spop (R397): the row, or a place that waits for it. -/
def runSpop (g : Guard) (src : Src) (s : State) : State :=
  runTrig g src 0x0FB []
    (fun a => a.st.opticsFaults ++ a.st.streamNoFaults a.word ++ a.st.ctx.fxFull (.spop 0) false) noWait
    (fun a =>
      let n : BitVec 4 := BitVec.ofNat 4 a.word.toNat
      let s1 := a.st.place .fxq
      let q := s1.ctx.seq
      let s2 := match (if (s1.spopWaits s1.turn n).isSome then none else s1.popStream n) with
        | some (r, s2) => s2.onCtx fun c => { c with fxq := fillPlace c.fxq q (.w r) none }
        | none => s1.waitSpop n
      s2.onCtx fun c => { c with seq := q + 1 }) s

/-- Faults of a pen number (R5, 16 "Mailboxes and pens"). -/
def State.penFaults (s : State) (v : Word) : List Flt := s.paddockFaults ++ operandFaults (decide (v.toNat < 1024))

/-- mbsend (R399). -/
def runMbsend (g : Guard) (h : Bool) (src : Src) (s : State) : State :=
  runFx 0x0FC .store [.fxa] (fun a => (.mbsend (a.op .fxa).toNat (valRow a.v), a.op .fxa))
    (fun a => a.st.paddockFaults ++ a.ifOp .fxa fun x => operandFaults (decide (x.toNat < 1024))) g h src s

/-- mbrecv (R400). -/
def runMbrecv (g : Guard) (h : Bool) (src : Src) (s : State) : State :=
  runFx 0x0FD .load [] (fun a => (.mbrecv a.word.toNat, a.word)) (fun a => a.st.penFaults a.word) g h src s

/-- mbpeek (R400). -/
def runMbpeek (g : Guard) (h : Bool) (src : Src) (s : State) : State :=
  runFx 0x0FE .load [] (fun a => (.mbpeek a.word.toNat, a.word)) (fun a => a.st.penFaults a.word) g h src s

/-- The operation of fx.pen (R401). -/
def penOp (a : Word) : PenOp :=
  match fld a 10 3 with
  | 0 => .create | 1 => .reset | 2 => .halt | 3 => .snap | 4 => .readrec
  | _ => .destroy

/-- Are the operands of fx.pen legal (R401)? -/
def penLegal (a v : Word) : Bool :=
  decide (a.toNat < 2 ^ 13 ∧ fld a 10 3 < 6) && (fld a 10 3 != 0 || fld a 0 10 == 0) &&
    (fld a 10 3 != 4 || v.toNat % 8 == 0)

/-- fx.pen (R401); FADDR of a plain form holds the pen number (R383). -/
def runPen (g : Guard) (h : Bool) (src : Src) (s : State) : State :=
  runFx 0x0FF .store [.fxa]
    (fun a => (.pen (penOp (a.op .fxa)) (fld (a.op .fxa) 0 10) a.word, BitVec.ofNat 64 (fld (a.op .fxa) 0 10)))
    (fun a => a.st.paddockFaults ++ a.ifOp .fxa fun x => operandFaults (penLegal x a.word)) g h src s

/-- How a slot's fx trigger uses the queues (Table 16.1); none when it uses none or the port is no fx trigger. -/
def fxSide (p : BitVec 9) : Option QSide :=
  let n := p.toNat
  if 0x0D8 ≤ n ∧ n ≤ 0x0DA then some .load
  else if 0x0DB ≤ n ∧ n ≤ 0x0DD then some .store
  else if 0x0DE ≤ n ∧ n ≤ 0x0ED then some .both
  else if 0x0EE ≤ n ∧ n ≤ 0x0F7 then some .load
  else if n = 0x0F8 then some .store
  else if n = 0x0F9 then some .both
  else if n = 0x0FC ∨ n = 0x0FF then some .store
  else if n = 0x0FD ∨ n = 0x0FE then some .load
  else none

/-- FX_RLD_W (R386). -/
def execFxRldW (g : Guard) (h : Bool) (src : Src) (s : State) : Host.Outcome State Fault Refusal :=
  .next (runRld 0x0D8 false g h src s)

/-- FX_RLD_D (R386). -/
def execFxRldD (g : Guard) (h : Bool) (src : Src) (s : State) : Host.Outcome State Fault Refusal :=
  .next (runRld 0x0D9 true g h src s)

/-- FX_RLDROW (R386). -/
def execFxRldrow (g : Guard) (h : Bool) (src : Src) (s : State) : Host.Outcome State Fault Refusal :=
  .next (runRldrow g h src s)

/-- FX_RST_W (R386). -/
def execFxRstW (g : Guard) (h : Bool) (src : Src) (s : State) : Host.Outcome State Fault Refusal :=
  .next (runRst 0x0DB false g h src s)

/-- FX_RST_D (R386). -/
def execFxRstD (g : Guard) (h : Bool) (src : Src) (s : State) : Host.Outcome State Fault Refusal :=
  .next (runRst 0x0DC true g h src s)

/-- FX_RSTROW (R386). -/
def execFxRstrow (g : Guard) (h : Bool) (src : Src) (s : State) : Host.Outcome State Fault Refusal :=
  .next (runRstrow g h src s)

/-- FX_RAMO_ADD (R387). -/
def execFxRamoAdd (g : Guard) (h : Bool) (src : Src) (s : State) : Host.Outcome State Fault Refusal :=
  .next (runRamo 0x0DE .add g h src s)

/-- FX_RAMO_AND (R387). -/
def execFxRamoAnd (g : Guard) (h : Bool) (src : Src) (s : State) : Host.Outcome State Fault Refusal :=
  .next (runRamo 0x0DF .and g h src s)

/-- FX_RAMO_OR (R387). -/
def execFxRamoOr (g : Guard) (h : Bool) (src : Src) (s : State) : Host.Outcome State Fault Refusal :=
  .next (runRamo 0x0E0 .or g h src s)

/-- FX_RAMO_XOR (R387). -/
def execFxRamoXor (g : Guard) (h : Bool) (src : Src) (s : State) : Host.Outcome State Fault Refusal :=
  .next (runRamo 0x0E1 .xor g h src s)

/-- FX_RAMO_MIN (R387). -/
def execFxRamoMin (g : Guard) (h : Bool) (src : Src) (s : State) : Host.Outcome State Fault Refusal :=
  .next (runRamo 0x0E2 .min g h src s)

/-- FX_RAMO_MAX (R387). -/
def execFxRamoMax (g : Guard) (h : Bool) (src : Src) (s : State) : Host.Outcome State Fault Refusal :=
  .next (runRamo 0x0E3 .max g h src s)

/-- FX_RAMO_SWAP (R387). -/
def execFxRamoSwap (g : Guard) (h : Bool) (src : Src) (s : State) : Host.Outcome State Fault Refusal :=
  .next (runRamo 0x0E4 .swap g h src s)

/-- FX_RAMO_CAS (R387). -/
def execFxRamoCas (g : Guard) (h : Bool) (src : Src) (s : State) : Host.Outcome State Fault Refusal :=
  .next (runRamo 0x0E5 .cas g h src s)

/-- FX_RAMO_ADD_ORD (R388, R218). -/
def execFxRamoAddOrd (g : Guard) (h : Bool) (src : Src) (s : State) : Host.Outcome State Fault Refusal :=
  .next (runRamoOrd 0x0E6 .add g h src s)

/-- FX_RAMO_AND_ORD (R388, R218). -/
def execFxRamoAndOrd (g : Guard) (h : Bool) (src : Src) (s : State) : Host.Outcome State Fault Refusal :=
  .next (runRamoOrd 0x0E7 .and g h src s)

/-- FX_RAMO_OR_ORD (R388, R218). -/
def execFxRamoOrOrd (g : Guard) (h : Bool) (src : Src) (s : State) : Host.Outcome State Fault Refusal :=
  .next (runRamoOrd 0x0E8 .or g h src s)

/-- FX_RAMO_XOR_ORD (R388, R218). -/
def execFxRamoXorOrd (g : Guard) (h : Bool) (src : Src) (s : State) : Host.Outcome State Fault Refusal :=
  .next (runRamoOrd 0x0E9 .xor g h src s)

/-- FX_RAMO_MIN_ORD (R388, R218). -/
def execFxRamoMinOrd (g : Guard) (h : Bool) (src : Src) (s : State) : Host.Outcome State Fault Refusal :=
  .next (runRamoOrd 0x0EA .min g h src s)

/-- FX_RAMO_MAX_ORD (R388, R218). -/
def execFxRamoMaxOrd (g : Guard) (h : Bool) (src : Src) (s : State) : Host.Outcome State Fault Refusal :=
  .next (runRamoOrd 0x0EB .max g h src s)

/-- FX_RAMO_SWAP_ORD (R388, R218). -/
def execFxRamoSwapOrd (g : Guard) (h : Bool) (src : Src) (s : State) : Host.Outcome State Fault Refusal :=
  .next (runRamoOrd 0x0EC .swap g h src s)

/-- FX_RAMO_CAS_ORD (R388, R218). -/
def execFxRamoCasOrd (g : Guard) (h : Bool) (src : Src) (s : State) : Host.Outcome State Fault Refusal :=
  .next (runRamoOrd 0x0ED .cas g h src s)

/-- FX_RDEL (R389). -/
def execFxRdel (g : Guard) (h : Bool) (src : Src) (s : State) : Host.Outcome State Fault Refusal :=
  .next (runRdel g h src s)

/-- FX_RDELG (R391). -/
def execFxRdelg (g : Guard) (h : Bool) (src : Src) (s : State) : Host.Outcome State Fault Refusal :=
  .next (runRdelg g h src s)

/-- FX_MLR_ADD_F32 (R392). -/
def execFxMlrAddF32 (g : Guard) (h : Bool) (src : Src) (s : State) : Host.Outcome State Fault Refusal :=
  .next (runMlr 0x0F0 .addF32 g h src s)

/-- FX_MLR_ADD_BF16 (R392). -/
def execFxMlrAddBf16 (g : Guard) (h : Bool) (src : Src) (s : State) : Host.Outcome State Fault Refusal :=
  .next (runMlr 0x0F1 .addBf16 g h src s)

/-- FX_MLR_MAX_F32 (R392). -/
def execFxMlrMaxF32 (g : Guard) (h : Bool) (src : Src) (s : State) : Host.Outcome State Fault Refusal :=
  .next (runMlr 0x0F2 .maxF32 g h src s)

/-- FX_MLR_MAX_BF16 (R392). -/
def execFxMlrMaxBf16 (g : Guard) (h : Bool) (src : Src) (s : State) : Host.Outcome State Fault Refusal :=
  .next (runMlr 0x0F3 .maxBf16 g h src s)

/-- FX_MLR_MIN_F32 (R392). -/
def execFxMlrMinF32 (g : Guard) (h : Bool) (src : Src) (s : State) : Host.Outcome State Fault Refusal :=
  .next (runMlr 0x0F4 .minF32 g h src s)

/-- FX_MLR_MIN_BF16 (R392). -/
def execFxMlrMinBf16 (g : Guard) (h : Bool) (src : Src) (s : State) : Host.Outcome State Fault Refusal :=
  .next (runMlr 0x0F5 .minBf16 g h src s)

/-- FX_MLR_ADD_I32 (R392). -/
def execFxMlrAddI32 (g : Guard) (h : Bool) (src : Src) (s : State) : Host.Outcome State Fault Refusal :=
  .next (runMlr 0x0F6 .addI32 g h src s)

/-- FX_MLR_ADD_I64 (R392). -/
def execFxMlrAddI64 (g : Guard) (h : Bool) (src : Src) (s : State) : Host.Outcome State Fault Refusal :=
  .next (runMlr 0x0F7 .addI64 g h src s)

/-- FX_FLAG (R393). -/
def execFxFlag (g : Guard) (h : Bool) (src : Src) (s : State) : Host.Outcome State Fault Refusal :=
  .next (runFlag g h src s)

/-- FX_SSTEP (R394). -/
def execFxSstep (g : Guard) (h : Bool) (src : Src) (s : State) : Host.Outcome State Fault Refusal :=
  .next (runSstep g h src s)

/-- FX_MBSEND (R399). -/
def execFxMbsend (g : Guard) (h : Bool) (src : Src) (s : State) : Host.Outcome State Fault Refusal :=
  .next (runMbsend g h src s)

/-- FX_MBRECV (R400). -/
def execFxMbrecv (g : Guard) (h : Bool) (src : Src) (s : State) : Host.Outcome State Fault Refusal :=
  .next (runMbrecv g h src s)

/-- FX_MBPEEK (R400). -/
def execFxMbpeek (g : Guard) (h : Bool) (src : Src) (s : State) : Host.Outcome State Fault Refusal :=
  .next (runMbpeek g h src s)

/-- FX_PEN (R401). -/
def execFxPen (g : Guard) (h : Bool) (src : Src) (s : State) : Host.Outcome State Fault Refusal :=
  .next (runPen g h src s)

/-- FX_SPUSH (R397). -/
def execFxSpush (g : Guard) (src : Src) (s : State) : Host.Outcome State Fault Refusal :=
  .next (runSpush g src s)

/-- FX_SPOP (R397). -/
def execFxSpop (g : Guard) (src : Src) (s : State) : Host.Outcome State Fault Refusal :=
  .next (runSpop g src s)

end Sys2Proof.Machine
end

