-- ==== Sys2Proof/Machine/Router.lean ====
section
/-! DEFINITION. The fabric routers' sending side (02 R52 to R66, 16 R385, R395): packets and flits, routes and what they answer
(Table 16.4 lines 1, 3 and 4), outbound keys (R73), and flits going out on the ports. -/

namespace Sys2Proof.Machine

/-! ### Packets and flits (R59, R395, Tables 02.9, 02.10, 16.8, 16.9) -/

/-- The 64 header bytes of a packet (Table 16.9). -/
def Packet.header (p : Packet) : List Byte :=
  leBytes 8 p.taddr.toNat ++ leBytes 8 p.caddr.toNat ++ leBytes 4 p.length.toNat ++ leBytes 4 p.key.toNat ++
    [p.aop, p.status, BitVec.ofNat 8 p.reqm.toNat, BitVec.ofNat 8 p.group.toNat] ++ leBytes 2 p.reqctx.toNat ++ [0, 0] ++
    leBytes 8 p.operand.toNat ++ leBytes 8 p.operand2.toNat ++ leBytes 8 p.seq.toNat ++ leBytes 8 0

/-- Cut a list into pieces of `n` bytes, at most `fuel` of them. -/
def chunks (n : Nat) : Nat → List Byte → List (List Byte)
  | 0, _ => []
  | fuel + 1, l => if l.isEmpty then [] else l.take n :: chunks n fuel (l.drop n)

/-- The flits of a packet, without their port and link numbers (R395). -/
def Packet.flits (p : Packet) : List Flit :=
  let ds := chunks 256 (p.data.length / 256 + 1) p.data
  let mk (first last : Bool) (nsec : Nat) (b : List Byte) : Flit :=
    { lseq := 0, lack := 0, xseq := 0, vc := p.vc, dst := p.dst, src := p.src, die := p.die, op := p.op, first := first,
      last := last, rtag := p.rtag, nsec := BitVec.ofNat 4 nsec, reserved := 0, payload := slice b 0 256, nonce := 0,
      transit := false }
  mk true ds.isEmpty 0 p.header ::
    ds.zipIdx.map fun x => mk false (x.2 + 1 == ds.length) ((x.1.length + 31) / 32) x.1

/-- A packet from its first flit and the flits after it. -/
def packetOf (f : Flit) (rest : List Flit) : Packet :=
  let b := f.payload
  { op := f.op, src := f.src, dst := f.dst, die := f.die, vc := f.vc, rtag := f.rtag,
    taddr := BitVec.ofNat 64 (leAt b 0 8), caddr := BitVec.ofNat 64 (leAt b 8 8),
    length := BitVec.ofNat 32 (leAt b 16 4), key := BitVec.ofNat 32 (leAt b 20 4),
    aop := BitVec.ofNat 8 (leAt b 24 1), status := BitVec.ofNat 8 (leAt b 25 1),
    reqm := BitVec.ofNat 7 (leAt b 26 1), group := BitVec.ofNat 6 (leAt b 27 1),
    reqctx := BitVec.ofNat 16 (leAt b 28 2), operand := BitVec.ofNat 64 (leAt b 32 8),
    operand2 := BitVec.ofNat 64 (leAt b 40 8), seq := BitVec.ofNat 64 (leAt b 48 8),
    data := (rest.flatMap fun x => x.payload.take (32 * x.nsec.toNat)).take (leAt b 16 4),
    checked := false, work := [], got := [] }

/-- The flit of a header's bytes (Table 02.10) and its payload. -/
def flitOf (h payload : List Byte) : Flit :=
  let n := leNat h
  { lseq := BitVec.ofNat 16 (bits n 0 16), lack := BitVec.ofNat 16 (bits n 16 16), xseq := BitVec.ofNat 16 (bits n 32 16),
    vc := BitVec.ofNat 3 (bits n 50 3), dst := BitVec.ofNat 7 (bits n 53 7), src := BitVec.ofNat 7 (bits n 60 7),
    die := BitVec.ofNat 2 (bits n 67 2), op := BitVec.ofNat 6 (bits n 69 6), first := n.testBit 75, last := n.testBit 76,
    rtag := BitVec.ofNat 12 (bits n 77 12), nsec := BitVec.ofNat 4 (bits n 89 4),
    reserved := BitVec.ofNat 35 (bits n 93 35), payload := slice payload 0 256, nonce := 0, transit := false }

/-- The header bytes of a data flit (Table 02.10). -/
def Flit.header (f : Flit) : List Byte :=
  leBytes 16 (f.lseq.toNat + f.lack.toNat * 2 ^ 16 + f.xseq.toNat * 2 ^ 32 + 2 ^ 48 + f.vc.toNat * 2 ^ 50 + f.dst.toNat * 2 ^ 53 +
    f.src.toNat * 2 ^ 60 + f.die.toNat * 2 ^ 67 + f.op.toNat * 2 ^ 69 + f.first.toNat * 2 ^ 75 + f.last.toNat * 2 ^ 76 +
    f.rtag.toNat * 2 ^ 77 + f.nsec.toNat * 2 ^ 89 + f.reserved.toNat * 2 ^ 93)

/-- The 288 bytes of a flit under a port's key (Table 02.9, R61). -/
def Flit.bytes (key : BitVec 256) (f : Flit) : List Byte :=
  let h := f.header
  let (ct, tag) := gcmSeal key f.nonce h (slice f.payload 0 256)
  let b := h ++ ct ++ tag.take 8
  b ++ leBytes 8 (crc64 b).toNat

/-- The bytes that each of `w` live wavelengths carries, in ascending order of position: byte j goes on wavelength j mod w (R54). -/
def stripe (w : Nat) (bs : List Byte) : List (List Byte) :=
  (List.range w).map fun i => (List.range ((bs.length + w - 1 - i) / w)).map fun k => bs.getD (w * k + i) 0

/-- The 288 bytes that came on the live wavelengths. -/
def unstripe (waves : List (List Byte)) : List Byte :=
  (List.range 288).map fun j => (waves.getD (j % waves.length) []).getD (j / waves.length) 0

/-- The 288 bytes of a flit by its parts: header, payload, tag, CRC (Table 02.9). -/
def flitParts (h : BitVec 128) (data : BitVec 2048) (crc tag : BitVec 64) : List Byte :=
  leBytes 16 h.toNat ++ leBytes 256 data.toNat ++ leBytes 8 tag.toNat ++ leBytes 8 crc.toNat

/-- Bytes as the port's live wavelengths carry them (R54). -/
def Port.stripes (x : Port) (bs : List Byte) : List (List Byte) := stripe (popcount 16 x.live.toNat) bs

/-- A flit as the port's live wavelengths carry it. -/
def Port.waves (x : Port) (f : Flit) : List (List Byte) := x.stripes (f.bytes x.txKey)

/-! ### Control flits and replay requests (Tables 02.9, 02.10; log 28) -/

/-- KIND, OP, VC and the payload of a control flit or a replay request; none of what the two firmwares say to each other. -/
def Ctl.parts : Ctl → Option (Nat × Nat × Nat × List Byte)
  | .ack _ => some (2, 0, 0, [])
  | .restripe mask => some (2, 1, 0, leBytes 2 mask.toNat)
  | .credit vc n => some (2, 2, vc.toNat, leBytes 1 n)
  | .drain => some (2, 3, 0, [])
  | .replay _ => some (3, 0, 0, [])
  | .train | .dark _ => none

/-- The 288 bytes of a control flit or a replay request: its LSEQ is that of the next data flit, its LACK what the receiver has
accepted; how its payload is sealed is left open (R61). -/
def Port.ctlBytes (x : Port) (c : Ctl) : Option (List Byte) :=
  c.parts.map fun (kind, op, vc, pt) =>
    let h := leBytes 16 (x.txSeq.toNat + (x.rxSeq - 1).toNat * 2 ^ 16 + kind * 2 ^ 48 + vc * 2 ^ 50 + op * 2 ^ 69)
    let b := h ++ slice (Config.controlSeal x.txKey h (slice pt 0 256)) 0 264
    b ++ leBytes 8 (crc64 b).toNat

/-- A port sends a control flit or a replay request, or its firmware speaks to the other side. -/
def Port.say (x : Port) (c : Ctl) : Port :=
  { x with out := x.out ++ [c], sent := x.sent ++ ((x.ctlBytes c).map x.stripes).toList }

/-- A port acknowledges what it has accepted (R62). -/
def Port.sayAck (x : Port) : Port := { x with ackOwed := 0 }.say (.ack (x.rxSeq - 1))

/-- What a flit of KIND 0, 2 or 3 says, by its header and payload; none of an idle flit or an unassigned OP. -/
def ctlOf (h : Nat) (pt : List Byte) : Option Ctl :=
  let lack := BitVec.ofNat 16 (bits h 16 16)
  match bits h 48 2, bits h 69 6 with
  | 3, _ => some (.replay lack)
  | 2, 1 => some (.restripe (BitVec.ofNat 16 (leAt pt 0 2)))
  | 2, 2 => some (.credit (BitVec.ofNat 3 (bits h 50 3)) (leAt pt 0 1))
  | 2, 3 => some .drain
  | _, _ => none

/-- Is the OP assigned (Table 16.8)? -/
def opAssigned (op : BitVec 6) : Bool := decide (1 ≤ op.toNat ∧ op.toNat ≤ 0x15)

/-! ### Routes (R58, R65, Table 16.4) -/

/-- The ports of the package. -/
def allPorts : List (Fin 12) := [0, 1, 2, 3, 4, 5, 6, 7, 8, 9, 10, 11]

/-- The plane of a port (R52). -/
def portPlane (p : Fin 12) : Fin 4 := ⟨p.val % 4, by omega⟩

/-- The die of a port (R52). -/
def portDie (p : Fin 12) : DieId := ⟨p.val / 4, by omega⟩

/-- A port. -/
def Links.port (l : Links) (p : Fin 12) : Port := l.ports.get p

/-- Change a port. -/
def State.onPort (s : State) (p : Fin 12) (f : Port → Port) : State :=
  { s with links := { s.links with ports := s.links.ports.set p.val (f (s.links.port p)) p.isLt } }

/-- Is a port usable: its plane enabled and the port up (R65)? -/
def Links.usable (l : Links) (p : Fin 12) : Bool := l.planes.get (portPlane p) == .enabled && (l.port p).st == .up

/-- The active route of a member. -/
def Links.routeOf (l : Links) (m : BitVec 7) : RouteEnt := l.route.get ⟨m.toNat, m.isLt⟩

/-- Ports of a DIRECT field. -/
def directPorts (d : BitVec 12) : List (Fin 12) := allPorts.filter fun p => d.getLsbD p.val

/-- The next package on the way to a member and the ports on which a flit for it may leave now: the member itself over its
logical link, else the VIA member; a flit that this package forwards goes to the member itself alone (R65, R67). -/
def Links.portsTo (l : Links) (m : BitVec 7) (transit : Bool) : BitVec 7 × List (Fin 12) :=
  let e := l.routeOf m
  let d := (directPorts e.direct).filter l.usable
  if !d.isEmpty || !e.viaValid || transit then (m, d)
  else (e.via, (directPorts (l.routeOf e.via).direct).filter l.usable)

/-- Does a member belong to the connected group (R6, R38, R69)? -/
def State.connected (s : State) (m : BitVec 7) : Bool :=
  m == s.links.memberSet ||
    (s.opticsUp && (if m.toNat < 64 then bit s.links.groupLo m.toNat else bit s.links.groupHi (m.toNat - 64)))

/-- The status of Table 16.4 lines 1, 3 and 4 for a member: none when it can be reached. The package's own member always
can (R69). A VIA remains while a port of the logical link to that member is not down. -/
def State.unreachable (s : State) (m : BitVec 7) : Option Nat :=
  if m == s.links.memberSet then none
  else if !s.connected m then some stAbsent
  else
    let e := s.links.routeOf m
    let via := if e.viaValid then directPorts (s.links.routeOf e.via).direct else []
    if e.direct = 0 && !e.viaValid then some stAbsent
    else if (directPorts e.direct ++ via).all fun p => (s.links.port p).st == .down then some stLink
    else none

/-- The key that the router stamps (R73): of the lowest-numbered entry that matches. -/
def State.stampKey (s : State) (asid : BitVec 8) (m : BitVec 7) (w : Nat) : Option (BitVec 32) :=
  (s.links.okeys.toList.find? fun e =>
    bit e 63 && fld e 48 8 == asid.toNat && fld e 32 7 == m.toNat && fld e 39 9 == w).map fun e => BitVec.ofNat 32 e.toNat

/-! ### Flits going out (R62, R63, R66) -/

/-- The XSEQ of the next flit for a member over the logical link to a neighbour (R63). -/
def Links.nextX (l : Links) (link m : BitVec 7) : BitVec 16 :=
  ((l.txX.find? fun y => y.1 == link && y.2.1 == m).map fun y => y.2.2).getD 0

/-- A flit takes the next XSEQ of its logical link (R63); one that is sent again over the same link keeps its own.
One that leaves over another link takes a number there, and its old one stays unused (log 28). -/
def Links.stampX (l : Links) (link : BitVec 7) (f : Option (BitVec 7) × Flit) : Links × Flit :=
  if f.1 = some link then (l, f.2)
  else
    let x := l.nextX link f.2.dst
    ({ l with txX := (link, f.2.dst, x + 1) :: l.txX.filter fun y => !(y.1 == link && y.2.1 == f.2.dst) },
      { f.2 with xseq := x })

/-- Packets for other members become flits. -/
def State.flushOutbox (s : State) : State :=
  { s with links := { s.links with
      router := s.links.router ++ (s.links.outbox.flatMap Packet.flits).map fun f => (none, f), outbox := [] } }

/-- The neighbour to which a flit for a member leaves on a port, by the active table. -/
def Links.linkOf (l : Links) (p : Fin 12) (m : BitVec 7) : Option (BitVec 7) :=
  let e := l.routeOf m
  if e.direct.getLsbD p.val then some m else if e.viaValid then some e.via else none

/-- Does a flit number of a logical link lie within the receiver's window of 1,024 above every flit of that link for the same
member that is not yet acknowledged (R63)? -/
def Links.inWindow (l : Links) (link m : BitVec 7) (x : BitVec 16) : Bool :=
  (allPorts.all fun q => (l.port q).unacked.all fun g =>
    g.dst != m || l.linkOf q m != some link || decide ((x - g.xseq).toNat < 1024)) &&
    l.router.all fun y => y.1 != some link || y.2.dst != m || decide ((x - y.2.xseq).toNat < 1024)

/-- Has everything that left for a member on another path been acknowledged there: no flit for it is unacknowledged on a port that
is no part of the present path, no request for it that left by an intermediate member is without its answer, and no other flit that
left so may still be on its way (R66)? -/
def Links.pathClear (l : Links) (link m : BitVec 7) (ports : List (Fin 12)) : Bool :=
  (allPorts.all fun q => ports.contains q || !(l.port q).unacked.any fun g => g.dst == m) &&
    (l.trans.all fun t => t.hops.all fun o => o.1 != m || o.2 == m || o.2 == link) &&
    l.viaSent.all fun o => o.1 != m || o.2 == link

/-- May a flit leave on a port: credit of its channel, room in the replay buffer and in the receiver's window (R62, R63), and a
clear path (R66)? -/
def Links.mayLeave (l : Links) (link : BitVec 7) (x : BitVec 16) (f : Flit) (ports : List (Fin 12)) (p : Fin 12) : Bool :=
  let y := l.port p
  decide (0 < y.credits.get ⟨f.vc.toNat, f.vc.isLt⟩) && decide (y.unacked.length < 512) && decide (y.nonce + 1 < 2 ^ 48) &&
    l.inWindow link f.dst x && l.pathClear link f.dst ports

/-- A transaction whose request to a member has left over a neighbour (R66): its time runs from the first departure to the member
that it asks last (R385). -/
def Trans.leftOver (t : Trans) (m link : BitVec 7) (tick : Word) : Trans :=
  { t with hops := (m, link) :: t.hops, sentAt := if t.hops.any (fun o => o.1 == m) then t.sentAt else tick }

/-- The codes of requests, whose tag is one of the package that sends them (Table 16.8). -/
def requestOps : List (BitVec 6) := [0x01, 0x03, 0x04, 0x06, 0x08, 0x0B, 0x0E]

/-- A flit has left for a member over a neighbour (R66): a request of this package is noted with its transaction; of any other flit
that leaves by an intermediate member nothing comes back from the destination's router. -/
def State.leftOver (s : State) (link : BitVec 7) (f : Flit) : State :=
  if f.first && f.src == s.links.memberSet && !f.transit && requestOps.contains f.op then
    { s with links := { s.links with
        trans := s.links.trans.map fun t => if t.tag == f.rtag then t.leftOver f.dst link (s.dieAt t.die).tick else t } }
  else if link != f.dst && !s.links.viaSent.contains (f.dst, link) then
    { s with links := { s.links with viaSent := (f.dst, link) :: s.links.viaSent } }
  else s

/-- The next flit path by an intermediate member that is clear: no flit for the member is unacknowledged at a port, and the destination's
router has what left, which no message tells: it is a free value (log 28). -/
def State.viaArrived (s : State) : State :=
  if s.links.viaSent.isEmpty then s
  else
    let gone (o : BitVec 7 × BitVec 7) : Bool := allPorts.all fun q => !(s.links.port q).unacked.any fun g => g.dst == o.1
    let done := (Config.freeWord s.fresh).getLsbD 0
    { s with fresh := s.fresh + 1,
             links := { s.links with viaSent := s.links.viaSent.filter fun o => !(done && gone o) } }

/-- A port sends a data flit (R62): it is kept until a LACK covers it. Data flits alone advance the nonce counter (R61, log 28). -/
def Port.send (x : Port) (f : Flit) : Port :=
  let g := { f with lseq := x.txSeq, lack := x.rxSeq - 1, nonce := x.nonce }
  { x with txSeq := x.txSeq + 1, unacked := x.unacked ++ [g], sent := x.sent ++ [x.waves g], nonce := x.nonce + 1, ackOwed := 0,
           carried := x.carried + 1,
           credits := x.credits.set f.vc.toNat (x.credits.get ⟨f.vc.toNat, f.vc.isLt⟩ - 1) f.vc.isLt }

/-- The flits of the router's queue that can leave do so, each on one of the ports it may use; which one is a free
value (log 8). -/
def State.sendFlits : State → List (Option (BitVec 7) × Flit) → State
  | s, [] => s
  | s, f :: l =>
    let (link, ports) := s.links.portsTo f.2.dst f.2.transit
    let x := if f.1 = some link then f.2.xseq else s.links.nextX link f.2.dst
    let may := ports.filter fun p => s.links.mayLeave link x f.2 ports p
    match may[(Config.freeWord s.fresh).toNat % may.length]? with
    | some p =>
      let (k, g) := s.links.stampX link f
      let s1 := State.leftOver { s with fresh := s.fresh + 1, links := k } link g
      State.sendFlits (s1.onPort p fun x => x.send g) l
    | none => State.sendFlits { s with links := { s.links with router := s.links.router ++ [f] } } l

/-- What the routers put on the ports. -/
def State.pump (s : State) : State :=
  if s.links.outbox.isEmpty && s.links.router.isEmpty then s
  else
    let s := s.flushOutbox.viaArrived
    State.sendFlits { s with links := { s.links with router := [] } } s.links.router

end Sys2Proof.Machine
end

