-- ==== Sys2Proof/Machine/Trans.lean ====
section
/-! DEFINITION. The requester's side of the fabric (16 R385 to R393, Tables 16.4 and 16.5): requests that leave, responses that
come back, and transactions that end without one. -/

namespace Sys2Proof.Machine

/-! ### Where results go -/

/-- Change a context of a launch: the live one on its die, else the one in its save (R277). -/
def State.onOwner (s : State) (lid : BitVec 32) (d : DieId) (c : CtxId) (f : Ctx → Ctx) : State :=
  let x := (s.dieAt d).ctxAt c
  if x.kind != CtxKind.none && x.lid == lid then s.onCtxAt d c f
  else s.onTask lid fun t =>
    { t with saved := t.saved.map fun (y : SavedCtx) =>
        if y.die == d && y.cid == c then { y with ctx := f y.ctx } else y }

/-- Record an occurrence of a context of a launch in its die's trace (R284). -/
def State.traceOf (s : State) (lid : BitVec 32) (d : DieId) (c : CtxId) (seq kind : Nat) (a b : Word) : State :=
  match s.task? lid with
  | some t =>
    if s.sealed t.fn then s
    else s.onDieAt d fun x =>
      x.trace kind c ((((x.ctxAt c).entries.find? fun e => e.seq == seq).map Entry.place).getD (x.ctxAt c).place) a b
  | none => s

/-- An fx form ends with a status (R383): its results are delivered and its entry leaves the queues. -/
def State.fxEnd (s : State) (lid : BitVec 32) (d : DieId) (c : CtxId) (seq : Nat) (op : RemOp) (st : Bool) (addr : Word)
    (status who info : Nat) (v : Value) : State :=
  let s := s.traceOf lid d c seq 4 addr (BitVec.ofNat 64 status)
  s.onOwner lid d c fun x =>
    { x.fxResult seq op st addr status who info v with entries := x.entries.filter fun e => e.seq != seq }

/-- A transaction is no longer outstanding. -/
def Links.dropTrans (l : Links) (t : Trans) : Links := { l with trans := l.trans.filter fun x => x != t }

/-- A transaction is replaced. -/
def Links.setTrans (l : Links) (old new : Trans) : Links :=
  { l with trans := l.trans.map fun x => if x == old then new else x }

/-- A transaction ends with a status: a form's results are delivered; a piece of a copy that failed stays on record until
its channel takes the failure (R194). -/
def State.endTrans (s : State) (t : Trans) (status who info : Nat) (v : Value) : State :=
  match t.op with
  | .copy .. =>
    if status = 0 then { s with links := s.links.dropTrans t }
    else
      let t1 : Trans := { t with await := [], failed := [(BitVec.ofNat 7 who, BitVec.ofNat 8 status)] }
      { s with links := s.links.setTrans t t1 }
  | _ =>
    let s1 : State := { s with links := s.links.dropTrans t }
    s1.fxEnd t.lid t.die t.ctx t.seq t.op t.st t.addr status who info v

/-! ### Requests -/

/-- The code of an atomic operation (Table 16.9). -/
def amoCode : AmoOp → Nat
  | .add => 0 | .and => 1 | .or => 2 | .xor => 3 | .min => 4 | .max => 5 | .swap => 6 | .cas => 7 | .minu => 4 | .maxu => 5

/-- The code of a reduction (Table 16.9). -/
def mlrCode : MlrOp → Nat
  | .addF32 => 0 | .addBf16 => 1 | .maxF32 => 2 | .maxBf16 => 3 | .minF32 => 4 | .minBf16 => 5 | .addI32 => 6 | .addI64 => 7

/-- Is the tag carried by an outstanding transaction, or by a fetched value that is not acknowledged? -/
def Links.tagUsed (l : Links) (t : BitVec 12) : Bool :=
  (l.trans.any fun x => x.tag == t && !x.await.isEmpty) || l.ssteps.any fun x => x.acks.contains t

/-- A tag that is free, the first from `nextTag` on; none while all 4,096 are carried. -/
def Links.freeTag (l : Links) : Option (BitVec 12) :=
  ((List.range 4096).map fun i => l.nextTag + BitVec.ofNat 12 i).find? fun t => !l.tagUsed t

/-- A word without the bytes past a width. -/
def lowBytes (n : Nat) (v : Word) : Word := BitVec.ofNat 64 (v.toNat % 256 ^ n)

/-- The request of a transaction to a member (Tables 16.8 and 16.9). The group of a group delivery travels as its mask, with
AOP 1. -/
def State.request (s : State) (t : Trans) (m : BitVec 7) (key : BitVec 32) : Packet :=
  let own := s.links.memberSet
  let addr := setFld t.addr 57 7 m.toNat
  let base : Packet :=
    { packet0 with src := own, dst := m, die := BitVec.ofNat 2 t.die.val, rtag := t.tag, taddr := addr, key := key, reqm := own,
                   reqctx := reqCtx t.die t.ctx }
  match t.op with
  | .ld wide => { base with op := 0x01, length := if wide then 8 else 4 }
  | .ldrow => { base with op := 0x01, length := 256 }
  | .st wide v => { base with op := 0x03, length := if wide then 8 else 4, operand := lowBytes (if wide then 8 else 4) v }
  | .strow v => { base with op := 0x03, length := 256, data := rowBytes v }
  | .flag v => { base with op := 0x04, length := 8, operand := v }
  | .amo op v e => { base with op := 0x06, length := 8, aop := BitVec.ofNat 8 (amoCode op), operand := v, operand2 := e }
  | .amoOrd op v e dst g n =>
    { base with op := 0x08, length := 8, aop := BitVec.ofNat 8 (amoCode op), operand := v, operand2 := e,
                caddr := BitVec.ofNat 64 dst.toNat, group := g, seq := BitVec.ofNat 64 n }
  | .rdel c n => { base with op := 0x0B, length := BitVec.ofNat 32 n, caddr := c }
  | .rdelg c n =>
    let mask := (s.links.groups.toList.getD (fabGroup c) 0).toNat
    { base with op := 0x0B, length := BitVec.ofNat 32 n, caddr := c, aop := 1, group := BitVec.ofNat 6 (fabGroup c),
                operand := BitVec.ofNat 64 mask, operand2 := BitVec.ofNat 64 (mask / 2 ^ 64) }
  | .mlr op _ n => { base with op := 0x0E, length := BitVec.ofNat 32 n, aop := BitVec.ofNat 8 (mlrCode op),
                               group := BitVec.ofNat 6 (fabGroup t.addr) }
  | _ => base

/-- Lines 1 to 4 of Table 16.4 for a request to a member's window: the status that it gets at once, or the key it carries. -/
def State.firstLines (s : State) (asid : BitVec 8) (m : BitVec 7) (w : Nat) : Except Nat (BitVec 32) :=
  if !s.connected m then .error stAbsent
  else
    match s.stampKey asid m w with
    | none => .error stKey
    | some k =>
      match s.unreachable m with
      | some r => .error r
      | none => .ok k

/-- The members whose windows a form reads or writes (R385, R391, R392). -/
def State.parties (s : State) (op : RemOp) (addr : Word) : List (BitVec 7) :=
  match op with
  | .mlr .. => s.links.groupMembers (fabGroup addr)
  | _ => [fabMember addr]

/-- The members that a transaction waits for once its request has left. -/
def State.awaited (s : State) (op : RemOp) (sent : List (BitVec 7)) : List (BitVec 7) :=
  match op with
  | .rdelg c _ => s.links.groupMembers (fabGroup c)
  | _ => sent

/-! ### Several members (R391, R392) -/

/-- The lowest-numbered member that failed, with its status. -/
def lowestFailed : List (BitVec 7 × BitVec 8) → Option (BitVec 7 × BitVec 8)
  | [] => none
  | x :: l =>
    match lowestFailed l with
    | none => some x
    | some y => if y.1.toNat < x.1.toNat then some y else some x

/-- The result of a transaction that no member is awaited for: of a group delivery, and of a reduction that failed. -/
def State.endMembers (s : State) (t : Trans) : State :=
  match lowestFailed t.failed with
  | some (m, r) => s.endTrans t r.toNat m.toNat 0 (.w (bitmapRow (t.failed.map (·.1))))
  | none => s.endTrans t 0 0 0 (.w Row.zero)

/-- COMB of R392. -/
def mlrComb (op : MlrOp) (p q : Nat) : Nat :=
  match op with
  | .addF32 | .addBf16 => (fAdd .f32 .rne p q).v
  | .maxF32 | .maxBf16 => (fMinMax .f32 true false p q).v
  | .minF32 | .minBf16 => (fMinMax .f32 false false p q).v
  | .addI32 => (p + q) % 2 ^ 32
  | .addI64 => (p + q) % 2 ^ 64

/-- MLR_TREE of R392 over a list, at most `fuel` levels deep. -/
def mlrTree (op : MlrOp) : Nat → List Nat → Nat
  | 0, l => l.headD 0
  | fuel + 1, l =>
    if l.length ≤ 1 then l.headD 0
    else
      let h := (l.length + 1) / 2
      mlrComb op (mlrTree op fuel (l.take h)) (mlrTree op fuel (l.drop h))

/-- Element `i` of a member's bytes, BF16 widened to FP32 (R392). -/
def mlrElem (op : MlrOp) (bs : List Byte) (i : Nat) : Nat :=
  let w := mlrWidth op
  let n := leAt bs (w * i) w
  if w = 2 then n * 65536 else n

/-- The bytes that a reduction writes: `vals` the members' bytes in ascending order of member. -/
def mlrBytes (op : MlrOp) (len : Nat) (vals : List (List Byte)) : List Byte :=
  let size := if mlrInt op then mlrWidth op else 4
  (List.range (len / mlrWidth op)).flatMap fun i => leBytes size (mlrTree op 8 (vals.map fun v => mlrElem op v i))

/-- Insert a member's bytes in ascending order of member. -/
def insertVal (x : BitVec 7 × List Byte) : List (BitVec 7 × List Byte) → List (BitVec 7 × List Byte)
  | [] => [x]
  | y :: l => if y.1.toNat ≤ x.1.toNat then y :: insertVal x l else x :: y :: l

/-- A reduction whose members have all answered (R392): its output waits to be written by local stores. -/
def State.endMlr (s : State) (t : Trans) (op : MlrOp) (len : Nat) : State :=
  if !t.failed.isEmpty then s.endMembers t
  else
    let out := mlrBytes op len ((t.values.foldl (fun l x => insertVal x l) []).map (·.2))
    let s1 : State := { s with links := s.links.dropTrans t }
    s1.onOwner t.lid t.die t.ctx fun x =>
      { x with entries := x.entries.map fun (e : Entry) =>
          if e.seq = t.seq then { e with left := List.range out.length, got := out.zipIdx.map fun b => (b.2, b.1) } else e }

/-- A transaction to several members goes on, or ends when none is awaited. -/
def State.stepTrans (s : State) (old t : Trans) : State :=
  let s1 : State := { s with links := s.links.setTrans old t }
  if t.await.isEmpty then
    match t.op with
    | .mlr op _ n => s1.endMlr t op n
    | _ => s1.endMembers t
  else s1

/-- A member fails a transaction with a status: of a form to one member, or the owner of a three-party read, that is its
status; otherwise it is one of the members that failed. -/
def State.memberFails (s : State) (t : Trans) (m : BitVec 7) (status : Nat) : State :=
  match t.op with
  | .mlr .. =>
    s.stepTrans t { t with await := t.await.filter (· != m), failed := t.failed ++ [(m, BitVec.ofNat 8 status)] }
  | .rdelg c _ =>
    s.endTrans t status m.toNat 0 (.w (bitmapRow (s.links.groupMembers (fabGroup c))))
  | _ => s.endTrans t status m.toNat 0 t.op.noData

/-! ### Leaving -/

/-- The request of an entry leaves, or its status is there at once (Table 16.4 lines 1 to 4). None while every tag is
carried. -/
def State.sendRemote (s : State) (d : DieId) (c : CtxId) (e : Entry) (op : RemOp) (st : Bool) : Option State :=
  let x := (s.dieAt d).ctxAt c
  let asid := ((s.task? x.lid).map (·.asid)).getD 0
  let ms := s.parties op e.addr
  let emptyGroup := match op with | .rdelg g _ => (s.links.groupMembers (fabGroup g)).isEmpty | _ => ms.isEmpty
  if emptyGroup then some (s.fxEnd x.lid d c e.seq op st e.addr stAbsent 0 0 op.noData)
  else
    match s.links.freeTag with
    | none => none
    | some tag =>
      let rs := ms.map fun m => (m, s.firstLines asid m (fabWindow e.addr))
      let ok := rs.filterMap fun r => match r.2 with | .ok k => some (r.1, k) | .error _ => none
      let bad := rs.filterMap fun r => match r.2 with | .ok _ => none | .error f => some (r.1, BitVec.ofNat 8 f)
      let step := match op with | .amoOrd _ _ _ _ g _ => s.links.sstepNext.toList.getD g.toNat 0 | _ => 0
      let t : Trans :=
        { tag := tag, die := d, ctx := c, lid := x.lid, seq := e.seq, op := op, st := st, addr := e.addr,
          await := s.awaited op (ok.map (·.1)), failed := bad, values := [], reached := false, step := step,
          sentAt := (s.dieAt d).tick, hops := [] }
      let s1 : State := { s with links := { s.links with trans := s.links.trans ++ [t], nextTag := tag + 1 } }
      let s2 := s1.onCtxAt d c fun y =>
        { y with entries := y.entries.map fun (z : Entry) => if z.seq = e.seq then { z with sent := true } else z }
      match op, bad with
      | .mlr .., _ =>
        let s3 := ok.foldl (fun s r => s.emit (s.request t r.1 r.2)) s2
        some (if ok.isEmpty then s3.endMembers t else s3)
      | _, (m, r) :: _ => some (s2.memberFails t m r.toNat)
      | _, [] => some (ok.foldl (fun s r => s.emit (s.request t r.1 r.2)) s2)

/-! ### What comes back -/

/-- The data bytes of a packet: at most 8 of them travel in OPERAND (R395). -/
def Packet.bytes (p : Packet) : List Byte :=
  if p.length.toNat ≤ 8 then leBytes p.length.toNat p.operand.toNat else slice p.data 0 p.length.toNat

/-- A packet of the inbox that may be received: of a code, with no earlier packet of its sender before it (R63). -/
def State.inboxAt (s : State) (op : BitVec 6) (i : Nat) : Option Packet :=
  match s.links.inbox[i]? with
  | some p => if p.op == op && !(s.links.inbox.take i).any (fun q => q.src == p.src) then some p else none
  | none => none

/-- A packet leaves the inbox. -/
def State.dropInbox (s : State) (i : Nat) : State :=
  { s with links := { s.links with inbox := s.links.inbox.eraseIdx i } }

/-- The code that answers a form (Table 16.8). -/
def RemOp.answer : RemOp → Nat
  | .ld _ | .ldrow => 0x02
  | .st .. | .strow _ | .flag _ | .copy .. => 0x05
  | .amo .. => 0x07
  | .amoOrd .. => 0x0A
  | .rdel .. | .rdelg .. => 0x0D
  | .mlr .. => 0x0F
  | _ => 0

/-- May a member answer a transaction: it is awaited, or it is the owner or the consumer of a three-party read? -/
def Trans.expects (t : Trans) (m : BitVec 7) : Bool :=
  t.await.contains m ||
    (match t.op with
     | .rdel c _ => m == fabMember t.addr || m == fabMember c
     | .rdelg .. => m == fabMember t.addr
     | _ => false)

/-- The outstanding transaction that a packet answers; none when it came after a TIMEOUT (R385, R390). -/
def Links.answered (l : Links) (p : Packet) : Option Trans :=
  l.trans.find? fun t => t.tag == p.rtag && !t.await.isEmpty && t.expects p.src && t.op.answer == p.op.toNat

/-- The data result that a response carries (R386, R387). -/
def Trans.value (t : Trans) (p : Packet) : Value :=
  match t.op with
  | .ld false => .s (sext64 32 p.operand)
  | .ldrow => .w ⟨BitVec.ofNat 2048 (leAt p.data 0 256), 0⟩
  | .ld true | .amo .. => .s p.operand
  | _ => .s 0

/-- A response of one member delivers the data and the status of its transaction (R383). -/
def State.respond (s : State) (op : BitVec 6) (i : Nat) : Option State :=
  (s.inboxAt op i).map fun p =>
    let s1 := s.dropInbox i
    match s.links.answered p with
    | none => s1
    | some t => s1.endTrans t p.status.toNat (if p.status = 0 then 0 else p.src.toNat) 0 (t.value p)

/-- The answer to a fetched value releases the member that wrote it (Table 16.7 phase 3). -/
def Links.ackFetched (l : Links) (tag : BitVec 12) : Links :=
  { l with ssteps := l.ssteps.map fun (x : SStep) => { x with acks := x.acks.filter (· != tag) } }

/-- A response to a write or a flag (R386, R393); the answer to a fetched value is one too. -/
def State.writeResponse (s : State) (i : Nat) : Option State :=
  match s.inboxAt 0x05 i with
  | some p =>
    if s.links.ssteps.any fun x => x.acks.contains p.rtag then
      let s1 := s.dropInbox i
      some { s1 with links := s1.links.ackFetched p.rtag }
    else s.respond 0x05 i
  | none => none

/-- Is a status of a three-party read the owner's own refusal (Table 16.5)? -/
def ownerRefuses (t : Trans) (p : Packet) : Bool :=
  p.status.toNat == stKey || p.status.toNat == stRange ||
    (p.status.toNat == stAbsent && p.src == fabMember t.addr && p.operand.toNat == (fabMember t.addr).toNat)

/-- THREE_PARTY_STATUS (R389 to R391): the first status of a read ends it; a group delivery waits for every member, unless
its owner refuses. -/
def State.threePartyStatus (s : State) (i : Nat) : Option State :=
  (s.inboxAt 0x0D i).map fun p =>
    let s1 := s.dropInbox i
    match s.links.answered p with
    | none => s1
    | some t =>
      let m : BitVec 7 := if p.status = 0 then p.src else BitVec.ofNat 7 p.operand.toNat
      match t.op with
      | .rdelg c _ =>
        if ownerRefuses t p then
          s1.endTrans t p.status.toNat m.toNat 0 (.w (bitmapRow (s.links.groupMembers (fabGroup c))))
        else
          s1.stepTrans t { t with await := t.await.filter (· != m), reached := true,
                                  failed := if p.status = 0 then t.failed else t.failed ++ [(m, p.status)] }
      | _ => s1.endTrans t p.status.toNat (if p.status = 0 then 0 else m.toNat) 0 (.s 0)

/-- REDUCTION_VALUE (R392). -/
def State.reductionValue (s : State) (i : Nat) : Option State :=
  (s.inboxAt 0x0F i).map fun p =>
    let s1 := s.dropInbox i
    match s.links.answered p with
    | none => s1
    | some t =>
      if p.status = 0 then
        s1.stepTrans t { t with await := t.await.filter (· != p.src), values := t.values ++ [(p.src, p.bytes)] }
      else s1.memberFails t p.src p.status.toNat

/-- The owner has accepted an ordered atomic: it counts as performed and waits for the close of its superstep (R388, R423). -/
def State.ordAccepted (s : State) (t : Trans) : State :=
  let s1 : State := { s with links := s.links.setTrans t { t with await := [], hops := [] } }
  s1.onOwner t.lid t.die t.ctx fun x =>
    { x with entries := x.entries.map fun (e : Entry) => if e.seq = t.seq then { e with left := [] } else e }

/-- ORDERED_ATOMIC_STATUS (R388): the owner accepts or refuses an ordered atomic. -/
def State.ordStatus (s : State) (i : Nat) : Option State :=
  (s.inboxAt 0x0A i).map fun p =>
    let s1 := s.dropInbox i
    match s.links.answered p with
    | none => s1
    | some t => if p.status = 0 then s1.ordAccepted t else s1.endTrans t p.status.toNat p.src.toNat 0 (.s 0)

/-! ### No response -/

/-- 100 µs in ticks of a die. -/
def fabricWait : Nat := 200000

/-- The awaited members whose request has left its router: a request of a three-party read goes to the owner, one to the own member
leaves at once (R385). -/
def Trans.late (t : Trans) (own : BitVec 7) : List (BitVec 7) :=
  t.await.filter fun m =>
    let dst := match t.op with | .rdel .. | .rdelg .. => fabMember t.addr | _ => m
    dst == own || t.hops.any fun o => o.1 == dst

/-- The statuses of the members that a group form still waits for when their time is over. -/
def Trans.timedOut (t : Trans) (ms : List (BitVec 7)) : Trans :=
  { t with await := t.await.filter fun m => !ms.contains m, failed := t.failed ++ ms.map fun m => (m, BitVec.ofNat 8 stTimeout) }

/-- FABRIC_TIMEOUT (Table 16.4 line 6): no response within 100 µs of the request leaving its router. Of a three-party read WHO is the consumer when the owner
was reached and the owner otherwise; whether a distant owner was reached is a free value (log 8). -/
def State.fabricTimeout (s : State) (k : Nat) : Option State :=
  match s.links.trans[k]? with
  | none => none
  | some t =>
    let ms := t.late s.links.memberSet
    if ms.isEmpty || ((s.dieAt t.die).tick - t.sentAt).toNat < fabricWait then none
    else
      let b := fabMember t.addr
      let hit := t.reached || (b != s.links.memberSet && (Config.freeWord s.fresh).getLsbD 0)
      let s1 : State := { s with fresh := s.fresh + 1 }
      match t.op with
      | .mlr .. => some (s.stepTrans t (t.timedOut ms))
      | .rdelg .. => some (if hit then s1.stepTrans t (t.timedOut ms) else s1.memberFails t b stTimeout)
      | .rdel c _ => some (s1.endTrans t stTimeout (if hit then fabMember c else b).toNat 0 (.s 0))
      | _ => some (s.memberFails t b stTimeout)

/-- Every route to a member is lost: its outstanding transactions end with LINK (R58); an ordered atomic that is accepted ends with
its superstep (R388). Of a group delivery whose owner was reached, the members that have not acknowledged fail (R391). -/
def State.linkLost (s : State) (m : BitVec 7) : State :=
  s.links.trans.foldl (fun s t =>
    match t.op with
    | .rdelg .. =>
      if fabMember t.addr != m || t.await.isEmpty then s
      else if t.reached then
        s.stepTrans t { t with await := [], failed := t.failed ++ t.await.map fun a => (a, BitVec.ofNat 8 stLink) }
      else s.memberFails t m stLink
    | _ => if t.await.contains m then s.memberFails t m stLink else s) s

/-- READ_RESPONSE (R383). -/
def execReadResponse (i : Nat) (s : State) : Host.Outcome State Fault Refusal := enabled "READ_RESPONSE" (s.respond 0x02 i)

/-- ATOMIC_RESPONSE (R387). -/
def execAtomicResponse (i : Nat) (s : State) : Host.Outcome State Fault Refusal :=
  enabled "ATOMIC_RESPONSE" (s.respond 0x07 i)

/-- ORDERED_ATOMIC_STATUS (R388). -/
def execOrderedAtomicStatus (i : Nat) (s : State) : Host.Outcome State Fault Refusal :=
  enabled "ORDERED_ATOMIC_STATUS" (s.ordStatus i)

/-- THREE_PARTY_STATUS (R390). -/
def execThreePartyStatus (i : Nat) (s : State) : Host.Outcome State Fault Refusal :=
  enabled "THREE_PARTY_STATUS" (s.threePartyStatus i)

/-- REDUCTION_VALUE (R392). -/
def execReductionValue (i : Nat) (s : State) : Host.Outcome State Fault Refusal :=
  enabled "REDUCTION_VALUE" (s.reductionValue i)

/-- FABRIC_TIMEOUT (R385). -/
def execFabricTimeout (k : Nat) (s : State) : Host.Outcome State Fault Refusal := enabled "FABRIC_TIMEOUT" (s.fabricTimeout k)

end Sys2Proof.Machine
end

