-- ==== Sys2Proof/Machine/Issue.lean ====
section
/-! DEFINITION. What a die does in its next cycle: frozen cycles (R18), faults at a boundary (R273, R274), the timed context
(R144, R160, R170), the selection of a free context (R145, R146), the opening of a group (R288, R271, R283) and what it waits
for (R145, R157). -/

namespace Sys2Proof.Machine

/-- What a cycle of the current die does: a move runs in a state, or no move runs and the state is the next one. -/
inductive NextMove where
  | run (i : Instr) (s : State)
  | idle (s : State)

/-! ### Faults at a boundary -/

/-- May a context take a deferred fault now (R273, R274)? The boundary of a yielding, a stalled or an aligning context is the point at
which its next group would issue (R123, R160, R271); a machine check is taken by a held context too, and so is what stops a victim
whose save is not complete (R143). -/
def Ctx.takesDeferred (c : Ctx) (fc : Nat) (code : BitVec 8) (victim : Bool) : Bool :=
  c.kind != CtxKind.none && c.grp.isNone &&
    (match c.status with
     | .held => fltKind code == .machine || victim
     | .retired => fltKind code == .machine
     | .yielding k | .stalled k => decide (k ≤ fc)
     | .aligning _ _ => false
     | _ => true)

/-- Is the context one that a pre-emption stopped and whose save is not complete (R143)? -/
def State.victimCtx (s : State) (c : CtxId) : Bool :=
  match s.task? (s.die.ctxAt c).lid with
  | some t => t.st == .saving && !t.heldCtxs.contains (s.turn, c)
  | none => false

/-- A context takes the first fault that waits for its boundary; a fault of the queues that came with it is found again when
its entry is performed again (R273). -/
def State.boundaryFault (s : State) (c : CtxId) : State :=
  match (s.die.ctxAt c).deferred with
  | [] => s
  | f :: l =>
    if (s.die.ctxAt c).takesDeferred ((s.die.ctxAt c).fc s.die.scy) f.code (s.victimCtx c) then
      (s.onCtxAt s.turn c fun x =>
        { (s.die.atNext x).noteGuards with deferred := l.filter fun y => y.queue == 2 || !x.entries.any fun e => e.seq == y.seq }).deliver
          s.turn c ⟨f.code, f.reason, f.addr⟩ f.cnt f.queue f.seq
    else s

/-- Every context of the die takes the fault that waits for its boundary. -/
def State.boundaryFaults (s : State) : State := allCtxs.foldl State.boundaryFault s

/-! ### The timed context -/

/-- FC of the timed context of a die; 0 without one. -/
def Die.fcNow (d : Die) : Nat :=
  match d.timedCid with
  | some c => (d.ctxAt c).fc d.scy
  | none => 0

/-- Is the estimate of a partner's FC at least a count (R50, R164)? -/
def Die.estReaches (d : Die) (o : DieId) (next : Nat) : Bool :=
  let p := d.partners.get o
  decide ((next : Int) ≤ (d.fcNow : Int) + p.offset + (p.waited : Nat))

/-- Has a partner left the fold before this count: it issues no ALIGN for it (R161)? -/
def State.partnerGone (s : State) (o : DieId) (next : Nat) : Bool :=
  match (s.dieAt o).timedCid with
  | some c => (match ((s.dieAt o).ctxAt c).exitAt with | some e => decide (e + 1 < next) | none => false)
  | none => true

/-- Is an ALIGN of the fold at a count met on a die: every partner's estimate has reached it, and of an ALIGN that the program places
no partner is gone (R161, R164, R170)? -/
def State.alignMet (s : State) (d : DieId) (next : Nat) (implicit : Bool) : Bool :=
  match (s.dieAt d).timedCid.bind fun c => s.task? ((s.dieAt d).ctxAt c).lid with
  | some t => !t.multiDie || (foldDies t.fold).all fun o =>
      o == d || ((s.dieAt d).estReaches o next && (implicit || !s.partnerGone o next))
  | none => true

/-- Are all ALIGNs met that a context has to perform at a count or before it? -/
def State.alignsMet (s : State) (d : DieId) (x : Ctx) (next : Nat) : Bool :=
  let l := x.alignAt.filter fun a => decide (a.1 ≤ next)
  if l.isEmpty then s.alignMet d next false else l.all fun a => s.alignMet d a.1 a.2

/-- ALIGNs up to a count are performed. -/
def Ctx.aligned (c : Ctx) (next : Nat) : Ctx :=
  { c with alignAt := c.alignAt.filter fun a => decide (next < a.1) }

/-- A partner's stop stops the timed context of a die at its boundary, at its own stop count (R169): once for one fold stop. -/
def State.joinStop (s : State) (t : Task) (d : DieId) (c : CtxId) : State :=
  let s := s.onDieAt d fun x => { x with stopDue := false }
  if t.stopCounts.any (fun x => x.1 == d) then s
  else
    let f := (s.dieAt d).fcNow
    let s1 := (s.onDieAt d fun x => x.stopMember c).onCtxAt d c Ctx.hold
    (s1.onTask t.lid fun t => { t with stopCounts := t.stopCounts ++ [(d, f)] }).holdFree t

/-- A yield or a stall ends at its count. -/
def Ctx.wakeAt (c : Ctx) (fc : Nat) : Ctx :=
  match c.status with
  | .yielding k | .stalled k => if k ≤ fc then { c with status := .run } else c
  | _ => c

/-- The mode of the timed context in this cycle: a yield or a stall ends at its count (R123, R160), a partner's stop that waited for
a stall is taken (R169), and an ALIGN that is not met holds the context (R164, R170). -/
def State.timedMode (s : State) (c : CtxId) : State :=
  if (s.die.ctxAt c).inh then s
  else
    let fc := (s.die.ctxAt c).fc s.die.scy
    let s := s.onCtxAt s.turn c fun x => x.wakeAt fc
    let x := s.die.ctxAt c
    if x.status != .run then s
    else
      match s.die.stopDue, s.task? x.lid with
      | true, some t => s.joinStop t s.turn c
      | _, _ =>
        match (x.alignAt.filter fun a => decide (a.1 ≤ fc)).map (·.1) with
        | [] => s
        | a :: l =>
          let top := l.foldl max a
          s.onCtxAt s.turn c fun x => if s.alignsMet s.turn x top then x.aligned top else { x with status := .aligning top 0 }

/-- The magnitudes that reach AMAX at a count (R259). -/
def Ctx.amaxNow (c : Ctx) (n : Nat) : List (Fin 4 × Bool × BitVec 32) :=
  c.pend.filterMap fun p =>
    match p.eff with
    | .amax k nan mag => if p.due = n then some (k, nan, mag) else none
    | _ => none

/-- Apply what is due at the count of a context of the die, with the flags and magnitudes of that count. -/
def State.settled (s : State) (c : CtxId) : State × Flags × List (Fin 4 × Bool × BitVec 32) :=
  let x := s.die.ctxAt c
  let n := x.countAt s.die.scy
  let (d, f) := s.die.settle c n
  (s.onDie fun _ => d, f, x.amaxNow n)

/-- Does the timed context issue in this cycle (R144)? -/
def Ctx.timedIssues (c : Ctx) : Bool := c.timedNow && c.status == .run

/-! ### Opening a group -/

/-- The context's place, past the pads (R288). -/
def State.atGroup (s : State) (c : CtxId) : State :=
  let s := s.onDie fun d => { d with issuing := c }
  s.onCtx fun x => s.die.atNext x

/-- Does a breakpoint register match the place of the issuing context (R283)? -/
def State.breakpoint (s : State) : Bool :=
  let x := s.ctx
  !x.dbgSkip && !s.sealedCtx x &&
    (List.range 4).any fun k =>
      let v := s.die.dbgBp.toList.getD (4 * s.die.issuing.val + k) 0
      bit v 63 && fld v 0 16 == x.bundle % 2 ^ 16 && fld v 16 3 == x.slot

/-- Is single step armed for the issuing context (R283)? -/
def State.stepping (s : State) : Bool :=
  bit (s.die.dbgCtl.toList.getD s.die.issuing.val 0) 0 && !s.sealedCtx s.ctx

/-- The moves of the open group that take effect, by their trigger port. -/
def State.effective (s : State) (p : BitVec 9) : Bool :=
  s.group.left.any fun x => (moveFields x.word).dst == p && s.takes (moveFields x.word).guard

/-- The channel checks of R271: two writes by address generators in one group (R358), one far lane under both gather reads
(R361). A context under the free column has neither (R154, R286). -/
def State.channelClash (s : State) : Bool :=
  let lanes (r : BitVec 9) := (s.die.wall.far r.toNat true).map FarWord.lane
  s.ctx.timedNow && ((s.effective 0x1A7 && s.effective 0x1AA) ||
    (s.effective 0x1A1 && s.effective 0x1A4 && (lanes s.group.g0).any fun l => (lanes s.group.g1).contains l))

/-- Open the group at the place of the issuing context: the state with the group open, or the fault that the whole group
takes (R271, R283, R288, R291). A re-entry outside CODE breaks R288; issue that runs on past CODE takes what stands there (log 51). -/
def State.openAt (s : State) (nf : Flags) (na : List (Fin 4 × Bool × BitVec 32)) : Except Flt State :=
  let d := s.die
  let x := s.ctx
  if x.reentry && !x.inCode then .error ⟨0x01, 2, 0⟩
  else if s.breakpoint then .error ⟨0x50, 2, 0⟩
  else
    let (slots, next) := collect d.bundle x.issueEnd 8 x.bundle x.slot
    match groupReason d.bundle slots next, next with
    | some r, _ => .error ⟨0x01, r, 0⟩
    | none, none => .error ⟨0x01, 2, 0⟩
    | none, some q =>
      let g := d.groupOf d.issuing slots q.1 q.2 nf na
      let s1 := s.onCtx fun x => { x with grp := some g, dbgSkip := false, stepDue := s.stepping }
      if s1.channelClash then .error ⟨0x07, 0, 0⟩ else .ok s1

/-- The rest of an interrupted group issues at its count, its guards read from GUARDS (R269, R272), its literal from the bundle at
which it re-enters (R287). -/
def State.reopen (s : State) (g : GroupCtx) : State :=
  s.onCtx fun x => { x with grp := some { g with conds := x.guards, hold := s.die.fcHolds, lit := s.die.litOf x.bundle }, reent := none,
                            stepDue := s.stepping }

/-- The next group of a context of the die, opened. -/
def State.openNext (s : State) (c : CtxId) (nf : Flags) (na : List (Fin 4 × Bool × BitVec 32)) :
    State × Except Flt State :=
  match (s.die.ctxAt c).resumes with
  | some g =>
    let s := s.onDie fun d => { d with issuing := c }
    (s, .ok (s.reopen g))
  | none =>
    let s := s.atGroup c
    (s, s.openAt nf na)

/-- The whole group of the issuing context takes a fault before it issues (R271, R283). -/
def State.groupFault (s : State) (f : Flt) : State :=
  let x := s.ctx
  let s1 := s.onCtx fun x =>
    { x.noteGuards with dbgSkip := f.code == 0x50 }
  (s1.deliver s.turn s.die.issuing f (x.baseCount s.die.scy) 2 0).endCycle x.timedNow s.die.fcHolds

/-- Run a slot of the open group. -/
noncomputable def State.runSlot (s : State) (x : Slot) : NextMove :=
  match decodeMove x.word with
  | .ok i => .run i s
  | .error _ => .idle (s.takeFault fltPort false)

/-- A group at the bundle of TRIG 3 fires the trace trigger (Table 11.8); a group of a sealed VF leaves no trace. -/
def State.traceGroup (s : State) : State :=
  if fld s.die.trcCtl 8 3 == 3 && fld s.die.trcTrig 0 16 == s.ctx.bundle % 2 ^ 16 && !s.sealedCtx s.ctx then
    s.traceTrigger s.turn s.die.issuing s.ctx.place
  else s

/-- A context of the die issues its next group. -/
noncomputable def State.issueGroup (s : State) (c : CtxId) (nf : Flags) (na : List (Fin 4 × Bool × BitVec 32)) : NextMove :=
  match s.openNext c nf na with
  | (s1, .error f) => .idle (s1.groupFault f)
  | (_, .ok s2) =>
    match s2.group.left with
    | x :: _ => s2.traceGroup.runSlot x
    | [] => .idle s2.endGroup

/-! ### What a group waits for -/

/-- Does a trigger with this value wait for something other than its source (R327, R329, R397)? -/
def State.trigWaits (s : State) (p : BitVec 9) (v : Value) : Bool :=
  match p.toNat with
  | 0x0B7 => decide ((valWord v).toNat < 64) && s.curToken (valWord v).toNat != .set
  | 0x0BC => decide ((valWord v).toNat < 2) && !s.barrierOpen (valWord v).toNat
  | 0x0FA =>
    match s.takeLatch .fxa with
    | some (x, _) => (s.streamNoFaults (valWord x)).isEmpty && s.noCredit (BitVec.ofNat 4 (valWord x).toNat)
    | none => false
  | _ => false

/-- The open group at one of its slots: with the literal of the slot's bundle (R287). -/
def State.atSlot (s : State) (x : Slot) : State := s.onGroup fun g => { g with lit := s.die.litOf x.bundle }

/-- Does a slot of the open group wait (R145, R157, R397)? -/
def State.slotWaits (s : State) (x : Slot) : Bool :=
  let s := s.atSlot x
  let f := moveFields x.word
  if !s.takes f.guard then false
  else
    match decodeSrc f.imm f.src with
    | none => false
    | some src =>
      match s.readSrc src with
      | none => (s.srcFaults src).isEmpty
      | some (v, _) =>
        match decodeDst f.dst with
        | some dst => (s.dstFaults dst v).isEmpty && s.dstWaits dst
        | none => s.trigWaits f.dst v

/-- The queue that a trigger enters with this value (R203, R206, R323, Table 16.1). -/
def State.trigSide (s : State) (p : BitVec 9) (v : Value) : Option QSide :=
  let n := p.toNat
  if (0x091 ≤ n ∧ n ≤ 0x097) ∨ n = 0x09C then some .load
  else if 0x098 ≤ n ∧ n ≤ 0x09D then some .store
  else if n = 0x09E then
    match s.takeLatch .lsm with
    | some (m, _) => if rowEmpty (valRow m) then none else some .store
    | none => none
  else if 0x0A0 ≤ n ∧ n ≤ 0x0B3 then some .both
  else if n = 0x1E6 then if queuedReg (valWord v).toNat then some .load else none
  else if n = 0x1E7 then
    match s.takeLatch .sysri with
    | some (i, _) => if queuedReg (valWord i).toNat then some .store else none
    | none => none
  else if n = 0x1E9 then some .load
  else fxSide p

/-- The queue that a slot of the open group enters. -/
def State.slotSide (s : State) (x : Slot) : Option QSide :=
  let s := s.atSlot x
  let f := moveFields x.word
  if !s.takes f.guard then none
  else
    match (decodeSrc f.imm f.src).bind s.readSrc with
    | some (v, _) => if (decodeDst f.dst).isSome then none else s.trigSide f.dst v
    | none => none

/-- Does the open group of a context under the free column wait (R145, R323)? -/
def State.groupWaits (s : State) : Bool :=
  let sides := s.group.left.filterMap s.slotSide
  let loads := (sides.filter fun x => x != .store).length
  let stores := (sides.filter fun x => x != .load).length
  s.group.left.any s.slotWaits ||
    (loads != 0 && decide (64 < s.ctx.loadEntries + loads)) || (stores != 0 && decide (64 < s.ctx.storeEntries + stores))

/-- Is the context one that the free-issue cycles select from (R145, R268)? -/
def Ctx.freeNow (c : Ctx) : Bool :=
  c.status == .run && (match c.kind with | .free => true | .timed => c.inh | .none => false)

/-- Could the next group of a context issue, as things stand? -/
def State.couldIssue (s : State) (c : CtxId) : Bool :=
  match ((s.settled c).1.openNext c 0 []).2 with
  | .error _ => true
  | .ok s1 => !s1.groupWaits

/-- Whether a context is blocked in this cycle (R145): it is ready again in the cycle after its wake condition holds. -/
def Wake.next (w : Wake) (could : Bool) : Wake :=
  if !could then .asleep
  else match w with
    | .asleep => .waking
    | _ => .awake

/-- Note which contexts of the die are blocked. -/
def State.markWake (s : State) (c : CtxId) : State :=
  if (s.die.ctxAt c).freeNow then
    let could := s.couldIssue c
    s.onCtxAt s.turn c fun x => { x with wake := x.wake.next could }
  else s.onCtxAt s.turn c fun x => { x with wake := .awake }

/-- Is a context of the die ready (R145)? -/
def State.readyAt (s : State) (c : CtxId) : Bool :=
  (s.die.ctxAt c).freeNow && (s.die.ctxAt c).wake == .awake && s.couldIssue c

/-- The ready context that follows another in ascending order with wrap-around (R145). -/
def State.nextReady (s : State) (c : CtxId) : Option CtxId := [c + 1, c + 2, c + 3].find? s.readyAt

/-- A context becomes current (R145, R146). -/
def State.setCurrent (s : State) (c : Option CtxId) : State :=
  let s := s.onDie fun d => { d with current := c }
  match c with
  | some c => s.onCtxAt s.turn c fun x => { x with freeRun := 0 }
  | none => s

/-! ### Streams that block (R398) -/

/-- The stream on which a slot of the open group is blocked (R398). -/
def State.slotStream (s : State) (x : Slot) : Option (BitVec 4) :=
  let f := moveFields x.word
  let src := decodeSrc f.imm f.src
  if !s.slotWaits x then none
  else if (src.bind s.readSrc).isSome then
    match decodeDst f.dst with
    | some (.stream n) => some n
    | some _ => none
    | none => if f.dst == 0x0FA then (s.takeLatch .fxa).map fun x => BitVec.ofNat 4 (valWord x.1).toNat else none
  else
    match src with
    | some (.stream n) => some n
    | some (.queue .fxq) =>
      match s.ctx.fxq with
      | r :: _ => s.links.trans.findSome? fun t =>
          match t.op with
          | .spop n => if t.lid == s.ctx.lid && t.die == s.turn && t.ctx == s.die.issuing && t.seq == r.seq then some n
                       else none
          | _ => none
      | [] => none
    | _ => none

/-- The stream on which the next group of a context is blocked (R398). -/
def State.blockedStream (s : State) (c : CtxId) : Option (BitVec 4) :=
  if (s.die.ctxAt c).freeNow then
    match ((s.settled c).1.openNext c 0 []).2 with
    | .error _ => none
    | .ok s1 => s1.group.left.findSome? s1.slotStream
  else none

/-- A context's blocked time begins in the tick in which its next group first blocks on a stream (R398). -/
def State.markBlocked (s : State) (c : CtxId) : State :=
  let b := s.blockedStream c
  let tick := s.die.tick
  s.onCtxAt s.turn c fun x =>
    { x with blocked := b.map fun n =>
        match x.blocked with
        | some (m, t, _) => (n, if m = n then t else tick, false)
        | none => (n, tick, false) }

/-! ### A cycle -/

/-- The current context issues; the groups it issues while another free context is ready are counted (R146). -/
noncomputable def State.issueFree (s : State) (c : CtxId) : NextMove :=
  let others := (s.nextReady c).isSome
  let s := if others then s.onCtxAt s.turn c fun x => { x with freeRun := x.freeRun + 1 } else s
  let (s, nf, na) := s.settled c
  s.issueGroup c nf na

/-- No context issues in this cycle. -/
def State.emptyCycle (s : State) : State := s.endCycle false s.die.fcHolds

/-- A free-issue cycle (R145): the current context issues when it is ready; a blocked one loses the cycle and the next ready
context becomes current; without a current context the first ready one becomes current and issues. -/
noncomputable def State.freeIssue (s : State) : NextMove :=
  let pick (l : List CtxId) : NextMove :=
    match l.find? s.readyAt with
    | some c => (s.setCurrent (some c)).issueFree c
    | none => .idle (s.setCurrent none).emptyCycle
  match s.die.current with
  | some c =>
    if (s.die.ctxAt c).freeNow then
      if s.readyAt c then s.issueFree c else .idle (s.setCurrent (s.nextReady c)).emptyCycle
    else pick [c + 1, c + 2, c + 3]
  | none => pick allCtxs

/-- TRIG 2: the trace trigger fires at a tick (Table 11.8); the marker names the issuing context, but for one of a sealed VF. -/
def State.traceTick (s : State) : State :=
  if fld s.die.trcCtl 8 3 == 2 && decide (s.die.trcTrig ≤ s.die.tick) then
    if s.sealedCtx s.ctx then s.traceTrigger s.turn 0 (0, 0) else s.traceTrigger s.turn s.die.issuing s.ctx.place
  else s

/-- The writes of the timed context that are due at its count, also where it holds the count at ALIGN (R214). -/
def State.timedWrites (s : State) : State := s.onDie Die.timedWrites

/-- The cycle's start: flits leave the ports, trace, writes that are due, faults at boundaries, the timed context's mode. -/
def State.cycleStart (s : State) : State :=
  let s := s.pump.traceTick.timedWrites.boundaryFaults
  let s := allCtxs.foldl State.markWake (allCtxs.foldl State.markBlocked s)
  if s.die.frozen then s
  else
    match s.die.timedCid with
    | some c => s.timedMode c
    | none => s

/-- A cycle of the current die (R144). -/
noncomputable def State.startCycle (s : State) : NextMove :=
  let s := s.cycleStart
  if s.die.frozen then .idle (s.endCycle true false)
  else
    match s.die.timedCid with
    | none => s.freeIssue
    | some c =>
      let (s, nf, na) := if (s.die.ctxAt c).fcHolds then (s, 0, []) else s.settled c
      if (s.die.ctxAt c).timedIssues then s.issueGroup c nf na else s.freeIssue

/-- Does the die's clock run: the package has power and the die is out of reset (R17)? -/
def State.clocked (s : State) : Bool := s.clockedAt s.turn

/-- What happens next on the current die: the next slot of its open group, or its next cycle. -/
noncomputable def State.nextMove (s : State) : NextMove :=
  if !s.clocked then .idle s.nextTurn
  else
    match s.ctx.grp with
    | none => s.startCycle
    | some g =>
      match g.left with
      | x :: _ => s.runSlot x
      | [] => .idle s.endGroup

end Sys2Proof.Machine
end

