-- ==== Sys2Proof/Machine/Walk.lean ====
section
/-! DEFINITION. Translation as a die's queues and copy engine use it: pinned pages (R189), cached translations and fresh walks
(R187, R188), and device memory read and written through them. -/

namespace Sys2Proof.Machine

/-- The pages that a task has pinned on a die, with the translations they had then (R189). -/
def Task.pins (t : Task) (d : DieId) : List TlbEntry := (t.onDie d).pinMap

/-- The leaf of a page that some task of an address space has pinned on a die: until the pin ends the die uses it (R189). -/
def State.pinnedLeaf (s : State) (asid : BitVec 8) (d : DieId) (va : Nat) : Option TlbEntry :=
  s.sched.tasks.findSome? fun t => (t.pins d).find? fun e => e.hits asid va

/-- The leaf that a die uses for a page of a task: the pinned one; else a cached one or a fresh walk, and which of the two is a
free value (R187, R188, log 8). -/
def State.page (s : State) (t : Task) (d : DieId) (va : Nat) : Except (BitVec 4) TlbEntry :=
  match s.pinnedLeaf t.asid d va with
  | some e => .ok e
  | none =>
    match (s.dieAt d).tlb.find? fun e => e.hits t.asid va with
    | some e => if bit (Config.freeWord s.fresh) 0 then .ok e else s.walk t.asid va
    | none => s.walk t.asid va

/-- The table entry that an uncorrectable error withholds from the walk of a page of a task, when the die walks for it (R15). -/
def State.pageBad (s : State) (t : Task) (d : DieId) (va : Nat) : Option Nat :=
  match s.pinnedLeaf t.asid d va with
  | some _ => none
  | none =>
    match (s.dieAt d).tlb.find? fun e => e.hits t.asid va with
    | some _ => if bit (Config.freeWord s.fresh) 0 then none else s.walkBad t.asid va
    | none => s.walkBad t.asid va

/-- The first such entry of the pages of some addresses. -/
def State.pagesBad (s : State) (t : Task) (d : DieId) (l : List Nat) : Option Nat := l.findSome? (s.pageBad t d)

/-- Translate and check one byte on a die (R186): its physical address, or the fault code and reason. -/
def State.translateOn (s : State) (t : Task) (d : DieId) (acc : Acc) (va : Nat) : Except (BitVec 8 × BitVec 4) Nat :=
  match s.page t d va with
  | .error r => .error (0x20, r)
  | .ok e =>
    match s.pagePerm t.kslot acc e (e.phys va) with
    | some r => .error (0x21, r)
    | none => .ok (e.phys va)

/-- The die keeps the leaves of the pages that it has walked, at most 8,192 of them (R187); a free value has been drawn. -/
def State.learn (s : State) (t : Task) (d : DieId) (va n : Nat) : State :=
  let s1 := (pagePieces va n).foldl (fun s p =>
    match s.walk t.asid p.1 with
    | .ok e => s.onDieAt d fun x => { x with tlb := (e :: x.tlb.filter fun y => !(y == e)).take 8192 }
    | .error _ => s) s
  { s1 with fresh := s1.fresh + 1 }

/-- Read bytes of device memory as a die translates them; bytes of an unmapped page read 0 (callers check first). -/
def State.readDev (s : State) (t : Task) (d : DieId) (va n : Nat) : List Byte :=
  (pagePieces va n).flatMap fun a =>
    match s.page t d a.1 with
    | .ok e => s.hbm.readN (e.phys a.1) a.2
    | .error _ => List.replicate a.2 0

/-- Write bytes of device memory as a die translates them; the leaves are those of the state in which the write begins. -/
def State.writeDev (s : State) (t : Task) (d : DieId) (va : Nat) (bs : List Byte) : State :=
  (pagePieces va bs.length).foldl (fun r a =>
    match s.page t d a.1 with
    | .ok e => r.hbmPut (e.phys a.1) (slice bs (a.1 - va) a.2)
    | .error _ => r) s

/-- The physical address of the first byte of a range that an uncorrectable error withholds (R15). -/
def State.badByte (s : State) (t : Task) (d : DieId) (va n : Nat) : Option Nat :=
  (pagePieces va n).findSome? fun p =>
    s.pageBad t d p.1 <|> match s.page t d p.1 with
    | .ok e => if s.hbmBad (e.phys p.1) p.2 then some (e.phys p.1) else none
    | .error _ => none

end Sys2Proof.Machine
end

