-- ==== Sys2Proof/Machine/Owner.lean ====
section
/-! DEFINITION. The owner's side of the fabric (02 R71 to R75, Table 02.14; 16 R386 to R393, R396, R397): checks, accesses sector by
sector, deliveries, answers, and stream rows. -/

namespace Sys2Proof.Machine

/-! ### Windows -/

/-- The address space that owns a window (Table 02.13). -/
def State.winAsid (s : State) (w : Nat) : BitVec 8 := BitVec.ofNat 8 (fld (s.links.windowWord w 0) 8 8)

/-- The running tasks of an address space that hold a context on a die (R72). -/
def State.winTasks (s : State) (asid : BitVec 8) (d : DieId) : List Task :=
  s.sched.tasks.filter fun t =>
    t.asid == asid && t.st != .saved && t.ctxs.any fun p => p.1 == d

/-- The key slot of an address space: of a sealed function its own, else 0 (R85, log 13). -/
def State.asidSlot (s : State) (asid : BitVec 8) : BitVec 4 :=
  let fn := s.asidFn asid
  if s.sealed fn then (s.fn fn).slot else 0

/-- The router of the package that a packet came to. -/
def Packet.router (p : Packet) : DieId := ⟨p.die.toNat % 3, by omega⟩

/-- The naturally aligned 32-byte sectors' parts of `[a, a + n)`: address and length (R202). -/
def sectorCuts (a n : Nat) : List (Nat × Nat) :=
  if n = 0 then []
  else (List.range ((a + n - 1) / 32 - a / 32 + 1)).map fun i =>
    let lo := max a ((a / 32 + i) * 32)
    (lo, min (a + n) ((a / 32 + i + 1) * 32) - lo)

/-- The scratchpad pieces of an inbound access: address bits [31:30] 0 (R176), bounds of the running tasks of the window's address space, and engine 3's sets
(R72, R178, R198). -/
def State.spPieces (s : State) (asid : BitVec 8) (write : Bool) (base off n : Nat) : Option (List Piece) :=
  let d := spDie 0 base
  let a := spOff base + off
  let ts := s.winTasks asid d
  let ok := decide (base < 2 ^ 30) && (sectorCuts a n).all fun c => ts.any fun t => s.unitOk t d (c.1 / 256) && s.setAllows t d 3 write (c.1 / 256)
  if ok then some ((sectorCuts a n).map fun c => ⟨c.1 - a, c.2, d.val, c.1⟩) else none

/-- The leaf that some die holds pinned for a page of an address space (R189). -/
def State.pinnedAny (s : State) (asid : BitVec 8) (va : Nat) : Option TlbEntry :=
  allDies.findSome? fun d => s.pinnedLeaf asid d va

/-- Translate and check a byte of an inbound access: through a pinned page's translation where a pin holds it (R189). -/
def State.inboundTo (s : State) (asid : BitVec 8) (acc : Acc) (va : Nat) : Except (BitVec 8 × BitVec 4) Nat :=
  match s.pinnedAny asid va with
  | none => s.translate asid (s.asidSlot asid) acc va
  | some e =>
    match s.pagePerm (s.asidSlot asid) acc e (e.phys va) with
    | some r => .error (0x21, r)
    | none => .ok (e.phys va)

/-- A run of physical bytes: (space, base, length), 0 to 2 a scratchpad, 3 the HBM, 4 + m the memory of another member m, whose
translation this package does not know. -/
abbrev Run := Nat × Nat × Nat

/-- Do two runs share a byte? -/
def Run.meets (a b : Run) : Bool := a.1 == b.1 && overlaps a.2.1 a.2.2 b.2.1 b.2.2

/-- The physical runs of `n` bytes from a fabric address at a member: of the own package through its window. -/
def State.fabricRuns (s : State) (m : BitVec 7) (a : Word) (n : Nat) : List Run :=
  if m != s.links.memberSet then [(4 + m.toNat, 0, 1)]
  else
    let w := fabWindow a
    let base := fld (s.links.windowWord w 1) 0 48
    if bit (s.links.windowWord w 0) 5 then [((spDie 0 base).val, spOff base + fabOffset a, n)]
    else (sectorCuts (base + fabOffset a) n).filterMap fun c =>
      match s.inboundTo (s.winAsid w) .rd c.1 with
      | .ok pa => some (3, pa, c.2)
      | .error _ => none

/-- The pieces of an inbound access to device memory: every page mapped, with the rights and the key slot (R72, R186). -/
def State.devPieces (s : State) (asid : BitVec 8) (acc : Acc) (a n : Nat) : Option (List Piece) :=
  (sectorCuts a n).foldr (fun c l =>
    match l, (if 2 ^ 48 ≤ c.1 then .error (0x20, reasonBadTag) else s.inboundTo asid acc c.1) with
    | some l, .ok pa => some (⟨c.1 - a, c.2, 3, pa⟩ :: l)
    | _, _ => none) (some [])

/-- The device memory that an inbound request reaches: base and length. -/
def State.devRange (s : State) (p : Packet) : Option (Nat × Nat) :=
  let w := fabWindow p.taddr
  if bit (s.links.windowWord w 0) 5 then none
  else some (fld (s.links.windowWord w 1) 0 48 + fabOffset p.taddr, p.length.toNat)

/-- The table entry that an uncorrectable error withholds from the translations of an inbound request (R15). -/
def State.requestBad (s : State) (p : Packet) : Option Nat :=
  (s.devRange p).bind fun r =>
    ((pagePieces r.1 r.2).filter fun a => (s.pinnedAny (s.winAsid (fabWindow p.taddr)) a.1).isNone).findSome? fun a =>
      s.walkBad (s.winAsid (fabWindow p.taddr)) a.1

/-- The outcome of the owner's checks (Table 02.14): a status, with true where event 0x31 is posted (R72), or the pieces of the
access. -/
def State.ownerCheck (s : State) (p : Packet) (right : Nat) (acc : Acc) : Except (Nat × Bool) (List Piece) :=
  let w := fabWindow p.taddr
  let off := fabOffset p.taddr
  let n := p.length.toNat
  let w0 := s.links.windowWord w 0
  let base := fld (s.links.windowWord w 1) 0 48
  let row := n == 256 && (p.op == 0x01 || p.op == 0x03)
  if p.dst != s.links.memberSet || (s.links.leaving && p.src != p.dst) then .error (stAbsent, false)
  else if !bit w0 0 || fld w0 16 32 == 0 || fld w0 16 32 != p.key.toNat || !bit w0 right then .error (stKey, false)
  else if fld (s.links.windowWord w 2) 0 48 < off + n || (row && (base + off) % 256 != 0) then .error (stRange, false)
  else
    match (if bit w0 5 then s.spPieces (s.winAsid w) (acc != .rd) (base % 2 ^ 32) off n
           else s.devPieces (s.winAsid w) acc (base + off) n) with
    | some l => .ok l
    | none => .error (stRange, true)

/-- The consumer's checks of a delivery (R75, Table 16.5): the status of a refusal, with true where it is REFUSED. -/
def State.consumerCheck (s : State) (p : Packet) : Except Nat (List Piece) :=
  let w := fabWindow p.taddr
  let off := fabOffset p.taddr
  let n := p.length.toNat
  let w0 := s.links.windowWord w 0
  let base := fld (s.links.windowWord w 1) 0 48
  let a := p.reqm.toNat
  let req := if a < 64 then bit (s.links.windowWord w 3) a else bit (s.links.windowWord w 4) (a - 64)
  if p.dst != s.links.memberSet || (s.links.leaving && p.src != p.dst) then .error stAbsent
  else if !bit w0 0 || !bit w0 4 || !req || fld (s.links.windowWord w 2) 0 48 < off + n then .error stRefused
  else
    match (if bit w0 5 then s.spPieces (s.winAsid w) true (base % 2 ^ 32) off n
           else s.devPieces (s.winAsid w) .wr (base + off) n) with
    | some l => .ok l
    | none => .error stRefused

/-! ### Answers -/

/-- An answer to a packet, to the member `to`, with a status (Table 16.9). -/
def State.answerTo (s : State) (p : Packet) (dst : BitVec 7) (op : BitVec 6) (status : Nat) (operand : Word) : State :=
  s.emit { packet0 with op := op, src := s.links.memberSet, dst := dst, die := BitVec.ofNat 2 (p.reqctx.toNat / 4), vc := 1,
                        rtag := p.rtag, taddr := p.taddr, status := BitVec.ofNat 8 status, reqm := p.reqm,
                        group := p.group, reqctx := p.reqctx, operand := operand }

/-- A status of a three-party read that names a member (R390). -/
def State.tellParty (s : State) (p : Packet) (status : Nat) (who : BitVec 7) : State :=
  s.answerTo p p.reqm 0x0D status (BitVec.ofNat 64 (if status = 0 then 0 else who.toNat))

/-- The code that answers a request (Table 16.8). -/
def answerOp (op : BitVec 6) : BitVec 6 :=
  match op.toNat with
  | 0x01 => 0x02 | 0x03 => 0x05 | 0x04 => 0x05 | 0x06 => 0x07 | 0x08 => 0x0A | 0x0E => 0x0F
  | _ => 0x0D

/-- A request is refused (R72, R389): its answer leaves, with event 0x31 where the owner posts one, and event 0x30 for a
delivery that its consumer refuses. -/
def State.refuse (s : State) (p : Packet) (status : Nat) (event : Bool) : State :=
  let w := fabWindow p.taddr
  let fn := s.asidFn (s.winAsid w)
  let s := if event then
      s.postEvent fn 0x31 p.router 0 (leBytes 8 (p.src.toNat + w * 2 ^ 16) ++ leBytes 8 (fabOffset p.taddr))
    else s
  let s := if p.op == 0x0C && status == stRefused then
      s.postEvent fn 0x30 p.router 0 (leBytes 8 (p.reqm.toNat + p.src.toNat * 2 ^ 8 + w * 2 ^ 16) ++ leBytes 8 p.length.toNat)
    else s
  if p.op == 0x0B || p.op == 0x0C then s.tellParty p status s.links.memberSet
  else s.answerTo p p.src (answerOp p.op) status 0

/-! ### Sectors -/

/-- The die of a piece in a scratchpad. -/
def Piece.die (x : Piece) : DieId := ⟨x.space % 3, by omega⟩

/-- A machine check on a task of an address space (R15, R195), on a die; event 0x24 when it has none. -/
def State.asidCheck (s : State) (asid : BitVec 8) (d : DieId) (code : BitVec 8) (addr : Nat) : State :=
  match s.sched.tasks.find? fun t => t.asid == asid with
  | some t => s.checkTask t d code (BitVec.ofNat 64 addr)
  | none => s.postEvent 0 0x24 d 0 (leBytes 8 addr ++ [code])

/-- Read a piece; none when an uncorrectable error withholds it (R15, R195). -/
def State.readPiece (s : State) (asid : BitVec 8) (x : Piece) : State × Option (List Byte) :=
  if x.space = 3 then
    if s.hbmBad x.addr x.len then (s.asidCheck asid ⟨hbmDie x.addr % 3, by omega⟩ 0x41 x.addr, none)
    else (s, some (s.hbm.readN x.addr x.len))
  else
    let (s1, ok) := s.eccRead x.die (x.addr / 256)
    (s1, if ok then some ((s1.dieAt x.die).sp.readN x.addr x.len) else none)

/-- Write a piece. -/
def State.writePiece (s : State) (x : Piece) (bs : List Byte) : State :=
  if x.space = 3 then s.hbmPut x.addr bs
  else s.onDieAt x.die fun d => { d with sp := d.sp.write x.addr bs }

/-- Does a packet write its sectors? -/
def Packet.writes (p : Packet) : Bool := p.op == 0x03 || p.op == 0x04 || p.op == 0x0C

/-- Perform one piece of a packet: the state, and the packet with the piece done; none when its data is withheld. -/
def State.performPiece (s : State) (p : Packet) (x : Piece) : State × Option Packet :=
  let rest := p.work.filter fun y => y != x
  if p.writes then (s.writePiece x (slice p.bytes x.off x.len), some { p with work := rest })
  else
    match s.readPiece (s.winAsid (fabWindow p.taddr)) x with
    | (s1, some bs) => (s1, some { p with work := rest, got := p.got ++ [(x.off, bs)] })
    | (s1, none) => (s1, none)

/-- Perform several pieces in order. -/
def State.performPieces : State → Packet → List Piece → State × Option Packet
  | s, p, [] => (s, some p)
  | s, p, x :: l =>
    match s.performPiece p x with
    | (s1, some q) => State.performPieces s1 q l
    | (s1, none) => (s1, none)

/-- The bytes read, in the order of the access. -/
def Packet.gathered (p : Packet) : List Byte :=
  (p.got.foldl (fun bs g => bs.take g.1 ++ g.2 ++ bs.drop (g.1 + g.2.length)) (List.replicate p.length.toNat 0))

/-! ### Requests that are done -/

/-- The members that a three-party read delivers to (R389, R391). -/
def Packet.consumers (p : Packet) : List (BitVec 7) :=
  if p.aop = 1 then
    ((List.range 128).filter fun i => if i < 64 then bit p.operand i else bit p.operand2 (i - 64)).map fun i => BitVec.ofNat 7 i
  else [fabMember p.caddr]

/-- The owner sends a delivery to a consumer, or tells the requester that it cannot (Table 16.5). -/
def State.deliverTo (s : State) (p : Packet) (bs : List Byte) (m : BitVec 7) : State :=
  if (s.unreachable m).isSome then s.tellParty p stAbsent m
  else
    let a := setFld p.caddr 57 7 m.toNat
    s.emit { packet0 with op := 0x0C, src := s.links.memberSet, dst := m, die := p.die, rtag := p.rtag, taddr := a, caddr := a,
                          length := p.length, reqm := p.reqm, group := p.group, reqctx := p.reqctx,
                          operand := if bs.length ≤ 8 then BitVec.ofNat 64 (leNat bs) else 0,
                          data := if bs.length ≤ 8 then [] else bs }

/-- ARRCNT of a window rises (R75, R216). -/
def State.raiseArrcnt (s : State) (w n : Nat) : State :=
  let x := s.links.window w
  let x := x.setIfInBounds 5 (BitVec.ofNat 64 ((s.links.windowWord w 5).toNat + n))
  { s with links := { s.links with windows := s.links.windows.setIfInBounds w x } }

/-- A request all of whose sectors have been performed is answered. -/
def State.finishRequest (s : State) (p : Packet) : State :=
  let bs := p.gathered
  let short := decide (p.length.toNat ≤ 8)
  match p.op.toNat with
  | 0x0B => p.consumers.foldl (fun s m => s.deliverTo p bs m) s
  | 0x0C => (s.raiseArrcnt (fabWindow p.taddr) p.length.toNat).tellParty p stOk s.links.memberSet
  | 0x01 | 0x0E =>
    s.emit { packet0 with op := answerOp p.op, src := s.links.memberSet, dst := p.src, vc := 1,
                          die := BitVec.ofNat 2 (p.reqctx.toNat / 4), rtag := p.rtag, taddr := p.taddr, length := p.length,
                          reqm := p.reqm, group := p.group, reqctx := p.reqctx,
                          operand := if short then BitVec.ofNat 64 (leNat bs) else 0, data := if short then [] else bs }
  | _ => s.answerTo p p.src (answerOp p.op) stOk 0

/-- The checks of a request on its first touch. -/
def State.requestCheck (s : State) (p : Packet) : Except (Nat × Bool) (List Piece) :=
  match p.op.toNat with
  | 0x01 | 0x0B | 0x0E => s.ownerCheck p 1 .rd
  | 0x03 | 0x04 => s.ownerCheck p 2 .wr
  | 0x06 | 0x08 => s.ownerCheck p 3 .rw
  | _ =>
    match s.consumerCheck p with
    | .ok l => .ok l
    | .error r => .error (r, false)

/-- Change a packet of the inbox. -/
def State.setInbox (s : State) (i : Nat) (p : Packet) : State :=
  { s with links := { s.links with inbox := s.links.inbox.set i p } }

/-- The owner of a three-party read of this package is this package itself: it has been reached (Table 16.5). -/
def Links.ownReached (l : Links) (p : Packet) : Links :=
  if p.op == 0x0B && p.reqm == l.memberSet then
    { l with trans := l.trans.map fun (t : Trans) => if t.tag == p.rtag && !t.await.isEmpty then { t with reached := true } else t }
  else l

/-- A request whose translation an uncorrectable error withholds goes unanswered, and the task that owns the window takes the machine
check (R15). -/
def State.withholdAt (s : State) (i : Nat) (p : Packet) : State :=
  let pa := (s.requestBad p).getD 0
  (s.dropInbox i).asidCheck (s.winAsid (fabWindow p.taddr)) ⟨hbmDie pa % 3, by omega⟩ 0x41 pa

/-- A request at the owner goes on: its checks at the first touch, then the sectors that `k` names among those left, all of
them when it names none; it is answered when none is left (R76, R202, R216). -/
def State.serve (s : State) (i : Nat) (p : Packet) (k : List Nat) : State :=
  let s : State := { s with links := s.links.ownReached p }
  match (if p.checked then .ok p.work else s.requestCheck p) with
  | .error (r, ev) => if ev && (s.requestBad p).isSome then s.withholdAt i p else (s.dropInbox i).refuse p r ev
  | .ok work =>
    if !p.checked && (s.requestBad p).isSome then s.withholdAt i p else
    let p1 : Packet := { p with checked := true, work := work }
    let now := if k.isEmpty then work else k.filterMap fun j => work[j]?
    match s.performPieces p1 now with
    | (s1, none) => s1.dropInbox i
    | (s1, some q) => if q.work.isEmpty then (s1.dropInbox i).finishRequest q else s1.setInbox i q

/-- The pieces of a request that are still to be accessed. -/
def State.workOf (s : State) (p : Packet) : List Piece :=
  if p.checked then p.work
  else match s.requestCheck p with
    | .ok l => l
    | .error _ => []

/-- Does a piece lie in the scratchpad of a frozen die, which performs no access (R180)? -/
def State.pieceRests (s : State) (x : Piece) : Bool := x.space != 3 && (s.dieAt x.die).frozen

/-- A request of a code at a place of the inbox goes on; none while a sector named lies in a frozen die. -/
def State.serveAt (s : State) (op : BitVec 6) (i : Nat) (k : List Nat) : Option State :=
  (s.inboxAt op i).bind fun p =>
    let work := s.workOf p
    if (if k.isEmpty then work else k.filterMap fun j => work[j]?).any s.pieceRests then none else some (s.serve i p k)

/-! ### Atomics -/

/-- The new value of an atomic of `w` bits (R325, R387); none when a compare finds no match. -/
def amoNew (w : Nat) (op : AmoOp) (old v e : Nat) : Option Nat :=
  let m := 2 ^ w
  let o := old % m
  let x := v % m
  match op with
  | .add => some ((o + x) % m)
  | .and => some (o &&& x)
  | .or => some (o ||| x)
  | .xor => some (o ^^^ x)
  | .min => some (if signedOf w x < signedOf w o then x else o)
  | .max => some (if signedOf w o < signedOf w x then x else o)
  | .minu => some (min o x)
  | .maxu => some (max o x)
  | .swap => some x
  | .cas => if o = e % m then some x else none

/-- The operation of an AOP code (Table 16.9). -/
def aopOf (n : BitVec 8) : Option AmoOp :=
  match n.toNat with
  | 0 => some .add | 1 => some .and | 2 => some .or | 3 => some .xor | 4 => some .min | 5 => some .max | 6 => some .swap
  | 7 => some .cas
  | _ => none

/-- Apply the atomic of a packet to its checked pieces: the old value; none when an error withholds it (R387). -/
def State.applyAmo (s : State) (p : Packet) (op : AmoOp) : State × Option Word :=
  match s.performPieces { p with got := [] } p.work with
  | (s1, none) => (s1, none)
  | (s1, some q) =>
    let old := leNat q.gathered
    let s2 := match amoNew 64 op old p.operand.toNat p.operand2.toNat with
      | none => s1
      | some n => p.work.foldl (fun s x => s.writePiece x (slice (leBytes 8 n) x.off x.len)) s1
    (s2, some (BitVec.ofNat 64 old))

/-- ATOMIC_REQUEST (R387): one indivisible step; none while it reaches the scratchpad of a frozen die. -/
def State.serveAmo (s : State) (i : Nat) : Option State :=
  ((s.inboxAt 0x06 i).filter fun p => !(s.workOf p).any s.pieceRests).map fun p =>
    let s1 := s.dropInbox i
    match aopOf p.aop, s.requestCheck p with
    | none, _ => s1
    | _, .error (r, ev) => if ev && (s.requestBad p).isSome then s.withholdAt i p else s1.refuse p r ev
    | some op, .ok work =>
      if (s.requestBad p).isSome then s.withholdAt i p else
      match s1.applyAmo { p with work := work } op with
      | (s2, none) => s2
      | (s2, some old) => s2.answerTo p p.src 0x07 stOk old

/-! ### Ordered atomics on arrival (R388, R218) -/

/-- The superstep of a group that the next ordered atomic of a member belongs to: the one after its last arrival, which an ARRIVE
tells, or an ABORT where the arrival failed at once (R433). -/
def Links.stepOf (l : Links) (src : BitVec 7) (g : BitVec 6) : Nat :=
  ((l.arrivals.find? fun x => x.1 == src && x.2.1 == g).map fun x => x.2.2).getD 0

/-- Is superstep `k` of a group over at this member? -/
def Links.stepOver (l : Links) (g : BitVec 6) (k : Nat) : Bool :=
  decide (k < l.sstepNext.toList.getD g.toNat 0) && !l.ssteps.any fun x => x.group == g && x.step == k

/-- ORDERED_ATOMIC_REQUEST (R388): the owner checks the atomic, answers that it has accepted it (R423), and holds it until its
superstep closes. One from a package
that the own list of the group does not name belongs to no superstep of this member, and is never applied (R433). -/
def State.serveOrd (s : State) (i : Nat) : Option State :=
  (s.inboxAt 0x08 i).map fun p =>
    let s1 := s.dropInbox i
    match aopOf p.aop, s.requestCheck p with
    | none, _ => s1
    | _, .error (r, ev) => if ev && (s.requestBad p).isSome then s.withholdAt i p else s1.refuse p r ev
    | some _, .ok work =>
      if (s.requestBad p).isSome then s.withholdAt i p else
      let k := s.links.stepOf p.src p.group
      let s1 := s1.answerTo p p.src 0x0A stOk 0
      if !(s.links.groupMembers p.group.toNat).contains p.src || s.links.stepOver p.group k then s1
      else { s1 with links := { s1.links with
               ordHeld := s1.links.ordHeld ++ [⟨p.group, k, { p with checked := true, work := work }⟩] } }

/-! ### Streams (R397) -/

/-- A stream of a die. -/
def State.streamAt (s : State) (d : DieId) (n : BitVec 4) : Stream := (s.dieAt d).streams.get ⟨n.toNat, n.isLt⟩

/-- Does a packet of a stream come from the other end: the member, and its stream (R397, log 54)? -/
def streamMatches (cfg : Word) (p : Packet) : Bool :=
  bit cfg 16 && fld cfg 0 7 == p.src.toNat && fld cfg 7 4 == p.operand.toNat

/-- A credit goes back to the sender of a row that is discarded (R397). -/
def State.creditBack (s : State) (p : Packet) : State :=
  s.emit { packet0 with op := 0x15, src := s.links.memberSet, dst := p.src, die := BitVec.ofNat 2 (p.reqctx.toNat / 4),
                        vc := p.vc, taddr := p.operand, reqm := p.reqm, reqctx := p.reqctx,
                        operand := BitVec.ofNat 64 (p.taddr.toNat % 16) }

/-- Change a stream of a die. -/
def State.onStreamAt (s : State) (d : DieId) (n : BitVec 4) (f : Stream → Stream) : State :=
  s.onDieAt d fun x => x.onStream n f

/-- A row is taken at once by the oldest spop that waits for it (R397). -/
def State.feedSpop (s : State) (d : DieId) (n : BitVec 4) : State :=
  match s.links.trans.find? (fun t => t.op == .spop n && t.die == d), (s.streamAt d n).buf with
  | some t, b :: l =>
    let s1 := (s.onStreamAt d n fun x => { x with buf := l }).returnCredit d t.ctx n
    let s2 : State := { s1 with links := s1.links.dropTrans t }
    s2.onOwner t.lid d t.ctx fun c => { c with fxq := fillPlace c.fxq t.seq (.w ⟨b, 0⟩) none }
  | _, _ => s

/-- STREAM_ROW (R397). -/
def State.streamRow (s : State) (i : Nat) : Option State :=
  (s.inboxAt 0x14 i).map fun p =>
    let d := p.router
    let n : BitVec 4 := BitVec.ofNat 4 p.taddr.toNat
    let s1 := s.dropInbox i
    if streamMatches (s.streamAt d n).cfg p then
      (s1.onStreamAt d n fun x => { x with buf := x.buf ++ [BitVec.ofNat 2048 (leAt p.data 0 256)] }).feedSpop d n
    else s1.creditBack p

/-- STREAM_CREDIT (R397). -/
def State.streamCredit (s : State) (i : Nat) : Option State :=
  (s.inboxAt 0x15 i).map fun p =>
    let d := p.router
    let n : BitVec 4 := BitVec.ofNat 4 p.taddr.toNat
    let s1 := s.dropInbox i
    if streamMatches (s.streamAt d n).cfg p then s1.onStreamAt d n fun x => { x with credits := min 32 (x.credits + 1) } else s1

/-- STREAMTIMEOUT (R398): the group whose wait on a stream has lasted more than WDOG µs is opened, and the slot that waits takes
the fault. -/
def State.streamTimeout (s : State) (d : DieId) (c : CtxId) : Option State :=
  let x := (s.dieAt d).ctxAt c
  match x.blocked with
  | none => none
  | some (n, since, _) =>
    let wdog := fld (s.streamAt d n).cfg 32 24
    if d ≠ s.turn ∨ wdog = 0 ∨ ((s.dieAt d).tick - since).toNat ≤ 2000 * wdog ∨ s.die.frozen then none
    else
      match ((s.onCtxAt d c fun y => { y with blocked := some (n, since, true) }).settled c).1.openNext c 0 [] with
      | (_, .ok s1) => some s1
      | (_, .error _) => none

/-- READ_REQUEST (R386). -/
def execReadRequest (i : Nat) (k : List Nat) (s : State) : Host.Outcome State Fault Refusal :=
  enabled "READ_REQUEST" (s.serveAt 0x01 i k)

/-- WRITE_REQUEST (R386). -/
def execWriteRequest (i : Nat) (k : List Nat) (s : State) : Host.Outcome State Fault Refusal :=
  enabled "WRITE_REQUEST" (s.serveAt 0x03 i k)

/-- FLAG_REQUEST (R393): the flag word is written whole. -/
def execFlagRequest (i : Nat) (s : State) : Host.Outcome State Fault Refusal := enabled "FLAG_REQUEST" (s.serveAt 0x04 i [])

/-- ATOMIC_REQUEST (R387). -/
def execAtomicRequest (i : Nat) (s : State) : Host.Outcome State Fault Refusal := enabled "ATOMIC_REQUEST" (s.serveAmo i)

/-- ORDERED_ATOMIC_REQUEST (R388). -/
def execOrderedAtomicRequest (i : Nat) (s : State) : Host.Outcome State Fault Refusal :=
  enabled "ORDERED_ATOMIC_REQUEST" (s.serveOrd i)

/-- THREE_PARTY_REQUEST (R389). -/
def execThreePartyRequest (i : Nat) (k : List Nat) (s : State) : Host.Outcome State Fault Refusal :=
  enabled "THREE_PARTY_REQUEST" (s.serveAt 0x0B i k)

/-- DELIVERY (R75, R389). -/
def execDelivery (i : Nat) (k : List Nat) (s : State) : Host.Outcome State Fault Refusal :=
  enabled "DELIVERY" (s.serveAt 0x0C i k)

/-- REDUCTION_READ (R392). -/
def execReductionRead (i : Nat) (k : List Nat) (s : State) : Host.Outcome State Fault Refusal :=
  enabled "REDUCTION_READ" (s.serveAt 0x0E i k)

/-- STREAM_ROW (R397). -/
def execStreamRow (i : Nat) (s : State) : Host.Outcome State Fault Refusal := enabled "STREAM_ROW" (s.streamRow i)

/-- STREAM_CREDIT (R397). -/
def execStreamCredit (i : Nat) (s : State) : Host.Outcome State Fault Refusal := enabled "STREAM_CREDIT" (s.streamCredit i)

/-- STREAMTIMEOUT (R398). -/
def execStreamtimeout (d : DieId) (c : CtxId) (s : State) : Host.Outcome State Fault Refusal :=
  enabled "STREAMTIMEOUT" (s.streamTimeout d c)

end Sys2Proof.Machine
end

