-- ==== Sys2Proof/Machine/Copy.lean ====
section
/-! DEFINITION. The copy channels (07 R192 to R194, Tables 07.10, 07.11 and 07.14): starts, blocks, completion and failure. -/

namespace Sys2Proof.Machine

/-! ### Checks of a block (R194, Table 07.14) -/

/-- The row units of a run of scratchpad bytes. -/
def unitsOfRange (a n : Nat) : List Nat :=
  if n = 0 then [] else (List.range ((a + n - 1) / 256 - a / 256 + 1)).map fun i => a / 256 + i

/-- May the copy engine of die `d` touch a row unit of die `e` (R196 to R198)? Its work under an earlier phase keeps the sets of
that phase (R197). -/
def State.copySet (s : State) (t : Task) (d e : DieId) (write : Bool) (ph : Phases) (u : Nat) : Bool :=
  s.setAllowed t e (if e = d then 2 else 3) write (ph.get e) u

/-- Failures of a local access of a block: class and reason of Table 07.14. -/
def State.spanFails (s : State) (t : Task) (d : DieId) (write : Bool) (ph : Phases) (a : Word) (n : Nat) :
    List (Nat × Nat) :=
  match spaceOf a with
  | .bad => [(1, 1)]
  | .device va =>
    if 2 ^ 48 < va + n then [(1, 1)]
    else
      (if apertureBase < va + n then [(2, 4)] else []) ++
        (pagePieces va (min n (apertureBase - va))).filterMap fun p =>
          match s.translateOn t d (if write then .wr else .rd) p.1 with
          | .error (0x20, r) => some (1, r.toNat)
          | .error (_, r) => some (2, r.toNat)
          | .ok _ => none
  | .scratch x =>
    let e := spDie d x
    let us := unitsOfRange (spOff x) n
    (if decide (x < 2 ^ 30) && us.all fun u => s.unitOk t e u then [] else [(3, 0)]) ++
      (if us.all fun u => s.copySet t d e write ph u then [] else [(4, 0)])

/-- The lowest of several failures: the lowest class, then the lowest reason. -/
def lowestFail : List (Nat × Nat) → Option (Nat × Nat)
  | [] => none
  | x :: l =>
    match lowestFail l with
    | none => some x
    | some y => if y.1 < x.1 || (y.1 == x.1 && decide (y.2 < x.2)) then some y else some x

/-- The addresses of the pages of a block's local addresses in device memory. -/
def devPages (a : Word) (n : Nat) : List Nat :=
  match spaceOf a with
  | .device va => (pagePieces va n).map (·.1)
  | _ => []

/-- The table entry that an error withholds from the translations of a block (R15). -/
def State.blockBad (s : State) (t : Task) (d : DieId) (cp : Copy) (m : Tmpl) (i : Nat) : Option Nat :=
  s.pagesBad t d (devPages (m.src cp.param i) m.blen ++ if m.dstf then [] else devPages (m.dst cp.param i) m.blen)

/-- The failure of block `i` of a copy, apart from what its owner answers; where a translation is withheld there is none to tell. -/
def State.blockFail (s : State) (t : Task) (d : DieId) (cp : Copy) (m : Tmpl) (i : Nat) : Option (Nat × Nat) :=
  if (s.blockBad t d cp m i).isSome then none
  else lowestFail (s.spanFails t d false cp.phase (m.src cp.param i) m.blen ++
    (if m.dstf then [] else s.spanFails t d true cp.phase (m.dst cp.param i) m.blen))

/-! ### Moving a block -/

/-- Read local bytes that have passed their checks; none when an uncorrectable error withholds them (R15, R195). -/
def State.readSpan (s : State) (t : Task) (d : DieId) (a : Word) (n : Nat) : State × Option (List Byte) :=
  match spaceOf a with
  | .device va =>
    match s.badByte t d va n with
    | some pa => (s.checkTask t d 0x41 (BitVec.ofNat 64 pa), none)
    | none => (s, some (s.readDev t d va n))
  | .scratch x =>
    let e := spDie d x
    let (s1, ok) := s.eccReads e (unitsOfRange (spOff x) n)
    (s1, if ok then some ((s1.dieAt e).sp.readN (spOff x) n) else none)
  | .bad => (s, none)

/-- Write local bytes that have passed their checks: data bytes only (R177). -/
def State.writeSpan (s : State) (t : Task) (d : DieId) (a : Word) (bs : List Byte) : State :=
  match spaceOf a with
  | .device va => s.writeDev t d va bs
  | .scratch x => s.onDieAt (spDie d x) fun y => { y with sp := y.sp.write (spOff x) bs }
  | .bad => s

/-- The pieces of a block as they travel to another member: packets of at most 4,096 bytes; a last piece of one row's length goes
in two, since a write of 256 bytes is a row's (R386). -/
def fabricPieces (n : Nat) : List (Nat × Nat) :=
  let tail := n % 4096
  (List.range (n / 4096)).map (fun i => (4096 * i, 4096)) ++
    (if tail = 0 then [] else if tail = 256 then [(n - 256, 128), (n - 128, 128)] else [(n - tail, tail)])

/-- A piece of a block leaves for its member, or fails at once (Table 16.4). None while every tag is carried. -/
def State.sendPiece (s : State) (t : Task) (d : DieId) (ch : Fin 16) (cp : Copy) (i : Nat) (dst : Word) (off : Nat)
    (bs : List Byte) : Option State :=
  match s.links.freeTag with
  | none => none
  | some tag =>
    let a := setFld dst 0 48 (fabOffset dst + off)
    let m := fabMember dst
    let r := s.firstLines t.asid m (fabWindow dst)
    let x : Trans :=
      { tag := tag, die := d, ctx := cp.ctx, lid := cp.lid, seq := cp.id, op := .copy ch i off, st := false, addr := a,
        await := match r with | .ok _ => [m] | .error _ => [],
        failed := match r with | .ok _ => [] | .error e => [(m, BitVec.ofNat 8 e)],
        values := [], reached := false, step := 0, sentAt := (s.dieAt d).tick, hops := [] }
    let s1 : State := { s with links := { s.links with trans := s.links.trans ++ [x], nextTag := tag + 1 } }
    match r with
    | .error _ => some s1
    | .ok key =>
      some (s1.emit { packet0 with
        op := 0x03, src := s.links.memberSet, dst := m, die := BitVec.ofNat 2 d.val, rtag := tag, taddr := a, key := key,
        reqm := s.links.memberSet, reqctx := BitVec.ofNat 16 (4 * d.val + cp.ctx.val), length := BitVec.ofNat 32 bs.length,
        operand := if bs.length ≤ 8 then BitVec.ofNat 64 (leNat bs) else 0, data := if bs.length ≤ 8 then [] else bs })

/-- Every piece of a block leaves; none while tags are short. -/
def State.sendPieces (s : State) (t : Task) (d : DieId) (ch : Fin 16) (cp : Copy) (i : Nat) (dst : Word) (bs : List Byte) :
    List (Nat × Nat) → Option State
  | [] => some s
  | p :: l =>
    match s.sendPiece t d ch cp i dst p.1 (slice bs p.1 p.2) with
    | none => none
    | some s1 => State.sendPieces s1 t d ch cp i dst bs l

/-- The physical runs of a span of local addresses that translate. -/
def State.spanRuns (s : State) (t : Task) (d : DieId) (a : Word) (n : Nat) : List Run :=
  match spaceOf a with
  | .scratch x => [((spDie d x).val, spOff x, n)]
  | .device va =>
    (pagePieces va n).filterMap fun p =>
      match s.page t d p.1 with
      | .ok e => some (3, e.phys p.1, p.2)
      | .error _ => none
  | .bad => []

/-- The physical runs to which a block goes; a fabric address of the own package goes through its window. -/
def State.destRuns (s : State) (t : Task) (d : DieId) (m : Tmpl) (a : Word) : List Run :=
  if m.dstf then s.fabricRuns (fabMember a) a m.blen else s.spanRuns t d a m.blen

/-- The bytes of a run, one by one. -/
def Run.bytes (r : Run) : List (Nat × Nat) := (List.range r.2.2).map fun i => (r.1, r.2.1 + i)

/-- What block `i` of a copy writes of the bytes it has read. Where the source and the destination of the copy overlap, R193 leaves
the overlapped bytes undefined: a byte whose place is also a source, or that comes from a place that is also a destination, is a
free value (log 31). -/
def State.bytesOut (s : State) (t : Task) (d : DieId) (cp : Copy) (m : Tmpl) (i : Nat) (bs : List Byte) : State × List Byte :=
  let src (j : Nat) : List Run := s.spanRuns t d (m.src cp.param j) m.blen
  let dst (j : Nat) : List Run := s.destRuns t d m (m.dst cp.param j)
  let srcs := (List.range m.nblk).flatMap src
  let dsts := (List.range m.nblk).flatMap dst
  if srcs.any fun a => dsts.any fun b => a.meets b then
    let source := (src i).flatMap Run.bytes
    let place := (dst i).flatMap Run.bytes
    let hit (l : List Run) (p : Option (Nat × Nat)) : Bool :=
      (p.map fun x => l.any fun r => Run.meets r (x.1, x.2, 1)).getD false
    ({ s with fresh := s.fresh + bs.length },
     bs.zipIdx.map fun x =>
       if hit dsts source[x.2]? || hit srcs place[x.2]? then Config.freeByte (s.fresh + x.2) else x.1)
  else (s, bs)

/-- Move block `i` of a copy: bytes withheld by an error are not written. None while it cannot leave. -/
def State.moveBlock (s : State) (t : Task) (d : DieId) (ch : Fin 16) (cp : Copy) (m : Tmpl) (i : Nat) : Option State :=
  match s.blockBad t d cp m i, s.readSpan t d (m.src cp.param i) m.blen with
  | some pa, _ => some (s.checkTask t d 0x41 (BitVec.ofNat 64 pa))
  | none, (s1, none) => some s1
  | none, (s1, some bs) =>
    let r := s1.bytesOut t d cp m i bs
    if m.dstf then r.1.sendPieces t d ch cp i (m.dst cp.param i) r.2 (fabricPieces m.blen)
    else some (r.1.writeSpan t d (m.dst cp.param i) r.2)

/-! ### Channels -/

/-- A channel of a die. -/
def State.chan (s : State) (d : DieId) (ch : Fin 16) : Chan := (s.dieAt d).chans.get ch

/-- Change a channel. -/
def State.onChan (s : State) (d : DieId) (ch : Fin 16) (f : Chan → Chan) : State :=
  s.onDieAt d fun x => { x with chans := x.chans.set ch.val (f (x.chans.get ch)) ch.isLt }

/-- A store starts a copy (R193): it receives NEXTID and waits for the channel to take it up. -/
def State.startCopy (s : State) (d : DieId) (ch : Fin 16) (cp : Copy) : State :=
  s.onChan d ch fun x => { x with nextId := x.nextId + 1, copies := x.copies ++ [{ cp with id := x.nextId.toNat }] }

/-- The copy that a channel has taken up. -/
def Chan.head (x : Chan) : Option Copy := if x.err then none else x.copies.head?

/-- The pieces of a channel's copy that have left for another member. -/
def State.copyTrans (s : State) (d : DieId) (ch : Fin 16) (cp : Copy) : List Trans :=
  s.links.trans.filter fun t =>
    match t.op with
    | .copy c _ _ => c == ch && t.die == d && t.seq == cp.id && t.lid == cp.lid
    | _ => false

/-- Blocks of a copy that are still to move. -/
def Copy.blocks (cp : Copy) (m : Tmpl) : List Nat :=
  match cp.left with
  | some l => l
  | none => List.range m.nblk

/-- Replace the copy that a channel has taken up. -/
def State.setHead (s : State) (d : DieId) (ch : Fin 16) (cp : Copy) : State :=
  s.onChan d ch fun x => { x with copies := cp :: x.copies.drop 1 }

/-- Tokens that wait for DONEID of a channel to pass an identifier become set (R328). -/
def State.wakeIds (s : State) (d : DieId) (ch : Fin 16) : State :=
  let done := (s.chan d ch).doneId
  s.sched.tasks.foldl (fun s t =>
    allDies.foldl (fun s e =>
      let hit := (t.onDie e).tokIds.filter fun x => x.2.1 == d && x.2.2.1 == ch && passed done x.2.2.2
      let s1 := hit.foldl (fun s x => s.setTok t.lid e x.1 .set) s
      if hit.isEmpty then s1
      else s1.onTask t.lid fun t => t.setDie e fun y => { y with tokIds := y.tokIds.filter fun x => !hit.contains x }) s) s

/-- The copy that a channel has taken up is over: DONEID passes it (R193, R194). -/
def State.copyOver (s : State) (d : DieId) (ch : Fin 16) (cp : Copy) : State :=
  let gone := s.copyTrans d ch cp
  let s1 : State := { s with links := { s.links with trans := s.links.trans.filter fun t => !gone.contains t } }
  (s1.onChan d ch fun x =>
    { x with doneId := BitVec.ofNat 32 (cp.id + 1), copies := x.copies.drop 1, err := false, errId := 0, cause := 0 }).wakeIds d ch

/-- Move several blocks of a copy; a block that cannot leave stays. -/
def State.moveBlocks (t : Task) (d : DieId) (ch : Fin 16) (m : Tmpl) : List Nat → Copy → State → Copy × State
  | [], cp, s => (cp, s)
  | i :: l, cp, s =>
    match s.moveBlock t d ch cp m i with
    | some s1 => State.moveBlocks t d ch m l { cp with left := some ((cp.blocks m).filter fun j => j != i) } s1
    | none => State.moveBlocks t d ch m l cp s

/-- Does a block reach the scratchpad of a frozen die, which performs no access (R180)? -/
def State.blockRests (s : State) (d : DieId) (cp : Copy) (m : Tmpl) (i : Nat) : Bool :=
  let rests (a : Word) : Bool := match spaceOf a with
    | .scratch x => (s.dieAt (spDie d x)).frozen
    | _ => false
  rests (m.src cp.param i) || (!m.dstf && rests (m.dst cp.param i))

/-- COPY_COMPLETE (R193): the channel's copy moves the blocks named, all that are left where none is named; when every block
has moved and every write response has arrived, DONEID passes it. A block that fails is not moved. -/
def State.copyStep (s : State) (d : DieId) (ch : Fin 16) (named : List Nat) : Option State :=
  match (s.chan d ch).head with
  | none => none
  | some cp =>
    match s.task? cp.lid with
    | none => none
    | some t =>
      match s.tmpl t d cp with
      | none => none
      | some m =>
        let left := cp.blocks m
        let now := (if named.isEmpty then left else left.filter named.contains).filter fun i =>
          (s.blockFail t d cp m i).isNone && !s.blockRests d cp m i
        if (now.isEmpty && !left.isEmpty) || (s.dieAt d).frozen then none
        else
          let (cp1, s1) := State.moveBlocks t d ch m now { cp with left := some left } s
          let s2 := s1.setHead d ch cp1
          if (cp1.blocks m).isEmpty && (s2.copyTrans d ch cp1).isEmpty then some (s2.copyOver d ch cp1)
          else if left.isEmpty then none
          else some s2

/-- The failures of a copy that have been met, by block: of the blocks still to move, and of the pieces that failed (R194). -/
def State.copyFails (s : State) (t : Task) (d : DieId) (ch : Fin 16) (cp : Copy) (m : Tmpl) : List (Nat × Nat × Nat) :=
  (cp.blocks m).filterMap (fun i => (s.blockFail t d cp m i).map fun f => (i, f.1, f.2)) ++
    (s.copyTrans d ch cp).filterMap fun x =>
      match x.op, x.failed with
      | .copy _ i _, (_, r) :: _ => some (i, 5, r.toNat)
      | _, _ => none

/-- The failure of the lowest-numbered block, and within it of the lowest class (R194). -/
def firstFailure : List (Nat × Nat × Nat) → Option (Nat × Nat × Nat)
  | [] => none
  | x :: l =>
    match firstFailure l with
    | none => some x
    | some y =>
      if y.1 < x.1 || (y.1 == x.1 && (y.2.1 < x.2.1 || (y.2.1 == x.2.1 && decide (y.2.2 < x.2.2)))) then some y else some x

/-- A channel halts at a failed copy, whose starter takes the deferred copy fault at its next boundary (R194, R273). -/
def State.haltChan (s : State) (d : DieId) (ch : Fin 16) (cp : Copy) (cls reason : Nat) : State :=
  (s.onChan d ch fun x =>
    { x with err := true, errId := BitVec.ofNat 32 cp.id, cause := BitVec.ofNat 7 (cls * 8 + reason) }).defer cp.die cp.ctx
      ⟨0x23, 0, cp.addr, cp.count, 1, cp.seq⟩

/-- COPY_FAILURE (R194): the copy engine of a frozen die holds its state (R18). -/
def State.copyFailure (s : State) (d : DieId) (ch : Fin 16) : Option State :=
  match (s.chan d ch).head.filter fun _ => !(s.dieAt d).frozen with
  | none => none
  | some cp =>
    match s.task? cp.lid with
    | none => none
    | some t =>
      match s.tmpl t d cp with
      | none => some (s.haltChan d ch cp 1 1)
      | some m =>
        if (s.copyTrans d ch cp).any fun x => !x.await.isEmpty then none
        else (firstFailure (s.copyFails t d ch cp m)).map fun f => s.haltChan d ch cp f.2.1 f.2.2

/-- Writing 1 to ERR counts the failed copy complete (R194). -/
def State.clearErr (s : State) (d : DieId) (ch : Fin 16) : State :=
  match (s.chan d ch).err, (s.chan d ch).copies with
  | true, cp :: _ => s.copyOver d ch cp
  | _, _ => s

/-- Read `n` bytes of a channel's registers at an offset (Table 07.10). -/
def Chan.regs (x : Chan) : List Byte :=
  leBytes 8 0 ++ leBytes 8 x.nextId.toNat ++ leBytes 8 x.doneId.toNat ++
    leBytes 8 (x.errId.toNat + 2 ^ 32 * x.err.toNat + 2 ^ 33 * x.cause.toNat)

/-- COPY_COMPLETE (R193). -/
def execCopyComplete (d : DieId) (ch : Fin 16) (blocks : List Nat) (s : State) : Host.Outcome State Fault Refusal :=
  enabled "COPY_COMPLETE" (s.copyStep d ch blocks)

/-- COPY_FAILURE (R194). -/
def execCopyFailure (d : DieId) (ch : Fin 16) (s : State) : Host.Outcome State Fault Refusal :=
  enabled "COPY_FAILURE" (s.copyFailure d ch)

end Sys2Proof.Machine
end

