-- ==== Sys2Proof/Machine/Engines.lean ====
section
/-! DEFINITION. Errors found by no program's access (01 R15, 07 R195, 11 R274), the change of the current free context (05 R146), and
the retirement of a context with the completion of its task (06 R161, R162). -/

namespace Sys2Proof.Machine

/-! ### Errors -/

/-- CONTROL_PARITY (R274): a soft error in the control flops of a context is a machine check on its task, or event 0x24 where no
task owns them. -/
def State.parity (s : State) (d : DieId) (c : CtxId) : Option State :=
  if !s.clockedAt d then none
  else
    let x := (s.dieAt d).ctxAt c
    match (if x.kind == CtxKind.none then none else s.task? x.lid) with
    | some _ => some (s.defer d c ⟨0x43, 0, 0, x.baseCount (s.dieAt d).scy, 2, 0⟩)
    | none => some (s.postEvent 0 0x24 d 0 (leBytes 8 0 ++ [0x43]))

/-- A row unit holds an error, in place of the one that it held. -/
def Die.hitUnit (d : Die) (x : Nat × Ecc) : Die := { d with spEcc := x :: d.spEcc.filter fun y => y.1 != x.1 }

/-- SCRUB_READ (R195): the scrubber reads a row unit and meets the error that it holds. `new` are the errors that have arisen, here or
in other units, where the next read of the unit meets them (log 22). -/
def State.scrub (s : State) (d : DieId) (u : Nat) (new : List (Nat × Ecc)) : Option State :=
  if !s.clockedAt d || decide (spUnits ≤ u) then none
  else
    let s1 := s.onDieAt d fun x => new.foldl Die.hitUnit x
    some (s1.eccRead d u).1

/-- HBM_REFRESH_SCRUB (R15): a read made for no task corrects an error, or finds one that it cannot, which stays for the next read
of the data. `bad` are the addresses at which such errors have arisen, here or elsewhere, where the next read of the data finds them,
a task's access among them; a scrub that tells of some elsewhere corrects none (log 22). -/
def State.hbmScrub (s : State) (pa : Nat) (bad : List Nat) : Option State :=
  if !s.pkg.power || decide (hbmSize ≤ pa) then none
  else
    let d : DieId := ⟨hbmDie pa % 3, by omega⟩
    let s : State := { s with hbmEcc := bad ++ s.hbmEcc.filter fun a => !bad.contains a }
    if s.hbmBad pa 1 then some (s.postEvent 0 0x24 d 0 (leBytes 8 pa ++ [0x41]))
    else if bad.isEmpty then some { s with pkg := { s.pkg with errHbm := satInc16 s.pkg.errHbm 1 } }
    else some s

/-! ### The current free context (R146) -/

/-- Is the next cycle of the current die a free-issue cycle? -/
def State.freeCycle (s : State) : Bool :=
  let x := s.cycleStart
  !x.die.frozen && (match x.die.timedCid with | some c => !(x.die.ctxAt c).timedIssues | none => true)

/-- FREE_CONTEXT_SWITCH (R146): after 256 groups beside another ready context the next ready one becomes current; a context that no
other follows stays current with its count at 0. -/
def State.freeSwitch (s : State) (d : DieId) : Option State :=
  if d != s.turn || !s.clocked || s.ctx.grp.isSome || !s.freeCycle then none
  else
    match s.die.current with
    | some c =>
      if (s.die.ctxAt c).freeRun < 256 then none
      else some (s.setCurrent (some ((s.nextReady c).getD c)))
    | none => none

/-! ### Retirement (R161, R162) -/

/-- The commands that a task's contexts discarded, in ascending die, context and order of discard (R162, Table 11.10). -/
def State.allDiscards (s : State) (t : Task) : List (DieId × CtxId × Nat × Nat × Nat × Nat) :=
  allDies.flatMap fun d => allCtxs.flatMap fun c =>
    if t.ctxs.contains (d, c) then ((s.dieAt d).ctxAt c).discards.map fun x => (d, c, x) else []

/-- The 8 bytes of a discarded command: die, context, kind, token, channel, and start or identifier. -/
def discardBytes (x : DieId × CtxId × Nat × Nat × Nat × Nat) : List Byte :=
  let (d, c, kind, tok, ch, id) := x
  leBytes 8 (d.val + c.val * 4 + kind % 16 * 16 + tok % 64 * 256 + ch % 65536 * 2 ^ 16 + id % 2 ^ 32 * 2 ^ 32)

/-- The payload of one event 0x22: four entries from index `i`. -/
def discardPayload (lid : BitVec 32) (l : List (DieId × CtxId × Nat × Nat × Nat × Nat)) (i : Nat) : List Byte :=
  let four := (List.range 4).flatMap fun k =>
    match l[i + k]? with
    | some x => discardBytes x
    | none => List.replicate 8 0
  leBytes 4 lid.toNat ++ leBytes 4 l.length ++ four ++ leBytes 4 i

/-- Post the series of event 0x22 of a task (R162). -/
def State.postDiscards (s : State) (t : Task) (l : List (DieId × CtxId × Nat × Nat × Nat × Nat)) : State :=
  (List.range ((l.length + 3) / 4)).foldl (fun s k =>
    s.taskEvent t 0x22 t.refDie (discardPayload t.lid l (4 * k))) s

/-- SCYRUN of a task whose last context, on die `d`, retires now (R161): FC of the lowest die of its fold. Where that context is a timed
one this is the greatest count at which a member retired, for the counts of the members agree and SCYRUN is the same on every run
(DEDUCED, log 20). -/
def State.runAtRetire (s : State) (t : Task) (d : DieId) (c : CtxId) : Nat :=
  if ((s.dieAt d).ctxAt c).kind == CtxKind.timed then
    (t.ctxs.map fun p => let x := (s.dieAt p.1).ctxAt p.2; if x.kind == CtxKind.timed then x.retireFc else 0).foldl max 0
  else s.scyRun t

/-- Every context of a task has retired: its launch completes with DONE, or with ABANDONED and the count of what was discarded. -/
def State.finish (s : State) (t : Task) (d : DieId) (c : CtxId) : State :=
  if t.ctxs.all fun p => ((s.dieAt p.1).ctxAt p.2).status == .retired then
    let l := s.allDiscards t
    let run := s.runAtRetire t d c
    if t.ctxs.any fun p => ((s.dieAt p.1).ctxAt p.2).abandoned then (s.postDiscards t l).endTaskAt t 5 l.length run
    else s.endTaskAt t 0 0 run
  else s

/-- CONTEXT_RETIRE (R161): a context that waits at exit retires; a timed one with every effect at its count. -/
def State.retire (s : State) (d : DieId) (c : CtxId) : Option State :=
  let x := (s.dieAt d).ctxAt c
  if x.kind == CtxKind.none || x.status != .exiting || !s.quiet d c then none
  else
    match s.task? x.lid with
    | none => none
    | some t =>
      let n := if x.kind != CtxKind.timed then 0
        else if x.exitQuiet then x.exitAt.getD 0
        else x.fc (s.dieAt d).scy
      let s := if x.kind == CtxKind.timed then s.onDieAt d fun y => (y.settle c (x.fc y.scy)).1 else s
      some ((s.onCtxAt d c fun y => { y with status := .retired, pend := [], retireFc := n }).finish t d c)

/-- CONTROL_PARITY (R274). -/
def execControlParity (d : DieId) (c : CtxId) (s : State) : Host.Outcome State Fault Refusal :=
  enabled "CONTROL_PARITY" (s.parity d c)

/-- SCRUB_READ (R195). -/
def execScrubRead (d : DieId) (u : Nat) (new : List (Nat × Nat)) (s : State) : Host.Outcome State Fault Refusal :=
  enabled "SCRUB_READ" (s.scrub d u (new.map fun x => (x.1, if x.2 = 1 then Ecc.single else Ecc.multi)))

/-- HBM_REFRESH_SCRUB (R15). -/
def execHbmRefreshScrub (pa : Nat) (bad : List Nat) (s : State) : Host.Outcome State Fault Refusal :=
  enabled "HBM_REFRESH_SCRUB" (s.hbmScrub pa bad)

/-- FREE_CONTEXT_SWITCH (R146). -/
def execFreeContextSwitch (d : DieId) (s : State) : Host.Outcome State Fault Refusal :=
  enabled "FREE_CONTEXT_SWITCH" (s.freeSwitch d)

/-- CONTEXT_RETIRE (R161). -/
def execContextRetire (d : DieId) (c : CtxId) (s : State) : Host.Outcome State Fault Refusal :=
  enabled "CONTEXT_RETIRE" (s.retire d c)

end Sys2Proof.Machine
end

