-- ==== Sys2Proof/Machine/Fold.lean ====
section
/-! DEFINITION. Folds (06 R163 to R171): far-lane frames and the tick sideband as their receivers meet them (02 R44 to R51), the start
and the resumption of a fold (05 R138, R170), ALIGN, agreed counts (05 R140, R141), and the loss of the far path (R47). -/

namespace Sys2Proof.Machine

/-- The timed context of a die and its task, when that is a fold of several dies. -/
def State.foldTask (s : State) (d : DieId) : Option (Task × CtxId) :=
  match (s.dieAt d).timedCid with
  | none => none
  | some c =>
    match s.task? ((s.dieAt d).ctxAt c).lid with
    | some t => if t.multiDie then some (t, c) else none
    | none => none

/-- Does die `o` belong to the fold of die `d` (R48, R163)? -/
def State.sameFold (s : State) (d o : DieId) : Bool :=
  match s.foldTask d with
  | some (t, _) => t.fold.getLsbD o.val
  | none => false

/-- A machine check on every die of a fold (R51). -/
def State.checkMembers (s : State) (t : Task) (code : BitVec 8) : State :=
  (foldDies t.fold).foldl (fun s d => s.checkTask t d code 0) s

/-! ### Far lanes (R43 to R45, R275) -/

/-- Does a row that arrives at a die go into the snapshot of its timed context: the member has stopped (R275)? -/
def State.lanesStopped (s : State) (t : Task) (d : DieId) (c : CtxId) : Bool :=
  let x := (s.dieAt d).ctxAt c
  t.stopCounts.any (fun y => y.1 == d) || x.status == .held || x.inh

/-- The row of a frame reaches its skew buffer, or the snapshot of a member that has stopped (R44, R275). -/
def State.laneRow (s : State) (d : DieId) (f : Frame) : State :=
  match s.foldTask d, lanePeer d f.lane.toNat with
  | some (t, c), some (o, _, _) =>
    if !t.fold.getLsbD o.val then s
    else if s.lanesStopped t d c then s.onCtxAt d c fun y => { y with far := y.far ++ [(f.lane, f.row, f.stamp)] }
    else if 24 ≤ ((s.dieAt d).lane f.lane.toNat).length then s.defer d c ⟨0x11, 3, 0, (s.dieAt d).fcNow, 2, 0⟩
    else s.onDieAt d fun y => { y with rx := y.rx.setIfInBounds f.lane.toNat (y.lane f.lane.toNat ++ [(f.row, f.stamp)]) }
  | _, _ => s

/-- May a frame that carries no row arrive on a lane: the lane is there, and its sender is clocked (R43)? -/
def State.emptyFrame (s : State) (d : DieId) (l : BitVec 4) : Bool :=
  match lanePeer d l.toNat with
  | some (o, _, _) => s.clockedAt d && s.clockedAt o
  | none => false

/-- FAR_LANE_FRAME (R44, R45): the frame that arrives on a lane of a die, with the words that its check corrected, or an error that
it could not. A frame without a row is an event only for its errors. -/
def State.farFrame (s : State) (d : DieId) (l : BitVec 4) (fixed : Nat) (bad : Bool) : Option State :=
  let x := s.dieAt d
  let count (s : State) : State := { s with links := { s.links with errFar := satInc16 s.links.errFar fixed } }
  match x.flight.find? fun f => f.lane == l && decide (f.arrive ≤ x.tick) with
  | none =>
    if s.emptyFrame d l && (bad || fixed != 0) then
      some (if bad then (count s).checkFold d 0x42 else count s)
    else none
  | some f =>
    let s1 := count (s.onDieAt d fun y => { y with flight := y.flight.erase f })
    some (if bad then s1.checkFold d 0x42 else s1.laneRow d f)

/-- FAR_PATH_LOST (R47): the dies of a boundary (0 between dies 0 and 1, 1 between dies 1 and 2) that are in service take the check
and leave it. -/
def State.farPathLost (s : State) (b : Bool) : Option State :=
  let l := [1, if b then 2 else (0 : DieId)].filter s.inService
  if l.isEmpty then none else some (l.foldl (fun s d => s.dieOut d 0x46 0x24) s)

/-! ### The tick sideband (R48 to R51, R168) -/

/-- Change what a die knows of a partner. -/
def Die.onPartner (d : Die) (o : DieId) (f : Partner → Partner) : Die :=
  { d with partners := d.partners.set o.val (f (d.partners.get o)) o.isLt }

/-- COUNT_MESSAGE_SEND (R49): a count message is due in each tick whose low five bits are 0. -/
def State.countSend (s : State) (d : DieId) : Option State :=
  let x := s.dieAt d
  if s.clockedAt d && x.tick.toNat % 32 == 0 && x.sentTick != some x.tick then
    some (s.onDieAt d fun y => { y with countOwed := true, sentTick := some y.tick })
  else none

/-- The message that is usable next at a die (R49), and the state without it. -/
def State.nextMsg (s : State) (d : DieId) : Option (Wire × State) :=
  match (s.dieAt d).inbox with
  | [] => none
  | w :: l => if s.clockedAt d && decide (w.usable ≤ (s.dieAt d).tick) then
      some (w, s.onDieAt d fun x => { x with inbox := l }) else none

/-- The comparison of a neighbour's rate with the own one (R20): over 2^20 ticks they differ by at most 400 ppm. -/
def Partner.compare (p : Partner) (tick own : Word) : Partner :=
  match p.rate with
  | none => { p with rate := some (tick, own) }
  | some (t0, o0) =>
    let a := (tick - t0).toNat
    let b := (own - o0).toNat
    if b < 2 ^ 20 then p
    else if 400 * b < 1000000 * (max a b - min a b) then { p with drift := true }
    else { p with rate := some (tick, own) }

/-- Are two dies neighbours (R20)? -/
def neighbours (d o : DieId) : Bool := decide (d.val + 1 = o.val ∨ o.val + 1 = d.val)

/-- Count messages between two that came, by their TICK (R49, R51). -/
def ticksMissing (last tick : Word) : Nat := tick.toNat / 32 - last.toNat / 32 - 1

/-- A count message with a good CRC (R20, R50, R51, R163): it renews the offset, in FC once the own timed context has started;
before a partner's message gives FC, by the change of the two SCYs. -/
def State.takeCount (s : State) (d o : DieId) (tick scy : Word) (fold : Bool) : State :=
  let started := match s.foldTask d with | some (t, _) => t.fold.getLsbD o.val && t.startedOn d | none => false
  s.onDieAt d fun x => x.onPartner o fun p =>
    let raw : Int := if fold then p.raw else (scy.toNat : Int) + 6 - x.scy.toNat
    let offset : Int :=
      if !started then p.offset
      else if fold then (scy.toNat : Int) + 6 - x.fcNow
      else p.offset + (raw - p.raw)
    let gap := ticksMissing p.lastTick tick
    let p := if neighbours d o then p.compare tick x.tick else p
    { p with offset := offset, raw := raw, fc := if fold then scy.toNat else p.fc, lastTick := tick, lastArr := x.tick,
             missing := if started && (decide (3 ≤ p.missing) || decide (3 ≤ gap)) then 3 else 0, waited := 0 }

/-- COUNT_MESSAGE (R50, R51). -/
def State.countMessage (s : State) (d : DieId) (crc : Bool) : Option State :=
  match s.nextMsg d with
  | some (w, s1) =>
    match w.msg with
    | .count tick scy fold =>
      if crc then some (s1.takeCount d w.origin tick scy fold)
      else
        let s2 : State := { s1 with links := { s1.links with errCount := satInc16 s1.links.errCount 1 } }
        some (s2.onDieAt d fun x => x.onPartner w.origin fun p => { p with missing := p.missing + 1 })
    | _ => none
  | none => none

/-- COUNT_MESSAGES_MISSING (R51): three in a row from a member of the fold. Of one that has fallen silent they are missing when 128 of the
receiver's ticks have passed since the last one came (log 14). -/
def State.countsMissing (s : State) (d o : DieId) : Option State :=
  let x := s.dieAt d
  let p := x.partners.get o
  match s.foldTask d with
  | some (t, _) =>
    if o != d && t.fold.getLsbD o.val && t.startedOn d && (decide (3 ≤ p.missing) || decide (p.lastArr.toNat + 128 < x.tick.toNat)) then
      some ((s.onDieAt d fun y => y.onPartner o fun p => { p with missing := 0, lastArr := y.tick }).checkMembers t 0x44)
    else none
  | none => none

/-- An event message arrives (R51): its ESEQ is kept, and what it says is done, unless its CRC is bad or a value was skipped, which is
a machine check on the receiver's fold. -/
def State.takeEvent (s : State) (d o : DieId) (eseq : BitVec 8) (crc : Bool) (f : Task → CtxId → State → State) : State :=
  let p := (s.dieAt d).partners.get o
  let s1 := s.onDieAt d fun x => x.onPartner o fun p => { p with eseq := eseq }
  match s.foldTask d with
  | some (t, c) =>
    if !t.fold.getLsbD o.val then s1
    else if !crc || eseq != p.eseq + 1 then s1.checkMembers t 0x44
    else f t c s1
  | none => s1

/-- FREEZE_EVENT_MESSAGE (R168): the full cycles of an event that was raised at or after its origin's start are added to the debt of
every other member. -/
def State.freezeMessage (s : State) (d : DieId) (crc : Bool) : Option State :=
  match s.nextMsg d with
  | some (w, s1) =>
    match w.msg with
    | .freeze _ eseq cycles _ fold =>
      some (s1.takeEvent d w.origin eseq crc fun _ _ s =>
        if fold then s.onDieAt d fun x => { x with debt := x.debt + cycles.toNat } else s)
    | _ => none
  | none => none

/-- STOP_EVENT_MESSAGE (R169): the member stops its timed context at its boundary and records its own stop count; a stop that meets a
stall waits for its end (R123). -/
def State.stopMessage (s : State) (d : DieId) (crc : Bool) : Option State :=
  match s.nextMsg d with
  | some (w, s1) =>
    match w.msg with
    | .stop eseq _ _ _ =>
      some (s1.takeEvent d w.origin eseq crc fun t c s =>
        match ((s.dieAt d).ctxAt c).status with
        | .stalled k => if k ≤ (s.dieAt d).fcNow then s.joinStop t d c else s.onDieAt d fun x => { x with stopDue := true }
        | _ => s.joinStop t d c)
    | _ => none
  | none => none

/-- FREEZE_DEBT_PAID (R168): the last frozen cycle of the current die. -/
def State.debtPaid (s : State) (d : DieId) : Option State :=
  if d == s.turn && s.clocked && (s.dieAt d).debt == 1 && !(s.dieAt d).stopFrozen && s.ctx.grp.isNone then
    some (s.cycleStart.endCycle true false)
  else none

/-! ### Starting a fold (R138, R163, R170) -/

/-- The contexts of a task on a die that a start or a resumption leaves held: they were held before the pre-emption (Table 11.7). -/
def Task.staysHeld (t : Task) (d : DieId) (c : CtxId) : Bool := t.heldCtxs.contains (d, c)

/-- A die of a fold starts the contexts of a task: the timed context with what it knows of its partners (R163), its lanes as the stop
left them, and the free contexts in the same tick. At a task's start the partners stand at the own FC; at a resumption, where FC of
every member has stood still, at the FC that their messages gave (R163, R170, log 14). -/
def State.startDie (s : State) (t : Task) (d : DieId) : State :=
  let own := (s.dieAt d).fcNow
  let s1 := (foldDies t.fold).foldl (fun s o =>
    if o = d then s
    else s.onDieAt d fun x => x.onPartner o fun p =>
      { p with offset := if t.st == .starting then 0 else (p.fc : Int) - own, waited := 0, missing := 0 }) s
  let fresh := t.st == .starting || t.restored
  let s2 := s1.onDieAt d fun x => { x with rx := if fresh then .replicate 16 [] else x.rx, stopDue := false }
  t.ctxs.foldl (fun s p =>
    if p.1 != d then s
    else
      let s1 := if fresh then s.onCtxAt d p.2 fun c => { c with startScy := (s.dieAt d).scy } else s
      let s2 := if ((s.dieAt d).ctxAt p.2).kind == CtxKind.timed then s1.onDieAt d fun x => x.refillLanes p.2 else s1
      if t.staysHeld d p.2 then s2 else s2.onCtxAt d p.2 Ctx.unhold) s2

/-- FOLD_START (R138, R170). A member that resumes has paid the debt of what it met while the fold was stopped (Table 11.7). -/
def State.foldStart (s : State) (d : DieId) : Option State :=
  match s.foldTask d with
  | none => none
  | some (t, _) =>
    let x := s.dieAt d
    let reached := if d = t.refDie then t.startTick.toNat ≤ x.tick.toNat else t.startTick.toNat ≤ x.estTick t.refDie
    if t.startedOn d || !s.clockedAt d || x.stopFrozen || (t.st == .resuming && x.debt != 0) || !decide reached then none
    else
      let on : BitVec 3 := t.startOn ||| BitVec.ofNat 3 (2 ^ d.val)
      let s1 := s.startDie t d
      some (s1.onTask t.lid fun t =>
        if on == t.fold then
          { t with startOn := on, st := if t.heldCtxs.isEmpty then .running else .held, restored := false, heldCtxs := [] }
        else { t with startOn := on })

/-! ### ALIGN (R164 to R166) -/

/-- ALIGN_RELEASE (R164, R170): the estimate of every partner has reached the count. -/
def State.alignRelease (s : State) (d : DieId) : Option State :=
  match s.foldTask d with
  | none => none
  | some (_, c) =>
    match ((s.dieAt d).ctxAt c).status with
    | .aligning next _ =>
      if s.alignsMet d ((s.dieAt d).ctxAt c) next then
        some (s.onCtxAt d c fun y => { y.aligned next with status := .run })
      else none
    | _ => none

/-- ALIGNMENT_TIMEOUT (R166): the wait starts again if the fold is resumed. -/
def State.alignTimeout (s : State) (d : DieId) : Option State :=
  match s.foldTask d with
  | none => none
  | some (_, c) =>
    match ((s.dieAt d).ctxAt c).status with
    | .aligning next w =>
      if 2 ^ 20 ≤ w then
        some ((s.onCtxAt d c fun y => { ((s.dieAt d).atNext y).noteGuards with status := .aligning next 0 }).deliver
          d c ⟨0x14, 0, 0⟩ (s.dieAt d).fcNow 2 0)
      else none
    | _ => none

/-! ### Agreed counts (R140, R141) -/

/-- Does the group that a context would issue next begin inside a no-pre-empt window of its object (R140)? -/
def State.insideWindow (s : State) (t : Task) (d : DieId) (c : CtxId) : Bool :=
  let x := (s.dieAt d).ctxAt c
  let b := ((s.dieAt d).pastPads x).bundle - x.base
  x.status != .retired && ((s.objOf t).map fun o => o.windows.any fun r => decide (r.1 ≤ b ∧ b ≤ r.2)).getD false

/-- The contexts of a task that are held before a pre-emption stops the others. -/
def State.heldOf (s : State) (t : Task) : List (DieId × CtxId) :=
  t.ctxs.filter fun p => ((s.dieAt p.1).ctxAt p.2).status == .held

/-- A context of a victim stops; of a timed one the rows in the skew buffers go into the snapshot (R275). -/
def State.stopOf (s : State) (d : DieId) (c : CtxId) : State :=
  s.onDieAt d fun x => (if (x.ctxAt c).kind == CtxKind.timed then x.drainLanes c else x).onCtxAt c Ctx.hold

/-- Every context of a victim stops, and its save begins (R140). -/
def State.stopVictim (s : State) (t : Task) (held : List (DieId × CtxId)) : State :=
  let s1 := t.ctxs.foldl (fun s p => s.stopOf p.1 p.2) s
  s1.onTask t.lid fun t => { t with st := .saving, agreed := none, heldCtxs := held }

/-- The members that wait at an agreed count issue on: their lanes as they were. -/
def State.goOn (s : State) (t : Task) : State :=
  t.ctxs.foldl (fun s p =>
    if ((s.dieAt p.1).ctxAt p.2).kind == CtxKind.timed then
      (s.onCtxAt p.1 p.2 Ctx.unhold).onDieAt p.1 fun x => x.refillLanes p.2
    else s) s

/-- The timed context of a task on a die. -/
def State.timedOf (s : State) (t : Task) (d : DieId) : Option CtxId :=
  match (s.dieAt d).timedCid with
  | some c => if ((s.dieAt d).ctxAt c).lid == t.lid then some c else none
  | none => none

/-- Has the 1 ms of R141 passed when this agreed count was named? -/
def Agreed.late (a : Agreed) : Bool := decide (2000000 ≤ (a.named - a.since).toNat)

/-- Has a context come to a boundary at a count or past it: no stop falls inside a stall (R123, R140)? -/
def Ctx.atCount (c : Ctx) (scy : Word) (count : Nat) : Bool :=
  c.status == .retired || (decide (count ≤ c.fc scy) && (match c.status with | .stalled k => decide (k ≤ c.fc scy) | _ => true))

/-- Have all members of a task's fold stopped already (Table 11.7)? -/
def State.foldHeld (s : State) (t : Task) : Bool :=
  t.ctxs.all fun p =>
    let x := (s.dieAt p.1).ctxAt p.2
    x.kind != CtxKind.timed || x.status == .held || x.status == .retired

/-- A member that has reached the agreed count, and whether it stands inside a window there (R140 step 2). A handler holds FC: the fold
reaches the count after its return (log 17). -/
def State.reaches (s : State) (lid : BitVec 32) (d : DieId) : Option (Task × CtxId × Agreed × Bool) :=
  match s.task? lid with
  | none => none
  | some t =>
    match t.agreed, s.timedOf t d with
    | some a, some c =>
      if (t.st == .running || t.st == .held) && !s.inHandler t && !a.here.any (fun y => y.1 == d) && ((s.dieAt d).ctxAt c).atCount (s.dieAt d).scy a.count then
        some (t, c, a, s.insideWindow t d c)
      else none
    | _, _ => none

/-- Is every die of a fold accounted for at an agreed count? -/
def Task.allHere (t : Task) (here : List (DieId × Bool)) : Bool := (foldDies t.fold).all fun d => here.any fun y => y.1 == d

/-- When every member has been at the count and those inside a window have left it, the next agreed count is named (R140 step 4). -/
def Agreed.renew (a : Agreed) (t : Task) (now : Word) : Agreed :=
  if t.allHere a.here && a.leaving.isEmpty && !a.reports.isEmpty then
    { a with count := a.reports.foldl max 0 + 2048, named := now, here := [], reports := [] }
  else a

/-- A member reaches the agreed count (R140 steps 3 and 4). Once one is known to stand inside a window no member stops, and those that
had reached the count go on; until then a member that reaches it issues no further group, and when all have, all stop (log 17). -/
def State.agree (s : State) (t : Task) (d : DieId) (c : CtxId) (a : Agreed) (inside : Bool) : State :=
  let here := a.here ++ [(d, inside)]
  let b : Agreed := { a with here := here, leaving := if inside then a.leaving ++ [d] else a.leaving }
  if here.any (·.2) then
    (if a.here.any (·.2) then s else s.goOn t).onTask t.lid fun t => { t with agreed := some (b.renew t (s.dieAt 1).tick) }
  else
    let s1 := s.stopOf d c
    if t.allHere here then s1.stopVictim t ((s1.heldOf t).filter fun p => ((s.dieAt p.1).ctxAt p.2).kind != CtxKind.timed)
    else s1.onTask t.lid fun t => { t with agreed := some b }

/-- A member reports the count at which it has left every window (R140 step 4). -/
def State.leaveReport (s : State) (lid : BitVec 32) (d : DieId) : Option State :=
  match s.task? lid with
  | none => none
  | some t =>
    match t.agreed, s.timedOf t d with
    | some a, some c =>
      if (t.st == .running || t.st == .held) && a.leaving.contains d && !s.insideWindow t d c then
        let b : Agreed := { a with leaving := a.leaving.filter fun o => o != d
                                   reports := a.reports ++ [((s.dieAt d).ctxAt c).fc (s.dieAt d).scy] }
        some (s.onTask lid fun t => { t with agreed := some (b.renew t (s.dieAt 1).tick) })
      else none
    | _, _ => none

/-- AGREED_COUNT (R140): a member reaches the count, a member reports, or a victim that is held is saved as it stands
(Table 11.7). -/
def State.agreedCount (s : State) (lid : BitVec 32) (d : DieId) : Option State :=
  match s.task? lid with
  | none => none
  | some t =>
    if t.st == .held && t.agreed.isSome && s.foldHeld t && (t.agreed.map fun a => a.here.isEmpty).getD true then
      (if (foldDies t.fold).any fun o => (s.dieAt o).stopFrozen then none else some (s.stopVictim t (s.heldOf t)))
    else
      match s.reaches lid d with
      | none => s.leaveReport lid d
      | some (t, c, a, inside) => if inside && a.late then none else some (s.agree t d c a inside)

/-- NO_PREEMPT_OVERRUN (R141): a member inside a window reaches an agreed count that was named 1 ms after P₀, and takes the fault. -/
def State.overrun (s : State) (lid : BitVec 32) (d : DieId) : Option State :=
  match s.reaches lid d with
  | some (_, c, a, true) =>
    if a.late then
      some ((s.onCtxAt d c fun y => ((s.dieAt d).atNext y).noteGuards).deliver d c ⟨0x15, 0, 0⟩ (s.dieAt d).fcNow 2 0)
    else none
  | _ => none

/-! ### The events -/

/-- FAR_LANE_FRAME (R44). -/
def execFarLaneFrame (d : DieId) (l : BitVec 4) (fixed : Nat) (bad : Bool) (s : State) : Host.Outcome State Fault Refusal :=
  enabled "FAR_LANE_FRAME" (s.farFrame d l fixed bad)

/-- FAR_PATH_LOST (R47). -/
def execFarPathLost (b : Bool) (s : State) : Host.Outcome State Fault Refusal := enabled "FAR_PATH_LOST" (s.farPathLost b)

/-- COUNT_MESSAGE_SEND (R49). -/
def execCountMessageSend (d : DieId) (s : State) : Host.Outcome State Fault Refusal :=
  enabled "COUNT_MESSAGE_SEND" (s.countSend d)

/-- COUNT_MESSAGE (R50). -/
def execCountMessage (d : DieId) (crc : Bool) (s : State) : Host.Outcome State Fault Refusal :=
  enabled "COUNT_MESSAGE" (s.countMessage d crc)

/-- COUNT_MESSAGES_MISSING (R51). -/
def execCountMessagesMissing (d o : DieId) (s : State) : Host.Outcome State Fault Refusal :=
  enabled "COUNT_MESSAGES_MISSING" (s.countsMissing d o)

/-- FREEZE_EVENT_MESSAGE (R168). -/
def execFreezeEventMessage (d : DieId) (crc : Bool) (s : State) : Host.Outcome State Fault Refusal :=
  enabled "FREEZE_EVENT_MESSAGE" (s.freezeMessage d crc)

/-- STOP_EVENT_MESSAGE (R169). -/
def execStopEventMessage (d : DieId) (crc : Bool) (s : State) : Host.Outcome State Fault Refusal :=
  enabled "STOP_EVENT_MESSAGE" (s.stopMessage d crc)

/-- FREEZE_DEBT_PAID (R168). -/
def execFreezeDebtPaid (d : DieId) (s : State) : Host.Outcome State Fault Refusal :=
  enabled "FREEZE_DEBT_PAID" (s.debtPaid d)

/-- FOLD_START (R138). -/
def execFoldStart (d : DieId) (s : State) : Host.Outcome State Fault Refusal := enabled "FOLD_START" (s.foldStart d)

/-- ALIGN_RELEASE (R164). -/
def execAlignRelease (d : DieId) (s : State) : Host.Outcome State Fault Refusal :=
  enabled "ALIGN_RELEASE" (s.alignRelease d)

/-- ALIGNMENT_TIMEOUT (R166). -/
def execAlignmentTimeout (d : DieId) (s : State) : Host.Outcome State Fault Refusal :=
  enabled "ALIGNMENT_TIMEOUT" (s.alignTimeout d)

/-- AGREED_COUNT (R140). -/
def execAgreedCount (lid : BitVec 32) (d : DieId) (s : State) : Host.Outcome State Fault Refusal :=
  enabled "AGREED_COUNT" (s.agreedCount lid d)

/-- NO_PREEMPT_OVERRUN (R141). -/
def execNoPreemptOverrun (lid : BitVec 32) (d : DieId) (s : State) : Host.Outcome State Fault Refusal :=
  enabled "NO_PREEMPT_OVERRUN" (s.overrun lid d)

end Sys2Proof.Machine
end

