-- ==== Sys2Proof/Machine/Power.lean ====
section
/-! DEFINITION. The power governor (01 R21 to R29, 05 R148 to R152): the limit, the low-power order and its wake hints, the
settlement, and the freeze debt by which the dies swallow clock pulses. Powers are counted in tenths of a watt. -/

namespace Sys2Proof.Machine

/-- PWRLIM_WRITE (R26): the write counts from the next settlement; an illegal limit sets BADW; a 1 written to BADW clears it. -/
def State.writePwrlim (s : State) (v : Word) : State :=
  let lim := fld v 0 12
  let legal := decide (1200 ≤ lim ∧ lim ≤ 2800)
  { s with pkg := { s.pkg with
      pwrBad := !legal || (s.pkg.pwrBad && !bit v 12)
      pwrNext := if legal then some (BitVec.ofNat 12 lim) else s.pkg.pwrNext } }

/-- LOWPWR_WRITE (R151, Table 05.5): bit 0 is the order, a 1 in bit 1 a wake hint. -/
def State.writePwrmode (s : State) (v : Word) : State :=
  let s1 : State := { s with pkg := { s.pkg with lowPwr := bit v 0 } }
  if bit v 1 then s1.wake else s1

/-- WAKE_HOLD_END (R151): 200 µs after the last hint the hold ends. -/
def State.wakeHoldEnd (s : State) : Option State :=
  if s.pkg.hold && decide (400000 ≤ ((s.dieAt 1).tick - s.pkg.holdAt).toNat) then
    some { s with pkg := { s.pkg with hold := false } }
  else none

/-! ### The settlement (R148, R150) -/

/-- Power deliverable to the consumers (R21, R148). -/
def deliverable (limit : Nat) : Nat := limit * 100 / 108 * 10

/-- The ungoverned rails with a leakage (R23, Table 01.5); a variant draws nothing on the rail of a unit it lacks (R22). -/
def State.ungoverned (s : State) (leakage : Nat) : Nat :=
  leakage + 3150 + 900 + 400 + (if bit s.pkg.caps 0 then 1450 else 0) + 200

/-- The laser module of a port (R53). -/
def portModule (p : Fin 12) : Fin 4 := ⟨p.val % 4, by omega⟩

/-- Did a port carry at least a quarter of its capacity in the last interval? A live wavelength carries 224 Gb/s in each direction
(R52), 11,200,000 bits in 50 µs, and a flit 288 bytes; both directions count together (log 34). -/
def Port.busy (x : Port) : Bool :=
  decide (1400000 * (popcount 16 x.live.toNat + popcount 16 x.rxLive.toNat) ≤ x.carried * 1152) && decide (0 < x.carried)

/-- The laser power of a port for the next interval (R150): `below` f of the last interval was below 1, `atFloor` its module is
hot or the low-power order is in force, `raise` the floor its firmware asks for. -/
def PortPwr.settle (x : PortPwr) (inService busy below atFloor : Bool) (raise : Nat) : PortPwr :=
  let floor := min 216 (max x.floor.toNat raise)
  let raised := decide (x.floor.toNat < floor)
  let f : BitVec 8 := BitVec.ofNat 8 floor
  if !inService then { set := 0, floor := f, defer := false }
  else if atFloor then { set := f, floor := f, defer := false }
  else if x.defer then { set := f, floor := f, defer := false }
  else if busy then { set := 216, floor := f, defer := false }
  else if below && raised then { set := BitVec.ofNat 8 (max x.set.toNat floor), floor := f, defer := true }
  else if below then { set := f, floor := f, defer := false }
  else { set := BitVec.ofNat 8 (max x.set.toNat floor), floor := f, defer := false }

/-- The pass fraction in thousandths from the compute budget C and the need K, and whether it is held at 0.001 (R148). -/
def passOf (c : Int) (k : Nat) : Nat × Bool :=
  if c * 1000 ≤ (k : Int) then (1, true)
  else if k = 0 then (1000, false)
  else (min 1000 (c.toNat * 1000 / k), false)

/-- GOVERNOR_SETTLEMENT (R148, R150, R28, R29): `r` holds what the sensors and meters show at the settlement. -/
def State.settlement (s : State) (r : Readings) : Option State :=
  let p := s.pkg
  if !p.power || decide (((s.dieAt 1).tick - p.settleAt).toNat < 100000) then none
  else
    let limit := p.pwrNext.getD p.pwrLimit
    let hotDie := decide (100 ≤ r.dieMax.toNat) || (p.hotDie && decide (97 ≤ r.dieMax.toNat))
    let temps : List Nat := (List.range 4).map fun k => (r.laser.getD k 0).toNat
    let hotLaser : BitVec 4 := BitVec.ofNat 4 ((List.range 4).foldl (fun n k =>
      if 70 ≤ temps.getD k 0 ∨ (p.hotLaser.getLsbD k ∧ 66 ≤ temps.getD k 0) then n + 2 ^ k else n) 0)
    let low := p.lowPwr && !p.hold
    let ports : Vector PortPwr 12 := allPorts.foldl (fun (v : Vector PortPwr 12) i =>
      let x := s.links.port i
      v.set i.val ((v.get i).settle (x.st == .up) x.busy (decide (p.pass < 1000))
        (low || hotLaser.getLsbD (portModule i).val) (r.floors.getD i.val 0)) i.isLt) p.portPwr
    let lasers := (ports.toList.map fun (x : PortPwr) => x.set.toNat).foldl (· + ·) 0
    let byLimit : Int := (deliverable limit.toNat : Int) - (s.ungoverned r.leakage : Nat) - (lasers : Nat)
    let c : Int := if hotDie then min byLimit (r.thermal : Nat) else byLimit
    let f := if low then (1, false) else passOf c r.draw
    let n := 100 * (1000 - f.1)
    let since (d : DieId) : Option Interval := some { n := n, sub := 0, since := (s.dieAt d).tick }
    let hottest := temps.foldl max 0
    let pkg : Package := { p with
      pwrLimit := limit
      pwrNext := none
      pwrNow := r.input
      pwrPct := BitVec.ofNat 8 (p.pass / 10)
      tempDie := r.dieMax
      tempLaser := BitVec.ofNat 8 hottest
      hotDie := hotDie
      hotLaser := hotLaser
      sensors := r
      inForce := low
      overF := f.2
      pass := f.1
      settleAt := (s.dieAt 1).tick
      portPwr := ports
      interval := #v[since 0, since 1, since 2] }
    let links := { s.links with ports := s.links.ports.map fun (x : Port) => { x with carried := 0 } }
    some { s with pkg := pkg, links := links, sched := { s.sched with want := true } }

/-! ### Swallowed clock pulses (R149) -/

/-- Does a die raise the debt of its interval: it has no timed task that has started there (R138), its task has one die, or it is
the reference die of its fold? -/
def State.raises (s : State) (d : DieId) : Bool :=
  match (s.dieAt d).timedCid with
  | none => true
  | some c =>
    match s.task? ((s.dieAt d).ctxAt c).lid with
    | some t => !t.multiDie || t.refDie == d || !t.startedOn d
    | none => true

/-- FREEZE_DEBT_RAISE (R149): at the start of a sub-interval. -/
def State.raiseDebt (s : State) (d : DieId) : Option State :=
  match s.pkg.interval.get d with
  | none => none
  | some v =>
    if !s.clockedAt d || decide (50 ≤ v.sub) || decide (((s.dieAt d).tick - v.since).toNat < 2000 * v.sub) then none
    else
      let n := v.n * (v.sub + 1) / 50 - v.n * v.sub / 50
      let s1 : State := { s with pkg := { s.pkg with interval := s.pkg.interval.set d.val (some { v with sub := v.sub + 1 }) d.isLt } }
      some (if n ≠ 0 && s.raises d then s1.onDieAt d fun x => x.raiseFreeze n 1 else s1)

/-- PWRLIM_WRITE (R26). -/
def execPwrlimWrite (v : Word) (s : State) : Host.Outcome State Fault Refusal := .next (s.onMgmt fun s => s.writePwrlim v)

/-- LOWPWR_WRITE (R151). -/
def execLowpwrWrite (v : Word) (s : State) : Host.Outcome State Fault Refusal := .next (s.onMgmt fun s => s.writePwrmode v)

/-- WAKE (R151). -/
def execWake (s : State) : Host.Outcome State Fault Refusal := .next s.wake

/-- WAKE_HOLD_END (R151). -/
def execWakeHoldEnd (s : State) : Host.Outcome State Fault Refusal := enabled "WAKE_HOLD_END" s.wakeHoldEnd

/-- GOVERNOR_SETTLEMENT (R148). -/
def execGovernorSettlement (r : Readings) (s : State) : Host.Outcome State Fault Refusal :=
  enabled "GOVERNOR_SETTLEMENT" (s.settlement r)

/-- FREEZE_DEBT_RAISE (R149). -/
def execFreezeDebtRaise (d : DieId) (s : State) : Host.Outcome State Fault Refusal :=
  enabled "FREEZE_DEBT_RAISE" (s.raiseDebt d)

end Sys2Proof.Machine
end

