-- ==== Sys2Proof/Machine/SregEvents.lean ====
section
/-! DEFINITION. Writes of special registers that take effect by a step of their own: RMODE (R247), INVAL (R188), SLOTMAP (R90),
STOPCTL (R270), and the supervisor registers without behaviour beyond their fields (R332). -/

namespace Sys2Proof.Machine

/-- The registers of the step that a write takes. -/
inductive RegStep where
  | rmode | inval | slotmap | resume | finish | plain
  deriving DecidableEq, Repr

/-- Which step takes a write of a register. -/
def regStep (n : Nat) (v : Word) : RegStep :=
  if n = 0x0041 then .rmode
  else if n = 0x1700 then .inval
  else if n = 0x1701 then .slotmap
  else if n = 0x1804 && fld v 32 2 = 1 then .resume
  else if n = 0x1804 && fld v 32 2 = 2 then .finish
  else .plain

/-- The write of a special register that a context's count has come for, the earliest first. -/
def Ctx.dueSreg (x : Ctx) (scy : Word) : Option (Pending × Nat × Word) :=
  x.pend.findSome? fun p =>
    match p.eff with
    | .sreg n v => if p.eff.byEvent && decide (p.due ≤ x.countAt scy) then some (p, n, v) else none
    | _ => none

/-- The earliest write of a context takes effect, when it is one of the step named. -/
def State.sregStep (s : State) (k : RegStep) (d : DieId) (c : CtxId) : Option State :=
  let x := (s.dieAt d).ctxAt c
  match x.dueSreg (s.dieAt d).scy with
  | none => none
  | some (p, n, v) =>
    if regStep n v != k then none
    else
      let s1 := s.onCtxAt d c fun y => { y with pend := y.pend.erase p }
      some (if n = 0x0041 then s1.onCtxAt d c fun y => y.setSreg n v else s1.writeSup x.lid d n v)

/-- RMODE_WRITE (R247). -/
def execRmodeWrite (d : DieId) (c : CtxId) (s : State) : Host.Outcome State Fault Refusal :=
  enabled "RMODE_WRITE" (s.sregStep .rmode d c)

/-- STOPCTL_RESUME (R270). -/
def execStopctlResume (d : DieId) (c : CtxId) (s : State) : Host.Outcome State Fault Refusal :=
  enabled "STOPCTL_RESUME" (s.sregStep .resume d c)

/-- STOPCTL_END (R270). -/
def execStopctlEnd (d : DieId) (c : CtxId) (s : State) : Host.Outcome State Fault Refusal :=
  enabled "STOPCTL_END" (s.sregStep .finish d c)

end Sys2Proof.Machine
end

