-- ==== Sys2Proof/Machine/Superstep.lean ====
section
/-! DEFINITION. Supersteps (16 R394, R433, Table 16.7) and the ordered atomics that they close (08 R218, 16 R388). -/

namespace Sys2Proof.Machine

/-! ### Messages -/

/-- The codes of ARRIVE, READY, ABORT and DONE (Table 16.8). -/
abbrev opArrive : BitVec 6 := 0x10
abbrev opReady : BitVec 6 := 0x11
abbrev opAbort : BitVec 6 := 0x12
abbrev opDone : BitVec 6 := 0x13

/-- The members of a superstep's group. -/
def Links.stepMembers (l : Links) (x : SStep) : List (BitVec 7) := l.groupMembers x.group.toNat

/-- Send a message of superstep `k` of a group to every member of its list that can be reached (Table 16.7, R433). -/
def State.tellAll (s : State) (op : BitVec 6) (g : BitVec 6) (k status who : Nat) (d : DieId) : State :=
  let own := s.links.memberSet
  (s.links.groupMembers g.toNat).foldl (fun s m =>
    if (s.unreachable m).isSome then s
    else s.emit { packet0 with op := op, src := own, dst := m, die := BitVec.ofNat 2 d.val, reqm := own, group := g,
                               seq := BitVec.ofNat 64 k, status := BitVec.ofNat 8 status,
                               operand := BitVec.ofNat 64 who }) s

/-- Has a message of a kind come from a member for a superstep? -/
def Links.holds (l : Links) (x : SStep) (op : BitVec 6) (m : BitVec 7) : Bool :=
  l.smsgs.any fun y => y.op == op && y.src == m && y.group == x.group && y.step == x.step

/-- Has a message of a kind come from every member? -/
def Links.holdsAll (l : Links) (x : SStep) (op : BitVec 6) : Bool := (l.stepMembers x).all (l.holds x op)

/-! ### The end of a superstep -/

/-- The ordered atomics of this package that belong to a superstep report it (R388): OK where the fetched value was written;
after an OK without one TIMEOUT, since the owner's data was withheld (R15). -/
def State.endOrd (s : State) (g : BitVec 6) (k status who : Nat) : State :=
  s.links.trans.foldl (fun s t =>
    match t.op with
    | .amoOrd _ _ _ _ h _ =>
      if h = g && t.step = k then
        if (status = stOk || status = stLink) && t.reached then s.endTrans t stOk 0 k (.s 0)
        else if status = stOk then s.endTrans t stTimeout (fabMember t.addr).toNat k (.s 0)
        else s.endTrans t status who k (.s 0)
      else s
    | _ => s) s

/-- A superstep is over at this member: its messages and the atomics that it held and did not apply go (R394). -/
def Links.dropStep (l : Links) (g : BitVec 6) (k : Nat) : Links :=
  { l with ssteps := l.ssteps.filter fun x => !(x.group == g && x.step == k)
           smsgs := l.smsgs.filter fun y => !(y.group == g && y.step == k)
           ordHeld := l.ordHeld.filter fun h => !(h.group == g && h.step == k) }

/-- The superstep ends with an outcome, which its waiting form and its ordered atomics deliver (R394). -/
def State.endStep (s : State) (x : SStep) (status who : Nat) : State :=
  let s1 : State := { s with links := s.links.dropStep x.group x.step }
  (s1.endOrd x.group x.step status who).fxEnd x.lid x.die x.ctx x.seq (.sstep x.group) x.st
    (BitVec.ofNat 64 x.group.toNat) status who x.step (.s 0)

/-- Before READY a member that ends with a failure tells the others (Table 16.7). -/
def State.abortStep (s : State) (x : SStep) (status who : Nat) : State :=
  (s.tellAll opAbort x.group x.step status who x.die).endStep x status who

/-! ### The close (R218) -/

/-- Is a key (requester member, requester context, issue sequence) below another? -/
def ordBefore (p q : Packet) : Bool :=
  p.reqm.toNat < q.reqm.toNat ||
    (p.reqm == q.reqm && (p.reqctx.toNat < q.reqctx.toNat ||
      (p.reqctx == q.reqctx && decide (p.seq.toNat < q.seq.toNat))))

/-- Insert an atomic in ascending order of its key. -/
def insertOrd (p : Packet) : List Packet → List Packet
  | [] => [p]
  | q :: l => if ordBefore p q then p :: q :: l else q :: insertOrd p l

/-- The atomics of a superstep in the order in which they are applied. -/
def Links.closing (l : Links) (x : SStep) : List Packet :=
  (l.ordHeld.filter fun h => h.group == x.group && h.step == x.step).foldl (fun a h => insertOrd h.pkt a) []

/-- Apply one ordered atomic and send its fetched value, the tag of which its member waits for. -/
def State.applyOrd (s : State) (x : SStep) (p : Packet) : State :=
  let tag := s.links.freeTag.getD s.links.nextTag
  match aopOf p.aop with
  | none => s
  | some op =>
    match s.applyAmo p op with
    | (s1, none) => s1
    | (s1, some old) =>
      let l : Links := { s1.links with
        nextTag := tag + 1
        ssteps := s1.links.ssteps.map fun (y : SStep) =>
          if y.group == x.group && y.step == x.step then { y with acks := y.acks ++ [tag] } else y }
      let s2 : State := { s1 with links := l }
      s2.emit { packet0 with op := 0x09, src := s.links.memberSet, dst := p.reqm, die := BitVec.ofNat 2 (p.caddr.toNat / 2 ^ 28),
                             rtag := tag, taddr := p.taddr, caddr := p.caddr, length := 8, reqm := p.reqm, group := p.group,
                             reqctx := p.reqctx, operand := old }

/-- Every request that arrived before the close and is under way is finished first (R218). -/
def State.finishArrived (s : State) : State :=
  (List.range s.links.inbox.length).reverse.foldl (fun s i =>
    match s.links.inbox[i]? with
    | some p => if p.checked then s.serve i p [] else s
    | none => s) s

/-- Would a close of a superstep reach the scratchpad of a frozen die, which performs no access (R180)? -/
def State.closeRests (s : State) (g : BitVec 6) (k : Nat) : Bool :=
  (s.links.inbox.any fun p => p.checked && p.work.any s.pieceRests) ||
    s.links.ordHeld.any fun h => h.group == g && h.step == k && h.pkt.work.any s.pieceRests

/-- Phase 3 begins: the ordered atomics are applied in the order of their keys. -/
def State.close (s : State) (x : SStep) : State :=
  let s1 := s.finishArrived
  (s1.links.closing x).foldl (fun s p => s.applyOrd x p) s1

/-! ### Progress (Table 16.7) -/

/-- Change a superstep under way. -/
def State.onStep (s : State) (x : SStep) (f : SStep → SStep) : State :=
  { s with links := { s.links with ssteps := s.links.ssteps.map fun (y : SStep) =>
      if y.group == x.group && y.step == x.step then f y else y } }

/-- An ABORT that has come for a superstep: its status and WHO. -/
def Links.aborted (l : Links) (x : SStep) : Option (Nat × Nat) :=
  (l.smsgs.find? fun y => y.op == opAbort && y.group == x.group && y.step == x.step).map fun y =>
    (y.status.toNat, y.who.toNat)

/-- The lowest member of a superstep's group that can no longer be reached. -/
def State.lostMember (s : State) (x : SStep) : Option (BitVec 7) :=
  (s.links.stepMembers x).find? fun m => (s.unreachable m).isSome

/-- One move of a superstep from the phase it is in; none when it waits. -/
def State.stepOnce (s : State) (x : SStep) : Option State :=
  let l := s.links
  let lost := s.lostMember x
  match x.phase with
  | 1 =>
    match l.aborted x with
    | some (r, w) => some (s.abortStep x r w)
    | none =>
      match (l.stepMembers x).find? fun m => !s.connected m with
      | some m => some (s.abortStep x stAbsent m.toNat)
      | none =>
        if l.holdsAll x opArrive then
          some ((s.tellAll opReady x.group x.step 0 0 x.die).onStep x fun y => { y with phase := 2 })
        else none
  | 2 =>
    match l.aborted x with
    | some (r, w) => some (s.endStep x r w)
    | none =>
      if l.holdsAll x opReady then some ((s.onStep x fun y => { y with phase := 3 }).close x)
      else lost.map fun m => (s.tellAll opDone x.group x.step 0 0 x.die).endStep x stLink m.toNat
  | 3 =>
    if x.acks.isEmpty then
      some ((s.tellAll opDone x.group x.step 0 0 x.die).onStep x fun y => { y with phase := 4 })
    else lost.map fun m => (s.tellAll opDone x.group x.step 0 0 x.die).endStep x stLink m.toNat
  | _ =>
    if l.holdsAll x opDone then some (s.endStep x stOk 0)
    else lost.map fun m => s.endStep x stLink m.toNat

/-- A superstep moves on through its phases as far as it can. -/
def State.stepOn (g : BitVec 6) (k : Nat) : Nat → State → State
  | 0, s => s
  | n + 1, s =>
    match s.links.ssteps.find? fun x => x.group == g && x.step == k with
    | none => s
    | some x =>
      match s.stepOnce x with
      | some s1 => State.stepOn g k n s1
      | none => s

/-- Every superstep under way moves on. -/
def State.stepsOn (s : State) : State := s.links.ssteps.foldl (fun s x => s.stepOn x.group x.step 5) s

/-! ### The arrival (R394, R433) -/

/-- An fx.sstep is performed: the arrival of this package at the next superstep of the group. -/
def State.arrive (s : State) (d : DieId) (c : CtxId) (e : Entry) (g : BitVec 6) (st : Bool) : State :=
  let lid := ((s.dieAt d).ctxAt c).lid
  let own := s.links.memberSet
  let ms := s.links.groupMembers g.toNat
  let k := s.links.sstepNext.toList.getD g.toNat 0
  if ms.isEmpty || !ms.contains own then
    let who := if ms.isEmpty then 0 else own.toNat
    (s.endOrd g k stAbsent who).fxEnd lid d c e.seq (.sstep g) st (BitVec.ofNat 64 g.toNat) stAbsent who 0 (.s 0)
  else
    let x : SStep := { group := g, step := k, phase := 1, die := d, ctx := c, lid := lid, seq := e.seq, st := st, acks := [],
                       since := (s.dieAt d).tick }
    let l : Links := { s.links with sstepNext := s.links.sstepNext.setIfInBounds g.toNat (k + 1), ssteps := s.links.ssteps ++ [x] }
    let s1 : State := { s with links := l }
    let s2 := s1.onCtxAt d c fun y =>
      { y with entries := y.entries.map fun (z : Entry) => if z.seq = e.seq then { z with sent := true } else z }
    match ms.findSome? fun m => (s.unreachable m).map fun r => (m, r) with
    | some (m, r) => s2.abortStep x r m.toNat
    | none => (s2.tellAll opArrive g k 0 0 d).stepOn g k 5

/-! ### Messages that come -/

/-- The next superstep of a member in a group, after an arrival that it told. -/
def Links.arrived (l : Links) (src : BitVec 7) (g : BitVec 6) (k : Nat) : Links :=
  { l with arrivals := (src, g, k) :: l.arrivals.filter fun x => !(x.1 == src && x.2.1 == g) }

/-- A superstep message is received (R394, R433), a READY once the close can be performed (R180): one from a package that the list of its group does not name, or for a
superstep that is over, is discarded. -/
def State.sstepMsg (s : State) (op : BitVec 6) (i : Nat) : Option State :=
  ((s.inboxAt op i).filter fun p => !(op == opReady && s.closeRests p.group p.seq.toNat)).map fun p =>
    let s1 := s.dropInbox i
    let k := p.seq.toNat
    if !(s.links.groupMembers p.group.toNat).contains p.src then s1
    else
      let l := s1.links
      let l := if op == opArrive then l.arrived p.src p.group (k + 1)
        else if op == opAbort then l.arrived p.src p.group (max (l.stepOf p.src p.group) (k + 1)) else l
      if l.stepOver p.group k then { s1 with links := l }
      else
        let m : SMsg := ⟨op, p.src, p.group, k, p.status, BitVec.ofNat 7 p.operand.toNat⟩
        let s2 : State := { s1 with links := { l with smsgs := l.smsgs ++ [m] } }
        s2.stepOn p.group k 5

/-- SUPERSTEP_TIMEOUT (Table 16.7): 100 µs in phase 1; WHO is the lowest member that has not arrived. -/
def State.sstepTimeout (s : State) (k : Nat) : Option State :=
  match s.links.ssteps[k]? with
  | none => none
  | some x =>
    if x.phase ≠ 1 ∨ ((s.dieAt x.die).tick - x.since).toNat < fabricWait then none
    else
      (((s.links.stepMembers x).find? fun m => !s.links.holds x opArrive m)).map fun m => s.abortStep x stTimeout m.toNat

/-- The outstanding ordered atomic that a fetched value belongs to: the oldest of its context, group, address and owner that
has none yet. -/
def Links.fetchedOf (l : Links) (p : Packet) : Option Trans :=
  l.trans.find? fun t =>
    match t.op with
    | .amoOrd _ _ _ dst g _ =>
      !t.reached && g == p.group && dst.toNat == p.caddr.toNat && fabMember t.addr == p.src &&
        decide (4 * t.die.val + t.ctx.val = p.reqctx.toNat)
    | _ => false

/-- ORDERED_FETCHED_VALUE_WRITE (R218): the value is written at the requester's local address, on a die that is not frozen (R180), and
acknowledged. -/
def State.fetchedWrite (s : State) (i : Nat) : Option State :=
  ((s.inboxAt 0x09 i).filter fun p => !(s.dieAt (spDie p.router p.caddr.toNat)).frozen).map fun p =>
    let s1 := s.dropInbox i
    match s.links.fetchedOf p with
    | none => s1.answerTo p p.src 0x05 stOk 0
    | some t =>
      let a := p.caddr.toNat
      let s2 := s1.onDieAt (spDie t.die a) fun d => { d with sp := d.sp.write (spOff a) (leBytes 8 p.operand.toNat) }
      let s3 : State := { s2 with links := s2.links.setTrans t { t with reached := true } }
      s3.answerTo p p.src 0x05 stOk 0

/-- A response to a write: the answer to a fetched value lets a close go on (Table 16.7 phase 3). -/
def State.writeAnswer (s : State) (i : Nat) : Option State := (s.writeResponse i).map State.stepsOn

/-- WRITE_AND_FLAG_RESPONSE (R386). -/
def execWriteAndFlagResponse (i : Nat) (s : State) : Host.Outcome State Fault Refusal :=
  enabled "WRITE_AND_FLAG_RESPONSE" (s.writeAnswer i)

/-- SUPERSTEP_ARRIVE (R394). -/
def execSuperstepArrive (i : Nat) (s : State) : Host.Outcome State Fault Refusal :=
  enabled "SUPERSTEP_ARRIVE" (s.sstepMsg opArrive i)

/-- SUPERSTEP_READY (R394). -/
def execSuperstepReady (i : Nat) (s : State) : Host.Outcome State Fault Refusal :=
  enabled "SUPERSTEP_READY" (s.sstepMsg opReady i)

/-- SUPERSTEP_ABORT (R394). -/
def execSuperstepAbort (i : Nat) (s : State) : Host.Outcome State Fault Refusal :=
  enabled "SUPERSTEP_ABORT" (s.sstepMsg opAbort i)

/-- SUPERSTEP_DONE (R394). -/
def execSuperstepDone (i : Nat) (s : State) : Host.Outcome State Fault Refusal :=
  enabled "SUPERSTEP_DONE" (s.sstepMsg opDone i)

/-- SUPERSTEP_TIMEOUT (R394). -/
def execSuperstepTimeout (k : Nat) (s : State) : Host.Outcome State Fault Refusal :=
  enabled "SUPERSTEP_TIMEOUT" (s.sstepTimeout k)

/-- ORDERED_FETCHED_VALUE_WRITE (R218). -/
def execOrderedFetchedValueWrite (i : Nat) (s : State) : Host.Outcome State Fault Refusal :=
  enabled "ORDERED_FETCHED_VALUE_WRITE" (s.fetchedWrite i)

end Sys2Proof.Machine
end

