-- ==== Sys2Proof/Machine/LinkEvents.lean ====
section
/-! DEFINITION. The optical ports (02 R52 to R63): loss of light and repair, flits, replay, acknowledgement, credits, resequencing and
transit; and the planes (02 R64 to R70). -/

namespace Sys2Proof.Machine

/-! ### Light (R53 to R57) -/

/-- Is quad `q` live: its comb or the spare laser feeds it, and each of its wavelengths has light, its own or λ16's (R54)? -/
def Port.quadLive (x : Port) (q : Nat) : Bool :=
  (!x.combDead.getLsbD q || (x.spare.map BitVec.toNat) == some q) &&
    (List.range 4).all fun i => !x.dark.getLsbD (4 * q + i) || (x.lambda16.map BitVec.toNat) == some (4 * q + i)

/-- The live mask of positions (R54, PORTSTAT [15:0]). -/
def Port.mask (x : Port) : BitVec 16 :=
  BitVec.ofNat 16 (((List.range 4).filter x.quadLive).foldl (fun n q => n + 15 * 2 ^ (4 * q)) 0)

/-- Post a link event of a port on the PF's ring (R57, Table 03.12). -/
def State.linkEvent (s : State) (p : Fin 12) (code : Nat) (before after : BitVec 16) (replayed : Nat) : State :=
  s.postEvent 0 code (portDie p) 0
    (leBytes 8 (before.toNat + after.toNat * 2 ^ 16 + min 0xFFFF replayed * 2 ^ 32 + p.val * 2 ^ 48))

/-- A flit that is given back stands in the router's queue ahead of the flits for its member that have no number of its logical
link, in XSEQ order among those that have one (R58, R63). -/
def giveBack (f : Option (BitVec 7) × Flit) : List (Option (BitVec 7) × Flit) → List (Option (BitVec 7) × Flit)
  | [] => [f]
  | g :: l =>
    if g.2.dst == f.2.dst && (g.1 != f.1 || decide ((g.2.xseq - f.2.xseq).toNat < 2 ^ 15)) then f :: g :: l else g :: giveBack f l

/-- Unacknowledged flits of a port that `which` names go back to the router (R58, R67). One that stands before a flit which stays is
kept as well, for the receiver takes flits in LSEQ order alone (R62); the second copy is dropped where it arrives (R63). -/
def State.takeBack (s : State) (p : Fin 12) (which : Flit → Bool) : State :=
  let x := s.links.port p
  let back := (x.unacked.filter which).map fun f => (s.links.linkOf p f.dst, f)
  let s1 := s.onPort p fun y => { y with unacked := (y.unacked.reverse.dropWhile which).reverse }
  { s1 with links := { s1.links with router := back.foldr giveBack s1.links.router } }

/-- The transactions to every member whose routes are all lost end (R58); supersteps notice the loss (R394). -/
def State.routesLost (s : State) : State :=
  ((dedupNat (s.links.trans.flatMap fun t => (fabMember t.addr :: t.await).map BitVec.toNat)).foldl (fun s m =>
    let m : BitVec 7 := BitVec.ofNat 7 m
    if s.unreachable m == some stLink then s.linkLost m else s) s).stepsOn

/-- A port goes down (R58, R61, R62) with an event: its live mask before and the count of flits that had been replayed. -/
def State.portDown (s : State) (p : Fin 12) (code : Nat) (before : BitVec 16) (replayed : Nat) : State :=
  let s1 := s.onPort p fun x => { x with st := .down }
  ((s1.takeBack p fun _ => true).linkEvent p code before (s1.links.port p).live replayed).routesLost

/-- Every unacknowledged flit is sent again with its nonce and its number (R61, R62). -/
def State.resend (s : State) (p : Fin 12) : State :=
  let n := (s.links.port p).unacked.length
  let s1 := s.onPort p fun y => { y with sent := y.sent ++ y.unacked.map y.waves }
  { s1 with links := { s1.links with errReplay := satInc16 s1.links.errReplay n } }

/-- The steps of R55 after a loss of light: the quad leaves the live set, the marker goes out, every unacknowledged flit is sent
again, and the event is posted. With no quad left the port goes down (R58), which is an event of its own (R57). A port that carries no
traffic has nothing to send. -/
def State.narrow (s : State) (p : Fin 12) : State :=
  let x := s.links.port p
  let s1 := s.onPort p fun y => { y with live := y.mask }
  if x.mask = 0 then (s1.linkEvent p 0x50 x.live 0 0).portDown p 0x52 x.live 0
  else if x.st != .up then s1.linkEvent p 0x50 x.live x.mask 0
  else ((s1.onPort p fun y => y.say (.restripe y.live)).resend p).linkEvent p 0x50 x.live x.mask x.unacked.length

/-- The stripe is wider after a repair, without a pause in traffic (R56), which is an event (R57); a repair that widens nothing changes
nothing, and a port that carries no traffic sends no marker. -/
def State.widen (s : State) (p : Fin 12) : State :=
  let x := s.links.port p
  if x.mask == x.live then s
  else
    let s1 := s.onPort p fun y => { y with live := y.mask }
    (if x.st == .up then s1.onPort p fun y => y.say (.restripe y.live) else s1).linkEvent p 0x51 x.live x.mask 0

/-- A laser of the port loses its light (R55, R56, Table 02.7). -/
def Port.lose (x : Port) : Light → Option Port
  | .wave w =>
    if x.dark.getLsbD w.toNat then none
    else
      let y : Port := { x with dark := x.dark ||| BitVec.ofNat 16 (2 ^ w.toNat) }
      some (if y.lambda16.isNone && !y.lambdaDead && y.lambdaWait.isNone then { y with lambdaWait := some w } else y)
  | .comb c =>
    if x.combDead.getLsbD c.toNat then none
    else
      let inQuad (w : Option (BitVec 4)) : Bool := match w with | some v => v.toNat / 4 == c.toNat | none => false
      let y : Port := { x with
        combDead := x.combDead ||| BitVec.ofNat 4 (2 ^ c.toNat)
        dark := BitVec.ofNat 16 (setBits x.dark.toNat (4 * c.toNat) 4 0)
        lambda16 := if inQuad x.lambda16 then none else x.lambda16
        lambdaWait := if inQuad x.lambdaWait then none else x.lambdaWait }
      some (if y.spare.isNone && !y.spareDead && y.spareWait.isNone then { y with spareWait := some c } else y)
  | .lambda16 =>
    if x.lambdaDead || (x.lambda16.isNone && x.lambdaWait.isNone) then none
    else some { x with lambdaDead := true, lambda16 := none, lambdaWait := none }
  | .spare =>
    if x.spareDead || (x.spare.isNone && x.spareWait.isNone) then none
    else some { x with spareDead := true, spare := none, spareWait := none }
  | .seen w =>
    if x.rxDark.getLsbD w.toNat then none
    else some ({ x with rxDark := x.rxDark ||| BitVec.ofNat 16 (2 ^ w.toNat) }.say (.dark w))

/-- What follows a laser's loss: a data wavelength without light, whose quad may be out of the live set already, takes the steps of R55;
so does a spare source that stood in. One that was only being tuned is reported. -/
def State.lost (s : State) (p : Fin 12) (l : Light) : State :=
  let x := s.links.port p
  let data := match l with | .wave _ | .comb _ => true | _ => false
  if x.st == .down || (!data && x.mask == x.live) then (s.onPort p fun y => { y with live := y.mask }).linkEvent p 0x50 x.live x.mask 0
  else s.narrow p

/-- LOSS_OF_LIGHT (R55): a laser of the port is dark, as its own monitor or the far receiver has seen; or the port's receiver misses a
wavelength and tells the other side, which posts no event here (log 27). A part without optics has no ports (R2). -/
def State.lossOfLight (s : State) (p : Fin 12) (l : Light) : Option State :=
  if !bit s.pkg.caps 2 then none
  else
    ((s.links.port p).lose l).map fun y =>
      let s1 := s.onPort p fun _ => y
      match l with
      | .seen _ => s1
      | _ => s1.lost p l

/-- SPARE_LASER_LOCK (R56): the spare laser feeds the quad of the failed comb. -/
def State.spareLock (s : State) (p : Fin 12) : Option State :=
  let x := s.links.port p
  match x.spareWait with
  | none => none
  | some q => some ((s.onPort p fun y => { y with spare := some q, spareWait := none }).widen p)

/-- SPARE_WAVELENGTH_LOCK (R56): λ16 stands in for the failed wavelength. -/
def State.lambdaLock (s : State) (p : Fin 12) : Option State :=
  let x := s.links.port p
  match x.lambdaWait with
  | none => none
  | some w => some ((s.onPort p fun y => { y with lambda16 := some w, lambdaWait := none }).widen p)

/-! ### Acknowledgement and replay (R62) -/

/-- Does a LACK cover a flit: it names this flit or a later one (R62)? -/
def Flit.covered (lack : BitVec 16) (f : Flit) : Bool := decide ((lack - f.lseq).toNat < 2 ^ 15)

/-- A LACK releases the flits that it covers; progress ends a run of replays. -/
def Port.ack (x : Port) (lack : BitVec 16) : Port :=
  if x.unacked.any (Flit.covered lack) then { x with unacked := x.unacked.dropWhile (Flit.covered lack), replays := 0 } else x

/-- The transmitter sends every unacknowledged flit again; after eight replays without progress the port goes down instead. -/
def State.replay (s : State) (p : Fin 12) : State :=
  let x := s.links.port p
  if x.unacked.isEmpty then s
  else if 8 ≤ x.replays then s.portDown p 0x53 x.live x.unacked.length
  else (s.resend p).onPort p fun y => { y with replays := y.replays + 1 }

/-- Does a port receive: the part has optics (R2) and the port is up? -/
def State.receives (s : State) (p : Fin 12) : Bool := bit s.pkg.caps 2 && (s.links.port p).st == .up

/-- A control flit reaches a port that is up. -/
def State.control (s : State) (p : Fin 12) (f : State → State) : Option State := if s.receives p then some (f s) else none

/-- The receiver asks once for the flits after the last one it accepted (R62). -/
def Port.askReplay (x : Port) : Port :=
  if x.gap then x else { x with gap := true }.say (.replay (x.rxSeq - 1))

/-- The receiver accepts a flit: the credit of its buffer place goes back, and every 32 flits are acknowledged (R62, R63). -/
def Port.accept (x : Port) (vc : BitVec 3) : Port :=
  let y : Port :=
    { x with rxSeq := x.rxSeq + 1, rxNonce := x.rxNonce + 1, carried := x.carried + 1, gap := false, ackOwed := x.ackOwed + 1 }.say
      (.credit vc 1)
  if 32 ≤ y.ackOwed then y.sayAck else y

/-- What a receiver takes from a control flit: of its KIND and OP (Table 02.10). -/
def State.takeCtl (s : State) (p : Fin 12) : Ctl → State
  | .ack lack => s.onPort p fun x => x.ack lack
  | .restripe mask => s.onPort p fun x => { x with rxLive := mask, rxDark := 0 }
  | .credit vc n => s.onPort p fun x =>
    { x with credits := x.credits.set vc.toNat (min 32 (x.credits.get ⟨vc.toNat, vc.isLt⟩ + n)) vc.isLt }
  | .replay lack => (s.onPort p fun x => x.ack lack).replay p
  | .drain | .train | .dark _ => s

/-! ### Release (R63, R65, R395) -/

/-- The receiving side of the logical link from a neighbour to a destination. -/
def Links.rxWin (l : Links) (peer dst : BitVec 7) : RxWin :=
  (l.rxWins.find? fun w => w.peer == peer && w.dst == dst).getD { peer := peer, dst := dst, next := 0, window := [], part := [] }

/-- Replace the receiving side of a logical link. -/
def Links.setRxWin (l : Links) (w : RxWin) : Links :=
  { l with rxWins := w :: l.rxWins.filter fun x => !(x.peer == w.peer && x.dst == w.dst) }

/-- A forwarded request whose destination has no direct port here is answered with ABSENT for the member it names (R65). Responses,
superstep messages, stream rows and credits ask for no answer and are dropped (log 28). -/
def State.transitAbsent (s : State) (p : Packet) : State :=
  let ans (dst : BitVec 7) (op : BitVec 6) (who : Nat) : State :=
    s.emit { packet0 with op := op, src := p.dst, dst := dst, die := BitVec.ofNat 2 (p.reqctx.toNat / 4), vc := 1, rtag := p.rtag,
                          taddr := p.taddr, status := BitVec.ofNat 8 stAbsent, reqm := p.reqm,
                          group := p.group, reqctx := p.reqctx, operand := BitVec.ofNat 64 who }
  match p.op.toNat with
  | 0x01 | 0x03 | 0x04 | 0x06 | 0x08 | 0x0E => ans p.src (answerOp p.op) 0
  | 0x0B | 0x0C => ans p.reqm 0x0D p.dst.toNat
  | 0x09 => ans p.src 0x05 0
  | _ => s

/-- Does a packet ask something of a window of this package, which is a wake hint (R151): a read, a write, an atomic, a
three-party request, a delivery, a read of a reduction? -/
def Packet.wakes (p : Packet) : Bool := [0x01, 0x03, 0x04, 0x06, 0x08, 0x0B, 0x0C, 0x0E].contains p.op.toNat

/-- A released flit: of an unassigned code it is discarded; for another member it is forwarded over a direct port of its own
table; for this package it joins its packet, which is delivered when it is whole. -/
def State.release (s : State) (peer : BitVec 7) (f : Flit) : State :=
  if !opAssigned f.op then s
  else if f.dst != s.links.memberSet then
    if (s.links.routeOf f.dst).direct = 0 then if f.first then s.transitAbsent (packetOf f []) else s
    else { s with links := { s.links with router := s.links.router ++ [(none, { f with transit := true })] } }
  else
    let w := s.links.rxWin peer f.dst
    let same (g : Flit) : Bool := g.src == f.src && g.rtag == f.rtag && g.op == f.op && g.vc == f.vc
    let mine := if f.first then [f] else w.part.filter same ++ [f]
    let rest := w.part.filter fun g => !same g
    if f.last then
      let l := s.links.setRxWin { w with part := rest }
      match mine with
      | g :: more =>
        if g.first then
          let p := packetOf g more
          let s1 : State := { s with links := { l with inbox := l.inbox ++ [p] } }
          if p.wakes then s1.wake else s1
        else { s with links := l }
      | [] => s
    else { s with links := s.links.setRxWin { w with part := rest ++ mine } }

/-- The flits of the resequencing window that stand next are released, at most `fuel` of them (R63). -/
def State.releaseNext (peer dst : BitVec 7) : Nat → State → State
  | 0, s => s
  | n + 1, s =>
    let w := s.links.rxWin peer dst
    match w.window.find? fun f => f.xseq == w.next with
    | none => s
    | some f =>
      let l := s.links.setRxWin { w with next := w.next + 1, window := w.window.filter fun g => g.xseq != w.next }
      let s1 : State := { s with links := l }
      State.releaseNext peer dst n (s1.release peer f)

/-- Is a flit ahead of the resequencing window of its logical link (R63)? The receiver then takes it as lost. -/
def Links.aheadOfWindow (l : Links) (peer : BitVec 7) (f : Flit) : Bool :=
  let n := (f.xseq - (l.rxWin peer f.dst).next).toNat
  decide (1024 ≤ n ∧ n < 2 ^ 15)

/-- An accepted flit enters the resequencing window of 1,024 flits; one that has been released already is dropped (R63). -/
def State.resequence (s : State) (peer : BitVec 7) (f : Flit) : State :=
  let w := s.links.rxWin peer f.dst
  if 1024 ≤ (f.xseq - w.next).toNat || w.window.any (fun g => g.xseq == f.xseq) then s
  else
    let s1 : State := { s with links := s.links.setRxWin { w with window := w.window ++ [f] } }
    State.releaseNext peer f.dst 1024 s1

/-- Do the checks of a header's bytes fail (R60)? -/
def headerBad (h : List Byte) : Bool :=
  let n := leNat h
  decide (bits n 93 35 ≠ 0 ∨ bits n 67 2 = 3 ∨ 8 < bits n 89 4)

/-- What a receiver makes of the bytes on its wavelengths: a data flit, or what another KIND says beside its LACK. -/
inductive RxFlit where
  | lost
  | badTag
  | badHeader
  | good (f : Flit)
  | other (lack : BitVec 16) (c : Option Ctl)
  deriving DecidableEq, Repr

/-- The nonce of a flit by its LSEQ: the count of distinct flits before it under the key (R61). -/
def Port.rxNonceOf (x : Port) (lseq : BitVec 16) : Nat := ((x.rxNonce : Int) + signedOf 16 (lseq - x.rxSeq).toNat).toNat

/-- The checks of a flit that comes on the live wavelengths (R54, R60, R61): CRC, tag, header. -/
def Port.read (x : Port) (waves : List (List Byte)) : RxFlit :=
  let bs := unstripe waves
  let h := bs.take 16
  if waves.length ≠ popcount 16 x.rxLive.toNat ∨ BitVec.ofNat 64 (leAt bs 280 8) ≠ crc64 (bs.take 280) then .lost
  else
    let n := leNat h
    let open' :=
      if bits n 48 2 = 1 then gcmOpen x.rxKey (x.rxNonceOf (BitVec.ofNat 16 (bits n 0 16))) h (slice bs 16 256) (slice bs 272 8)
      else Config.controlOpen x.rxKey h (slice bs 16 264)
    match open' with
    | none => .badTag
    | some pt =>
      if headerBad h then .badHeader
      else if bits n 48 2 = 1 then .good (flitOf h pt)
      else .other (BitVec.ofNat 16 (bits n 16 16)) (ctlOf n pt)

/-- A flit whose checks pass (R62, R63): it is taken in LSEQ order; one that was taken before is dropped, and a gap asks for a
replay. -/
def State.takeFlit (s : State) (p : Fin 12) (peer : BitVec 7) (f : Flit) : State :=
  let x := s.links.port p
  let s1 := s.onPort p fun y => { y.ack f.lack with tagFails := 0 }
  if f.lseq == x.rxSeq then
    if s.links.aheadOfWindow peer f then s1.onPort p Port.askReplay
    else (s1.onPort p fun y => y.accept f.vc).resequence peer f
  else if (x.rxSeq - f.lseq).toNat ≤ 512 then s1
  else s1.onPort p Port.askReplay

/-- DATA_FLIT (R59 to R63): the flit is what its KIND says. `peer` is the package at the other end of the port's circuit; the 288 bytes come on the wavelengths that
the receiver takes to be live. -/
def State.dataFlit (s : State) (p : Fin 12) (peer : BitVec 7) (bs : List Byte) : Option State :=
  s.control p fun s =>
    let x := s.links.port p
    match x.read (stripe (popcount 16 x.rxLive.toNat) bs) with
    | .lost => s.onPort p Port.askReplay
    | .badTag =>
      let s1 := s.onPort p fun y => { y.askReplay with tagFails := y.tagFails + 1 }
      if 8 ≤ x.tagFails + 1 then s1.portDown p 0x53 x.live 0 else s1
    | .badHeader => s.onPort p fun y => { y.askReplay with tagFails := 0 }
    | .good f => s.takeFlit p peer f
    | .other lack c =>
      let s1 := s.onPort p fun y => { y.ack lack with tagFails := 0 }
      match c with
      | some c => s1.takeCtl p c
      | none => s1

/-! ### Planes (R64 to R70) -/

/-- The ports of a plane. -/
def planePorts (k : Fin 4) : List (Fin 12) := allPorts.filter fun p => portPlane p == k

/-- Change a plane. -/
def State.setPlane (s : State) (k : Fin 4) (v : PlaneSt) : State :=
  { s with links := { s.links with planes := s.links.planes.set k.val v k.isLt } }

/-- A bit of CFGERR is set (Table 02.12). -/
def State.cfgError (s : State) (i : Nat) : State :=
  { s with links := { s.links with cfgErr := s.links.cfgErr ||| BitVec.ofNat 3 (2 ^ i) } }

/-- A plane begins to drain (R67): a marker goes out, and flits whose logical link has another usable port are sent again
there. -/
def State.drainPlane (s : State) (k : Fin 4) : State :=
  let s1 := s.setPlane k .draining
  (planePorts k).foldl (fun s p =>
    if (s.links.port p).st != .up then s
    else
      (s.onPort p fun x => x.say .drain).takeBack p fun f =>
        let ps := s.links.portsTo f.dst f.transit
        !ps.2.isEmpty && some ps.1 == s.links.linkOf p f.dst) s1

/-- DRAIN (R67, R70). With FORCE the package is leaving the group from now to the next commit (log 48). -/
def State.planeDrain (s : State) (k : Fin 4) (force : Bool) : State :=
  if s.links.planes.get k != .enabled then s
  else if !force && (s.links.planes.toList.filter fun x => x == .enabled).length < 4 then s.cfgError 0
  else
    let s1 := s.drainPlane k
    if force then { s1 with links := { s1.links with leaving := true } } else s1

/-- ENABLE (R70): the ports of a drained plane train; a part without optics has none (R2). -/
def State.planeEnable (s : State) (k : Fin 4) (commit : Bool) : State :=
  if !bit s.pkg.caps 2 then s
  else if s.links.planes.get k != .drained then s.cfgError 2
  else
    let c : BitVec 4 := BitVec.ofNat 4 (setBits s.links.planeCommit.toNat k.val 1 commit.toNat)
    let s1 := s.setPlane k .training
    let s2 : State := { s1 with links := { s1.links with planeCommit := c } }
    (planePorts k).foldl (fun s p => s.onPort p fun x => { x with st := .training }.say .train) s2

/-- PLANE_DRAINED (R67): every port of a draining plane has an empty replay buffer; a port that is down stays down (R58). -/
def State.planeDrained (s : State) (k : Fin 4) : Option State :=
  if s.links.planes.get k != .draining || (planePorts k).any (fun p => !(s.links.port p).unacked.isEmpty) then none
  else
    let s1 := (planePorts k).foldl (fun s p => s.onPort p fun x => { x with st := if x.st == .down then .down else .drained }) (s.setPlane k .drained)
    some (s1.postEvent 0 0x54 1 0 (leBytes 8 (k.val * 2 ^ 48)))

/-- A key of 256 bits drawn from the free value numbered `n` and the three after it. -/
def freeKey (n : Nat) : BitVec 256 :=
  BitVec.ofNat 256 ((List.range 4).foldl (fun k i => k * 2 ^ 64 + (Config.freeWord (n + i)).toNat) 0)

/-- New keys of a port, one for each direction (R61); the counts of flits under them start again. -/
def State.newKeys (s : State) (p : Fin 12) : State :=
  { s with fresh := s.fresh + 8 }.onPort p fun x =>
    { x with txKey := freeKey s.fresh, rxKey := freeKey (s.fresh + 4), nonce := 0, rxNonce := 0 }

/-- A port has trained (R58, R61): its counts at 0, its credits whole; without light it stays down. -/
def Port.trained (x : Port) : Port :=
  { x with st := if x.mask = 0 then .down else .up, live := x.mask, rxLive := 0xFFFF, rxDark := 0, txSeq := 0, rxSeq := 0,
           ackOwed := 0, unacked := [], replays := 0, tagFails := 0, gap := false, credits := .replicate 8 32 }

/-- The floor of a port goes back at retraining (R150, log 34). -/
def State.floorBack (s : State) (p : Fin 12) : State :=
  { s with pkg := { s.pkg with portPwr := s.pkg.portPwr.set p.val { s.pkg.portPwr.get p with floor := 160 } p.isLt } }

/-- The shadow table and the group registers are committed (R66, R69). -/
def Links.commit (l : Links) : Links :=
  { l with route := l.routeS, groupLo := l.groupLoS, groupHi := l.groupHiS, leaving := false }

/-- PLANE_ENABLED (R67): the ports have trained, what ENABLE with COMMIT commits is committed, the event follows. -/
def State.planeEnabled (s : State) (k : Fin 4) : Option State :=
  if s.links.planes.get k != .training || !s.opticsUp then none
  else
    let s1 := (planePorts k).foldl (fun s p => ((s.onPort p Port.trained).newKeys p).floorBack p) (s.setPlane k .enabled)
    let s2 : State := if s.links.planeCommit.getLsbD k.val then { s1 with links := s1.links.commit } else s1
    some (s2.routesLost.postEvent 0 0x55 1 0 (leBytes 8 (k.val * 2 ^ 48)))

/-- A write of MEMBERSET takes effect while all four planes are drained (R69); without optics MEMBER stays 0 (R6). -/
def State.writeMember (s : State) (v : Word) : State :=
  if !bit s.pkg.caps 2 then s
  else if s.links.planes.toList.all fun x => x == .drained then
    { s with links := { s.links with memberSet := BitVec.ofNat 7 v.toNat } }
  else s.cfgError 1

/-! ### The events -/

/-- LOSS_OF_LIGHT (R55). -/
def execLossOfLight (p : Fin 12) (l : Light) (s : State) : Host.Outcome State Fault Refusal :=
  enabled "LOSS_OF_LIGHT" (s.lossOfLight p l)

/-- SPARE_LASER_LOCK (R56). -/
def execSpareLaserLock (p : Fin 12) (s : State) : Host.Outcome State Fault Refusal :=
  enabled "SPARE_LASER_LOCK" (s.spareLock p)

/-- SPARE_WAVELENGTH_LOCK (R56). -/
def execSpareWavelengthLock (p : Fin 12) (s : State) : Host.Outcome State Fault Refusal :=
  enabled "SPARE_WAVELENGTH_LOCK" (s.lambdaLock p)

/-- DATA_FLIT (R62). -/
def execDataFlit (p : Fin 12) (peer : BitVec 7) (h : BitVec 128) (data : BitVec 2048) (crc tag : BitVec 64) (s : State) :
    Host.Outcome State Fault Refusal :=
  enabled "DATA_FLIT" (s.dataFlit p peer (flitParts h data crc tag))

/-- IDLE_FLIT (R59, R62): it carries no transaction; its LACK counts. -/
def execIdleFlit (p : Fin 12) (lack : BitVec 16) (s : State) : Host.Outcome State Fault Refusal :=
  enabled "IDLE_FLIT" (s.control p fun s => s.takeCtl p (.ack lack))

/-- ACKNOWLEDGEMENT (R62). -/
def execAcknowledgement (p : Fin 12) (lack : BitVec 16) (s : State) : Host.Outcome State Fault Refusal :=
  enabled "ACKNOWLEDGEMENT" (s.control p fun s => s.takeCtl p (.ack lack))

/-- RESTRIPE_MARKER (R55): the receiver takes the new stripe; it posts no event to its own host (log 27). -/
def execRestripeMarker (p : Fin 12) (mask : BitVec 16) (s : State) : Host.Outcome State Fault Refusal :=
  enabled "RESTRIPE_MARKER" (s.control p fun s => s.takeCtl p (.restripe mask))

/-- CREDIT_RETURN (R63). -/
def execCreditReturn (p : Fin 12) (vc : BitVec 3) (n : Nat) (s : State) : Host.Outcome State Fault Refusal :=
  enabled "CREDIT_RETURN" (s.control p fun s => s.takeCtl p (.credit vc n))

/-- DRAIN_MARKER (R67): the other end of the circuit drains; the flits that it still sends are received as before. -/
def execDrainMarker (p : Fin 12) (s : State) : Host.Outcome State Fault Refusal := enabled "DRAIN_MARKER" (s.control p fun s => s.takeCtl p .drain)

/-- REPLAY_REQUEST (R62). -/
def execReplayRequest (p : Fin 12) (lack : BitVec 16) (s : State) : Host.Outcome State Fault Refusal :=
  enabled "REPLAY_REQUEST" (s.control p fun s => s.takeCtl p (.replay lack))

/-- REPLAY_TIMEOUT (R62). -/
def execReplayTimeout (p : Fin 12) (s : State) : Host.Outcome State Fault Refusal :=
  enabled "REPLAY_TIMEOUT" (if (s.links.port p).unacked.isEmpty then none else s.control p fun s => s.replay p)

/-- REPLAY_REQUEST_REPEAT (R62). -/
def execReplayRequestRepeat (p : Fin 12) (s : State) : Host.Outcome State Fault Refusal :=
  enabled "REPLAY_REQUEST_REPEAT" (if !(s.links.port p).gap then none
    else s.control p fun s => s.onPort p fun x => x.say (.replay (x.rxSeq - 1)))

/-- ACKNOWLEDGEMENT_TIMER (R62): every 100 ns, whether or not a flit has been accepted since the last one. -/
def execAcknowledgementTimer (p : Fin 12) (s : State) : Host.Outcome State Fault Refusal :=
  enabled "ACKNOWLEDGEMENT_TIMER" (s.control p fun s => s.onPort p Port.sayAck)

/-- PLANE_DRAIN (R67). -/
def execPlaneDrain (k : Fin 4) (s : State) : Host.Outcome State Fault Refusal := .next (s.onMgmt fun s => s.planeDrain k false)

/-- PLANE_DRAIN_FORCE (R70). -/
def execPlaneDrainForce (k : Fin 4) (s : State) : Host.Outcome State Fault Refusal := .next (s.onMgmt fun s => s.planeDrain k true)

/-- PLANE_ENABLE (R70). -/
def execPlaneEnable (k : Fin 4) (s : State) : Host.Outcome State Fault Refusal := .next (s.onMgmt fun s => s.planeEnable k false)

/-- PLANE_ENABLE_COMMIT (R70). -/
def execPlaneEnableCommit (k : Fin 4) (s : State) : Host.Outcome State Fault Refusal := .next (s.onMgmt fun s => s.planeEnable k true)

/-- PLANE_DRAINED (R67). -/
def execPlaneDrained (k : Fin 4) (s : State) : Host.Outcome State Fault Refusal := enabled "PLANE_DRAINED" (s.planeDrained k)

/-- PLANE_ENABLED (R67). -/
def execPlaneEnabled (k : Fin 4) (s : State) : Host.Outcome State Fault Refusal := enabled "PLANE_ENABLED" (s.planeEnabled k)

/-- MEMBERSET_WRITE (R69). -/
def execMembersetWrite (v : Word) (s : State) : Host.Outcome State Fault Refusal := .next (s.onMgmt fun s => s.writeMember v)

/-- KEY_RENEWAL_RETRAINING (R61): fresh keys, once no flit under the old one is unacknowledged (log 28). -/
def execKeyRenewalRetraining (p : Fin 12) (s : State) : Host.Outcome State Fault Refusal :=
  enabled "KEY_RENEWAL_RETRAINING" (if !(s.links.port p).unacked.isEmpty then none
    else s.control p fun s => ((s.floorBack p).newKeys p).onPort p fun x => x.say .train)

end Sys2Proof.Machine
end

