-- ==== Sys2Proof/Machine/Loader.lean ====
section
/-! DEFINITION. Objects (04): the LXO image (R111 to R114, R125), the loader's checks in their order (R115, Table 04.5), the walk of
timed code (R117), Heft checks (R126), placing (R109, R116), the attestation log (R83), and unloading (R110). -/

namespace Sys2Proof.Machine

/-! ### Reading an image -/

/-- STATUS and DETAIL of a refusal (Table 04.5). -/
abbrev Refuse := Nat × Nat

/-- A check: its status and detail when it fails. -/
def fails (bad : Bool) (status detail : Nat) : Option Refuse := if bad then some (status, detail) else none

/-- The first failure of a list of checks. -/
def firstFail (l : List (Option Refuse)) : Option Refuse := l.findSome? id

/-- The first byte that is not 0 of `n` bytes at `off`, as a FORMAT failure at its offset. -/
def zeroBytes (img : List Byte) (off n : Nat) : Option Refuse :=
  ((List.range n).find? fun i => leAt img (off + i) 1 != 0).map fun i => (2, off + i)

/-- The offsets of the section table's entries. -/
def sectOffs (img : List Byte) : List Nat := (List.range (leAt img 16 4)).map fun i => leAt img 20 4 + 32 * i

/-- The offsets of the dispatch entries. -/
def dispOffs (img : List Byte) : List Nat := (List.range (leAt img 24 4)).map fun i => leAt img 28 4 + 64 * i

/-- The section whose table entry is at `e` (Table 04.3). -/
def sectAt (img : List Byte) (e : Nat) : Sect :=
  let off := leAt img (e + 8) 8
  let size := leAt img (e + 16) 8
  { ty := leAt img e 2 % 2 ^ 15, opt := leAt img e 2 / 2 ^ 15 == 1, dies := BitVec.ofNat 3 (leAt img (e + 4) 1), off := off,
    size := size, addr := leAt img (e + 24) 6, body := slice img off size }

/-- The sections of an image with the offsets of their entries. -/
def imageSects (img : List Byte) : List (Nat × Sect) := (sectOffs img).map fun e => (e, sectAt img e)

/-- FLAGS TIMED. -/
def imageTimed (img : List Byte) : Bool := leAt img 9 1 / 2 % 2 == 1

/-- The sections of a type. -/
def sectsTy (img : List Byte) (ty : Nat) : List (Nat × Sect) := (imageSects img).filter fun x => x.2.ty == ty

/-! ### FORMAT (R111, R112, R114) -/

/-- The header's fields (Table 04.2). -/
def headerChecks (img : List Byte) (len : Nat) : List (Option Refuse) :=
  let gap := leAt img 10 2
  [fails (leAt img 4 2 != 1) 2 4, fails (leAt img 32 8 != len) 2 32, fails (4 ≤ leAt img 9 1) 2 9, zeroBytes img 12 4,
   zeroBytes img 40 24, fails (if imageTimed img then gap < 1 || 4096 < gap else gap != 0) 2 10,
   fails (leAt img 16 4 < 1 || 64 < leAt img 16 4) 2 16, fails (leAt img 20 4 % 8 != 0) 2 20,
   fails (leAt img 24 4 < 1 || 64 < leAt img 24 4) 2 24, fails (leAt img 28 4 % 8 != 0) 2 28]

/-- The bounds of the two tables, which overlap neither the header nor each other. -/
def tableChecks (img : List Byte) (len : Nat) : List (Option Refuse) :=
  let so := leAt img 20 4
  let sn := 32 * leAt img 16 4
  let d := leAt img 28 4
  let dn := 64 * leAt img 24 4
  [fails (so < 64 || len < so + sn) 2 20, fails (d < 64 || len < d + dn || overlaps so sn d dn) 2 28]

/-- A section table entry: TYPE, whose illegal 0 is FORMAT (log 53), reserved bytes, bounds, and overlap with the header, the tables and
the sections before it. -/
def sectChecks (img : List Byte) (len : Nat) (e : Nat) : List (Option Refuse) :=
  let x := sectAt img e
  let before := ((sectOffs img).takeWhile fun f => f != e).map fun f => ((sectAt img f).off, (sectAt img f).size)
  let spans := (0, 64) :: (leAt img 20 4, 32 * leAt img 16 4) :: (leAt img 28 4, 64 * leAt img 24 4) :: before
  [fails (x.ty == 0) 2 e, zeroBytes img (e + 2) 2, fails (8 ≤ leAt img (e + 4) 1) 2 (e + 4), zeroBytes img (e + 5) 3,
   fails (x.off % 8 != 0) 2 (e + 8), fails (len < x.off + x.size) 2 (e + 16),
   fails (leAt img (e + 30) 2 != 0 || (x.addr != 0 && x.ty != 2 && x.ty != 3)) 2 (e + 24),
   fails (spans.any fun p => overlaps x.off x.size p.1 p.2) 2 (e + 8)]

/-- Reserved bits of a dispatch entry (Table 04.6): FORMAT, as of every reserved bit of the image (log 53). -/
def dispReserved (img : List Byte) (d : Nat) : List (Option Refuse) :=
  [fails (8 ≤ leAt img (d + 56) 1) 2 (d + 56), fails (leAt img (d + 57) 1 % 2 == 1) 2 (d + 57),
   fails (4 ≤ leAt img (d + 58) 2) 2 (d + 58), zeroBytes img (d + 60) 4]

/-- A note record: its offset in the section, head and body (R114). -/
structure Note where
  off : Nat
  head : Nat
  len : Nat
  deriving DecidableEq, Repr

/-- The note records of a section from an offset; a record whose structure breaks R114 ends the list as an error at its
offset. -/
def notesFrom (body : List Byte) : Nat → Nat → Except Nat (List Note)
  | 0, _ => .ok []
  | n + 1, p =>
    if body.length ≤ p then .ok []
    else
      let h := leAt body p 8
      let len := h / 2 ^ 32
      let next := p + 8 + (len + 7) / 8 * 8
      if bits h 16 16 != 0 || body.length < next then .error p
      else (notesFrom body n next).map fun l => ⟨p, h, len⟩ :: l

/-- The note records of a section. -/
def notesOf (x : Sect) : Except Nat (List Note) := notesFrom x.body (x.body.length / 8 + 1) 0

/-- The note records of a section whose structure is sound. -/
def noteList (x : Sect) : List Note := match notesOf x with | .ok l => l | .error _ => []

/-- The windows of a no-pre-empt note: first and last bundle (R114). -/
def noteWindows (x : Sect) (n : Note) : List (Nat × Nat) :=
  if n.head % 2 ^ 15 = 3 then (List.range (n.len / 8)).map fun i => (leAt x.body (n.off + 8 + 8 * i) 4, leAt x.body (n.off + 12 + 8 * i) 4)
  else []

/-- All FORMAT checks of an image, in order. -/
def formatChecks (img : List Byte) (len : Nat) : Option Refuse :=
  match firstFail (headerChecks img len ++ tableChecks img len) with
  | some r => some r
  | none =>
    firstFail ((sectOffs img).flatMap (sectChecks img len) ++ (dispOffs img).flatMap (dispReserved img) ++
      (sectsTy img 9).map fun x => match notesOf x.2 with | .error p => some (2, x.2.off + p) | .ok _ => none)

/-! ### VERSION to BADSECT -/

/-- Is native code checked and placed (R121)? -/
def imageNative (img : List Byte) : Bool := decide (leAt img 7 1 ≤ 1)

/-- The CODE section's bytes. -/
def imageCodeAll (img : List Byte) : List Byte := (((sectsTy img 1).head?).map fun x => x.2.body).getD []

/-- The CODE section's bytes, when native code is checked and placed. -/
def imageCode (img : List Byte) : List Byte := if imageNative img then imageCodeAll img else []

/-- Records of `n` bytes of a section: offset in the image and bytes. -/
def recordsOf (x : Sect) (n : Nat) : List (Nat × List Byte) :=
  (List.range (x.body.length / n)).map fun i => (x.off + n * i, slice x.body (n * i) n)

/-- Records of the sections of a type that a die uses. -/
def dieRecords (img : List Byte) (ty n : Nat) (d : DieId) : List (Nat × List Byte) :=
  ((sectsTy img ty).filter fun x => x.2.dies.getLsbD d.val).flatMap fun x => recordsOf x.2 n

/-- More than `n` records for a die: a BADSECT at the first of them (Table 04.4). -/
def dieLimit (img : List Byte) (ty size n : Nat) (d : DieId) : Option Refuse :=
  (dieRecords img ty size d)[n]?.map fun r => (7, r.1)

/-- The records of a ROUTES section of one kind: `size` bytes each from `p` on, indices rising, 1..`lim` (Table 04.4, R310). -/
def routeChecks (x : Sect) (p n size lim : Nat) : List (Option Refuse) :=
  (List.range n).map fun i =>
    let q := p + size * i
    let ix := leAt x.body q 2
    let prev := if i = 0 then 0 else leAt x.body (q - size) 2
    fails (ix ≤ prev || lim < ix) 7 (x.off + q)

/-- A ROUTES section (R310, R112). -/
def routesChecks (x : Sect) : List (Option Refuse) :=
  let nl := leAt x.body 0 4
  let np := leAt x.body 4 4
  let nr := leAt x.body 8 4
  fails (x.size < 16 || x.size != 16 + 112 * nl + 248 * np + 776 * nr) 7 x.off ::
    (if x.size = 16 + 112 * nl + 248 * np + 776 * nr then
      routeChecks x 16 nl 112 255 ++ routeChecks x (16 + 112 * nl) np 248 1023 ++
        routeChecks x (16 + 112 * nl + 248 * np) nr 776 447
     else [])

/-- A section by itself (Table 04.4, R114, R311): of the tables, counts and indices only (R112); of CODE nothing where native code is
not placed (R121). -/
def sectLimits (img : List Byte) (e : Nat) (x : Sect) : List (Option Refuse) :=
  let whole (n : Nat) : Option Refuse := fails (x.size % n != 0) 7 x.off
  match x.ty with
  | 1 => if !imageNative img then [] else [fails (x.dies != 7) 7 (e + 4), fails (x.size % 32 != 0 || 2 * 1048576 < x.size) 7 (e + 16),
          fails ((sectsTy img 1).head?.map (·.1) != some e) 7 e]
  | 4 => fails (x.dies != 7) 7 (e + 4) :: routesChecks x
  | 5 => whole 1032 :: (recordsOf x 1032).flatMap fun r => fails (64 ≤ leAt r.2 0 8) 7 r.1 ::
      (List.range 128).map fun k => fails (leAt r.2 (8 + 8 * k) 8 / 2 ^ 40 != 0) 7 (r.1 + 8 + 8 * k)
  | 6 => whole 72 :: (recordsOf x 72).map fun r => fails (256 ≤ leAt r.2 0 8) 7 r.1
  | 7 => [whole 16]
  | 8 => [fails (x.dies != 7) 7 (e + 4)]
  | 9 => (noteList x).flatMap fun n =>
      if n.head % 2 ^ 15 = 3 then
        fails (n.len % 8 != 0 || 128 < n.len) 7 (x.off + n.off) ::
          (noteWindows x n).map fun w => fails (w.2 < w.1 || (imageCodeAll img).length / 32 ≤ w.2) 7 (x.off + n.off)
      else []
  | _ => []

/-- A dispatch entry (Table 04.6, R118). -/
def dispLimits (img : List Byte) (d : Nat) : List (Option Refuse) :=
  let none32 := 0xFFFFFFFF
  let tpc := leAt img (d + 48) 4
  let fpc := leAt img (d + 52) 4
  let heft := leAt img (d + 58) 1 % 2 == 1
  (List.range 6).map (fun k => fails (leAt img (d + 24 + 4 * k) 4 < leAt img (d + 4 * k) 4) 7 (d + 24 + 4 * k)) ++
  [fails (tpc == none32 && fpc == none32) 7 (d + 48), fails (heft && tpc != none32) 7 (d + 48),
   fails (tpc != none32 && !imageTimed img) 7 (d + 48), fails (heft && fpc == none32) 7 (d + 52),
   fails (leAt img (d + 58) 1 / 2 % 2 == 1 && leAt img 9 1 % 2 == 0) 7 (d + 58)]

/-- VERSION, PROFILE, UNKSECT, UNKNOTE and BADSECT, in order (Table 04.5). -/
def sectionChecks (img : List Byte) : Option Refuse :=
  let heft := !(sectsTy img 8).isEmpty
  firstFail ([fails (leAt img 6 1 != 2 || (2 ≤ leAt img 7 1 && !heft)) 3 6,
              fails (leAt img 8 1 != 1 && leAt img 8 1 != 2) 4 8] ++
    (imageSects img).map (fun x => fails (9 < x.2.ty && !x.2.opt) 5 x.1) ++
    (sectsTy img 9).flatMap (fun x => (noteList x.2).map fun n =>
      fails (3 < n.head % 2 ^ 15 && bits n.head 15 1 == 1 || (n.head % 2 ^ 15 == 0 && bits n.head 15 1 == 1)) 6 (x.2.off + n.off)) ++
    (imageSects img).flatMap (fun x => sectLimits img x.1 x.2) ++
    allDies.flatMap (fun d => [dieLimit img 5 1032 64 d, dieLimit img 6 72 256 d, dieLimit img 7 16 16 d]) ++
    (dispOffs img).flatMap (dispLimits img))

/-! ### ILLEGAL (R291, R316) -/

/-- A bundle of a run of code. -/
def codeBundle (code : List Byte) (b : Nat) : BitVec 256 := bundleOfBytes (slice code (32 * b) 32)

/-- The slots of a bundle at which a group can start (R291): slot 0, and the slot after each stop. -/
def groupStarts (bd : BitVec 256) : List Nat :=
  0 :: (List.range (lastSlot bd)).filterMap fun i => if (headerOf bd).stop.getLsbD i then some (i + 1) else none

/-- The static target of a branch move, jmp, call or loop (R316): none for another move; `some none` when it comes from a
register or a port. -/
def branchTarget (fetch : Nat → BitVec 256) (x : Slot) : Option (Option Nat) :=
  let f := moveFields x.word
  if 0x088 ≤ f.dst.toNat ∧ f.dst.toNat ≤ 0x08A then
    match decodeSrc f.imm f.src with
    | some (.imm v) => some (some (BitVec.signExtend 64 v).toNat)
    | some .lit => some (some (literalOf (fetch x.bundle)).toNat)
    | _ => some none
  else none

/-- Does a bundle hold an illegal field of its header, whatever its moves (Table 12.1, R287, R291)? -/
def bundleIllegal (bd : BitVec 256) : Bool :=
  (headerReason bd).isSome || (List.range (lastSlot bd + 1)).any fun i => decide (4 < (headerOf bd).rp.getD i 0)

/-- Does a run of moves reach the end of CODE without a STOP (R288)? -/
def runsOut (fetch : Nat → BitVec 256) (n : Nat) (l : List Slot) (next : Option (Nat × Nat)) : Bool :=
  next.isNone && (match l.getLast? with | some x => x.bundle + 1 == n && x.slot == lastSlot (fetch x.bundle) | none => false)

/-- Why a group that starts at a slot of a bundle is refused: the bundle that DETAIL names. A pad breaks no rule (R288). -/
def groupIllegal (fetch : Nat → BitVec 256) (n b i : Nat) : Option Nat :=
  let (l, next) := collect fetch n 8 b i
  if isPad fetch l next then none
  else
    match (dedupNat (l.map (·.bundle))).find? fun x => (headerReason (fetch x)).isSome with
    | some x => some x
    | none =>
      if (groupReason fetch l next).isSome then
        some (if runsOut fetch n l next then n - 1 else b)
      else
        (l.find? fun x => match branchTarget fetch x with
          | some (some t) => decide (n ≤ t)
          | _ => false).map (·.bundle)

/-- The first bundle with an illegal header, with a group that breaks a rule, or with a target outside CODE (R291, R316). -/
def codeIllegal (fetch : Nat → BitVec 256) (n : Nat) : Option Nat :=
  (List.range n).findSome? fun b =>
    if bundleIllegal (fetch b) then some b else (groupStarts (fetch b)).findSome? fun i => groupIllegal fetch n b i

/-- ILLEGAL: the code, then the entry points (Table 04.5). -/
def illegalCheck (img : List Byte) : Option Refuse :=
  if imageNative img then
    let code := imageCode img
    let n := code.length / 32
    let entries := (dispOffs img).flatMap fun d =>
      leAt img (d + 48) 4 :: (if leAt img (d + 58) 1 % 2 == 1 then [] else [leAt img (d + 52) 4])
    match codeIllegal (codeBundle code) n with
    | some b => some (8, b)
    | none => (entries.find? fun e => e != 0xFFFFFFFF && decide (n ≤ e)).map fun e => (8, e)
  else none

/-! ### The walk of timed code (R117) -/

/-- A point of the walk: where the next group starts, and the delay of a taken branch: its target (none from a register) and the
delay groups still to come. -/
structure WalkPt where
  bundle : Nat
  slot : Nat
  delay : Option (Option Nat × Nat)
  deriving DecidableEq, Repr

/-- What follows a point: whether the count ends with its group, the points the path runs on to, the points at which new counts
start, and whether a path ends without an end of its count. -/
structure WalkStep where
  ends : Bool
  next : List WalkPt
  starts : List WalkPt
  openEnd : Bool

/-- The point after a group in fall-through order under a delay: a point, or the end of the walk at a register's target. -/
def fallOn (n : Nat) (q : Nat × Nat) : Option (Option Nat × Nat) → List WalkPt × Bool
  | none => (if q.1 < n then [⟨q.1, q.2, none⟩] else [], false)
  | some (t, k) =>
    if k ≤ 1 then
      match t with
      | some b => ([⟨b, 0, none⟩], false)
      | none => ([], true)
    else (if q.1 < n then [⟨q.1, q.2, some (t, k - 1)⟩] else [], false)

/-- One group of the walk. -/
def walkStep (fetch : Nat → BitVec 256) (n : Nat) (p : WalkPt) : WalkStep :=
  let at' := skipPads fetch n (n + 1) (p.bundle, p.slot)
  let (l, next) := collect fetch n 8 at'.1 at'.2
  match (if n ≤ at'.1 then none else next) with
  | none => ⟨true, [], [], false⟩
  | some q =>
    let on := fallOn n q p.delay
    let br := l.find? fun x => decide (0x088 ≤ (moveFields x.word).dst.toNat ∧ (moveFields x.word).dst.toNat ≤ 0x08F)
    match br with
    | none => ⟨false, on.1, [], on.2⟩
    | some x =>
      let f := moveFields x.word
      let free := f.guard.cond == 0 && !f.guard.inv
      match f.dst.toNat with
      | 0x08C => if free then ⟨true, [], on.1, false⟩ else ⟨false, on.1, [], on.2⟩
      | 0x08E | 0x08F => if free then ⟨true, [], [], false⟩ else ⟨false, on.1, [], on.2⟩
      | 0x088 | 0x089 | 0x08A =>
        let target := (branchTarget fetch x).join
        let taken := if p.delay.isSome || n ≤ q.1 then [] else [(⟨q.1, q.2, some (target, 2)⟩ : WalkPt)]
        let both := !free || f.dst == 0x08A
        let link : List WalkPt := if f.dst == 0x089 then
            let b := lastBundle fetch n (n + 1) 2 q + 1
            if b < n then [⟨b, 0, none⟩] else []
          else []
        ⟨false, (if both then on.1 else []) ++ taken, link, both && on.2⟩
      | _ => ⟨false, on.1, [], on.2⟩

/-- The elements of a list once each. -/
def dedupPts : List WalkPt → List WalkPt
  | [] => []
  | x :: l => if l.contains x then dedupPts l else x :: dedupPts l

/-- The length of the longest count from the points of one level, `none` when it is unbounded: `fuel` is more than there are
points, so that paths longer than it run through a cycle. -/
def longest (fetch : Nat → BitVec 256) (n : Nat) : Nat → Nat → List WalkPt → Option Nat
  | 0, _, _ => none
  | fuel + 1, k, pts =>
    let steps := pts.map (walkStep fetch n)
    if steps.any (·.openEnd) then none
    else
      match dedupPts (steps.flatMap (·.next)) with
      | [] => some (k + 1)
      | l => longest fetch n fuel (k + 1) l

/-- Every point that the walk reaches from the points given (`seen` those already met). -/
def walkReach (fetch : Nat → BitVec 256) (n : Nat) : Nat → List WalkPt → List WalkPt → List WalkPt
  | 0, seen, _ => seen
  | fuel + 1, seen, pts =>
    match (dedupPts pts).filter fun p => !seen.contains p with
    | [] => seen
    | new => walkReach fetch n fuel (seen ++ new) (new.flatMap fun p => (walkStep fetch n p).next ++ (walkStep fetch n p).starts)

/-- The counts of the walk: the start of each with its length (R117). -/
def walkCounts (fetch : Nat → BitVec 256) (n : Nat) (entries : List Nat) : List (WalkPt × Option Nat) :=
  let pts := 8 * n * (2 * n + 4) + 1
  let first := entries.map fun e => (⟨e, 0, none⟩ : WalkPt)
  let all := walkReach fetch n pts [] first
  let past (p : WalkPt) : WalkPt :=
    let q := skipPads fetch n (n + 1) (p.bundle, p.slot)
    { p with bundle := q.1, slot := q.2 }
  (dedupPts ((first ++ all.flatMap fun p => (walkStep fetch n p).starts).map past)).map fun p => (p, longest fetch n pts 0 [p])

/-- The longest of several counts: an unbounded one before every other, the first among equals. -/
def longestCount : List (WalkPt × Option Nat) → Option (WalkPt × Option Nat)
  | [] => none
  | x :: l =>
    match longestCount l with
    | none => some x
    | some y =>
      match x.2, y.2 with
      | none, _ => some x
      | some _, none => some y
      | some a, some b => if a < b then some y else some x

/-- YIELDGAP (R117). -/
def yieldCheck (img : List Byte) : Option Refuse :=
  if imageTimed img && imageNative img then
    let code := imageCode img
    let entries := ((dispOffs img).map fun d => leAt img (d + 48) 4).filter fun e => e != 0xFFFFFFFF
    match longestCount (walkCounts (codeBundle code) (code.length / 32) (dedupNat entries)) with
    | some (p, none) => some (9, p.bundle)
    | some (p, some k) => if leAt img 10 2 < k then some (9, p.bundle) else none
    | none => none
  else none

/-! ### HEFT (R125, R126) -/

/-- Is the opcode of a form that free contexts may not issue (R126)? -/
def heftDenied (opc : Nat) : Bool :=
  opc == 40 || opc == 41 || decide (130 ≤ opc ∧ opc ≤ 281)

/-- Operand latches of an opcode (Tables 13.1 to 13.8, 16.1). -/
def heftLatches (opc : Nat) : Nat :=
  if opc ≤ 15 then 1
  else if opc ≤ 22 then 0
  else if opc = 24 then 2
  else if opc ≤ 35 then 1
  else if opc ≤ 51 then 0
  else if opc ≤ 55 then 1
  else if opc = 57 then 1
  else if opc = 58 then 2
  else if opc ≤ 59 then 0
  else if opc ≤ 77 then 1
  else if opc ≤ 82 then 2
  else if opc = 85 then 2
  else if opc ≤ 92 then 0
  else if opc ≤ 102 then 1
  else if opc ≤ 110 then 2
  else if opc = 111 then 3
  else if opc ≤ 121 then 2
  else if opc = 122 ∨ opc = 124 ∨ opc = 126 ∨ opc = 129 then 1
  else if opc = 283 ∨ opc = 284 ∨ opc = 285 then 1
  else 0

/-- Is the opcode a branch with a target block (R125)? -/
def heftBranch (opc : Nat) : Bool := decide (36 ≤ opc ∧ opc ≤ 38)

/-- A hyperblock within its section: its offset, counts and NEXT (R125). -/
structure HeftBlock where
  off : Nat
  nops : Nat
  nin : Nat
  nout : Nat
  next : Nat
  deriving DecidableEq, Repr

/-- The bytes of a hyperblock. -/
def HeftBlock.size (b : HeftBlock) : Nat := 16 + 8 * b.nin + 8 * b.nops

/-- The hyperblocks of a section from an offset, at most `fuel` of them, up to a head that breaks R125, whose offset comes with
them. -/
def heftBlocks (body : List Byte) : Nat → Nat → List HeftBlock × Option Nat
  | 0, _ => ([], none)
  | n + 1, p =>
    if body.length ≤ p then ([], none)
    else
      let h := leAt body p 8
      let b : HeftBlock := ⟨p, bits h 0 16, bits h 16 8, bits h 24 8, leAt body (p + 8) 4⟩
      if b.nops < 1 || 1024 < b.nops || 64 < b.nin || 64 < b.nout || bits h 32 32 != 0 || leAt body (p + 12) 4 != 0 ||
          body.length < p + b.size then ([], some p)
      else
        let r := heftBlocks body n (p + b.size)
        (b :: r.1, r.2)

/-- The 8 bytes of operation `i` of a block. -/
def HeftBlock.op (b : HeftBlock) (body : List Byte) (i : Nat) : Nat := leAt body (b.off + 16 + 8 * b.nin + 8 * i) 8

/-- The targets of a block with the operation they come from (none for a live-in) and the offset of their record. -/
def HeftBlock.targets (b : HeftBlock) (body : List Byte) : List (Option Nat × Nat × Nat) :=
  (List.range b.nin).flatMap (fun i =>
    let p := b.off + 16 + 8 * i
    [(none, p, leAt body (p + 2) 2), (none, p, leAt body (p + 4) 2)]) ++
  (List.range b.nops).flatMap fun i =>
    let p := b.off + 16 + 8 * b.nin + 8 * i
    [(some i, p, leAt body (p + 2) 2), (some i, p, leAt body (p + 4) 2)]

/-- Is a target sound: its consumer stands after its producer and has the slot, its value index exists (R126)? -/
def HeftBlock.targetOk (b : HeftBlock) (body : List Byte) (src : Option Nat) (t : Nat) : Bool :=
  if bits t 15 1 = 0 then t == 0
  else if bits t 14 1 = 1 then decide (bits t 2 12 < b.nout)
  else
    let j := bits t 2 12
    decide (j < b.nops) && decide (bits t 0 2 < 3) && decide (bits t 0 2 ≤ heftLatches (b.op body j % 512)) &&
      (match src with | some i => decide (i < j) | none => true)

/-- The live-out value that a target names (R125). -/
def outOf (t : Nat) : Option Nat := if bits t 14 2 = 3 then some (bits t 2 12) else none

/-- The faults of a block with the offsets of their records (R126). -/
def HeftBlock.faults (b : HeftBlock) (body : List Byte) (blocks : Nat) : List Nat :=
  let ts := b.targets body
  let gives (t : Nat) : Nat := (ts.filter fun x => x.2.2 == t).length
  (if blocks ≤ b.next then [b.off] else []) ++
  (ts.filterMap fun x => if b.targetOk body x.1 x.2.2 then none else some x.2.1) ++
  (List.range b.nin).filterMap (fun i =>
    let h := leAt body (b.off + 16 + 8 * i) 8
    if bits h 6 10 != 0 || bits h 48 16 != 0 then some (b.off + 16 + 8 * i) else none) ++
  (ts.zipIdx.filterMap fun x =>
    if outOf x.1.2.2 != none && (ts.take x.2).any (fun y => outOf y.2.2 == outOf x.1.2.2) then some x.1.2.1 else none) ++
  (List.range b.nops).filterMap fun i =>
    let h := b.op body i
    let opc := h % 512
    let last := heftLatches opc
    let imm := bits h 9 1 == 1 || heftBranch opc
    let slots := (List.range (last + 1)).all fun k =>
      gives (0x8000 + 4 * i + k) + (if k = last && imm then 1 else 0) == 1
    if 287 < opc || heftDenied opc || bits h 10 6 != 0 || !slots || (heftBranch opc && blocks ≤ bits h 48 16) then
      some (b.off + 16 + 8 * b.nin + 8 * i)
    else none

/-- HEFT (R126): the byte offset of the first fault; a block whose head breaks R125 counts as the last of the section. -/
def heftCheck (img : List Byte) : Option Refuse :=
  firstFail ((sectsTy img 8).map fun x =>
    let (bs, bad) := heftBlocks x.2.body (x.2.body.length / 16 + 1) 0
    let n := bs.length + (if bad.isSome then 1 else 0)
    (minOf (bs.flatMap (fun b => b.faults x.2.body n) ++ bad.toList)).map fun p => (10, x.2.off + p))

/-! ### RANGE, TABLEFULL and STOREFULL -/

/-- The address space of a function and its key slot (R85, log 13). -/
def State.fnSlot (s : State) (fn : BitVec 6) : BitVec 4 := s.asidSlot (s.asidOf fn)

/-- The first byte of `[va, va + n)` that a function may not access (R90, R186). -/
def State.firstBad (s : State) (asid : BitVec 8) (kslot : BitVec 4) (acc : Acc) (va n : Nat) : Option Nat :=
  (pagePieces va n).findSome? fun a =>
    if 2 ^ 48 ≤ a.1 then some a.1
    else
      match s.translate asid kslot acc a.1 with
      | .ok _ => none
      | .error _ => some a.1

/-- RANGE of the sections copied (Table 04.5). -/
def State.rangeCheck (s : State) (fn : BitVec 6) (img : List Byte) : Option Refuse :=
  firstFail ((imageSects img).map fun x =>
    if x.2.ty = 2 || x.2.ty = 3 then
      fails ((pagePieces x.2.addr x.2.size).any fun a =>
        decide (2 ^ 48 ≤ a.1) ||
          (match s.walk (s.asidOf fn) a.1 with
           | .ok e => e.kslot != s.fnSlot fn || e.kslot != s.slotOf (e.phys a.1)
           | .error _ => true)) 12 x.1
    else none)

/-- The checks of an image from MAGIC through RANGE (R115). -/
def State.imageCheck (s : State) (fn : BitVec 6) (img : List Byte) (len : Nat) : Option Refuse :=
  if leAt img 0 4 != 0x004F584C then some (1, 0)
  else
    match formatChecks img len with
    | some r => some r
    | none =>
      match firstFail [sectionChecks img] with
      | some r => some r
      | none => firstFail [illegalCheck img, yieldCheck img, heftCheck img, s.rangeCheck fn img]

/-- The lowest-numbered free object slot: which one a load takes is open (log 53). -/
def State.freeSlot (s : State) : Option (BitVec 10) :=
  ((List.range 1024).find? fun i => (s.objSlot (BitVec.ofNat 10 i)).obj.isNone).map (BitVec.ofNat 10)

/-- The runs of bundles that objects hold: base and length. -/
def State.placed (s : State) : List (Nat × Nat) :=
  s.host.objs.toList.filterMap fun x => x.obj.map fun o => (o.base, o.bundles)

/-- Bundles of a program store (Table 11.2, EPC; R316). -/
def storeBundles : Nat := 65536

/-- The lowest base at which `n` bundles fit (R109): 0 or the end of an object. -/
def State.fitBase (s : State) (n : Nat) : Option Nat :=
  minOf ((0 :: s.placed.map fun x => x.1 + x.2).filter fun b =>
    decide (b + n ≤ storeBundles) && !s.placed.any fun x => overlaps b n x.1 x.2)

/-! ### Placing (R116) -/

/-- The bundles of the Heft sections' native code, in section order (R127). -/
def imageHeft (img : List Byte) : List (BitVec 256) := (sectsTy img 8).flatMap fun x => Config.heftCode x.2.body

/-- The native entry of a hyperblock, after the CODE section's bundles. FPC names a block of the first HEFT section, and one beyond its
blocks is not refused (log 53). -/
def heftPc (img : List Byte) (block : Nat) : Nat :=
  (imageCode img).length / 32 + (((sectsTy img 8).head?.map fun x => Config.heftEntry x.2.body block).getD 0)

/-- A dispatch entry as the scheduler reads it (Table 04.6). -/
def dispAt (img : List Byte) (d : Nat) : DispEntry :=
  let heft := leAt img (d + 58) 1 % 2 == 1
  let fpc := leAt img (d + 52) 4
  { lo := (List.range 6).map fun k => leAt img (d + 4 * k) 4, hi := (List.range 6).map fun k => leAt img (d + 24 + 4 * k) 4,
    tpc := leAt img (d + 48) 4, fpc := if heft && fpc != 0xFFFFFFFF then heftPc img fpc else fpc,
    needs := leAt img (d + 56) 1, folds := leAt img (d + 57) 1, heft := heft, detok := leAt img (d + 58) 1 / 2 % 2 == 1 }

/-- The object of an image, placed at a base. -/
def objOfImage (fn : BitVec 6) (img : List Byte) (base : Nat) : Obj :=
  { fn := fn, base := base, bundles := (imageCode img).length / 32 + (imageHeft img).length,
    code := (imageCode img).length / 32, isaMin := leAt img 7 1,
    numProf := BitVec.ofNat 8 (leAt img 8 1), det := leAt img 9 1 % 2 == 1, timed := imageTimed img,
    yieldGap := leAt img 10 2, disp := (dispOffs img).map (dispAt img), sects := (imageSects img).map (·.2),
    windows := (sectsTy img 9).flatMap fun x => (noteList x.2).flatMap (noteWindows x.2) }

/-- The physical address of the leaf entry that maps an address (R185), from a table at a level. -/
def leafAt (rd : Nat → Nat) (va : Nat) : Nat → Nat → Nat
  | 0, table => table + 8 * bits va (levelShift 0) (levelWidth 0)
  | lvl + 1, table =>
    let a := table + 8 * bits va (levelShift (lvl + 1)) (levelWidth (lvl + 1))
    let e := rd a
    if bits e 1 1 == 1 then a else leafAt rd va lvl (bits e 8 40 * 256)

/-- Clear the write permission of the pages of a range (Table 04.4, CONST); their cached translations go. -/
def State.clearWrite (s : State) (asid : BitVec 8) (va n : Nat) : State :=
  (pagePieces va n).foldl (fun s a =>
    let root := fld (s.host.asidRoot.toList.getD asid.toNat 0) 12 36 * 4096
    let p := leafAt (s.tableEntry (s.asidRootOf asid)) a.1 3 root
    let old := leNat (s.hbm.readN p 1)
    let s1 := s.hbmPut p [BitVec.ofNat 8 (setBits old 3 1 0)]
    allDies.foldl (fun s d => s.onDieAt d fun x => { x with tlb := x.tlb.filter fun e => !e.hits asid a.1 }) s1) s

/-- Copy the DATA and CONST sections (R116). -/
def State.copySects (s : State) (fn : BitVec 6) (img : List Byte) : State :=
  (imageSects img).foldl (fun s x =>
    match x.2.ty with
    | 2 => s.writeVirt (s.asidOf fn) x.2.addr x.2.body
    | 3 => (s.writeVirt (s.asidOf fn) x.2.addr x.2.body).clearWrite (s.asidOf fn) x.2.addr x.2.size
    | _ => s) s

/-- The 96 bytes of a log entry (R83). -/
def LogEntry.bytes (e : LogEntry) : List Byte :=
  beBytes 64 e.digest.toNat ++ leBytes 4 e.handle.toNat ++ [e.fn, e.kslot, e.kind] ++ List.replicate 25 0

/-- An entry joins the attestation log (R83): the head covers it, the oldest of more than 16,384 goes. -/
def State.logObject (s : State) (e : LogEntry) : State :=
  let head := sha512 (beBytes 64 s.host.logHead.toNat ++ e.bytes)
  let l := s.host.log ++ [e]
  let s1 : State := { s with host := { s.host with logHead := head, log := if 16384 < l.length then l.drop 1 else l } }
  s1.onFn (BitVec.ofNat 6 e.fn.toNat) fun f => { f with logHead := sha512 (beBytes 64 f.logHead.toNat ++ e.bytes) }

/-- Write code into the program store of die 1 and of every die in service; a die that is still held in reset takes its copy in
stage D (R109). -/
def State.writeCode (s : State) (base : Nat) (bs : List Byte) : State :=
  allDies.foldl (fun s d =>
    if d == 1 || s.pkg.dieUp.getLsbD d.val then s.onDieAt d fun x => { x with pstore := x.pstore.write (32 * base) bs } else s) s

/-- An accepted image is placed (R116): sections, code, log entries, handle. -/
def State.placeObject (s : State) (fn : BitVec 6) (kind : BitVec 8) (img : List Byte) (slot : BitVec 10) (base : Nat) :
    State × BitVec 32 :=
  let gen := (s.objSlot slot).gen
  let handle : BitVec 32 := BitVec.ofNat 32 (slot.toNat + gen.toNat * 2 ^ 10)
  let slotNo : BitVec 8 := BitVec.ofNat 8 (s.fnSlot fn).toNat
  let fnNo : BitVec 8 := BitVec.ofNat 8 fn.toNat
  let s1 := (s.copySects fn img).writeCode base (imageCode img ++ (imageHeft img).flatMap bytesOfBundle)
  let s2 := s1.onObj slot fun x => { x with obj := some (objOfImage fn img base) }
  let s3 := s2.logObject ⟨sha512 img, handle, fnNo, slotNo, kind⟩
  let s4 := (sectsTy img 8).foldl (fun s x =>
    s.logObject ⟨sha512 ((Config.heftCode x.2.body).flatMap bytesOfBundle), handle, fnNo, slotNo, 2⟩) s3
  (s4, handle)

/-- Check an image and place it (R115, R116): the state, and STATUS, handle and DETAIL. A refused object leaves no trace. -/
def State.loadImage (s : State) (fn : BitVec 6) (kind : BitVec 8) (img : List Byte) (len : Nat) :
    State × Nat × BitVec 32 × Nat :=
  match s.imageCheck fn img len with
  | some (r, d) => (s, r, 0, d)
  | none =>
    match s.freeSlot with
    | none => (s, 13, 0, 0)
    | some slot =>
      match s.fitBase ((imageCode img).length / 32 + (imageHeft img).length) with
      | none => (s, 14, 0, 0)
      | some base =>
        let (s1, h) := s.placeObject fn kind img slot base
        (s1, 0, h, 0)

/-- Read an image from device memory and load it: RANGE at the first byte that cannot be read (R115, R335). -/
def State.loadVirt (s : State) (fn : BitVec 6) (kind : BitVec 8) (va len : Nat) : State × Nat × BitVec 32 × Nat :=
  match s.firstBad (s.asidOf fn) (s.fnSlot fn) .rd va len with
  | some a => (s, 12, 0, a - va)
  | none => s.loadImage fn kind (s.readVirt (s.asidOf fn) va len) len

/-! ### Requests (R106, R110) -/

/-- The object that a handle names, when it is valid (R108). -/
def State.handleObj (s : State) (h : BitVec 32) : Option (BitVec 10 × Obj) :=
  let i : BitVec 10 := BitVec.ofNat 10 h.toNat
  let x := s.objSlot i
  if x.gen.toNat = h.toNat / 2 ^ 10 then x.obj.map fun o => (i, o) else none

/-- Free an object's slot and its program-store space; `wipe` overwrites the code with zeros first (R110, R91). -/
def State.freeObject (s : State) (i : BitVec 10) (wipe : Bool) : State :=
  match (s.objSlot i).obj with
  | none => s
  | some o =>
    let s1 := if wipe then s.writeCode o.base (List.replicate (32 * o.bundles) 0) else s
    s1.onObj i fun x => { gen := x.gen + 1, obj := none }

/-- UNLOAD_OBJECT (R110): NOHANDLE, then BUSY. -/
def State.unload (s : State) (fn : BitVec 6) (h : BitVec 32) : State × Nat :=
  match s.handleObj h with
  | none => (s, 16)
  | some (i, o) =>
    if o.fn != fn then (s, 16)
    else if s.sched.tasks.any fun t => t.obj == i.toNat then (s, 15)
    else (s.freeObject i false, 0)

/-- LOAD_OBJECT (R106, R115). A SRC that is neither 0 nor 1 is refused with FORMAT, DETAIL 1, after SRCSEALED; bytes 2 and 3 of the
request are not looked at (log 53). -/
def State.load (s : State) (fn : BitVec 6) (src addr len : Nat) : State × Nat × BitVec 32 × Nat :=
  if s.sealed fn && src == 0 then (s, 11, 0, 0)
  else if 1 < src then (s, 2, 0, 1)
  else if len < 64 || 2 ^ 28 < len then (s, 2, 0, 16)
  else if addr % 8 != 0 then (s, 2, 0, 8)
  else if src = 0 then s.loadImage fn 0 (s.hostRead fn addr len) len
  else s.loadVirt fn 0 addr len

/-- The response of an object request (Table 04.1). -/
def objResponse (status : Nat) (h : BitVec 32) (detail : Nat) : List Byte :=
  leBytes 1 status ++ [0, 0, 0] ++ leBytes 4 h.toNat ++ leBytes 8 detail

/-- A DOE response of a function. -/
def State.respondDoe (s : State) (fn : BitVec 6) (m : DoeMsg) : State :=
  { s with host := { s.host with doe := s.host.doe ++ [(fn, m)] } }

/-- The response to an object request (Table 04.1). -/
def State.respondObj (s : State) (fn : BitVec 6) (status : Nat) (h : BitVec 32) (detail : Nat) : State :=
  s.respondDoe fn (.vendor (objResponse status h detail))

/-- Does the runtime firmware answer object requests: from service level 1 on (Table 01.7)? -/
def State.firmware (s : State) : Bool := s.pkg.power && decide (1 ≤ s.pkg.level.toNat)

/-- LOAD_OBJECT: a request of OP 0, or of an OP that is not assigned; outside its session a sealed function's request is
discarded (R106). -/
def execLoadObject (fn : BitVec 6) (secured : Bool) (req : List Byte) (s : State) : Host.Outcome State Fault Refusal :=
  enabled "LOAD_OBJECT" (
    if !s.firmware || leAt req 0 1 == 1 then none
    else if s.sealed fn && !secured then some s
    else if leAt req 0 1 != 0 then some (s.respondObj fn 2 0 0)
    else
      let (s1, r, h, d) := s.load fn (leAt req 1 1) (leAt req 8 8) (leAt req 16 8)
      some (s1.respondObj fn r h d))

/-- UNLOAD_OBJECT (R110). -/
def execUnloadObject (fn : BitVec 6) (secured : Bool) (handle : BitVec 32) (s : State) : Host.Outcome State Fault Refusal :=
  enabled "UNLOAD_OBJECT" (
    if !s.firmware then none
    else if s.sealed fn && !secured then some s
    else
      let (s1, r) := s.unload fn handle
      some (s1.respondObj fn r 0 0))

/-! ### Publishing (R128, R335) -/

/-- sy.publish is performed: the state and the result word. -/
def State.publish (s : State) (fn : BitVec 6) (addr len : Word) : State × Word :=
  if addr.toNat / 2 ^ 48 ≠ 0 ∨ len.toNat < 64 ∨ 2 ^ 28 < len.toNat then (s, BitVec.ofNat 64 (2 * 2 ^ 32))
  else
    let (s1, r, h, d) := s.loadVirt fn 1 addr.toNat len.toNat
    (s1, BitVec.ofNat 64 ((if r = 0 then h.toNat else 0) + r * 2 ^ 32 + d % 2 ^ 24 * 2 ^ 40))

end Sys2Proof.Machine
end

