-- ==== Sys2Proof/Machine/Trust.lean ====
section
/-! DEFINITION. Trust (03 R79 to R86, R91 to R93): the SPDM responder of each function, TDISP and the IDE streams, the teardown of a
function, and function level reset. How the standards frame a message is outside the model (log 9, 45). -/

namespace Sys2Proof.Machine

/-! ### The responder (R80 to R83) -/

/-- Does die 1's firmware answer the host: from the end of stage B (Table 01.7)? -/
def State.hostUp (s : State) : Bool := s.pkg.power && decide (3 ≤ s.pkg.stage)

/-- Does configuration space answer: with the firmware, or after a manifest that failed (R33)? -/
def State.configUp (s : State) : Bool := s.hostUp || (s.pkg.power && s.pkg.bootFail != 0)

/-- Answer a function on its DOE mailbox. -/
def State.answer (s : State) (fn : BitVec 6) (m : DoeMsg) : State := s.respondDoe fn m

/-- Answer with an error. -/
def State.answerError (s : State) (fn : BitVec 6) (e : DoeErr) : State := s.answer fn (.error e)

/-- Order of the steps of an SPDM exchange. -/
def Spdm.rank : Spdm → Nat
  | .none => 0 | .version => 1 | .capabilities => 2 | .negotiated => 3 | .exchanged => 4 | .session => 5

/-- A request that the responder answers when its exchange has come at least to a step, else with an error. -/
def State.spdmRequest (s : State) (fn : BitVec 6) (at_ : Spdm) (f : State → State) : Option State :=
  if !s.hostUp then none
  else if (s.fn fn).spdm.rank < at_.rank then some (s.answerError fn .unexpected)
  else some (f s)

/-- A request that stands at one step of the exchange alone. -/
def State.spdmAt (s : State) (fn : BitVec 6) (at_ : Spdm) (f : State → State) : Option State :=
  if !s.hostUp then none
  else if (s.fn fn).spdm != at_ then some (s.answerError fn .unexpected)
  else some (f s)

/-- The responder's exchange comes to a step. -/
def State.setSpdm (s : State) (fn : BitVec 6) (x : Spdm) : State := s.onFn fn fun f => { f with spdm := x }

/-- The version that the responder has: SPDM 1.3, major and minor number as digits (R80). -/
def spdmVersions : List Nat := [0x13]

/-- What the responder supports (R80). -/
def spdmCaps : List SpdmCap :=
  [.certificates, .challenge, .signedMeasurements, .keyExchange, .encryption, .heartbeat, .keyUpdate]

/-- The choices of Table 03.3. -/
def spdmAlgs : List SpdmAlg := [.ed25519, .sha512, .measSha512, .secp384r1, .aes256gcm, .spdmSchedule]

/-! ### The alias key and its certificate (R81) -/

/-- Measurement block `i` of the package, 1 to 8 (R82). -/
def State.sharedBlock (s : State) (i : Nat) : List Byte := digestBytes (s.host.meas.toList.getD (i - 1) 0)

/-- The seed of the alias key, from the identity key and blocks 1 to 4 as they stand (log 45). -/
def State.aliasSeed (s : State) : List Byte :=
  leBytes 32 (Config.aliasSeed s.pkg.idSeed (sha512 ([1, 2, 3, 4].flatMap s.sharedBlock))).toNat

/-- The certificate chain of slot 0 (Table 03.4): the alias certificate is signed with the device identity key. -/
def State.certificates (s : State) : List Byte :=
  let body := Config.aliasBody (edPublic s.aliasSeed)
  Config.deviceChain (slice s.pkg.manifest.idPub 0 32) ++ Config.aliasCert body (edSign (leBytes 32 s.pkg.idSeed.toNat) body)

/-- The alias key's signature over a content and the requester's nonce. -/
def State.aliasSign (s : State) (content nonce : List Byte) : List Byte := edSign s.aliasSeed (Config.signedPart content nonce)

/-! ### Measurements (R82) -/

/-- The measured configuration of a function: TDI state, key slot, assigned queues, IDE streams (Table 03.5, block 10; log 45). -/
def State.fnConfig (s : State) (fn : BitVec 6) : List Byte :=
  let f := s.fn fn
  let queues := (List.range 1024).filter fun q => (s.queue (BitVec.ofNat 10 q)).func == fn
  [match f.tdi with | .unlocked => 0 | .locked => 1 | .run => 2 | .error => 3, BitVec.ofNat 8 f.slot.toNat] ++
    queues.flatMap (leBytes 2) ++ f.ides.map fun i => BitVec.ofNat 8 i.toNat

/-- The digest of measurement block `i` as a function reads it (R82): a sealed function reads the head of its own log. -/
def State.block (s : State) (fn : BitVec 6) (i : Nat) : List Byte :=
  if 1 ≤ i ∧ i ≤ 8 then s.sharedBlock i
  else if i = 9 then digestBytes (if s.sealed fn then (s.fn fn).logHead else s.host.logHead)
  else digestBytes (sha512 (s.fnConfig fn))

/-- What a block measures, in the numbers of the DMTF format: immutable ROM, mutable firmware, hardware or firmware configuration
(log 45). -/
def blockType (i : Nat) : Byte := if i = 1 then 0 else if i = 2 ∨ i = 10 then 2 else if i = 9 then 3 else 1

/-- A measurement block in the DMTF measurement format: a digest of 64 bytes behind its header (R82, log 45). -/
def State.blockBytes (s : State) (fn : BitVec 6) (i : Nat) : List Byte :=
  [BitVec.ofNat 8 i, 1] ++ leBytes 2 67 ++ [blockType i] ++ leBytes 2 64 ++ s.block fn i

/-- The blocks that a measurement request names: one, or all for 255. -/
def blockList (i : Nat) : List Nat :=
  if i = 255 then (List.range 10).map (· + 1) else if 1 ≤ i ∧ i ≤ 10 then [i] else []

/-! ### Teardown (R91 to R93) -/

/-- The records of a queue leave it without completion records; DONE advances past them (R79, R91; log 43). -/
def Queue.discardRecs (q : Queue) : Queue :=
  advanceDone (q.finished.length + q.recs.length + 1) { q with
    recs := []
    dispatched := q.accepted
    finished := q.finished ++ (List.range q.recs.length).map fun i => q.dispatched + BitVec.ofNat 32 i
    eligible := false
    deficit := 0 }

/-- The undispatched records of a function are discarded; IRQ = 1 signals VECTOR where DONE advances (Table 03.7). -/
def State.discardRecords (s : State) (fn : BitVec 6) : State :=
  let old := s.host.queues
  let new := old.map fun (q : Queue) => if q.func == fn then q.discardRecs else q
  let told := (old.toList.zip new.toList).filterMap fun x =>
    if x.2.irq && x.2.done != x.1.done then some (x.2.func, x.2.vector) else none
  { s with host := { s.host with queues := new, irqs := s.host.irqs ++ told } }

/-- The tasks of a function are stopped (R79, R91): their launches complete with FAULT (log 43). -/
def State.stopTasks (s : State) (fn : BitVec 6) : State :=
  let s1 := (s.sched.tasks.filter fun t => t.fn == fn).foldl (fun s t =>
    s.endTask t 4 (Config.freeWord s.fresh).toNat) s
  (s1.sched.xfers.filter fun x => x.fn == fn).foldl (fun s x =>
    let s1 := s.launchDone x.lid
    { s1 with sched := { s1.sched with xfers := s1.sched.xfers.filter fun y => y.lid != x.lid } }) s1

/-- The scratchpad ranges that a task holds on a die: its bounds while they are in force (R178); of a saved task the owned ranges that
its save left there (R281). -/
def Task.heldRanges (t : Task) (d : DieId) : List (Nat × Nat) :=
  if t.st != .saved then (t.onDie d).bounds
  else if t.saved.any fun y => y.die == d && !y.owned.isEmpty then []
  else (t.onDie d).owned

/-- The scratchpad ranges that the tasks of a function hold are overwritten with zeros (R91, R179). -/
def State.zeroRanges (s : State) (ts : List Task) : State :=
  ts.foldl (fun s t => allDies.foldl (fun s d =>
    (normRanges (t.heldRanges d)).foldl (fun s r => s.onDieAt d fun x => x.zeroUnits (r.1 / 256) (r.2 / 256)) s) s) s

/-- The four steps of R91: the tasks stop, the records go, pages and ranges are overwritten and the objects unloaded, and the slot
key is erased. -/
def State.teardown (s : State) (fn : BitVec 6) : State :=
  let ts := s.sched.tasks.filter fun t => t.fn == fn
  let slot := (s.fn fn).slot
  let s1 := ((s.stopTasks fn).discardRecords fn).zeroRanges ts
  let pages := if slot = 0 then [] else (s1.host.slotmap.filter fun p => p.2 == slot).map (·.1)
  let s2 := pages.foldl (fun s p => s.moveSlots p 1 0) s1
  let s3 := (List.range 1024).foldl (fun s i =>
    match (s.objSlot (BitVec.ofNat 10 i)).obj with
    | some o => if o.fn == fn then s.freeObject (BitVec.ofNat 10 i) true else s
    | none => s) s2
  let keys := if slot = 0 then s3.host.slotKeys else s3.host.slotKeys.set slot.toNat 0 slot.isLt
  ({ s3 with host := { s3.host with slotKeys := keys }, sched := { s3.sched with want := true } }).onFn fn fun f =>
    { f with slot := 0, xferKey := 0 }

/-- A TDI moves to ERROR (R92, R93): the teardown, and event 0x12 on the VF's ring and, without payload, on the PF's. -/
def State.tdiError (s : State) (fn : BitVec 6) (cause : Nat) : State :=
  let f := s.fn fn
  if f.tdi == .locked || f.tdi == .run then
    let s1 := (s.teardown fn).onFn fn fun f => { f with tdi := .error, errCause := BitVec.ofNat 8 cause }
    let tick := (s1.dieAt 1).tick
    (s1.postRecord fn (eventBytes 0x12 1 0 fn.toNat tick (leBytes 8 cause))).postRecord 0
      (eventBytes 0x12 1 0 fn.toNat tick [])
  else s

/-- The session of a function ends; a bound TDI moves to ERROR (R92). -/
def State.endSession (s : State) (fn : BitVec 6) : State :=
  ((s.setSpdm fn .none).onFn fn fun f => { f with secret := [] }).tdiError fn 1

/-! ### SPDM messages (R80 to R83) -/

/-- GET_VERSION (R80): the exchange starts anew; an established session ends with it (log 45). -/
def State.getVersion (s : State) (fn : BitVec 6) : Option State :=
  if !s.hostUp then none
  else
    let s1 := if (s.fn fn).spdm == .session then s.endSession fn else s
    some ((s1.setSpdm fn .version).answer fn (.version spdmVersions))

/-- NEGOTIATE_ALGORITHMS (R80, Table 03.3): `offered` is what the requester offers; a category without the listed choice fails. -/
def State.negotiate (s : State) (fn : BitVec 6) (offered : List SpdmAlg) : Option State :=
  s.spdmAt fn .capabilities fun s =>
    if spdmAlgs.all offered.contains then (s.setSpdm fn .negotiated).answer fn (.algorithms spdmAlgs)
    else s.answerError fn .negotiation

/-- GET_MEASUREMENTS (R80, R82): one block or all, signed or unsigned. -/
def State.getMeasurements (s : State) (fn : BitVec 6) (index : Nat) (sign : Bool) (nonce : List Byte) : Option State :=
  s.spdmRequest fn .negotiated fun s =>
    if (blockList index).isEmpty then s.answerError fn .invalid
    else
      let c := (blockList index).flatMap (s.blockBytes fn)
      s.answer fn (.measurements c (if sign then some (s.aliasSign c nonce) else none))

/-- KEY_EXCHANGE (R80, R31): refused when the identity is unusable. -/
def State.keyExchange (s : State) (fn : BitVec 6) (req : List Byte) : Option State :=
  s.spdmAt fn .negotiated fun s =>
    if s.pkg.idOk then (s.setSpdm fn .exchanged).answer fn (.keyExchange (s.aliasSign [] req)) else s.answerError fn .unexpected

/-- FINISH (R80): `good` says whether the requester's check value holds; the session then has an export master secret, which the
model draws (log 8). -/
def State.finishSession (s : State) (fn : BitVec 6) (good : Bool) : Option State :=
  s.spdmAt fn .exchanged fun s =>
    if good then
      let s1 := s.onFn fn fun f => { f with spdm := .session, secret := freeBytes s.fresh 64 }
      ({ s1 with fresh := s1.fresh + 64 }).answer fn .finish
    else (s.setSpdm fn .negotiated).answerError fn .invalid

/-! ### IDE and TDISP (R84, R85, R91, R92) -/

/-- IDE_KEY_MANAGEMENT (R80, Table 03.1): a selective stream of the function is programmed and enters the secure state; the port has
eight. -/
def State.ideKey (s : State) (fn : BitVec 6) (stream : BitVec 3) : Option State :=
  s.spdmRequest fn .session fun s =>
    if (List.range 64).any fun i => BitVec.ofNat 6 i != fn && (s.fn (BitVec.ofNat 6 i)).ides.contains stream then
      s.answerError fn .invalid
    else (s.onFn fn fun f => { f with ides := stream :: f.ides.filter fun x => x != stream }).answer fn .ideKey

/-- IDE_STREAM_INSECURE (R92). -/
def State.ideInsecure (s : State) (fn : BitVec 6) (stream : BitVec 3) : Option State :=
  if !s.hostUp || !(s.fn fn).ides.contains stream then none
  else some ((s.onFn fn fun f => { f with ides := f.ides.filter fun x => x != stream }).tdiError fn 0)

/-- The VFs that are locked or running. -/
def State.lockedVfs (s : State) : Nat :=
  ((List.range 64).filter fun i =>
    let t := (s.fn (BitVec.ofNat 6 i)).tdi
    t == .locked || t == .run).length

/-- The lowest free tenant slot (R85). -/
def State.freeTenantSlot (s : State) : Option (BitVec 4) :=
  ((List.range 15).map fun i => BitVec.ofNat 4 (i + 1)).find? fun k =>
    !(List.range 64).any fun i =>
      let f := s.fn (BitVec.ofNat 6 i)
      (f.tdi == .locked || f.tdi == .run) && f.slot == k

/-- The ASCII text "LX3 sealed transfer" (R85). -/
def xferInfo : List Byte :=
  [0x4C, 0x58, 0x33, 0x20, 0x73, 0x65, 0x61, 0x6C, 0x65, 0x64, 0x20, 0x74, 0x72, 0x61, 0x6E, 0x73, 0x66, 0x65, 0x72]

/-- The transfer key of a slot under the export master secret of a session (R85). -/
def xferKeyOf (secret : List Byte) (slot : BitVec 4) : BitVec 256 :=
  BitVec.ofNat 256 (beNat (hkdf512 secret (xferInfo ++ [BitVec.ofNat 8 slot.toNat]) 32))

/-- A VF is given a tenant slot with a fresh key (R85). -/
def State.giveSlot (s : State) (fn : BitVec 6) (k : BitVec 4) : State :=
  let s1 : State := { s with host := { s.host with slotKeys := s.host.slotKeys.set k.toNat s.fresh k.isLt }, fresh := s.fresh + 1 }
  s1.onFn fn fun f => { f with tdi := .locked, slot := k, ctrIn := 0, ctrOut := 0, xferKey := xferKeyOf f.secret k }

/-- LOCK_INTERFACE (R84, R85). -/
def State.lock (s : State) (fn : BitVec 6) : Option State :=
  s.spdmRequest fn .session fun s =>
    if fn = 0 then s.answerError fn .invalid
    else if (s.fn fn).tdi != .unlocked then s.answerError fn .tdiState
    else if 15 ≤ s.lockedVfs || (s.fn fn).ides.isEmpty then s.answerError fn .resources
    else
      match s.freeTenantSlot with
      | none => s.answerError fn .resources
      | some k => (s.giveSlot fn k).answer fn (.tdisp .locked)

/-- START_INTERFACE (R84): a locked TDI runs; its VF is sealed. -/
def State.startTdi (s : State) (fn : BitVec 6) : Option State :=
  s.spdmRequest fn .session fun s =>
    if (s.fn fn).tdi == .locked then (s.onFn fn fun f => { f with tdi := .run }).answer fn (.tdisp .run)
    else s.answerError fn .tdiState

/-- STOP_INTERFACE (R91): the teardown where the TDI was locked or running, then CONFIG_UNLOCKED. -/
def State.stopTdi (s : State) (fn : BitVec 6) : Option State :=
  s.spdmRequest fn .session fun s =>
    let s1 := if (s.fn fn).tdi == .locked || (s.fn fn).tdi == .run then s.teardown fn else s
    (s1.onFn fn fun f => { f with tdi := .unlocked }).answer fn (.tdisp .unlocked)

/-- ATTESTATION_LOG_READ (R83): a sealed function reads its own entries. -/
def State.logRead (s : State) (fn : BitVec 6) : Option State :=
  s.spdmRequest fn .session fun s =>
    if s.sealed fn then
      s.answer fn (.vendor ((s.host.log.filter fun e => e.fn.toNat == fn.toNat).flatMap LogEntry.bytes))
    else s.answerError fn .invalid

/-- FUNCTION_LEVEL_RESET of a VF (R79). -/
def State.flr (s : State) (fn : BitVec 6) : Option State :=
  if !s.hostUp || fn = 0 then none
  else
    let s1 := ((s.tdiError fn 3).stopTasks fn).discardRecords fn
    let r := Fn.reset fn.toNat
    some ({ s1 with sched := { s1.sched with want := true } }.onFn fn fun f =>
      { f with evBase := r.evBase, evSize := r.evSize, evVec := r.evVec, evIrq := r.evIrq, evHead := r.evHead,
               evTail := r.evTail, evLost := r.evLost })

/-! ### The events -/

/-- GET_VERSION (R80). -/
def execGetVersion (fn : BitVec 6) (s : State) : Host.Outcome State Fault Refusal := enabled "GET_VERSION" (s.getVersion fn)

/-- GET_CAPABILITIES (R80). -/
def execGetCapabilities (fn : BitVec 6) (s : State) : Host.Outcome State Fault Refusal :=
  enabled "GET_CAPABILITIES" (s.spdmAt fn .version fun s => (s.setSpdm fn .capabilities).answer fn (.capabilities spdmCaps))

/-- NEGOTIATE_ALGORITHMS (R80). -/
def execNegotiateAlgorithms (fn : BitVec 6) (offered : List SpdmAlg) (s : State) : Host.Outcome State Fault Refusal :=
  enabled "NEGOTIATE_ALGORITHMS" (s.negotiate fn offered)

/-- GET_DIGESTS (R81). -/
def execGetDigests (fn : BitVec 6) (s : State) : Host.Outcome State Fault Refusal :=
  enabled "GET_DIGESTS" (s.spdmRequest fn .negotiated fun s => s.answer fn (.digests (digestBytes (sha512 s.certificates))))

/-- GET_CERTIFICATE (R81): bytes of the chain from an offset. -/
def execGetCertificate (fn : BitVec 6) (off len : Nat) (s : State) : Host.Outcome State Fault Refusal :=
  enabled "GET_CERTIFICATE" (s.spdmRequest fn .negotiated fun s =>
    s.answer fn (.certificate ((s.certificates.drop off).take len)))

/-- CHALLENGE (R80, R81). -/
def execChallenge (fn : BitVec 6) (nonce : List Byte) (s : State) : Host.Outcome State Fault Refusal :=
  enabled "CHALLENGE" (s.spdmRequest fn .negotiated fun s =>
    let d := digestBytes (sha512 s.certificates)
    s.answer fn (.challengeAuth d (s.aliasSign d nonce)))

/-- GET_MEASUREMENTS (R80, R82). -/
def execGetMeasurements (fn : BitVec 6) (index : Nat) (sign : Bool) (nonce : List Byte) (s : State) :
    Host.Outcome State Fault Refusal :=
  enabled "GET_MEASUREMENTS" (s.getMeasurements fn index sign nonce)

/-- KEY_EXCHANGE (R80). -/
def execKeyExchange (fn : BitVec 6) (req : List Byte) (s : State) : Host.Outcome State Fault Refusal :=
  enabled "KEY_EXCHANGE" (s.keyExchange fn req)

/-- FINISH (R80). -/
def execFinish (fn : BitVec 6) (good : Bool) (s : State) : Host.Outcome State Fault Refusal :=
  enabled "FINISH" (s.finishSession fn good)

/-- HEARTBEAT (R80). -/
def execHeartbeat (fn : BitVec 6) (s : State) : Host.Outcome State Fault Refusal :=
  enabled "HEARTBEAT" (s.spdmRequest fn .session fun s => s.answer fn .heartbeat)

/-- HEARTBEAT_FAILURE (R92). -/
def execHeartbeatFailure (fn : BitVec 6) (s : State) : Host.Outcome State Fault Refusal :=
  enabled "HEARTBEAT_FAILURE" (if s.hostUp && (s.fn fn).spdm == .session then some (s.endSession fn) else none)

/-- KEY_UPDATE (R80). -/
def execKeyUpdate (fn : BitVec 6) (s : State) : Host.Outcome State Fault Refusal :=
  enabled "KEY_UPDATE" (s.spdmRequest fn .session fun s => s.answer fn .keyUpdate)

/-- END_SESSION (R92). -/
def execEndSession (fn : BitVec 6) (s : State) : Host.Outcome State Fault Refusal :=
  enabled "END_SESSION" (s.spdmRequest fn .session fun s => (s.answer fn .endSession).endSession fn)

/-- IDE_KEY_MANAGEMENT (R80). -/
def execIdeKeyManagement (fn : BitVec 6) (stream : BitVec 3) (s : State) : Host.Outcome State Fault Refusal :=
  enabled "IDE_KEY_MANAGEMENT" (s.ideKey fn stream)

/-- IDE_STREAM_INSECURE (R92). -/
def execIdeStreamInsecure (fn : BitVec 6) (stream : BitVec 3) (s : State) : Host.Outcome State Fault Refusal :=
  enabled "IDE_STREAM_INSECURE" (s.ideInsecure fn stream)

/-- LOCK_INTERFACE (R84). -/
def execLockInterface (fn : BitVec 6) (s : State) : Host.Outcome State Fault Refusal := enabled "LOCK_INTERFACE" (s.lock fn)

/-- START_INTERFACE (R84). -/
def execStartInterface (fn : BitVec 6) (s : State) : Host.Outcome State Fault Refusal :=
  enabled "START_INTERFACE" (s.startTdi fn)

/-- STOP_INTERFACE (R91). -/
def execStopInterface (fn : BitVec 6) (s : State) : Host.Outcome State Fault Refusal := enabled "STOP_INTERFACE" (s.stopTdi fn)

/-- ATTESTATION_LOG_READ (R83). -/
def execAttestationLogRead (fn : BitVec 6) (s : State) : Host.Outcome State Fault Refusal :=
  enabled "ATTESTATION_LOG_READ" (s.logRead fn)

/-- FUNCTION_LEVEL_RESET (R79). -/
def execFunctionLevelReset (fn : BitVec 6) (s : State) : Host.Outcome State Fault Refusal :=
  enabled "FUNCTION_LEVEL_RESET" (s.flr fn)

end Sys2Proof.Machine
end

