-- ==== Sys2Proof/Machine/HostPort.lean ====
section
/-! DEFINITION. The host port (01 R39, R40, 02 R65 to R69, 03 R78, R86, R89, R94 to R97, Tables 01.10, 02.12, 03.2, 03.6, 03.7): what the
BARs read, and the host's writes. -/

namespace Sys2Proof.Machine

/-! ### What the BARs read -/

/-- A word with fields at bit positions. -/
def packed (l : List (Nat × Nat)) : Word := BitVec.ofNat 64 ((l.map fun x => x.2 * 2 ^ x.1).foldl (· + ·) 0)

/-- Number of a plane's state (Table 02.12). -/
def PlaneSt.code : PlaneSt → Nat
  | .enabled => 0 | .draining => 1 | .drained => 2 | .training => 3

/-- Number of a port's state (Table 02.12). -/
def PortSt.code : PortSt → Nat
  | .down => 0 | .training => 1 | .up => 2 | .drained => 3

/-- PORTSTAT of a port. -/
def Port.stat (x : Port) : Word :=
  packed [(0, x.live.toNat), (16, x.lambda16.isSome.toNat), (17, x.spare.isSome.toNat), (18, x.st.code),
    (20, popcount 16 x.live.toNat / 4)]

/-- PORTPWR of a port (Table 05.6). -/
def PortPwr.word (x : PortPwr) : Word := packed [(0, x.set.toNat), (8, x.floor.toNat), (16, x.defer.toNat)]

/-- A ROUTE entry as it reads (Table 02.11). -/
def RouteEnt.word (e : RouteEnt) : Word := packed [(0, e.direct.toNat), (12, e.via.toNat), (19, e.viaValid.toNat)]

/-- The management window of the PF (Tables 01.4, 01.8, 01.10, 02.11, 02.12, 05.5, 05.6); an offset that no table assigns reads 0
(R40). The absent ports of an LX3-432N read as they stand in State, drained with a full live mask (log 6). -/
def State.readMgmt (s : State) (off : Nat) : Word :=
  let p := s.pkg
  let l := s.links
  match off with
  | 0x0000 => packed [(0, p.stage), (4, p.bootFail.toNat)]
  | 0x0008 => packed [(0, p.level.toNat), (2, p.dieUp.toNat), (5, p.hbmFull.toNat), (6, p.optUp.toNat), (7, p.padUp.toNat), (8, p.fail.toNat)]
  | 0x0010 => packed [(0, (p.pwrNext.getD p.pwrLimit).toNat), (12, p.pwrBad.toNat)]
  | 0x0018 => packed [(0, p.pwrNow.toNat), (16, p.pwrPct.toNat)]
  | 0x0020 => packed [(0, p.tempDie.toNat), (8, p.tempLaser.toNat)]
  | 0x0028 => p.caps
  | 0x0030 => packed [(0, p.errSram.toNat), (16, p.errHbm.toNat)]
  | 0x0038 => packed [(0, l.errFar.toNat), (16, l.errReplay.toNat), (32, l.errCount.toNat)]
  | 0x0048 => packed (l.planes.toList.zipIdx.map fun x => (2 * x.2, x.1.code))
  | 0x0050 => BitVec.ofNat 64 l.cfgErr.toNat
  | 0x0058 => BitVec.ofNat 64 l.memberSet.toNat
  | 0x0060 => l.groupLoS
  | 0x0068 => l.groupHiS
  | 0x0070 => packed [(0, p.lowPwr.toNat), (2, p.inForce.toNat), (3, p.hold.toNat), (4, p.overF.toNat), (5, p.pass)]
  | n =>
    if n % 8 ≠ 0 then 0
    else if 0x0100 ≤ n ∧ n < 0x0160 then (l.ports.toList.map Port.stat).getD ((n - 0x0100) / 8) 0
    else if 0x0180 ≤ n ∧ n < 0x01E0 then (p.portPwr.toList.map PortPwr.word).getD ((n - 0x0180) / 8) 0
    else if 0x0800 ≤ n ∧ n < 0x0C00 then (l.routeS.toList.map RouteEnt.word).getD ((n - 0x0800) / 8) 0
    else 0

/-- BAR0 of a function (R78, Table 03.6). -/
def State.readBar0 (s : State) (fn : BitVec 6) (off : Nat) : Word :=
  let f := s.fn fn
  match off with
  | 0x0C00 => f.evBase
  | 0x0C08 => packed [(0, f.evSize.toNat), (8, f.evVec.toNat), (14, f.evIrq.toNat)]
  | 0x0C10 => BitVec.ofNat 64 f.evHead.toNat
  | 0x0C18 => BitVec.ofNat 64 f.evTail.toNat
  | 0x0C20 => BitVec.ofNat 64 f.evLost.toNat
  | 0x0C40 => if fn = 0 then packed [(30, s.host.dmwin.toNat)] else 0
  | n => if fn = 0 then s.readMgmt n else 0

/-- Does a queue's window answer a function (R78): the PF every one, a VF its own? -/
def State.windowOpen (s : State) (fn : BitVec 6) (q : BitVec 10) : Bool := fn == 0 || (s.queue q).func == fn

/-- BAR2 of a function: the window of queue `q` (Table 03.7). -/
def State.readQueue (s : State) (fn : BitVec 6) (q : BitVec 10) (off : Nat) : Word :=
  let x := s.queue q
  if !s.windowOpen fn q then 0
  else
    match off with
    | 0x100 => BitVec.ofNat 64 x.accepted.toNat
    | 0x108 => BitVec.ofNat 64 x.dispatched.toNat
    | 0x110 => BitVec.ofNat 64 x.done.toNat
    | 0x118 => BitVec.ofNat 64 x.ovfcnt.toNat
    | 0x128 => packed [(0, x.stageErr.toNat), (1, x.cfgRef.toNat)]
    | 0x800 => packed [(0, x.func.toNat), (8, x.weight.toNat), (16, x.vector.toNat), (22, x.irq.toNat)]
    | _ => 0

/-! ### Queues (R94 to R97) -/

/-- A host write takes effect when configuration space answers (Table 01.7, R33); else it has none. -/
def State.hostWrite (s : State) (f : State → State) : State := if s.configUp then f s else s

/-- Do a function's staging writes reach a queue: its own queues, once the firmware runs (R33, R95)? -/
def State.stageOpen (s : State) (fn : BitVec 6) (q : BitVec 10) : Bool := s.hostUp && (s.queue q).func == fn

/-- Is a staging write of `n` bytes at an offset one that R95 takes: naturally aligned, of 8 bytes or more? -/
def stagingWide (off n : Nat) : Bool := [8, 16, 32, 64].contains n && off % n == 0 && decide (off + n ≤ 64)

/-- Does a staging write reach the 8 bytes at 0x038? -/
def stagingSubmits (off n : Nat) : Bool := stagingWide off n && decide (off + n = 64)

/-- Bytes put into the staging area. -/
def Queue.stagePut (q : Queue) (off : Nat) (bs : List Byte) : Queue :=
  { q with stage := q.stage.take off ++ bs ++ q.stage.drop (off + bs.length) }

/-- STAGE_WRITE (R95): bytes are staged, or the write is discarded and sets QERR [0]. -/
def State.stageWrite (s : State) (fn : BitVec 6) (q : BitVec 10) (off : Nat) (bs : List Byte) : Option State :=
  if stagingSubmits off bs.length then none
  else some (s.hostWrite fun s =>
    if !s.stageOpen fn q then s
    else if stagingWide off bs.length then s.onQueue q fun x => x.stagePut off bs
    else s.onQueue q fun x => { x with stageErr := true })

/-- The staged record enters its queue, or is discarded at a full one (R96). -/
def State.submit (s : State) (q : BitVec 10) : State :=
  let x := s.queue q
  let s1 := s.onQueue q fun x => { x with stage := List.replicate 64 0 }
  if x.recs.length < 64 then
    let lid : BitVec 32 := BitVec.ofNat 32 (q.toNat * 2 ^ 22 + x.accepted.toNat % 2 ^ 22)
    (s1.onQueue q fun y => { y with recs := y.recs ++ [(lid, x.stage)], accepted := y.accepted + 1 }).wake
  else
    let n := satInc16 x.ovfcnt 1
    (s1.onQueue q fun y => { y with ovfcnt := n }).postEvent x.func 0x10 1 q.toNat (leBytes 8 n.toNat)

/-- RECORD_SUBMIT (R95, R96): a staging write that reaches offset 0x038. -/
def State.recordSubmit (s : State) (fn : BitVec 6) (q : BitVec 10) (off : Nat) (bs : List Byte) : Option State :=
  if !stagingSubmits off bs.length then none
  else some (s.hostWrite fun s =>
    if s.stageOpen fn q then (s.onQueue q fun x => x.stagePut off bs).submit q else s)

/-- A record leaves its queue with a completion and without having run (R97, R131). -/
def State.dropRecord (s : State) (q : BitVec 10) (lid : BitVec 32) (rec : List Byte) (outcome detail : Nat) : State :=
  let s1 := s.onQueue q fun x =>
    { x with recs := x.recs.filter fun r => r.1 != lid, dispatched := x.dispatched + 1, eligible := false }
  s1.complete lid (leAt rec 56 8) outcome 0 detail

/-- Does a pre-empted task wait at the head of a queue (R131)? -/
def State.savedHead (s : State) (q : BitVec 10) : Bool := s.sched.tasks.any fun t => t.st == .saved && queueOf t.lid == q

/-- FLUSH (R97): every record completes with CANCELLED, in LID order; a pre-empted task keeps its place (R143). -/
def State.flush (s : State) (fn : BitVec 6) (q : BitVec 10) : State :=
  s.hostWrite fun s =>
    if s.windowOpen fn q && !(s.queue q).recs.isEmpty then
      ((s.queue q).recs.foldl (fun s r => s.dropRecord q r.1 r.2 6 0) s).onQueue q fun x =>
        { x with deficit := if s.savedHead q then x.deficit else 0 }
    else s

/-- Does a queue hold records or have a launch or transfer running (R94)? -/
def State.queueBusy (s : State) (q : BitVec 10) : Bool :=
  !(s.queue q).recs.isEmpty || s.sched.tasks.any (fun t => queueOf t.lid == q) || s.sched.xfers.any fun x => queueOf x.lid == q

/-- Is a TDI in ERROR because of a write of the PF: later such writes have no effect (R92)? -/
def State.refusesPf (s : State) (fn : BitVec 6) : Bool := (s.fn fn).tdi == .error && (s.fn fn).errCause == 2

/-- QCFG_WRITE (R92, R94): only through the PF's mapping. -/
def State.writeQcfg (s : State) (fn : BitVec 6) (q : BitVec 10) (v : Word) : State :=
  s.hostWrite fun s =>
    let f := (s.queue q).func
    if fn ≠ 0 || s.refusesPf f then s
    else if s.sealed f then (s.onQueue q fun x => { x with cfgRef := true }).tdiError f 2
    else if s.queueBusy q then s.onQueue q fun x => { x with cfgRef := true }
    else s.onQueue q fun x =>
      { x with func := BitVec.ofNat 6 (fld v 0 6), weight := BitVec.ofNat 8 (fld v 8 8), vector := BitVec.ofNat 6 (fld v 16 6),
               irq := bit v 22, deficit := 0 }

/-! ### The device-memory aperture (R86, R89, R92) -/

/-- DMWIN_WRITE (R89, R92): in sealed operation the write is discarded and the sealed TDIs move to ERROR (log 44). -/
def State.writeDmwin (s : State) (v : Word) : State :=
  s.hostWrite fun s =>
    if 432 ≤ fld v 30 9 then s
    else if s.sealedOp then
      (List.range 64).foldl (fun s i => if s.sealed (BitVec.ofNat 6 i) then s.tdiError (BitVec.ofNat 6 i) 2 else s) s
    else if (List.range 64).any (fun i => s.refusesPf (BitVec.ofNat 6 i)) then s
    else { s with host := { s.host with dmwin := BitVec.ofNat 9 (fld v 30 9) } }

/-- The physical address of a BAR4 access, or none when it completes with Unsupported Request (R86, R89). -/
def State.bar4Addr (s : State) (off n : Nat) : Option Nat :=
  let pa := s.host.dmwin.toNat * 2 ^ 30 + off
  if s.sealedOp || decide (s.pkg.level.toNat = 0 ∨ 2 ^ 36 < off + n ∨ hbmSize < pa + n) then none else some pa

/-- The PF's error reporting records an Unsupported Request (Table 03.1; log 55). -/
def State.unsupported (s : State) : State := s.onFn 0 fun f => { f with aer := true }

/-- BAR4_READ (R89): all-ones for pages of a tenant slot; data that an uncorrectable error withholds is a free value, and the error is
posted (R15). -/
def State.bar4Read (s : State) (off n : Nat) : Option State :=
  if !s.hostUp then none
  else
    let answer (s : State) (a : Option (List Byte)) : State := { s with host := { s.host with barReads := s.host.barReads ++ [a] } }
    match s.bar4Addr off n with
    | none => some (answer s.unsupported none)
    | some pa =>
      let (s1, bs) := (pagePieces pa n).foldl (fun (r : State × List Byte) x =>
        let (s, bs) := r
        if s.slotOf x.1 != 0 then (s, bs ++ List.replicate x.2 0xFF)
        else if s.hbmBad x.1 x.2 then
          let d : DieId := ⟨hbmDie x.1 % 3, by omega⟩
          let s1 := s.postEvent 0 0x24 d 0 (leBytes 8 x.1 ++ [0x41])
          let s2 : State := { s1 with fresh := s1.fresh + x.2 }
          (s2, bs ++ freeBytes s1.fresh x.2)
        else (s, bs ++ s.hbm.readN x.1 x.2)) (s, [])
      some (answer s1 (some bs))

/-- BAR4_WRITE (R89): pages of a tenant slot discard the write. -/
def State.bar4Write (s : State) (off : Nat) (bs : List Byte) : Option State :=
  if !s.hostUp then none
  else
    match s.bar4Addr off bs.length with
    | none => some s.unsupported
    | some pa => some ((pagePieces pa bs.length).foldl (fun s x =>
        if s.slotOf x.1 != 0 then s else s.hbmPut x.1 (slice bs (x.1 - pa) x.2)) s)

/-! ### Registers without behaviour of their own (R39, R40) -/

/-- The offsets of BAR0 whose writes are steps of their own. -/
def ownStep : List Nat := [0x0010, 0x0040, 0x0058, 0x0070, 0x0C40]

/-- A 1 written clears the bit (W1C). -/
def w1c {w : Nat} (x : BitVec w) (v : Word) (lo : Nat) : BitVec w := x &&& ~~~(BitVec.ofNat w (fld v lo w))

/-- A write to the PF's management window. -/
def State.writeMgmt (s : State) (off : Nat) (v : Word) : State :=
  let p := s.pkg
  let l := s.links
  match off with
  | 0x0030 => { s with pkg := { p with errSram := w1c p.errSram v 0, errHbm := w1c p.errHbm v 16 } }
  | 0x0038 => { s with links := { l with errFar := w1c l.errFar v 0, errReplay := w1c l.errReplay v 16, errCount := w1c l.errCount v 32 } }
  | 0x0050 => { s with links := { l with cfgErr := w1c l.cfgErr v 0 } }
  | 0x0060 => { s with links := { l with groupLoS := v } }
  | 0x0068 => { s with links := { l with groupHiS := v } }
  | n =>
    if 0x0800 ≤ n ∧ n < 0x0C00 ∧ n % 8 = 0 then
      let e : RouteEnt :=
        { direct := BitVec.ofNat 12 (fld v 0 12), via := BitVec.ofNat 7 (fld v 12 7), viaValid := bit v 19 }
      { s with links := { l with routeS := l.routeS.setIfInBounds ((n - 0x0800) / 8) e } }
    else s

/-- A write to BAR0 of a function (R78, Table 03.6). -/
def State.writeBar0 (s : State) (fn : BitVec 6) (off : Nat) (v : Word) : State :=
  match off with
  | 0x0C00 => s.onFn fn fun f => { f with evBase := BitVec.ofNat 64 (v.toNat / 64 * 64) }
  | 0x0C08 => s.onFn fn fun f =>
      { f with evSize := BitVec.ofNat 5 (fld v 0 5), evVec := BitVec.ofNat 6 (fld v 8 6), evIrq := bit v 14 }
  | 0x0C18 => s.onFn fn fun f => { f with evTail := BitVec.ofNat 32 (fld v 0 32) }
  | 0x0C20 => s.onFn fn fun f => { f with evLost := w1c f.evLost v 0 }
  | n => if fn = 0 then s.writeMgmt n v else s

/-- A write to a queue window's QERR; every other register there is read-only or has a step of its own. -/
def State.writeBar2 (s : State) (fn : BitVec 6) (off : Nat) (v : Word) : State :=
  let q : BitVec 10 := BitVec.ofNat 10 (off / 4096)
  if s.windowOpen fn q && off % 4096 == 0x128 then
    s.onQueue q fun x => { x with stageErr := x.stageErr && !bit v 0, cfgRef := x.cfgRef && !bit v 1 }
  else s

/-- Offsets of a queue window whose writes are steps of their own. -/
def ownQueueStep (off : Nat) : Bool := decide (off % 4096 < 64) || [0x120, 0x800].contains (off % 4096)

/-- Has a write to an offset with a step of its own no effect: a VF's, or the command "none" of PLANECTL (R40, R78)? -/
def idleWrite (fn : BitVec 6) (bar off : Nat) (v : Word) : Bool :=
  if bar = 0 then fn != 0 || (off == 0x0040 && fld v 2 2 == 0) else off % 4096 == 0x120 && !bit v 0

/-- The firmware creates an address space for a function, the one of its next tasks; no other function has it (R101, log 13). -/
def State.giveSpace (s : State) (fn : BitVec 6) (asid : BitVec 8) : State :=
  { s with host := { s.host with fns := s.host.fns.map fun (f : Fn) => { f with asids := f.asids.filter fun a => a != asid } } }.onFn fn
    fun f => { f with asids := asid :: f.asids }

/-- Has every page of a leaf of a level a key slot (R85, R90)? -/
def State.leafSlot (s : State) (level pa : Nat) (k : BitVec 4) : Bool :=
  (List.range (2 ^ (levelShift level - 16))).all fun i => s.slotOf (pa + 65536 * i) == k

/-- The firmware writes an entry into a page table of a level of a function; it maps no page of another slot (R85). -/
def State.writeEntry (s : State) (fn : BitVec 6) (level pa : Nat) (w : Word) : State :=
  let k := (s.fn fn).slot
  if bit w 0 && bit w 1 && (fld w 4 4 != k.toNat || !s.leafSlot level (fld w 8 40 * 256) k) then s else s.hbmPut pa (leBytes 8 w.toNat)

/-- A write by the runtime firmware of a register that it keeps (R101): ASIDROOT or SAVELIST. -/
def State.firmwareWrite (s : State) (d : DieId) (n : Nat) (v : Word) : Option State :=
  if s.firmware && ((0x1600 ≤ n && n < 0x1700) || (0x1800 ≤ n && n < 0x1804)) then some (s.writeSup 0 d n v) else none

/-- REGISTER_WRITE (R39, R40, R332): a write to a register with no behaviour of its own. -/
def State.registerWrite (s : State) : RegWrite → Option State
  | .special d c => s.sregStep .plain d c
  | .firmware d n v => s.firmwareWrite d n v
  | .space fn asid => if s.firmware then some (s.giveSpace fn asid) else none
  | .entry fn level pa w =>
    if s.firmware && decide (level ≤ 2 ∧ pa % 8 = 0 ∧ pa < hbmSize) then some (s.writeEntry fn level pa w) else none
  | .hostMem fn a bs => some (s.hostPut fn a.toNat bs)
  | .mctp off v =>
    if !ownStep.contains off then some (s.onMgmt fun s => s.writeMgmt off v) else if idleWrite 0 0 off v then some s else none
  | .bar fn bar off v =>
    if bar = 0 then
      if !ownStep.contains off then some (s.hostWrite fun s => s.writeBar0 fn off v)
      else if idleWrite fn bar off v then some s else none
    else if bar = 2 then
      if !ownQueueStep off then some (s.hostWrite fun s => s.writeBar2 fn off v)
      else if idleWrite fn bar off v then some s else none
    else none

/-- INVAL_WRITE (R101, R188): by a context, or by the firmware. -/
def State.invalWrite (s : State) : RegWrite → Option State
  | .special d c => s.sregStep .inval d c
  | .firmware _ n v => if s.firmware && n == 0x1700 then some (s.invalidate v) else none
  | .bar .. | .space .. | .entry .. | .hostMem .. | .mctp .. => none

/-- SLOTMAP_WRITE (R90, R101): by a context on behalf of the PF, or by the firmware, which alone moves pages into a tenant slot. -/
def State.slotmapWrite (s : State) : RegWrite → Option State
  | .special d c => s.sregStep .slotmap d c
  | .firmware _ n v =>
    if s.firmware && n == 0x1701 && !slotBad v then some (s.moveSlots (slotPages v).1 (slotPages v).2 (fld v 40 4)) else none
  | .bar .. | .space .. | .entry .. | .hostMem .. | .mctp .. => none

/-! ### The events -/

/-- STAGE_WRITE (R95). -/
def execStageWrite (fn : BitVec 6) (q : BitVec 10) (off : Nat) (bs : List Byte) (s : State) : Host.Outcome State Fault Refusal :=
  enabled "STAGE_WRITE" (s.stageWrite fn q off bs)

/-- RECORD_SUBMIT (R96). -/
def execRecordSubmit (fn : BitVec 6) (q : BitVec 10) (off : Nat) (bs : List Byte) (s : State) :
    Host.Outcome State Fault Refusal :=
  enabled "RECORD_SUBMIT" (s.recordSubmit fn q off bs)

/-- FLUSH (R97). -/
def execFlush (fn : BitVec 6) (q : BitVec 10) (s : State) : Host.Outcome State Fault Refusal := .next (s.flush fn q)

/-- QCFG_WRITE (R94). -/
def execQcfgWrite (fn : BitVec 6) (q : BitVec 10) (v : Word) (s : State) : Host.Outcome State Fault Refusal :=
  .next (s.writeQcfg fn q v)

/-- DMWIN_WRITE (R89). -/
def execDmwinWrite (v : Word) (s : State) : Host.Outcome State Fault Refusal := .next (s.writeDmwin v)

/-- BAR4_READ (R89). -/
def execBar4Read (off n : Nat) (s : State) : Host.Outcome State Fault Refusal := enabled "BAR4_READ" (s.bar4Read off n)

/-- BAR4_WRITE (R89). -/
def execBar4Write (off : Nat) (bs : List Byte) (s : State) : Host.Outcome State Fault Refusal :=
  enabled "BAR4_WRITE" (s.bar4Write off bs)

/-- REGISTER_WRITE (R40). -/
def execRegisterWrite (r : RegWrite) (s : State) : Host.Outcome State Fault Refusal :=
  enabled "REGISTER_WRITE" (s.registerWrite r)

/-- INVAL_WRITE (R188). -/
def execInvalWrite (r : RegWrite) (s : State) : Host.Outcome State Fault Refusal := enabled "INVAL_WRITE" (s.invalWrite r)

/-- SLOTMAP_WRITE (R90). -/
def execSlotmapWrite (r : RegWrite) (s : State) : Host.Outcome State Fault Refusal :=
  enabled "SLOTMAP_WRITE" (s.slotmapWrite r)

end Sys2Proof.Machine
end

