-- ==== Sys2Proof/Machine/Hart.lean ====
section
/-! DEFINITION. The architectural state of a pen's hart: its S-mode registers with the values that a write leaves in them
(R222, R427; log 10 for what the RISC-V specifications say), and the hart-state block of a pen image (R427). -/

namespace Sys2Proof.Machine

/-! ### S-mode registers (R427) -/

/-- VLEN and ELEN (R222). -/
abbrev rvVlen : Nat := 256

/-- The writable bits of sstatus: SIE, SPIE, SPP, VS, FS, SUM, MXR. -/
abbrev sstatusMask : Nat := 0xC6722

/-- sstatus with UXL 2 and SD computed. -/
def sstatusOf (v : Word) : Word :=
  let n := v.toNat &&& sstatusMask
  BitVec.ofNat 64 (n + 2 * 2 ^ 32 + (if bits n 9 2 = 3 ∨ bits n 13 2 = 3 then 2 ^ 63 else 0))

/-- The value that satp takes: a MODE that is not implemented leaves the register as it is. -/
def satpOf (old v : Word) : Word :=
  if fld v 60 4 = 0 ∨ fld v 60 4 = 8 ∨ fld v 60 4 = 9 then v else old

/-- Is it one of the S-mode registers that the hart implements (R427)? -/
def sCsr (n : Nat) : Bool :=
  [0x100, 0x104, 0x105, 0x106, 0x10A, 0x140, 0x141, 0x142, 0x143, 0x144, 0x180].contains n

/-- Read an S-mode register. -/
def Hart.readS (h : Hart) (n : Nat) : Word :=
  match n with
  | 0x100 => h.sstatus
  | 0x104 => h.sie
  | 0x105 => h.stvec
  | 0x106 => h.scounteren
  | 0x10A => h.senvcfg
  | 0x140 => h.sscratch
  | 0x141 => h.sepc
  | 0x142 => h.scause
  | 0x143 => h.stval
  | 0x144 => h.sip
  | 0x180 => h.satp
  | _ => 0

/-- Write an S-mode register as a csrw would: fields take their legal values. -/
def Hart.writeS (h : Hart) (n : Nat) (v : Word) : Hart :=
  match n with
  | 0x100 => { h with sstatus := sstatusOf v }
  | 0x104 => { h with sie := v &&& 0x222 }
  | 0x105 => { h with stvec := v &&& 0xFFFFFFFFFFFFFFFD }
  | 0x106 => { h with scounteren := v &&& 0xFFFFFFFF }
  | 0x10A => { h with senvcfg := v &&& 1 }
  | 0x140 => { h with sscratch := v }
  | 0x141 => { h with sepc := v &&& 0xFFFFFFFFFFFFFFFE }
  | 0x142 => { h with scause := v }
  | 0x143 => { h with stval := v }
  | 0x144 => { h with sip := (h.sip &&& 0xFFFFFFFFFFFFFFFD) ||| (v &&& 2) }
  | 0x180 => { h with satp := satpOf h.satp v }
  | _ => h

/-- The bits of mstatus that sstatus does not show: MIE, MPIE, MPP, MPRV, TVM, TW, TSR. -/
abbrev mstatusMask : Nat := 0x721888

/-- mstatus: the fields of sstatus, those of M-mode, and SXL 2. -/
def Hart.mstatus (h : Hart) : Word := h.sstatus ||| h.m.status ||| 0x800000000

/-- Write mstatus: a reserved MPP leaves the old one. -/
def Hart.writeMstatus (h : Hart) (v : Word) : Hart :=
  let x := v &&& BitVec.ofNat 64 mstatusMask
  { h with sstatus := sstatusOf v, m := { h.m with status := if fld v 11 2 = 2 then setFld x 11 2 (fld h.m.status 11 2) else x } }

/-- misa: RV64, with A, B, C, D, F, I, M, S, U and V (R222). -/
abbrev misaWord : Word := 0x800000000034112F

/-- Exceptions and interrupts that the monitor has delegated to S-mode for good: all but access faults and the calls of S-mode and
M-mode (R225, R227, log 10). -/
abbrev medelegWord : Word := 0xB15D
abbrev midelegWord : Word := 0x222

/-- Read an M-mode register of the RISC-V specifications. -/
def Hart.readMCsr (h : Hart) (n : Nat) : Option Word :=
  match n with
  | 0x300 => some h.mstatus
  | 0x301 => some misaWord
  | 0x302 => some medelegWord
  | 0x303 => some midelegWord
  | 0x304 => some (h.m.ie ||| h.sie)
  | 0x305 => some h.m.tvec
  | 0x306 => some h.m.counteren
  | 0x340 => some h.m.scratch
  | 0x341 => some h.m.epc
  | 0x342 => some h.m.cause
  | 0x343 => some h.m.tval
  | 0x344 => some h.sip
  | _ => none

/-- Write an M-mode register of the RISC-V specifications as a csrw would. -/
def Hart.writeMCsr (h : Hart) (n : Nat) (v : Word) : Option Hart :=
  match n with
  | 0x300 => some (h.writeMstatus v)
  | 0x301 | 0x302 | 0x303 => some h
  | 0x304 => some { h with sie := v &&& 0x222, m := { h.m with ie := v &&& 0x888 } }
  | 0x305 => some { h with m := { h.m with tvec := v &&& 0xFFFFFFFFFFFFFFFD } }
  | 0x306 => some { h with m := { h.m with counteren := v &&& 0xFFFFFFFF } }
  | 0x340 => some { h with m := { h.m with scratch := v } }
  | 0x341 => some { h with m := { h.m with epc := v &&& 0xFFFFFFFFFFFFFFFE } }
  | 0x342 => some { h with m := { h.m with cause := v } }
  | 0x343 => some { h with m := { h.m with tval := v } }
  | 0x344 => some { h with sip := (h.sip &&& 0xFFFFFFFFFFFFFDDD) ||| (v &&& 0x222) }
  | _ => none

/-- Bits of an element of a legal vtype. -/
def sewOf (vtype : Word) : Nat := 8 * 2 ^ fld vtype 3 3

/-- VLMAX of a vtype (VLEN × LMUL / SEW). -/
def vlmaxOf (vtype : Word) : Nat :=
  let m := fld vtype 0 3
  let n := if m < 4 then rvVlen * 2 ^ m else rvVlen / 2 ^ (8 - m)
  n / sewOf vtype

/-- Is a vtype supported: known fields, SEW of at most ELEN, and LMUL of at least SEW / ELEN? -/
def vtypeLegal (v : Word) : Bool :=
  let m := fld v 0 3
  fld v 8 56 == 0 && m != 4 && decide (fld v 3 3 ≤ 3) && (decide (m < 4) || decide (sewOf v * 2 ^ (8 - m) ≤ 64))

/-- The vtype that a value leaves: vill where it is not supported. -/
def vtypeOf (v : Word) : Word := if vtypeLegal v then v else 0x8000000000000000

/-! ### The hart-state block (R427) -/

/-- Bytes of a pen image before its memory: the head and the hart-state block (R228). -/
abbrev imageHead : Nat := 64 + 4096

/-- The M-mode registers as the monitor leaves them: S-mode reads every counter (R231); no other value is given (log 10). -/
def MRegs.zero : MRegs :=
  { status := 0, ie := 0, tvec := 0, counteren := 0xFFFFFFFF, scratch := 0, epc := 0, cause := 0, tval := 0 }

/-- A hart with no value anywhere. -/
def Hart.zero : Hart :=
  { pc := 0, x := .replicate 32 0, f := .replicate 32 0, v := .replicate 32 0, fcsr := 0, vtype := 0, vl := 0, vstart := 0,
    vcsr := 0, mode := 1, sstatus := sstatusOf 0, sie := 0, stvec := 0, scounteren := 0, senvcfg := 0, sscratch := 0,
    sepc := 0, scause := 0, stval := 0, sip := 0, satp := 0, m := MRegs.zero, resv := none }

/-- The first `n` 64-bit values of some bytes. -/
def wordsOf : Nat → List Byte → List Word
  | 0, _ => []
  | n + 1, bs => BitVec.ofNat 64 (leNat (bs.take 8)) :: wordsOf n (bs.drop 8)

/-- 64-bit values at consecutive places of a block. -/
def wordsAt (bs : List Byte) (off n : Nat) : List Word := wordsOf n (bs.drop off)

/-- Does a hart-state block keep R427: zeros where it names nothing, no value for a register that the hart does not have? -/
def blockOk (bs : List Byte) : Bool :=
  (slice bs 544 480).all (· == 0) &&
    (wordsAt bs 2048 256).zipIdx.all fun w => sCsr (0x100 + w.2) || w.1 == 0

/-- The hart that starts an episode from a block: in S-mode, each S-mode register as a csrw would write it (R427). -/
def hartOf (bs : List Byte) : Hart :=
  let w := wordsAt bs 0 256
  let at8 (k : Nat) : Word := w.getD k 0
  let vt := vtypeOf (at8 65)
  let h : Hart :=
    { Hart.zero with
      pc := at8 0 &&& 0xFFFFFFFFFFFFFFFE
      x := Vector.ofFn fun i => if i.val = 0 then 0 else at8 i.val
      f := Vector.ofFn fun i => at8 (32 + i.val)
      v := Vector.ofFn fun i => BitVec.ofNat 256 (leAt bs (1024 + 32 * i.val) 32)
      fcsr := BitVec.ofNat 32 (fld (at8 64) 0 8)
      vtype := vt
      vl := BitVec.ofNat 64 (if bit vt 63 then 0 else min (at8 66).toNat (vlmaxOf vt))
      vstart := at8 67 &&& 0xFF }
  (List.range 256).foldl (fun h k => if sCsr (0x100 + k) then h.writeS (0x100 + k) (BitVec.ofNat 64 (leAt bs (2048 + 8 * k) 8))
                                     else h) h

/-- The block that SNAP writes (R427). -/
def blockOf (h : Hart) : List Byte :=
  let words (l : List Word) : List Byte := l.flatMap fun w => leBytes 8 w.toNat
  words (h.pc :: h.x.toList.drop 1) ++ words h.f.toList ++
    words [BitVec.ofNat 64 h.fcsr.toNat, h.vtype, h.vl, h.vstart] ++ List.replicate 480 0 ++
    (h.v.toList.flatMap fun v => leBytes 32 v.toNat) ++
    ((List.range 256).flatMap fun k => leBytes 8 (h.readS (0x100 + k)).toNat)

end Sys2Proof.Machine
end

