-- ==== Sys2Proof/Machine/Paddock.lean ====
section
/-! DEFINITION. The paddock but for the instructions of its harts (09): pens and their mailboxes (R227 to R241, R428), the
mailbox hardware (R233 to R236), truncation (R234), receives (R400), pen control (R229, R230, R401) and the switching of
pens onto harts (R226). -/

namespace Sys2Proof.Machine

/-! ### Slots (Table 09.5) -/

/-- A field of `n` bytes at byte `off` of a slot. -/
def slotFld (x : MbSlot) (off n : Nat) : Nat := bits x.toNat (8 * off) (8 * n)

/-- Replace a field of `n` bytes at byte `off`. -/
def slotSet (x : MbSlot) (off n v : Nat) : MbSlot := BitVec.ofNat 2048 (setBits x.toNat (8 * off) (8 * n) v)

/-- EPISODE, STEP, POLGEN, STATUS, REASON, LENGTH, XOFF, XLEN. -/
def slotEpisode (x : MbSlot) : Nat := slotFld x 0 8
def slotStep (x : MbSlot) : Nat := slotFld x 8 4
def slotPolgen (x : MbSlot) : Nat := slotFld x 12 4
def slotStatus (x : MbSlot) : Nat := slotFld x 16 1
def slotReason (x : MbSlot) : Nat := slotFld x 18 1
def slotLength (x : MbSlot) : Nat := slotFld x 20 2
def slotXoff (x : MbSlot) : Nat := slotFld x 24 4
def slotXlen (x : MbSlot) : Nat := slotFld x 28 4

/-- END, TRUNC and SWITCH, bits 0, 1 and 2 of byte 17. -/
def slotFlag (x : MbSlot) (i : Nat) : Bool := (slotFld x 17 1).testBit i

/-- Reserved bits of a slot. -/
def slotReserved (x : MbSlot) : Bool := slotFld x 17 1 / 8 != 0 || slotFld x 19 1 != 0 || slotFld x 22 2 != 0

/-- Bytes of the payload at or beyond LENGTH are delivered as 0 (R232). -/
def slotTrim (x : MbSlot) : MbSlot := BitVec.ofNat 2048 (x.toNat % 2 ^ (8 * (32 + slotLength x)))

/-! ### Pens -/

/-- The bound generation as observations carry it: 0 while the episode is not bound (R235). -/
def Pen.gen (p : Pen) : Nat := (p.bound.map BitVec.toNat).getD 0

/-- A pen that is not FREE. -/
def State.pen? (s : State) (n : Nat) : Option Pen := s.paddock.pens.lookup n

/-- Insert or replace a pen, in ascending order of number. -/
def insertPen (n : Nat) (p : Pen) : List (Nat × Pen) → List (Nat × Pen)
  | [] => [(n, p)]
  | x :: l => if n < x.1 then (n, p) :: x :: l else if x.1 = n then (n, p) :: l else x :: insertPen n p l

/-- The state with a pen replaced. -/
def State.putPen (s : State) (n : Nat) (p : Pen) : State :=
  { s with paddock := { s.paddock with pens := insertPen n p s.paddock.pens } }

/-- A pen becomes FREE; no hart serves it. -/
def State.dropPen (s : State) (n : Nat) : State :=
  { s with paddock := { s.paddock with
      pens := s.paddock.pens.filter fun x => x.1 != n
      harts := s.paddock.harts.map fun (h : HartRegs) => if h.serving == some n then { h with serving := none } else h } }

/-- Has the pen's episode ended, by truncation or by an END observation of its own (R428)? -/
def Pen.over (p : Pen) : Bool := p.st == .ended || p.endPosted

/-- Does the step budget count (R238): observation n has been posted and action n accepted? -/
def Pen.counts (p : Pen) : Bool := p.obsStep != 0 && decide (p.obsStep.toNat ≤ p.actStep.toNat) && !p.over

/-- The starting point of the step budget and of the wall backstop, where an accepted slot makes it (R238). -/
def Pen.restart (p : Pen) (post : Bool) (tick : Word) : Pen :=
  let q : Pen := { p with counting := p.counts, stepCnt := if post then 0 else p.stepCnt }
  if q.counting && (post || !p.counting) then { q with stepAt := tick, stepCnt := 0 } else q

/-- TICK of the die of a pen's harts. -/
def State.penTick (s : State) (p : Pen) : Word := (s.dieAt p.desc.die).tick

/-- POLGEN of a pen's owner (R235). -/
def State.penPolgen (s : State) (p : Pen) : Nat := ((s.task? p.owner).map fun t => t.polgen.toNat).getD 0

/-! ### Receives (R400) -/

/-- The W result of a receive: the slot, and in the side lane the slots held after it and the pen's state. -/
def Pen.result (p : Pen) (x : MbSlot) : Row :=
  ⟨x, BitVec.ofNat 256 (p.obs.length + 256 * p.acts.length +
    65536 * (match p.st with | .free => 0 | .running => 1 | .ended => 2))⟩

/-- What an mbrecv finds: nothing while it waits, else the pen after it, the status and the result. -/
def recvPen (lid : BitVec 32) (p : Option Pen) : Option (Option Pen × Nat × Value) :=
  match p with
  | none => some (none, stAbsent, .w Row.zero)
  | some p =>
    if p.owner != lid then some (some p, stKey, .w Row.zero)
    else
      match p.obs with
      | x :: l =>
        let q : Pen := { p with obs := l }
        some (some q, stOk, .w (q.result x))
      | [] => if p.st == .ended then some (some p, stRefused, .w Row.zero) else none

/-- What an mbpeek finds: the status and the result. -/
def peekPen (lid : BitVec 32) (p : Option Pen) : Nat × Value :=
  match p with
  | none => (stAbsent, .w Row.zero)
  | some p => if p.owner != lid then (stKey, .w Row.zero) else (stOk, .w (p.result (p.obs.headD 0)))

/-- The oldest receive that waits for a pen is served, if it need not wait. -/
def State.feedOne (s : State) (n : Nat) : State :=
  match s.paddock.waits.find? fun w => w.pen == n with
  | none => s
  | some w =>
    match recvPen w.lid (s.pen? n) with
    | none => s
    | some (p, st, v) =>
      let s1 : State := { s with paddock := { s.paddock with waits := s.paddock.waits.erase w } }
      let s2 := match p with | some q => s1.putPen n q | none => s1
      s2.fxEnd w.lid w.die w.ctx w.seq (.mbrecv n) w.st (BitVec.ofNat 64 n) st 0 0 v

/-- The receives that wait for a pen are served in the order in which they reached it (R400). -/
def State.feedRecv (s : State) (n : Nat) : State :=
  s.paddock.waits.foldl (fun s _ => s.feedOne n) s

/-! ### The mailbox hardware (R233) -/

/-- Checks 2 to 4 of Table 09.6. -/
def Pen.checks (p : Pen) (x : MbSlot) (more : Bool) : Option Nat :=
  if p.over then some stRefused
  else if slotEpisode x != p.episode.toNat || slotReserved x || more then some stRefused
  else if 224 < slotLength x || p.desc.xsize < slotXoff x + slotXlen x then some stRange
  else none

/-- The stamp of an action's POLGEN field (R235); none when it lies above the current one. -/
def actionStamp (cur : Nat) (x : MbSlot) : Option Nat :=
  if slotPolgen x = 0xFFFFFFFF then some cur else if slotPolgen x ≤ cur then some (slotPolgen x) else none

/-- A synthetic observation (R234 step 2). -/
def Pen.synthetic (p : Pen) (reason : Nat) : MbSlot :=
  let x := slotSet (slotSet 0 0 8 p.episode.toNat) 8 4 p.obsStep.toNat
  let x := slotSet (slotSet x 12 4 p.gen) 16 1 (if reason = 7 then stGen else stStray)
  slotSet (slotSet x 17 1 3) 18 1 reason

/-- TRUNCATION of a pen's episode (R234): the slots left are discarded, the synthetic observation is posted, the pen is ENDED.
An episode that is over is not truncated (R428). -/
def Pen.truncate (p : Pen) (reason : Nat) : Pen :=
  if p.over then p
  else
    { p with st := .ended, discard := p.discard + BitVec.ofNat 32 p.acts.length, acts := [], obs := p.obs ++ [p.synthetic reason],
             obsStep := p.obsStep + 1, nObs := p.nObs + 1, endState := 2, endReason := BitVec.ofNat 8 reason,
             waiting := false, counting := false }

/-- A pen's episode is truncated and its waiting receives are served. -/
def State.truncatePen (s : State) (n reason : Nat) : State :=
  match s.pen? n with
  | some p => (s.putPen n (p.truncate reason)).feedRecv n
  | none => s

/-- A pen with an action accepted under its stamp: delivered at the tail of the mailbox (R233, R236). -/
def Pen.accept (p : Pen) (x : MbSlot) (stamp : Nat) (tick : Word) : Pen :=
  let g : BitVec 32 := BitVec.ofNat 32 stamp
  let sw := match p.bound with | some b => b != g | none => false
  let x := slotSet (slotSet (slotTrim x) 12 4 stamp) 17 1 (if sw then 4 else 0)
  let q : Pen :=
    { p with acts := p.acts ++ [x], actStep := p.actStep + 1, nAct := p.nAct + 1, bound := some g
             firstGen := if p.bound.isNone then g else p.firstGen
             nsw := if sw && p.nsw != 255 then p.nsw + 1 else p.nsw
             switches := if sw && decide (p.switches.length < 3) then p.switches ++ [(p.actStep, g)] else p.switches }
  q.restart false tick

/-- An action slot is offered to a pen (Table 09.6): the state, the status, and INFO. -/
def State.offerAction (s : State) (lid : BitVec 32) (n : Nat) (x : MbSlot) : State × Nat × Nat :=
  match s.pen? n with
  | none => (s, stAbsent, 0)
  | some p =>
    let stamp := actionStamp (s.penPolgen p) x
    let bad := slotFlag x 0 || slotFlag x 1 || slotReason x != 0 || slotStatus x != 0 || stamp.isNone
    if p.owner != lid then (s, stKey, 0)
    else
      match p.checks x bad with
      | some r => (s, r, 0)
      | none =>
        if slotStep x != p.actStep.toNat then (s, stRefused, 0)
        else if 16 ≤ p.acts.length then (s, stFull, 0)
        else
          let g := stamp.getD 0
          let same := match p.bound with | some b => b.toNat == g | none => true
          if same || p.desc.mode == 1 then (s.putPen n (p.accept x g (s.penTick p)), stOk, g)
          else if p.desc.mode == 2 then (s.truncatePen n 7, stGen, 0)
          else (s, stGen, 0)

/-- A pen offers OBSSTAGE as an observation and clears it (R239, Table 09.6, R428). -/
def Pen.post (p : Pen) (tick : Word) : Pen :=
  let x := p.stage
  let p : Pen := { p with stage := 0 }
  let answer : Option Nat :=
    match p.checks x false with
    | some r => some r
    | none => if slotStep x != p.obsStep.toNat then some stRefused else if 15 ≤ p.obs.length then some stFull else none
  match answer with
  | some r => { p with obsRes := BitVec.ofNat 8 r }
  | none =>
    let y := slotSet (slotSet (slotTrim x) 12 4 p.gen) 16 1 0
    let q : Pen := { p with obsRes := 0, obs := p.obs ++ [y], obsStep := p.obsStep + 1, nObs := p.nObs + 1,
                            endPosted := slotFlag x 0, endState := if slotFlag x 0 then 1 else p.endState }
    q.restart true tick

/-! ### Pen control (R229, R230, R401) -/

/-- Read a pen descriptor (Table 09.4). DIE 3 is the die of the issuing context. -/
def descOf (own : DieId) (b : List Byte) : PenDesc :=
  let y := leAt b 52 1
  { image := leAt b 0 8, pbase := leAt b 8 8, psize := leAt b 16 8, xbase := leAt b 24 8, xsize := leAt b 32 4,
    stepBud := leAt b 36 4, epBud := leAt b 40 8, wallBud := leAt b 48 4, mode := BitVec.ofNat 2 y, detclk := y.testBit 2,
    die := match bits y 3 2 with | 0 => 0 | 1 => 1 | 2 => 2 | _ => own }

/-- Do the fields of a descriptor keep their limits (Table 09.4)? -/
def descLegal (b : List Byte) (d : PenDesc) : Bool :=
  decide (d.image < 2 ^ 48 ∧ d.image % 4096 = 0 ∧ d.pbase < 2 ^ 48 ∧ d.pbase % 65536 = 0 ∧ d.xbase < 2 ^ 48 ∧
    d.xbase % 65536 = 0 ∧ 65536 ≤ d.psize ∧ d.psize ≤ 2 ^ 32 ∧ d.psize % 65536 = 0 ∧ d.xsize ≤ 2 ^ 28 ∧ d.xsize % 4096 = 0) &&
    d.mode != 3 && decide (leAt b 52 12 < 32)

/-- The three ranges of a descriptor: image, pen memory, exchange window. -/
def PenDesc.ranges (d : PenDesc) : List (Nat × Nat) :=
  [(d.image, imageHead + d.psize), (d.pbase, d.psize), (d.xbase, d.xsize)]

/-- May two pens of one address space stand side by side: do their ranges overlap in their images only (R230)? -/
def rangesApart (a b : PenDesc) : Bool :=
  a.ranges.zipIdx.all fun x => b.ranges.zipIdx.all fun y =>
    (x.2 == 0 && y.2 == 0) || !overlaps x.1.1 x.1.2 y.1.1 y.1.2

/-- Is a range of device memory accessible to a task (R230)? -/
def State.rangeOk (s : State) (t : Task) (acc : Acc) (a n : Nat) : Bool :=
  decide (a + n ≤ 2 ^ 48) && (s.rangeFault t.asid t.kslot acc a n).isNone

/-- The address space of a pen's owner. -/
def State.penAsid (s : State) (p : Pen) : Option (BitVec 8) := (s.task? p.owner).map (·.asid)

/-- The checks of R230 on a descriptor and the image that it names. -/
def State.descOk (s : State) (t : Task) (n : Option Nat) (d : PenDesc) : Bool :=
  s.rangeOk t .rd d.image (imageHead + d.psize) && s.rangeOk t .rw d.pbase d.psize &&
    (d.xsize == 0 || s.rangeOk t .rw d.xbase d.xsize) &&
    (s.paddock.pens.all fun x => some x.1 == n || s.penAsid x.2 != some t.asid || rangesApart d x.2.desc) &&
    (let h := s.readVirt t.asid d.image 64
     leAt h 0 4 == 0x00494E50 && leAt h 4 4 == 0 && leAt h 8 8 == d.psize && (slice h 16 48).all (· == 0)) &&
    blockOk (s.readVirt t.asid (d.image + 64) 4096)

/-- A pen at the start of an episode (R228, R241). -/
def State.startPen (s : State) (t : Task) (lid : BitVec 32) (d : PenDesc) (episode : Word) : Pen :=
  { st := .running, owner := lid, desc := d, episode := episode, actStep := 0, obsStep := 0, acts := [], obs := [], stage := 0,
    obsRes := 0, bound := none, endPosted := false, endState := 0, endReason := 0, nAct := 0, nObs := 0, firstGen := 0, nsw := 0,
    switches := [], discard := 0, instret := 0, stepCnt := 0, counting := false,
    hart := hartOf (s.readVirt t.asid (d.image + 64) 4096), copied := [], waiting := false, stepAt := (s.dieAt d.die).tick }

/-- The lowest-numbered FREE pen (R401). -/
def Paddock.freePen (p : Paddock) : Option Nat := (List.range 1024).find? fun n => (p.pens.lookup n).isNone

/-- The device-memory address that a trigger value names. -/
def devAddr (a : Word) : Option Nat :=
  match spaceOf a with
  | .device va => some va
  | _ => none

/-- CREATE (R230): the state, the status, and the pen's number. -/
def State.penCreate (s : State) (t : Task) (own : DieId) (a : Word) : State × Nat × Nat :=
  match devAddr a with
  | none => (s, stRange, 0)
  | some va =>
    if !s.rangeOk t .rd va 64 then (s, stRange, 0)
    else
      let b := s.readVirt t.asid va 64
      let d := descOf own b
      if !descLegal b d || !s.descOk t none d then (s, stRange, 0)
      else
        match s.paddock.freePen with
        | none => (s, stFull, 0)
        | some n => (s.putPen n (s.startPen t t.lid d 0), stOk, n)

/-- RESET (R229, R230): the mailboxes are emptied, the receives that wait go on waiting (Table 16.11). -/
def State.penReset (s : State) (t : Task) (n : Nat) (p : Pen) : State × Nat :=
  if !s.descOk t (some n) p.desc then (s, stRange)
  else (s.putPen n (s.startPen t p.owner p.desc (p.episode + 1)), stOk)

/-- HALT (R229, R428). -/
def State.penHalt (s : State) (n : Nat) (p : Pen) : State × Nat :=
  if p.st == .ended then (s, stRefused)
  else if p.endPosted then ((s.putPen n { p with st := .ended, waiting := false }).feedRecv n, stOk)
  else (s.truncatePen n 6, stOk)

/-- The bytes of pen memory from an offset: copied pages from pen memory, the others from the image (R228). -/
def State.penBytes (s : State) (asid : BitVec 8) (p : Pen) (off n : Nat) : List Byte :=
  if n = 0 then []
  else (List.range ((off + n - 1) / 4096 - off / 4096 + 1)).flatMap fun i =>
    let g := off / 4096 + i
    let lo := max off (g * 4096)
    let hi := min (off + n) ((g + 1) * 4096)
    s.readVirt asid (if p.copied.contains g then p.desc.pbase + lo else p.desc.image + imageHead + lo) (hi - lo)

/-- The head of a pen image (R228). -/
def imageStart (psize : Nat) : List Byte := leBytes 8 0x00494E50 ++ leBytes 8 psize ++ List.replicate 48 0

/-- SNAP (R229, R401): the frozen pen as a pen image. -/
def State.penSnap (s : State) (t : Task) (p : Pen) (a : Word) : State × Nat :=
  if p.st != .ended then (s, stRefused)
  else
    match devAddr a with
    | none => (s, stRange)
    | some va =>
      if !s.rangeOk t .wr va (imageHead + p.desc.psize) then (s, stRange)
      else (s.writeVirt t.asid va (imageStart p.desc.psize ++ blockOf p.hart ++ s.penBytes t.asid p 0 p.desc.psize), stOk)

/-- The episode record (Table 09.9). -/
def Pen.record (p : Pen) : List Byte :=
  leBytes 8 p.episode.toNat ++ leBytes 4 p.firstGen.toNat ++ leBytes 4 p.gen ++ leBytes 4 p.nAct.toNat ++
    leBytes 4 p.nObs.toNat ++ leBytes 8 p.instret ++
    [BitVec.ofNat 8 p.desc.mode.toNat, p.endState, p.endReason, p.nsw] ++ leBytes 4 p.discard.toNat ++
    slice (p.switches.flatMap fun x => leBytes 4 x.1.toNat ++ leBytes 4 x.2.toNat) 0 24

/-- READREC (R241, R401). -/
def State.penReadrec (s : State) (t : Task) (p : Pen) (a : Word) : State × Nat :=
  match devAddr a with
  | none => (s, stRange)
  | some va => if !s.rangeOk t .wr va 64 then (s, stRange) else (s.writeVirt t.asid va p.record, stOk)

/-- DESTROY (R229): the receives that wait find the pen FREE (R400). -/
def State.penDestroy (s : State) (n : Nat) : State × Nat := ((s.dropPen n).feedRecv n, stOk)

/-- The device-memory ranges that a pen's checks translate and, with true, read (R230). -/
def PenDesc.reads (d : PenDesc) : List (Nat × Nat × Bool) :=
  [(d.image, imageHead, true), (d.image + imageHead, d.psize, false), (d.pbase, d.psize, false), (d.xbase, d.xsize, false)]

/-- What an uncorrectable error withholds from such ranges. -/
def State.rangesBad (s : State) (t : Task) (l : List (Nat × Nat × Bool)) : Option Nat :=
  l.findSome? fun r => if r.2.2 then s.virtBad t.asid r.1 r.2.1 else s.tablesBad t.asid r.1 r.2.1

/-- What an uncorrectable error withholds from the reads of a pen-control operation: the machine check goes to the task whose access
read it (R15). -/
def State.penBad (s : State) (t : Task) (own : DieId) (op : PenOp) (n : Nat) (a : Word) : Option Nat :=
  let mine : Option Pen := (s.pen? n).bind fun p => if p.owner == t.lid then some p else none
  match op, devAddr a with
  | .create, some va =>
    s.virtBad t.asid va 64 <|>
      (if s.rangeOk t .rd va 64 && descLegal (s.readVirt t.asid va 64) (descOf own (s.readVirt t.asid va 64)) then
        s.rangesBad t (descOf own (s.readVirt t.asid va 64)).reads else none)
  | .reset, _ => mine.bind fun p => s.rangesBad t p.desc.reads
  | .snap, some va =>
    mine.bind fun p =>
      if p.st != .ended then none
      else s.rangesBad t ((va, imageHead + p.desc.psize, false) :: (List.range (p.desc.psize / 4096)).map fun g =>
        ((if p.copied.contains g then p.desc.pbase else p.desc.image + imageHead) + 4096 * g, 4096, true))
  | .readrec, some va => mine.bind fun _ => s.tablesBad t.asid va 64
  | _, _ => none

/-- A pen-control operation of a task from die `own` is performed: the state, the status, INFO (R229, R401). -/
def State.penControl (s : State) (t : Task) (own : DieId) (op : PenOp) (n : Nat) (a : Word) : State × Nat × Nat :=
  if op == .create then s.penCreate t own a
  else
    match s.pen? n with
    | none => (s, stAbsent, 0)
    | some p =>
      if p.owner != t.lid then (s, stKey, 0)
      else
        let r := match op with
          | .reset => s.penReset t n p
          | .halt => s.penHalt n p
          | .snap => s.penSnap t p a
          | .readrec => s.penReadrec t p a
          | _ => s.penDestroy n
        (r.1, r.2, 0)

/-! ### Harts -/

/-- Does hart `h` serve pens: every hart but hart 31 of die 1, which runs the Heft translator (R222)? -/
def servesPens (h : Nat) : Bool := h != 63

/-- The hart on which a pen runs. -/
def Paddock.hartOf (p : Paddock) (n : Nat) : Option Nat := p.harts.toList.findIdx? fun h => h.serving == some n

/-- PEN_HART_SWITCH (R226, R227): the monitor moves a hart of the pen's die to a pen that runs nowhere, and sets the bounds
registers. The pen's own state travels with it, its reservation too (R223). -/
def State.hartSwitch (s : State) (h n : Nat) : Option State :=
  match s.pen? n, s.paddock.harts[h]? with
  | some p, some _ =>
    match s.task? p.owner with
    | none => none
    | some t =>
      if !s.pkg.padUp || !servesPens h || h / 32 != p.desc.die.val || p.st != .running || (s.paddock.hartOf n).isSome then none
      else
        let r : HartRegs :=
          { pen := BitVec.ofNat 10 n, asid := t.asid, pmbase := BitVec.ofNat 48 p.desc.pbase
            pmsize := BitVec.ofNat 33 p.desc.psize, pxbase := BitVec.ofNat 48 p.desc.xbase
            pxsize := BitVec.ofNat 29 p.desc.xsize, serving := some n, task := p.owner }
        some { s with paddock := { s.paddock with harts := s.paddock.harts.setIfInBounds h r } }
  | _, _ => none

/-- Has the wall backstop expired (R238): at least WALLBUD µs of wall time have passed since the starting point. -/
def State.wallDue (s : State) (p : Pen) : Bool :=
  p.st == .running && !p.endPosted && p.counting && p.desc.wallBud != 0 &&
    decide (2000 * p.desc.wallBud ≤ (s.penTick p - p.stepAt).toNat)

/-- The truncation of a pen's episode with REASON 5, and the event to the owner that goes with it (R234, Table 11.10). -/
def State.hardwareError (s : State) (p : Pen) (t : Task) (n : Nat) : State :=
  (s.truncatePen n 5).taskEvent t 0x23 p.desc.die (leBytes 4 p.owner.toNat ++ leBytes 4 n ++ leBytes 8 p.episode.toNat)

/-- PADDOCK_HARDWARE_ERROR (R234): an uncorrectable error in a hart or paddock cache that serves a pen. -/
def State.paddockError (s : State) (n : Nat) : Option State :=
  match s.pen? n with
  | some p =>
    match s.task? p.owner with
    | some t =>
      if p.over || (s.paddock.hartOf n).isNone then none
      else some (s.hardwareError p t n)
    | none => none
  | none => none

/-- PADDOCK_HARDWARE_ERROR (R234). -/
def execPaddockHardwareError (n : Nat) (s : State) : Host.Outcome State Fault Refusal :=
  enabled "PADDOCK_HARDWARE_ERROR" (s.paddockError n)

/-- PEN_HART_SWITCH (R226). -/
def execPenHartSwitch (h n : Nat) (s : State) : Host.Outcome State Fault Refusal := enabled "PEN_HART_SWITCH" (s.hartSwitch h n)

end Sys2Proof.Machine
end

