-- ==== Sys2Proof/Machine/Queues.lean ====
section
/-! DEFINITION. The load and store queues (08 R200 to R208, R213 to R220): which entry may be performed, deferred faults (R273),
accesses sector by sector (R202), store forwarding (R204), the copy-channel registers (R192), queued special registers (R333)
and the entries that reach the fabric and the paddock. -/

namespace Sys2Proof.Machine

/-! ### Paths (R203) -/

/-- The path of an access: a scratchpad, a die's HBM, another member, the copy channels, the paddock; none for an address that
does not translate. -/
inductive Path where
  | sp (d : DieId)
  | hbm (d : Nat)
  | remote (m : BitVec 7)
  | channels
  | pad
  | unknown
  deriving DecidableEq, Repr

/-- The address of the byte at an offset of an entry. -/
def Entry.at' (e : Entry) (off : Nat) : Word := e.addr + BitVec.ofNat 64 off

/-- The path of a local byte. -/
def State.bytePath (s : State) (t : Task) (d : DieId) (a : Word) : Path :=
  match spaceOf a with
  | .scratch x => .sp (spDie d x)
  | .device va =>
    if apertureBase ≤ va then .channels
    else
      match s.page t d va with
      | .ok e => .hbm (hbmDie (e.phys va))
      | .error _ => .unknown
  | .bad => .unknown

/-- The path of the byte at an offset of an entry. -/
def State.entryPath (s : State) (t : Task) (d : DieId) (e : Entry) (off : Nat) : Path :=
  match e.op with
  | .srd r | .swr r _ => .sp (if r = 0x0030 then 1 else d)
  | .publish _ => .unknown
  | .remote op _ => if op.paddock then .pad else .remote (fabMember e.addr)
  | _ => s.bytePath t d (e.at' off)

/-- Does an entry stand in the load queue, in the store queue (R203, R206)? A reduction stands in the load queue until its requests
have left, and writes its destination from the store queue (R392). -/
def Entry.inQueue (e : Entry) (store : Bool) : Bool :=
  match e.op with
  | .remote (.mlr ..) _ => store == e.sent
  | _ => e.side == .both || (e.side == .store) == store

/-- The offsets of the bytes that a reduction has still to write. -/
def Entry.mlrLeft (e : Entry) (op : MlrOp) (n : Nat) : List Nat := if e.got.isEmpty then List.range (mlrOut op n) else e.left

/-- The paths on which an entry still has work in a queue. An arrival has none (R394), nor a remote form whose request has left, for
its member keeps its place (R215); the stores of a reduction go to its destination (R392, log 31). -/
def State.queuePaths (s : State) (t : Task) (d : DieId) (e : Entry) (store : Bool) : List Path :=
  match e.op with
  | .remote (.sstep _) _ => []
  | .remote (.mlr op dst n) _ =>
    if store then ((e.mlrLeft op n).map fun o => s.bytePath t d (dst + BitVec.ofNat 64 o)).eraseDups
    else if e.sent then [] else (s.links.groupMembers (fabGroup e.addr)).map .remote
  | .remote .. => if e.sent || !e.inQueue store then [] else [s.entryPath t d e 0]
  | _ => if e.inQueue store then (e.left.map (s.entryPath t d e)).eraseDups else []

/-- The paths, by queue, on which the byte at an offset of an entry is performed: of a reduction all its requests, then a byte of its
destination. -/
def State.bytePaths (s : State) (t : Task) (d : DieId) (e : Entry) (off : Nat) : List (Bool × Path) :=
  match e.op with
  | .remote (.sstep _) _ => []
  | .remote (.mlr _ dst _) _ =>
    if e.sent then [(true, s.bytePath t d (dst + BitVec.ofNat 64 off))] else (s.queuePaths t d e false).map fun p => (false, p)
  | _ => ([false, true].filter e.inQueue).map fun q => (q, s.entryPath t d e off)

/-- Do two paths coincide, as far as is known? An address that does not translate may lie on any HBM path. -/
def samePath : Path → Path → Bool
  | .unknown, .unknown => true
  | .unknown, .hbm _ => true
  | .hbm _, .unknown => true
  | p, q => p == q

/-- Does an earlier entry of the same queue hold an entry's byte: one on the same path (R203), or one that took a deferred fault and is
not performed again yet (R273)? -/
def State.pathHolds (s : State) (t : Task) (d : DieId) (x : Ctx) (e : Entry) (off : Nat) : Bool :=
  let ps := s.bytePaths t d e off
  x.entries.any fun f =>
    decide (f.seq < e.seq) && ps.any fun p =>
      ((f.held || f.replay) && f.inQueue p.1) || (s.queuePaths t d f p.1).any (samePath p.2)

/-- Does a load wait for a reduction before it that has still to write one of its bytes (R204, R392)? -/
def Ctx.mlrHolds (x : Ctx) (e : Entry) : Bool :=
  match e.op with
  | .ld .. | .ldrow | .amo .. =>
    x.entries.any fun f => decide (f.seq < e.seq) &&
      (match f.op with
       | .remote (.mlr op dst n) _ => e.left.any fun o => overlaps dst.toNat (mlrOut op n) (e.at' o).toNat 1
       | _ => false)
  | _ => false

/-- Does the byte at an offset of an entry lie in the scratchpad or the copy engine of a frozen die: the one performs no access, and
the other holds its state (R180, R18)? -/
def State.spRests (s : State) (t : Task) (d : DieId) (e : Entry) (off : Nat) : Bool :=
  match e.op with
  | .srd _ | .swr .. => false
  | _ => (s.bytePaths t d e off).any fun p =>
    match p.2 with
    | .sp x => (s.dieAt x).frozen
    | .channels =>
      (match spaceOf (e.at' off) with
       | .device va => ((apertureOf d va).map fun x => (s.dieAt x.1).frozen).getD false
       | _ => false)
    | _ => false

/-! ### Marks, fences, acquires and releases -/

/-- A qmark holds an entry while one issued before it remains (R205), but an ordered atomic that is accepted (R423). -/
def Ctx.markHolds (x : Ctx) (e : Entry) : Bool :=
  x.marks.any fun m => decide (m ≤ e.seq) && x.entries.any fun f => decide (f.seq < m) && !f.waitsClose

/-- Is the entry a memory access that fences order, as a load, as a store? -/
def Entry.access (e : Entry) : Bool :=
  match e.op with
  | .ld .. | .ldrow | .st .. | .strow .. | .amo .. => true
  | .remote op _ =>
    (match op with
     | .ld _ | .ldrow | .st .. | .strow _ | .amo .. | .amoOrd .. | .rdel .. | .rdelg .. | .mlr .. | .flag _ => true
     | _ => false)
  | _ => false

/-- Bytes that a remote form accesses at the address it names (R386 to R393). -/
def RemOp.bytes : RemOp → Nat
  | .ld wide | .st wide _ => if wide then 8 else 4
  | .ldrow | .strow _ => 256
  | .amo .. | .amoOrd .. | .flag _ => 8
  | .rdel _ n | .rdelg _ n | .mlr _ _ n => n
  | _ => 0

/-- The accesses of an entry as fences see them: whether it is a write, and its address as issued; an atomic is a read and a write,
and a reduction writes its local destination by ordinary stores (R392). -/
def Entry.faces (e : Entry) : List (Bool × Word) :=
  match e.op with
  | .remote (.mlr _ dst _) _ => [(false, e.addr), (true, dst)]
  | _ =>
    if e.access then
      match e.side with
      | .load => [(false, e.addr)]
      | .store => [(true, e.addr)]
      | .both => [(false, e.addr), (true, e.addr)]
    else []

/-- Is an access of the kinds and in the range that a fence orders (R207, R208)? -/
def Fence.orders (f : Fence) (x : Bool × Word) : Bool :=
  (if x.1 then f.stores else f.loads) && decide (f.base.toNat ≤ x.2.toNat ∧ x.2.toNat < f.base.toNat + f.len.toNat)

/-- The physical runs of some bytes from a local address. -/
def State.localRuns (s : State) (t : Task) (d : DieId) (a : Word) (l : List Nat) : List Run :=
  l.filterMap fun o =>
    match spaceOf (a + BitVec.ofNat 64 o) with
    | .scratch x => some ((spDie d x).val, spOff x, 1)
    | .device va =>
      match s.page t d va with
      | .ok e => some (3, e.phys va, 1)
      | .error _ => none
    | .bad => none

/-- The physical runs of one access of an entry that are still to be performed. -/
def State.faceRuns (s : State) (t : Task) (d : DieId) (e : Entry) (x : Bool × Word) : List Run :=
  match e.op with
  | .remote (.mlr op dst n) _ =>
    if x.1 then s.localRuns t d dst (List.range (mlrOut op n))
    else (s.links.groupMembers (fabGroup e.addr)).flatMap fun m => s.fabricRuns m e.addr n
  | .remote op _ => s.fabricRuns (fabMember x.2) x.2 op.bytes
  | _ => s.localRuns t d x.2 e.left

/-- Does the target of one access of an entry lie in the scope of a fence (Table 08.4)? An address that does not translate may lie
anywhere. -/
def State.scopeHas (s : State) (t : Task) (d : DieId) (f : Fence) (e : Entry) (x : Bool × Word) : Bool :=
  let rs := s.faceRuns t d e x
  match f.scope.toNat with
  | 1 => rs.isEmpty || rs.any fun r => r.1 == d.val || (r.1 == 3 && hbmDie r.2.1 == d.val)
  | 2 => rs.isEmpty || rs.any fun r => decide (r.1 < 4)
  | _ => true

/-- Does a fence hold an entry for an earlier one (R207)? Of scope CTX only where the two touch the same bytes. -/
def State.fencePair (s : State) (t : Task) (d : DieId) (f : Fence) (g e : Entry) : Bool :=
  g.faces.any fun x =>
    f.orders x && s.scopeHas t d f g x &&
      (f.scope != 0 ||
        (let rs := s.faceRuns t d g x
         e.faces.any fun y => (s.faceRuns t d e y).any fun b => rs.any fun a => a.meets b))

/-- Does a fence hold an entry (R207)? An ordered atomic that is accepted is not waited for (R423). -/
def State.fenceHolds (s : State) (t : Task) (d : DieId) (x : Ctx) (e : Entry) : Bool :=
  x.fences.any fun f =>
    decide (f.seq ≤ e.seq) && x.entries.any fun g => decide (g.seq < f.seq) && !g.waitsClose && s.fencePair t d f g e

/-- Does a token of tok.id hold an entry (R213)? -/
def Ctx.tokenHolds (x : Ctx) (e : Entry) : Bool := x.holds.any fun h => decide (h.1 ≤ e.seq)

/-- Is the entry an acquire: a load of DONEID, a receive, a read of ARRCNT (R213, R400, Table 08.6)? -/
def Entry.acquire (e : Entry) : Bool :=
  match e.op with
  | .ld _ _ =>
    (match spaceOf e.addr with
     | .device va => decide (apertureBase ≤ va) && decide (0x10 ≤ va % 0x1000 ∧ va % 0x1000 < 0x18)
     | _ => false)
  | .srd r => decide (0x0400 ≤ r ∧ r < 0x1400) && r % 8 == 5
  | .remote (.mbrecv _) _ => true
  | .remote (.mbpeek _) _ => true
  | _ => false

/-- Does an earlier acquire hold an entry (R209)? -/
def Ctx.acquireHolds (x : Ctx) (e : Entry) : Bool := x.entries.any fun f => decide (f.seq < e.seq) && f.acquire

/-- Does the entry start a copy: a store or a swap at offset 0 of a channel (R192, R193)? -/
def Entry.startsCopy (e : Entry) : Bool :=
  match spaceOf e.addr with
  | .device va => decide (apertureBase ≤ va) && va % 0x1000 == 0
  | _ => false

/-- The member that an earlier remote write or delivery of the context reaches (R217). -/
def RemOp.writesTo (op : RemOp) (addr : Word) : List (BitVec 7) :=
  match op with
  | .st .. | .strow _ | .amo .. => [fabMember addr]
  | .rdel c _ => [fabMember c]
  | _ => []

/-- Is the remote form a store of its context, which a later remote load of the same bytes does not pass (R204, R217)? -/
def RemOp.plainStore : RemOp → Bool
  | .st .. | .strow _ | .flag _ => true
  | _ => false

/-- Does what an operation waits for remain: everything before a copy start, a publish, an mbsend, a pen operation (R213, R220,
R335, R401) and an arrival (R219), but ordered atomics that are accepted (R423); the writes and deliveries to the member before a flag (R217); the arrival
of its group before an ordered atomic (R218); stores to the same bytes before a remote load (R204)? -/
def State.releaseHolds (s : State) (x : Ctx) (e : Entry) : Bool :=
  let before := x.entries.filter fun f => decide (f.seq < e.seq)
  match e.op with
  | .publish _ => before.any fun f => !f.waitsClose
  | .st .. | .amo .. => e.startsCopy && before.any fun f => !f.waitsClose
  | .remote op _ =>
    (match op with
     | .mbsend .. | .pen .. | .sstep _ => before.any fun f => !f.waitsClose
     | .flag _ =>
       before.any fun f =>
         match f.op with
         | .remote p _ =>
           (p.writesTo f.addr).contains (fabMember e.addr) ||
             (match p with
              | .rdelg c _ => (s.links.groupMembers (fabGroup c)).contains (fabMember e.addr)
              | _ => false)
         | _ => false
     | .amoOrd _ _ _ _ g _ =>
       before.any fun f => !f.sent && (match f.op with | .remote (.sstep h) _ => h == g | _ => false)
     | .ld _ | .ldrow | .rdel .. | .rdelg .. =>
       before.any fun f => !f.sent &&
         (match f.op with
          | .remote g _ => g.plainStore && overlaps f.addr.toNat g.bytes e.addr.toNat op.bytes
          | _ => false)
     | _ => false)
  | _ => false

/-- Do queues run: of a context that the system holds only those that stand behind a deferred fault (R273, R277)? -/
def Ctx.queuesRun (x : Ctx) : Bool :=
  match x.status with
  | .held => x.entries.any fun e => e.held
  | _ => true

/-- May the byte at an offset of an entry be performed now? -/
def State.mayPerform (s : State) (t : Task) (d : DieId) (x : Ctx) (e : Entry) (off : Nat) : Bool :=
  x.queuesRun && !e.held && e.left.contains off && !s.pathHolds t d x e off && !x.markHolds e && !s.fenceHolds t d x e &&
    !x.mlrHolds e && !s.spRests t d e off && !x.tokenHolds e && !x.acquireHolds e && !s.releaseHolds x e

/-! ### An entry leaves -/

/-- Marks, fences and holds that order nothing any more go. -/
def Ctx.tidy (x : Ctx) : Ctx :=
  let before (n : Nat) : Bool := x.entries.any fun e => decide (e.seq < n)
  { x with marks := x.marks.filter before, fences := x.fences.filter fun f => before f.seq }

/-- An entry leaves its queues with a result on a port, or with none. -/
def Ctx.retireEntry (x : Ctx) (e : Entry) (p : Option (QPort × Value)) : Ctx :=
  let y : Ctx := match p with
    | some (q, v) => x.setResults q (fillPlace (x.results q) e.seq v none)
    | none => x
  { y with entries := y.entries.filter fun f => f.seq != e.seq }.tidy

/-- An entry of a context leaves. -/
def State.leave (s : State) (d : DieId) (c : CtxId) (e : Entry) (p : Option (QPort × Value)) : State :=
  s.onCtxAt d c fun x => x.retireEntry e p

/-- Replace an entry. -/
def State.setEntry (s : State) (d : DieId) (c : CtxId) (e : Entry) : State :=
  s.onCtxAt d c fun x => { x with entries := x.entries.map fun (f : Entry) => if f.seq = e.seq then e else f }

/-- The queue that a deferred fault names: 0 load, 1 store (Table 11.10). -/
def Entry.queueNo (e : Entry) : Nat := if e.side == .load then 0 else 1

/-- An access of an entry at an address, in a queue, takes a deferred fault (R273): the entry is held, and its context stops at its
next boundary. -/
def State.holdAccess (s : State) (d : DieId) (c : CtxId) (e : Entry) (addr : Word) (queue : Nat) (code : BitVec 8)
    (reason : BitVec 4) : State :=
  (s.setEntry d c { e with held := true }).defer d c ⟨code, reason, addr, e.count, queue, e.seq⟩

/-- An entry takes a deferred fault (R273). -/
def State.holdEntry (s : State) (d : DieId) (c : CtxId) (e : Entry) (code : BitVec 8) (reason : BitVec 4) : State :=
  s.holdAccess d c e e.addr e.queueNo code reason

/-! ### Local accesses -/

/-- What an access asks of a page. -/
def QOp.acc : QOp → Acc
  | .ld .. | .ldrow => .rd
  | .amo .. => .rw
  | _ => .wr

/-- May the queues of context `c` of die `d` touch a row unit of die `e` (R196 to R198)? An entry of an earlier phase keeps the
sets of that phase (R197). -/
def State.queueSet (s : State) (t : Task) (d : DieId) (c : CtxId) (e : DieId) (write : Bool) (ph : Phases) (u : Nat) : Bool :=
  s.setAllowed t e (if e = d then 4 + c.val else 3) write (ph.get e) u

/-- Deferred faults of the bytes at some offsets from an address, as (code, reason). -/
def State.byteFaults (s : State) (t : Task) (d : DieId) (c : CtxId) (acc : Acc) (ph : Phases) (a : Word) (l : List Nat) :
    List (Nat × Nat) :=
  l.flatMap fun off =>
    match spaceOf (a + BitVec.ofNat 64 off) with
    | .bad => [(0x20, 1)]
    | .device va =>
      if apertureBase ≤ va then [(0x21, 4)]
      else
        (match s.translateOn t d acc va with
         | .error (k, r) => [(k.toNat, r.toNat)]
         | .ok _ => [])
    | .scratch x => if s.queueSet t d c (spDie d x) (acc != .rd) ph (spUnit x) then [] else [(0x22, 0)]

/-- Offsets of an entry's unperformed bytes that lie in one 32-byte sector with a byte; a row form on a scratchpad is one access
(R202). -/
def Entry.piece (e : Entry) (off : Nat) : List Nat :=
  let whole := match e.op, spaceOf e.addr with
    | .ldrow, .scratch _ => true
    | .strow .., .scratch _ => true
    | _, _ => false
  if whole then e.left else e.left.filter fun o => (e.at' o).toNat / 32 == (e.at' off).toNat / 32

/-- The bytes that a store entry writes: offset and value; a masked row writes the bytes of its mask. -/
def Entry.stores (e : Entry) : List (Nat × Byte) :=
  match e.op with
  | .st k v => (leBytes (widBytes k) v.toNat).zipIdx.map fun p => (p.2, p.1)
  | .strow r m =>
    (rowBytes r).zipIdx.filterMap fun p =>
      match m with
      | some k => if byteSet k.data.toNat p.2 then some (p.2, p.1) else none
      | none => some (p.2, p.1)
  | _ => []

/-- The side-lane bytes that a row store writes. -/
def Entry.sideStores (e : Entry) : List (Nat × Byte) :=
  match e.op with
  | .strow r m =>
    (rowSide r).zipIdx.filterMap fun p =>
      match m with
      | some k => if byteSet k.side.toNat p.2 then some (p.2, p.1) else none
      | none => some (p.2, p.1)
  | _ => []

/-- The byte that an older store of the context, not yet performed, holds for an address, the youngest first (R204). -/
def Ctx.forward (x : Ctx) (seq : Nat) (a : Word) : Option Byte :=
  (x.entries.filter fun f => decide (f.seq < seq)).reverse.findSome? fun f =>
    f.stores.findSome? fun b => if f.left.contains b.1 && f.at' b.1 == a then some b.2 else none

/-- The side-lane byte that an older row store, not yet performed, holds for a scratchpad row (R204). -/
def Ctx.forwardSide (x : Ctx) (seq : Nat) (a : Word) (j : Nat) : Option Byte :=
  (x.entries.filter fun f => decide (f.seq < seq)).reverse.findSome? fun f =>
    if f.addr == a && !f.left.isEmpty then f.sideStores.lookup j else none

/-- Read a local byte from memory. -/
def State.readByte (s : State) (t : Task) (d : DieId) (a : Word) : Byte :=
  match spaceOf a with
  | .scratch x => (s.dieAt (spDie d x)).sp.read (spOff x)
  | .device va => (s.readDev t d va 1).headD 0
  | .bad => 0

/-- Errors that a read of some bytes meets (R15, R195): the state after corrections and checks, and whether the data is good. -/
def State.checkRead (s : State) (t : Task) (d : DieId) (a : Word) (l : List Nat) : State × Bool :=
  match spaceOf a with
  | .scratch x =>
    let us := (l.map fun o => spUnit (x + o)).eraseDups
    s.eccReads (spDie d x) us
  | .device va =>
    match l.findSome? fun o => s.badByte t d (va + o) 1 with
    | some pa => (s.checkTask t d 0x41 (BitVec.ofNat 64 pa), false)
    | none => (s, true)
  | .bad => (s, true)

/-- Do some bytes of device memory cover the whole 32-byte sector of a physical address, whose check bits are then written too (log 3)? -/
def State.wholeSector (s : State) (t : Task) (d : DieId) (va : Nat) (l : List (Nat × Byte)) (pa : Nat) : Bool :=
  (List.range 32).all fun i => l.any fun b =>
    match s.page t d (va + b.1) with
    | .ok e => e.phys (va + b.1) == pa / 32 * 32 + i
    | .error _ => false

/-- Write bytes at offsets from a local address. -/
def State.writeAt (s : State) (t : Task) (d : DieId) (a : Word) (l : List (Nat × Byte)) : State :=
  match spaceOf a with
  | .scratch x => s.onDieAt (spDie d x) fun y => y.writeBytes (l.map fun b => (spOff (x + b.1), b.2)) []
  | .device va =>
    let s1 := l.foldl (fun r b =>
      match s.page t d (va + b.1) with
      | .ok e => r.hbmPut (e.phys (va + b.1)) [b.2]
      | .error _ => r) s
    { s1 with hbmEcc := s1.hbmEcc.filter fun a => !s.wholeSector t d va l a }
  | .bad => s

/-- The value of a load from its bytes, by offset; offsets 256 and up are the side lane. -/
def loadValue (op : QOp) (got : List (Nat × Byte)) : Value :=
  let at8 (o : Nat) : Byte := (got.lookup o).getD 0
  match op with
  | .ld k sg =>
    let n := widBytes k
    let v := BitVec.ofNat 64 (leNat ((List.range n).map at8))
    .s (if sg then sext64 (8 * n) v else v)
  | _ => .w (mkRow ((List.range 256).map at8) ((List.range 32).map fun j => at8 (256 + j)))

/-- Perform a piece of a load (R200, R204). -/
def State.performLoad (s : State) (t : Task) (d : DieId) (c : CtxId) (e : Entry) (piece : List Nat) : State :=
  let x := (s.dieAt d).ctxAt c
  match s.checkRead t d e.addr piece with
  | (s1, false) => s1.setEntry d c { e with held := true }
  | (s1, true) =>
    let new := piece.map fun o => (o, (x.forward e.seq (e.at' o)).getD (s1.readByte t d (e.at' o)))
    let side : List (Nat × Byte) :=
      match e.op, spaceOf e.addr with
      | .ldrow, .scratch a =>
        (List.range 32).map fun j =>
          (256 + j, (x.forwardSide e.seq e.addr j).getD ((s1.dieAt (spDie d a)).spSide.read (32 * spUnit a + j)))
      | _, _ => []
    let e1 : Entry := { e with left := e.left.filter fun o => !piece.contains o, got := e.got ++ new ++ side }
    if e1.left.isEmpty then s1.leave d c e1 (some (.lsq, loadValue e1.op e1.got)) else s1.setEntry d c e1

/-- Perform a piece of a store (R200). A whole row written takes new check bits with it (R195). -/
def State.performStore (s : State) (t : Task) (d : DieId) (c : CtxId) (e : Entry) (piece : List Nat) : State :=
  let s1 := match e.op, spaceOf e.addr with
    | .strow r none, .scratch x => s.onDieAt (spDie d x) fun y => y.writeRow (spUnit x) r
    | _, .scratch x =>
      s.onDieAt (spDie d x) fun y =>
        y.writeBytes ((e.stores.filter fun (b : Nat × Byte) => piece.contains b.1).map fun (b : Nat × Byte) => (spOff (x + b.1), b.2))
          (e.sideStores.map fun (b : Nat × Byte) => (32 * spUnit x + b.1, b.2))
    | _, _ => s.writeAt t d e.addr (e.stores.filter fun b => piece.contains b.1)
  let e1 : Entry := { e with left := e.left.filter fun o => !piece.contains o }
  if e1.left.isEmpty then s1.leave d c e1 none else s1.setEntry d c e1

/-- The result word of an atomic: sign-extended from 32 bits for a .w form (R325). -/
def amoResult (wide : Bool) (old : Nat) : Value := .s (if wide then BitVec.ofNat 64 old else sext64 32 (BitVec.ofNat 64 old))

/-- Perform an atomic: the read and the write are one step (R206, R325). -/
def State.performAmo (s : State) (t : Task) (d : DieId) (c : CtxId) (e : Entry) (op : AmoOp) (wide : Bool) (v exp : Word) :
    State :=
  let n := if wide then 8 else 4
  match s.checkRead t d e.addr (List.range n) with
  | (s1, false) => s1.setEntry d c { e with held := true }
  | (s1, true) =>
    let old := leNat ((List.range n).map fun o => s1.readByte t d (e.at' o))
    let s2 := match amoNew (8 * n) op old v.toNat exp.toNat with
      | none => s1
      | some new => s1.writeAt t d e.addr ((leBytes n new).zipIdx.map fun (b : Byte × Nat) => (b.2, b.1))
    s2.leave d c e (some (.syq, amoResult wide old))

/-! ### Copy-channel registers (R192, Table 07.10) -/

/-- The copy that a store to a channel starts. -/
def copyOf (e : Entry) (d : DieId) (c : CtxId) (lid : BitVec 32) (template : Nat) (param : Int) : Copy :=
  { id := 0, template := template, param := param, lid := lid, ctx := c, die := d, addr := e.addr, count := e.count,
    seq := e.seq, left := none, phase := e.phase }

/-- Does an access lie inside one register of a channel? -/
def oneReg (off n : Nat) : Bool := decide (off < 0x20) && off / 8 == (off + n - 1) / 8

/-- What an access of the aperture does when it is one that R192 allows: the state, and for a load or an atomic its result. -/
def State.channelAccess (s : State) (d : DieId) (c : CtxId) (e : Entry) (dd : DieId) (ch : Fin 16) (off : Nat) :
    Option (State × Option (QPort × Value)) :=
  let lid := ((s.dieAt d).ctxAt c).lid
  let start (tpl : Nat) (param : Int) : State := s.startCopy dd ch (copyOf e d c lid tpl param)
  let id := (s.chan dd ch).nextId.toNat
  match e.op with
  | .ld k sg =>
    let n := widBytes k
    if oneReg off n then
      some (s, some (.lsq, loadValue (.ld k sg) ((slice (s.chan dd ch).regs off n).zipIdx.map fun b => (b.2, b.1))))
    else none
  | .st .w v =>
    if off = 0 then some (start (fld v 0 32) 0, none)
    else if off = 0x1C then some (if bit v 0 then s.clearErr dd ch else s, none)
    else none
  | .st .d v =>
    if off = 0 then some (start (fld v 0 32) (signedOf 32 (fld v 32 32)), none)
    else if off = 0x18 then some (if bit v 32 then s.clearErr dd ch else s, none)
    else none
  | .st k v =>
    if oneReg off (widBytes k) && off == 0x1C then some (if bit v 0 then s.clearErr dd ch else s, none) else none
  | .amo .swap wide v _ =>
    if off = 0 then
      some (start (fld v 0 32) (if wide then signedOf 32 (fld v 32 32) else 0), some (.syq, amoResult wide id))
    else none
  | _ => none

/-- The result of an access that is discarded: 0 for one that delivers a value. -/
def QOp.zeroResult : QOp → Option (QPort × Value)
  | .ld .. => some (.lsq, .s 0)
  | .ldrow => some (.lsq, .w Row.zero)
  | .amo .. => some (.syq, .s 0)
  | _ => none

/-- Perform an access of the copy-channel region; any but those of R192 does nothing or reads 0, and takes the deferred permission
fault APERTURE, which holds it and the later entries of its queue (R273). -/
def State.performChannel (s : State) (t : Task) (d : DieId) (c : CtxId) (e : Entry) : State :=
  let hit := match spaceOf e.addr with
    | .device va => (apertureOf d va).bind fun p => if t.usesChan p.1 p.2.1 then s.channelAccess d c e p.1 p.2.1 p.2.2 else none
    | _ => none
  match hit with
  | some (s1, r) => s1.leave d c e r
  | none =>
    let s1 := match e.op.zeroResult with
      | some (q, v) => s.onCtxAt d c fun x => x.setResults q (fillPlace (x.results q) e.seq v none)
      | none => s
    s1.holdEntry d c e 0x21 4

/-- Does an access begin in the copy-channel region? -/
def Entry.inAperture (e : Entry) : Bool :=
  match spaceOf e.addr with
  | .device va => decide (apertureBase ≤ va)
  | _ => false

/-- Does the entry clear ERR of a channel (R194)? -/
def Entry.clearsErr (e : Entry) : Bool :=
  match e.op, spaceOf e.addr with
  | .st .d v, .device va => decide (apertureBase ≤ va) && va % 0x1000 == 0x18 && bit v 32
  | .st _ v, .device va => decide (apertureBase ≤ va) && va % 0x1000 == 0x1C && bit v 0
  | _, _ => false

/-! ### A local access -/

/-- The table entry that an uncorrectable error withholds from the translation of some bytes from an address (R15). -/
def State.bytesBad (s : State) (t : Task) (d : DieId) (a : Word) (l : List Nat) : Option Nat :=
  s.pagesBad t d (l.filterMap fun o =>
    match spaceOf (a + BitVec.ofNat 64 o) with
    | .device va => if va < apertureBase then some va else none
    | _ => none)

/-- A machine check on the access of an entry, which is held (R15, R274). -/
def State.checkEntry (s : State) (t : Task) (d : DieId) (c : CtxId) (e : Entry) (pa : Nat) : State :=
  (s.checkTask t d 0x41 (BitVec.ofNat 64 pa)).setEntry d c { e with held := true }

/-- Perform a piece of a local access, or take its lowest fault: by code, then by reason (R186). An access that no fault but APERTURE
meets and that begins in the region of the copy channels reaches them (R192). -/
def State.performLocal (s : State) (t : Task) (d : DieId) (c : CtxId) (e : Entry) (off : Nat) : State :=
  let flt := lowestFail (s.byteFaults t d c e.op.acc e.phase e.addr e.left)
  if e.inAperture && flt == some (0x21, 4) then s.performChannel t d c e
  else if let some pa := s.bytesBad t d e.addr e.left then s.checkEntry t d c e pa
  else
    match flt with
    | some (k, r) => s.holdEntry d c e (BitVec.ofNat 8 k) (BitVec.ofNat 4 r)
    | none =>
      let s1 := match e.op with
        | .ld .. | .ldrow => s.performLoad t d c e (e.piece off)
        | .amo op wide v x => s.performAmo t d c e op wide v x
        | _ => s.performStore t d c e (e.piece off)
      match spaceOf e.addr with
      | .device va => s1.learn t d (va + off) 1
      | _ => s1

/-! ### Remote entries and the paddock -/

/-- A reduction that has come back whole writes its output by local stores (R392); a deferred fault is that of the first store that
meets it (R273). -/
def State.performMlr (s : State) (t : Task) (d : DieId) (c : CtxId) (e : Entry) (op : RemOp) (dst : Word) (st : Bool) (off : Nat) :
    State :=
  let at' (o : Nat) : Word := dst + BitVec.ofNat 64 o
  if let some pa := s.bytesBad t d dst e.left then s.checkEntry t d c e pa
  else match lowestFail (s.byteFaults t d c .wr e.phase dst e.left) with
  | some (k, r) =>
    let o := (e.left.find? fun o => (s.byteFaults t d c .wr e.phase dst [o]).contains (k, r)).getD 0
    s.holdAccess d c e (at' o) 1 (BitVec.ofNat 8 k) (BitVec.ofNat 4 r)
  | none =>
    let piece := e.left.filter fun o => (at' o).toNat / 32 == (at' off).toNat / 32
    let s1 := s.writeAt t d dst (e.got.filter fun b => piece.contains b.1)
    let e1 : Entry := { e with left := e.left.filter fun o => !piece.contains o }
    if e1.left.isEmpty then s1.fxEnd t.lid d c e.seq op st e.addr stOk 0 0 (.s 0) else s1.setEntry d c e1

/-- Perform a remote entry, or the paddock's; none while it cannot leave. -/
def State.performRemote (s : State) (t : Task) (d : DieId) (c : CtxId) (e : Entry) (op : RemOp) (st : Bool) (off : Nat) :
    Option State :=
  let fin (s : State) (status info : Nat) (v : Value) : State := s.fxEnd t.lid d c e.seq op st e.addr status 0 info v
  match op with
  | .mlr _ dst _ =>
    if !e.sent then s.sendRemote d c e op st
    else if e.got.isEmpty then none
    else some (s.performMlr t d c e op dst st off)
  | .sstep g => if e.sent then none else some (s.arrive d c e g st)
  | .mbsend n slot =>
    let r := s.offerAction t.lid n slot.data
    some (fin r.1 r.2.1 r.2.2 (.s 0))
  | .mbpeek n =>
    let r := peekPen t.lid (s.pen? n)
    some (fin s r.1 0 r.2)
  | .mbrecv n =>
    if e.sent then none
    else
      let waiting := s.paddock.waits.any fun w => w.pen == n
      match (recvPen t.lid (s.pen? n)).filter fun r => !(waiting && r.2.1 == stOk) with
      | some (p, status, v) =>
        let s1 := match p with | some q => s.putPen n q | none => s
        some (fin s1 status 0 v)
      | none =>
        let w : WaitRecv := { pen := n, die := d, ctx := c, lid := t.lid, seq := e.seq, st := st }
        some { s.setEntry d c { e with sent := true } with
          paddock := { s.paddock with waits := s.paddock.waits ++ [w] } }
  | .pen p n a =>
    match s.penBad t d p n a with
    | some pa => some (s.checkEntry t d c e pa)
    | none =>
      let r := s.penControl t d p n a
      some (fin r.1 r.2.1 r.2.2 (.s 0))
  | _ => if e.sent then none else s.sendRemote d c e op st

/-! ### Performing an entry -/

/-- The step of the table that performs an entry. -/
inductive EntryStep where
  | plain | polgen | window | stream | errClear | pen (op : PenOp)
  deriving DecidableEq, Repr

/-- Which step performs an entry. -/
def Entry.step (e : Entry) : EntryStep :=
  match e.op with
  | .swr r _ =>
    if r = 0x0030 then .polgen
    else if r < 0x1400 then .window
    else if 0x1580 ≤ r then .stream
    else .plain
  | .remote (.pen op _ _) _ => .pen op
  | _ => if e.clearsErr then .errClear else .plain

/-- An entry of a context. -/
def Ctx.entry? (x : Ctx) (seq : Nat) : Option Entry := x.entries.find? fun e => e.seq == seq

/-- The byte at an offset of an entry is performed, by the step named; none where it may not be. -/
def State.perform (s : State) (k : EntryStep) (d : DieId) (c : CtxId) (seq off : Nat) : Option State :=
  let x := (s.dieAt d).ctxAt c
  match x.entry? seq, s.task? x.lid with
  | some e, some t =>
    if e.step != k || !s.mayPerform t d x e off then none
    else
      match e.op with
      | .srd r => some (s.leave d c e (some (.syq, .s (s.readQueued t.lid d r))))
      | .swr r v => some ((s.writeQueued t.lid d r v).leave d c e none)
      | .publish len =>
        let r := s.publish t.fn e.addr len
        some (r.1.leave d c e (some (.syq, .s r.2)))
      | .remote op st => s.performRemote t d c e op st off
      | _ => some (s.performLocal t d c e off)
  | _, _ => none

/-- QUEUE_ENTRY_PERFORMED (R203). -/
def execQueueEntryPerformed (d : DieId) (c : CtxId) (seq off : Nat) (s : State) : Host.Outcome State Fault Refusal :=
  enabled "QUEUE_ENTRY_PERFORMED" (s.perform .plain d c seq off)

/-- POLGEN_WRITE (R235, R333). -/
def execPolgenWrite (d : DieId) (c : CtxId) (seq : Nat) (s : State) : Host.Outcome State Fault Refusal :=
  enabled "POLGEN_WRITE" (s.perform .polgen d c seq 0)

/-- WINDOW_DESCRIPTOR_WRITE (R71, R333). -/
def execWindowDescriptorWrite (d : DieId) (c : CtxId) (seq : Nat) (s : State) : Host.Outcome State Fault Refusal :=
  enabled "WINDOW_DESCRIPTOR_WRITE" (s.perform .window d c seq 0)

/-- STREAMCFG_WRITE (R396, R333). -/
def execStreamcfgWrite (d : DieId) (c : CtxId) (seq : Nat) (s : State) : Host.Outcome State Fault Refusal :=
  enabled "STREAMCFG_WRITE" (s.perform .stream d c seq 0)

/-- COPY_ERR_CLEAR (R194). -/
def execCopyErrClear (d : DieId) (c : CtxId) (seq : Nat) (s : State) : Host.Outcome State Fault Refusal :=
  enabled "COPY_ERR_CLEAR" (s.perform .errClear d c seq 0)

/-- PEN_CREATE (R230, R401). -/
def execPenCreate (d : DieId) (c : CtxId) (seq : Nat) (s : State) : Host.Outcome State Fault Refusal :=
  enabled "PEN_CREATE" (s.perform (.pen .create) d c seq 0)

/-- PEN_RESET (R230, R401). -/
def execPenReset (d : DieId) (c : CtxId) (seq : Nat) (s : State) : Host.Outcome State Fault Refusal :=
  enabled "PEN_RESET" (s.perform (.pen .reset) d c seq 0)

/-- PEN_HALT (R229, R428). -/
def execPenHalt (d : DieId) (c : CtxId) (seq : Nat) (s : State) : Host.Outcome State Fault Refusal :=
  enabled "PEN_HALT" (s.perform (.pen .halt) d c seq 0)

/-- PEN_SNAP (R229, R401). -/
def execPenSnap (d : DieId) (c : CtxId) (seq : Nat) (s : State) : Host.Outcome State Fault Refusal :=
  enabled "PEN_SNAP" (s.perform (.pen .snap) d c seq 0)

/-- PEN_READREC (R241, R401). -/
def execPenReadrec (d : DieId) (c : CtxId) (seq : Nat) (s : State) : Host.Outcome State Fault Refusal :=
  enabled "PEN_READREC" (s.perform (.pen .readrec) d c seq 0)

/-- PEN_DESTROY (R229, R401). -/
def execPenDestroy (d : DieId) (c : CtxId) (seq : Nat) (s : State) : Host.Outcome State Fault Refusal :=
  enabled "PEN_DESTROY" (s.perform (.pen .destroy) d c seq 0)

end Sys2Proof.Machine
end

