-- ==== Sys2Proof/Machine/RvInt.lean ====
section
/-! DEFINITION. Integer instructions of the harts (R222: RV64IM, Zba, Zbb, Zbs, Zicond; log 10), and the expansion of a
16-bit instruction into the 32-bit one that it stands for. -/

namespace Sys2Proof.Machine

/-! ### Fields of an instruction -/

/-- Opcode, destination, sources, funct3 and funct7. -/
def rvOp (w : Nat) : Nat := bits w 0 7
def rvRd (w : Nat) : Nat := bits w 7 5
def rvF3 (w : Nat) : Nat := bits w 12 3
def rvRs1 (w : Nat) : Nat := bits w 15 5
def rvRs2 (w : Nat) : Nat := bits w 20 5
def rvF7 (w : Nat) : Nat := bits w 25 7

/-- A signed field of `n` bits as a word. -/
def rvSext (n v : Nat) : Word := BitVec.ofInt 64 (signedOf n v)

/-- The immediates of the I, S, B, U and J formats. -/
def rvImmI (w : Nat) : Word := rvSext 12 (bits w 20 12)
def rvImmS (w : Nat) : Word := rvSext 12 (bits w 7 5 + 32 * bits w 25 7)
def rvImmB (w : Nat) : Word := rvSext 13 (2 * bits w 8 4 + 32 * bits w 25 6 + 2048 * bits w 7 1 + 4096 * bits w 31 1)
def rvImmU (w : Nat) : Word := rvSext 32 (4096 * bits w 12 20)
def rvImmJ (w : Nat) : Word :=
  rvSext 21 (2 * bits w 21 10 + 2048 * bits w 20 1 + 4096 * bits w 12 8 + 1048576 * bits w 31 1)

/-! ### Arithmetic -/

/-- The low 32 bits, sign-extended. -/
def rvW (v : Word) : Word := sext64 32 v

/-- The low 32 bits, zero-extended. -/
def rvUw (v : Word) : Word := zext64 32 v

/-- A word of an integer. -/
def rvOfInt (i : Int) : Word := BitVec.ofInt 64 i

/-- 1 or 0. -/
def rvBool (b : Bool) : Word := if b then 1 else 0

/-- Leading zeros, trailing zeros and set bits of the low `n` bits. -/
def rvClz (n v : Nat) : Nat := if v % 2 ^ n = 0 then n else n - 1 - (v % 2 ^ n).log2
def rvCtz (n v : Nat) : Nat := ((List.range n).find? fun i => v.testBit i).getD n

/-- Signed division of `n`-bit numbers with the corner cases of RISC-V: by 0, and the most negative number by −1. -/
def rvDiv (n a b : Nat) : Int :=
  let x := signedOf n a
  let y := signedOf n b
  if y = 0 then -1 else x.tdiv y
def rvRem (n a b : Nat) : Int :=
  let x := signedOf n a
  let y := signedOf n b
  if y = 0 then x else x.tmod y
def rvDivu (a b n : Nat) : Nat := if b = 0 then 2 ^ n - 1 else a / b
def rvRemu (a b : Nat) : Nat := if b = 0 then a else a % b

/-- Rotation of an `n`-bit number to the left. -/
def rvRol (n v k : Nat) : Nat := ((v * 2 ^ (k % n)) ||| (v / 2 ^ (n - k % n))) % 2 ^ n

/-- Bytes reversed. -/
def rvRev8 (v : Word) : Word := BitVec.ofNat 64 (leNat (leBytes 8 v.toNat).reverse)

/-- Each byte that is not 0 becomes 0xFF. -/
def rvOrcB (v : Word) : Word := BitVec.ofNat 64 (leNat ((leBytes 8 v.toNat).map fun b => if b = 0 then 0 else 0xFF))

/-- Register operations of opcode 0x33; none where the encoding is not one of them. -/
def rvAlu (f7 f3 : Nat) (a b : Word) : Option Word :=
  let x := a.toNat
  let y := b.toNat
  let sh := y % 64
  match f7, f3 with
  | 0x00, 0 => some (a + b)
  | 0x00, 1 => some (a <<< sh)
  | 0x00, 2 => some (rvBool (decide (a.toInt < b.toInt)))
  | 0x00, 3 => some (rvBool (decide (x < y)))
  | 0x00, 4 => some (a ^^^ b)
  | 0x00, 5 => some (a >>> sh)
  | 0x00, 6 => some (a ||| b)
  | 0x00, 7 => some (a &&& b)
  | 0x20, 0 => some (a - b)
  | 0x20, 4 => some (~~~(a ^^^ b))
  | 0x20, 5 => some (a.sshiftRight sh)
  | 0x20, 6 => some (a ||| ~~~b)
  | 0x20, 7 => some (a &&& ~~~b)
  | 0x01, 0 => some (a * b)
  | 0x01, 1 => some (rvOfInt ((a.toInt * b.toInt) / (2 ^ 64 : Nat)))
  | 0x01, 2 => some (rvOfInt ((a.toInt * (y : Int)) / (2 ^ 64 : Nat)))
  | 0x01, 3 => some (BitVec.ofNat 64 (x * y / 2 ^ 64))
  | 0x01, 4 => some (rvOfInt (rvDiv 64 x y))
  | 0x01, 5 => some (BitVec.ofNat 64 (rvDivu x y 64))
  | 0x01, 6 => some (rvOfInt (rvRem 64 x y))
  | 0x01, 7 => some (BitVec.ofNat 64 (rvRemu x y))
  | 0x05, 4 => some (if a.toInt ≤ b.toInt then a else b)
  | 0x05, 5 => some (if x ≤ y then a else b)
  | 0x05, 6 => some (if a.toInt ≤ b.toInt then b else a)
  | 0x05, 7 => some (if x ≤ y then b else a)
  | 0x07, 5 => some (if y = 0 then 0 else a)
  | 0x07, 7 => some (if y = 0 then a else 0)
  | 0x10, 2 => some (b + a * 2)
  | 0x10, 4 => some (b + a * 4)
  | 0x10, 6 => some (b + a * 8)
  | 0x14, 1 => some (a ||| ((1 : Word) <<< sh))
  | 0x24, 1 => some (a &&& ~~~((1 : Word) <<< sh))
  | 0x24, 5 => some (rvBool (a.toNat.testBit sh))
  | 0x34, 1 => some (a ^^^ ((1 : Word) <<< sh))
  | 0x30, 1 => some (BitVec.ofNat 64 (rvRol 64 x sh))
  | 0x30, 5 => some (BitVec.ofNat 64 (rvRol 64 x (64 - sh)))
  | _, _ => none

/-- Register operations of opcode 0x3B on the low 32 bits; `rs2` is the register field that zext.h fixes at 0. -/
def rvAluW (f7 f3 rs2 : Nat) (a b : Word) : Option Word :=
  let x := a.toNat % 2 ^ 32
  let y := b.toNat % 2 ^ 32
  let sh := y % 32
  match f7, f3 with
  | 0x00, 0 => some (rvW (a + b))
  | 0x00, 1 => some (rvW (a <<< sh))
  | 0x00, 5 => some (rvW (BitVec.ofNat 64 (x / 2 ^ sh)))
  | 0x20, 0 => some (rvW (a - b))
  | 0x20, 5 => some ((rvW a).sshiftRight sh)
  | 0x01, 0 => some (rvW (a * b))
  | 0x01, 4 => some (rvW (rvOfInt (rvDiv 32 x y)))
  | 0x01, 5 => some (rvW (BitVec.ofNat 64 (rvDivu x y 32)))
  | 0x01, 6 => some (rvW (rvOfInt (rvRem 32 x y)))
  | 0x01, 7 => some (rvW (BitVec.ofNat 64 (rvRemu x y)))
  | 0x04, 0 => some (b + rvUw a)
  | 0x04, 4 => if rs2 = 0 then some (zext64 16 a) else none
  | 0x10, 2 => some (b + rvUw a * 2)
  | 0x10, 4 => some (b + rvUw a * 4)
  | 0x10, 6 => some (b + rvUw a * 8)
  | 0x30, 1 => some (rvW (BitVec.ofNat 64 (rvRol 32 x sh)))
  | 0x30, 5 => some (rvW (BitVec.ofNat 64 (rvRol 32 x (32 - sh))))
  | _, _ => none

/-- Immediate operations of opcode 0x13. -/
def rvAluI (w : Nat) (a : Word) : Option Word :=
  let i := rvImmI w
  let imm := bits w 20 12
  let f6 := bits w 26 6
  let sh := bits w 20 6
  match rvF3 w with
  | 0 => some (a + i)
  | 2 => some (rvBool (decide (a.toInt < i.toInt)))
  | 3 => some (rvBool (decide (a.toNat < i.toNat)))
  | 4 => some (a ^^^ i)
  | 6 => some (a ||| i)
  | 7 => some (a &&& i)
  | 1 =>
    match f6, imm with
    | 0x00, _ => some (a <<< sh)
    | 0x0A, _ => rvAlu 0x14 1 a (BitVec.ofNat 64 sh)
    | 0x12, _ => rvAlu 0x24 1 a (BitVec.ofNat 64 sh)
    | 0x1A, _ => rvAlu 0x34 1 a (BitVec.ofNat 64 sh)
    | _, 0x600 => some (BitVec.ofNat 64 (rvClz 64 a.toNat))
    | _, 0x601 => some (BitVec.ofNat 64 (rvCtz 64 a.toNat))
    | _, 0x602 => some (BitVec.ofNat 64 (popcount 64 a.toNat))
    | _, 0x604 => some (sext64 8 a)
    | _, 0x605 => some (sext64 16 a)
    | _, _ => none
  | _ =>
    match f6, imm with
    | 0x00, _ => some (a >>> sh)
    | 0x10, _ => some (a.sshiftRight sh)
    | 0x12, _ => rvAlu 0x24 5 a (BitVec.ofNat 64 sh)
    | 0x18, _ => rvAlu 0x30 5 a (BitVec.ofNat 64 sh)
    | _, 0x287 => some (rvOrcB a)
    | _, 0x6B8 => some (rvRev8 a)
    | _, _ => none

/-- Immediate operations of opcode 0x1B. -/
def rvAluIW (w : Nat) (a : Word) : Option Word :=
  let sh := bits w 20 5
  let b := BitVec.ofNat 64 sh
  match rvF3 w with
  | 0 => some (rvW (a + rvImmI w))
  | 1 =>
    match rvF7 w, bits w 20 12 with
    | 0x00, _ => rvAluW 0x00 1 0 a b
    | 0x04, _ => some (rvUw a <<< bits w 20 6)
    | 0x05, _ => some (rvUw a <<< bits w 20 6)
    | _, 0x600 => some (BitVec.ofNat 64 (rvClz 32 a.toNat))
    | _, 0x601 => some (BitVec.ofNat 64 (rvCtz 32 a.toNat))
    | _, 0x602 => some (BitVec.ofNat 64 (popcount 32 a.toNat))
    | _, _ => none
  | 5 =>
    match rvF7 w with
    | 0x00 => rvAluW 0x00 5 0 a b
    | 0x20 => rvAluW 0x20 5 0 a b
    | 0x30 => rvAluW 0x30 5 0 a b
    | _ => none
  | _ => none

/-- Branches: is the branch taken? -/
def rvBranch (f3 : Nat) (a b : Word) : Option Bool :=
  match f3 with
  | 0 => some (a == b)
  | 1 => some (a != b)
  | 4 => some (decide (a.toInt < b.toInt))
  | 5 => some (decide (b.toInt ≤ a.toInt))
  | 6 => some (decide (a.toNat < b.toNat))
  | 7 => some (decide (b.toNat ≤ a.toNat))
  | _ => none

/-! ### 16-bit instructions -/

/-- Words of the six formats. -/
def rvR (op f3 f7 rd rs1 rs2 : Nat) : Nat := op + 128 * rd + 2 ^ 12 * f3 + 2 ^ 15 * rs1 + 2 ^ 20 * rs2 + 2 ^ 25 * f7
def rvI (op f3 rd rs1 imm : Nat) : Nat := op + 128 * rd + 2 ^ 12 * f3 + 2 ^ 15 * rs1 + 2 ^ 20 * (imm % 4096)
def rvS (op f3 rs1 rs2 imm : Nat) : Nat :=
  op + 128 * bits imm 0 5 + 2 ^ 12 * f3 + 2 ^ 15 * rs1 + 2 ^ 20 * rs2 + 2 ^ 25 * bits imm 5 7
def rvB (f3 rs1 rs2 imm : Nat) : Nat :=
  0x63 + 2 ^ 7 * bits imm 11 1 + 2 ^ 8 * bits imm 1 4 + 2 ^ 12 * f3 + 2 ^ 15 * rs1 + 2 ^ 20 * rs2 + 2 ^ 25 * bits imm 5 6 +
    2 ^ 31 * bits imm 12 1
def rvJ (rd imm : Nat) : Nat :=
  0x6F + 128 * rd + 2 ^ 12 * bits imm 12 8 + 2 ^ 20 * bits imm 11 1 + 2 ^ 21 * bits imm 1 10 + 2 ^ 31 * bits imm 20 1

/-- A signed field of `n` bits in two's complement of 32 bits. -/
def rvSx (n v : Nat) : Nat := ((signedOf n v) % (2 ^ 32 : Nat)).toNat

/-- Quadrant 0 of the compressed instructions. -/
def rvC0 (c : Nat) : Option Nat :=
  let rd := 8 + bits c 2 3
  let rs := 8 + bits c 7 3
  let uw := 8 * bits c 10 3 + 4 * bits c 6 1 + 64 * bits c 5 1
  let ud := 8 * bits c 10 3 + 64 * bits c 5 2
  match bits c 13 3 with
  | 0 =>
    let imm := 4 * bits c 6 1 + 8 * bits c 5 1 + 16 * bits c 11 2 + 64 * bits c 7 4
    if imm = 0 then none else some (rvI 0x13 0 rd 2 imm)
  | 1 => some (rvI 0x07 3 rd rs ud)
  | 2 => some (rvI 0x03 2 rd rs uw)
  | 3 => some (rvI 0x03 3 rd rs ud)
  | 5 => some (rvS 0x27 3 rs rd ud)
  | 6 => some (rvS 0x23 2 rs rd uw)
  | 7 => some (rvS 0x23 3 rs rd ud)
  | _ => none

/-- Arithmetic of quadrant 1 (funct3 4). -/
def rvC1Alu (c : Nat) : Option Nat :=
  let rd := 8 + bits c 7 3
  let rs := 8 + bits c 2 3
  let sh := bits c 2 5 + 32 * bits c 12 1
  match bits c 10 2 with
  | 0 => some (rvI 0x13 5 rd rd sh)
  | 1 => some (rvI 0x13 5 rd rd (sh + 0x400))
  | 2 => some (rvI 0x13 7 rd rd (rvSx 6 sh))
  | _ =>
    match bits c 12 1, bits c 5 2 with
    | 0, 0 => some (rvR 0x33 0 0x20 rd rd rs)
    | 0, 1 => some (rvR 0x33 4 0x00 rd rd rs)
    | 0, 2 => some (rvR 0x33 6 0x00 rd rd rs)
    | 0, _ => some (rvR 0x33 7 0x00 rd rd rs)
    | _, 0 => some (rvR 0x3B 0 0x20 rd rd rs)
    | _, 1 => some (rvR 0x3B 0 0x00 rd rd rs)
    | _, _ => none

/-- Quadrant 1 of the compressed instructions. -/
def rvC1 (c : Nat) : Option Nat :=
  let rd := bits c 7 5
  let imm := bits c 2 5 + 32 * bits c 12 1
  let rs := 8 + bits c 7 3
  let off := 2 * bits c 3 2 + 8 * bits c 10 2 + 32 * bits c 2 1 + 64 * bits c 5 2 + 256 * bits c 12 1
  match bits c 13 3 with
  | 0 => some (rvI 0x13 0 rd rd (rvSx 6 imm))
  | 1 => if rd = 0 then none else some (rvI 0x1B 0 rd rd (rvSx 6 imm))
  | 2 => some (rvI 0x13 0 rd 0 (rvSx 6 imm))
  | 3 =>
    if rd = 2 then
      let v := 16 * bits c 6 1 + 32 * bits c 2 1 + 64 * bits c 5 1 + 128 * bits c 3 2 + 512 * bits c 12 1
      if v = 0 then none else some (rvI 0x13 0 2 2 (rvSx 10 v))
    else if imm = 0 then none
    else some (0x37 + 128 * rd + 4096 * (rvSx 6 imm % 2 ^ 20))
  | 4 => rvC1Alu c
  | 5 =>
    let v := 2 * bits c 3 3 + 16 * bits c 11 1 + 32 * bits c 2 1 + 64 * bits c 7 1 + 128 * bits c 6 1 + 256 * bits c 9 2 +
      1024 * bits c 8 1 + 2048 * bits c 12 1
    some (rvJ 0 (rvSx 12 v))
  | 6 => some (rvB 0 rs 0 (rvSx 9 off))
  | _ => some (rvB 1 rs 0 (rvSx 9 off))

/-- Quadrant 2 of the compressed instructions. -/
def rvC2 (c : Nat) : Option Nat :=
  let rd := bits c 7 5
  let rs := bits c 2 5
  let sh := bits c 2 5 + 32 * bits c 12 1
  let ud := 8 * bits c 5 2 + 32 * bits c 12 1 + 64 * bits c 2 3
  let uw := 4 * bits c 4 3 + 32 * bits c 12 1 + 64 * bits c 2 2
  match bits c 13 3 with
  | 0 => some (rvI 0x13 1 rd rd sh)
  | 1 => some (rvI 0x07 3 rd 2 ud)
  | 2 => if rd = 0 then none else some (rvI 0x03 2 rd 2 uw)
  | 3 => if rd = 0 then none else some (rvI 0x03 3 rd 2 ud)
  | 4 =>
    if bits c 12 1 = 0 then
      if rs = 0 then if rd = 0 then none else some (rvI 0x67 0 0 rd 0) else some (rvR 0x33 0 0 rd 0 rs)
    else if rs = 0 then if rd = 0 then some 0x00100073 else some (rvI 0x67 0 1 rd 0)
    else some (rvR 0x33 0 0 rd rd rs)
  | 5 => some (rvS 0x27 3 2 rs (8 * bits c 10 3 + 64 * bits c 7 3))
  | 6 => some (rvS 0x23 2 2 rs (4 * bits c 9 4 + 64 * bits c 7 2))
  | _ => some (rvS 0x23 3 2 rs (8 * bits c 10 3 + 64 * bits c 7 3))

/-- The 32-bit instruction that a 16-bit one stands for; none where it is illegal. -/
def rvExpand (c : Nat) : Option Nat :=
  match c % 4 with
  | 0 => rvC0 c
  | 1 => rvC1 c
  | _ => rvC2 c

end Sys2Proof.Machine
end

