-- ==== Sys2Proof/Machine/RvFp.lean ====
section
/-! DEFINITION. Floating-point arithmetic of the harts (R222, R223; log 10): IEEE 754-2019 under the RISC-V rules, with tininess
after rounding and the canonical NaN. Flags are those of Table 10.3; `rvFlags` gives them RISC-V's places. -/

namespace Sys2Proof.Machine

/-- The flags in fflags: NV 4, DZ 3, OF 2, UF 1, NX 0. -/
def rvFlags (f : Flags) : Nat :=
  let n := f.toNat
  16 * bits n 0 1 + 8 * bits n 1 1 + 4 * bits n 2 1 + 2 * bits n 3 1 + bits n 4 1

/-- A rounding mode by its number; 7 is the mode of fcsr. -/
def rvMode (frm rm : Nat) : Option RMode :=
  match (if rm = 7 then frm else rm) with
  | 0 => some .rne
  | 1 => some .rtz
  | 2 => some .rdn
  | 3 => some .rup
  | 4 => some .rmm
  | _ => none

/-- Round n / d * 2^e: underflow is raised for an inexact result that is tiny when rounded with an unbounded exponent. -/
def rvRoundFin (f : Fmt) (mode : RMode) (neg : Bool) (n d : Nat) (e : Int) : Res :=
  let r := roundFin f mode neg n d e
  if n = 0 then r
  else
    let q := floorLog n d e - f.p
    let num := n * pow2 (e - q)
    let den := d * pow2 (q - e)
    let k := num / den
    let m := if num % den != 0 && roundsUp mode neg k (num % den) den then k + 1 else k
    let tiny := ltScaled m q 1 (1 - f.bias)
    ⟨r.v, (r.f &&& ~~~fUF) ||| (if tiny && r.f &&& fNX != 0 then fUF else 0)⟩

/-- Round an exact number. -/
def rvRound (f : Fmt) (mode : RMode) (x : Exact) : Res :=
  match x with
  | .num neg n e => rvRoundFin f mode neg n 1 e
  | _ => fRound f mode x

/-- (−) a × b (±) v; a sum and a product are its special cases. -/
def rvAdd (f : Fmt) (mode : RMode) (sub : Bool) (a b : Nat) : Res :=
  let x := fDecode f a
  let y := fDecode f b
  let (z, bad) := Exact.add mode.isRdn x (if sub then y.neg else y)
  let r := rvRound f mode z
  ⟨r.v, r.f ||| sigFlags [x, y] ||| (if bad then fNV else 0)⟩

def rvMul (f : Fmt) (mode : RMode) (a b : Nat) : Res :=
  let x := fDecode f a
  let y := fDecode f b
  let (z, bad) := Exact.mul x y
  let r := rvRound f mode z
  ⟨r.v, r.f ||| sigFlags [x, y] ||| (if bad then fNV else 0)⟩

def rvFma (f : Fmt) (mode : RMode) (negProd negAdd : Bool) (a b v : Nat) : Res :=
  let x := fDecode f a
  let y := fDecode f b
  let w := fDecode f v
  let (p, bad1) := Exact.mul x y
  let p := if negProd then p.neg else p
  let (z, bad2) := Exact.add mode.isRdn p (if negAdd then w.neg else w)
  let r := rvRound f mode z
  ⟨r.v, r.f ||| sigFlags [x, y, w] ||| (if bad1 || bad2 then fNV else 0)⟩

/-- The bits of an infinity. -/
def rvInf (f : Fmt) (neg : Bool) : Nat := f.signBit neg + (2 ^ f.e - 1) * 2 ^ f.p

/-- a ÷ b. -/
def rvFdiv (f : Fmt) (mode : RMode) (a b : Nat) : Res :=
  let x := fDecode f a
  let y := fDecode f b
  let fl := sigFlags [x, y]
  match x, y with
  | .nan _, _ => ⟨f.nan, fl⟩
  | _, .nan _ => ⟨f.nan, fl⟩
  | .inf _, .inf _ => ⟨f.nan, fNV⟩
  | .inf s, .num t _ _ => ⟨rvInf f (s != t), 0⟩
  | .num s _ _, .inf t => ⟨f.signBit (s != t), 0⟩
  | .num s n e, .num t m g =>
    if m = 0 then if n = 0 then ⟨f.nan, fNV⟩ else ⟨rvInf f (s != t), fDZ⟩
    else rvRoundFin f mode (s != t) n m (e - g)

/-- The square root: the bits of the exact root far beyond the last place, and a sticky bit, decide as the root would. -/
def rvSqrt (f : Fmt) (mode : RMode) (a : Nat) : Res :=
  match fDecode f a with
  | .nan sg => ⟨f.nan, if sg then fNV else 0⟩
  | .inf false => ⟨a, 0⟩
  | .inf true => ⟨f.nan, fNV⟩
  | .num s n e =>
    if n = 0 then ⟨a, 0⟩
    else if s then ⟨f.nan, fNV⟩
    else
      let (m, g) : Nat × Int := if e % 2 = 0 then (n, e) else (2 * n, e - 1)
      let k := isqrt (m * 2 ^ 512)
      let sticky := if k * k = m * 2 ^ 512 then 0 else 1
      rvRoundFin f mode false (2 * k + sticky) 1 (g / 2 - 257)

/-- Conversion to an integer of `w` bits, signed or not. -/
def rvToInt (w : Nat) (sg : Bool) (f : Fmt) (mode : RMode) (a : Nat) : Res :=
  let lo : Int := if sg then -(2 ^ (w - 1) : Nat) else 0
  let hi : Int := (if sg then 2 ^ (w - 1) else 2 ^ w : Nat) - 1
  let enc (i : Int) : Nat := (i % (2 ^ w : Nat)).toNat
  match fDecode f a with
  | .nan _ => ⟨enc hi, fNV⟩
  | .inf neg => ⟨enc (if neg then lo else hi), fNV⟩
  | .num neg n e =>
    let (k, nx) := roundInt mode neg n e
    let i := signedMant neg k
    if i < lo then ⟨enc lo, fNV⟩
    else if hi < i then ⟨enc hi, fNV⟩
    else ⟨enc i, if nx then fNX else 0⟩

/-- Conversion between formats. -/
def rvCvt (src dst : Fmt) (mode : RMode) (a : Nat) : Res :=
  let x := fDecode src a
  let r := rvRound dst mode x
  ⟨r.v, r.f ||| sigFlags [x]⟩

/-- Conversion of an integer. -/
def rvOfInteger (f : Fmt) (mode : RMode) (i : Int) : Res := roundFin f mode (decide (i < 0)) i.natAbs 1 0

/-- Minimum and maximum: of a NaN and a number the number, of two NaNs the canonical one. -/
def rvMinMax (f : Fmt) (mx : Bool) (a b : Nat) : Res := fMinMax f mx true a b

/-- The class of a number. -/
def rvClass (f : Fmt) (a : Nat) : Nat :=
  match fDecode f a with
  | .inf s => if s then 1 else 128
  | .nan sg => if sg then 256 else 512
  | .num s n _ =>
    let sub := a / 2 ^ f.p % 2 ^ f.e == 0
    if n = 0 then if s then 8 else 16
    else if sub then if s then 4 else 32
    else if s then 2 else 64

/-- Sign injection: `k` 0 the sign of b, 1 its opposite, 2 their exclusive or. -/
def rvSgnj (n k a b : Nat) : Nat :=
  let s := bits b (n - 1) 1
  let t := bits a (n - 1) 1
  a % 2 ^ (n - 1) + 2 ^ (n - 1) * (match k with | 0 => s | 1 => 1 - s | _ => (s + t) % 2)

/-- A single held in a 64-bit register: NaN-boxed, else the canonical NaN. -/
def rvUnbox (v : Word) : Nat := if fld v 32 32 = 2 ^ 32 - 1 then fld v 0 32 else Fmt.nan .f32

/-- NaN-boxing of a single. -/
def rvBox (n : Nat) : Word := BitVec.ofNat 64 (n % 2 ^ 32 + (2 ^ 32 - 1) * 2 ^ 32)

/-- A register as a number of a format. -/
def rvGetF (f : Fmt) (v : Word) : Nat := if f == .f32 then rvUnbox v else v.toNat

/-- A number of a format as a register. -/
def rvPutF (f : Fmt) (n : Nat) : Word := if f == .f32 then rvBox n else BitVec.ofNat 64 n

end Sys2Proof.Machine
end

