-- ==== Sys2Proof/Machine/RvMem.lean ====
section
/-! DEFINITION. What a hart reaches: the pen's physical address space (R227, R228, Tables 09.1 and 09.8), Sv39 and Sv48 (R222,
log 10), and the traps of S-mode (R223). -/

namespace Sys2Proof.Machine

/-- Where an instruction of a pen runs: the package, the owner, the hart's die and the pen. -/
structure RvEnv where
  s : State
  t : Task
  d : DieId
  p : Pen
  h : Nat

/-- What ends an instruction early: a trap to S-mode, an access fault for the monitor (R227), a page of pen memory that must be
copied first (R228), an uncorrectable error (R15). -/
inductive RvExc where
  | trap (cause : Nat) (tval : Word)
  | access
  | copy (page : Nat)
  | error (pa : Nat)
  deriving DecidableEq, Repr

/-- A write of an instruction: bytes of HBM, eight bytes of the pen page, or a bounds register of a hart (Table 09.2). -/
inductive RvWr where
  | bytes (pa : Nat) (bs : List Byte)
  | page (off : Nat) (v : Word)
  | bound (h n : Nat) (v : Word)
  deriving DecidableEq, Repr

/-- Kinds of access of a hart. -/
inductive RvAcc where
  | fetch | load | store
  deriving DecidableEq, Repr

/-! ### The pen's physical address space -/

/-- The regions of Table 09.1. -/
inductive RvPlace where
  | mem (off : Nat)
  | window (off : Nat)
  | page (off : Nat)
  | outside
  deriving DecidableEq, Repr

/-- The region that holds the whole of an access. -/
def Pen.place (p : Pen) (a n : Nat) : RvPlace :=
  if a + n ≤ p.desc.psize then .mem a
  else if 0x4000000000 ≤ a ∧ a + n ≤ 0x4000000000 + p.desc.xsize then .window (a - 0x4000000000)
  else if 0x7FFFFFF000 ≤ a ∧ a + n ≤ 0x8000000000 then .page (a - 0x7FFFFFF000)
  else .outside

/-- A value of the pen page (Table 09.8). -/
def Pen.pageWord (p : Pen) (off : Nat) : Word :=
  if off < 0x100 then BitVec.ofNat 64 (bits (p.acts.headD 0).toNat (8 * off) 64)
  else if off = 0x100 then BitVec.ofNat 64 p.acts.length
  else if off = 0x308 then BitVec.ofNat 64 p.obsRes.toNat
  else if off = 0x310 then BitVec.ofNat 64 p.obs.length
  else if off = 0x318 then BitVec.ofNat 64 (if p.desc.stepBud = 0 then 2 ^ 32 - 1 else p.desc.stepBud - p.stepCnt)
  else 0

/-- May a store reach an offset of the pen page? -/
def pageWritable (off : Nat) : Bool := off == 0x108 || decide (0x200 ≤ off ∧ off < 0x300) || off == 0x300

/-- The pages of pen memory that an access touches. -/
def pagesOf (off n : Nat) : List Nat := (List.range ((off + n - 1) / 4096 - off / 4096 + 1)).map fun i => off / 4096 + i

/-- The device-memory runs of an access to pen memory; a page that has not been copied lies in the image (R228). -/
def Pen.memRuns (p : Pen) (off n : Nat) : List (Nat × Nat) :=
  (pagesOf off n).map fun g =>
    let lo := max off (g * 4096)
    let hi := min (off + n) ((g + 1) * 4096)
    ((if p.copied.contains g then p.desc.pbase else p.desc.image + imageHead) + lo, hi - lo)

/-- Translate runs of device memory for the owner (R227): runs of HBM, or the access fault. -/
def RvEnv.runs (e : RvEnv) (acc : Acc) : List (Nat × Nat) → Except RvExc (List (Nat × Nat))
  | [] => .ok []
  | (va, n) :: l =>
    match e.s.pageBad e.t e.d va, e.s.translateOn e.t e.d acc va with
    | some pa, _ => .error (.error pa)
    | none, .error _ => .error .access
    | none, .ok pa =>
      match e.runs acc l with
      | .error x => .error x
      | .ok r => .ok ((pa, n) :: r)

/-- Runs of device memory split at 64 KiB pages. -/
def splitRuns (l : List (Nat × Nat)) : List (Nat × Nat) := l.flatMap fun r => pagePieces r.1 r.2

/-- Read HBM runs; an uncorrectable error withholds them. -/
def RvEnv.readRuns (e : RvEnv) (l : List (Nat × Nat)) : Except RvExc (List Byte) :=
  match l.find? fun r => e.s.hbmBad r.1 r.2 with
  | some r => .error (.error r.1)
  | none => .ok (l.flatMap fun r => e.s.hbm.readN r.1 r.2)

/-- The HBM runs of an access to pen memory or to the exchange window. -/
def RvEnv.hbmRuns (e : RvEnv) (acc : Acc) (a n : Nat) : Except RvExc (List (Nat × Nat)) :=
  match e.p.place a n with
  | .mem off => e.runs acc (splitRuns (e.p.memRuns off n))
  | .window off => e.runs acc (splitRuns [(e.p.desc.xbase + off, n)])
  | _ => .error .access

/-- Read `n` bytes at a pen-physical address; `plain` an access that may reach the pen page. -/
def RvEnv.readPhys (e : RvEnv) (acc : RvAcc) (plain : Bool) (a n : Nat) : Except RvExc (List Byte) :=
  match e.p.place a n with
  | .page off =>
    if plain && acc == .load && n == 8 && off % 8 == 0 then .ok (leBytes 8 (e.p.pageWord off).toNat) else .error .access
  | .window _ => if acc == .fetch then .error .access else (e.hbmRuns .rd a n).bind e.readRuns
  | _ => (e.hbmRuns .rd a n).bind e.readRuns

/-- The HBM writes of bytes over runs. -/
def wrRuns (bs : List Byte) : List (Nat × Nat) → List RvWr
  | [] => []
  | (pa, n) :: l => .bytes pa (bs.take n) :: wrRuns (bs.drop n) l

/-- Write bytes at a pen-physical address: `vec` the element width in bytes of a vector store, 0 for a scalar one. -/
def RvEnv.writePhys (e : RvEnv) (vec : Nat) (amo : Bool) (a : Nat) (bs : List Byte) : Except RvExc (List RvWr) :=
  let n := bs.length
  match e.p.place a n with
  | .page off =>
    let ok := !amo && n == 8 && off % 8 == 0 && pageWritable off && (vec == 0 || (vec == 8 && decide (0x200 ≤ off ∧ off < 0x300)))
    if ok then .ok [.page off (BitVec.ofNat 64 (leNat bs))] else .error .access
  | .mem off =>
    match (pagesOf off n).find? fun g => !e.p.copied.contains g with
    | some g => .error (.copy g)
    | none => (e.hbmRuns .wr a n).map (wrRuns bs)
  | _ => (e.hbmRuns .wr a n).map (wrRuns bs)

/-! ### Translation in S-mode -/

/-- Cause of a page fault. -/
def pageFault : RvAcc → Nat
  | .fetch => 12
  | .load => 13
  | .store => 15

/-- May an access use a leaf (Svade: A, and D for a store, must be set)? -/
def leafOk (h : Hart) (acc : RvAcc) (pte : Nat) : Bool :=
  let u := pte.testBit 4
  let x := pte.testBit 3
  let r := pte.testBit 1
  let sum := bit h.sstatus 18
  let mxr := bit h.sstatus 19
  (if h.mode == 1 then !u || (sum && acc != .fetch) else u) &&
    (match acc with | .fetch => x | .load => r || (mxr && x) | .store => pte.testBit 2) &&
    pte.testBit 6 && (acc != .store || pte.testBit 7)

/-- A walk from a table at a level downwards: the pen-physical address. -/
def RvEnv.walk (e : RvEnv) (h : Hart) (acc : RvAcc) (va : Nat) : Nat → Nat → Except RvExc Nat
  | lvl, table =>
    match e.readPhys .load false (table + 8 * bits va (12 + 9 * lvl) 9) 8 with
    | .error x => .error x
    | .ok b =>
      let pte := leNat b
      let ppn := bits pte 10 44
      let fault : Except RvExc Nat := .error (.trap (pageFault acc) (BitVec.ofNat 64 va))
      if !pte.testBit 0 || (pte.testBit 2 && !pte.testBit 1) || bits pte 54 10 != 0 then fault
      else if pte.testBit 1 || pte.testBit 3 then
        if !leafOk h acc pte || ppn % 2 ^ (9 * lvl) != 0 then fault
        else .ok (ppn / 2 ^ (9 * lvl) * 2 ^ (12 + 9 * lvl) + va % 2 ^ (12 + 9 * lvl))
      else if pte.testBit 4 || pte.testBit 6 || pte.testBit 7 then fault
      else
        match lvl with
        | 0 => fault
        | k + 1 => e.walk h acc va k (ppn * 4096)

/-- Does an access go untranslated: in M-mode, or with satp MODE 0? -/
def Hart.bare (h : Hart) : Bool := h.mode == 3 || fld h.satp 60 4 == 0

/-- Translate a virtual address: untranslated, else by Sv39 or Sv48. -/
def RvEnv.translate (e : RvEnv) (h : Hart) (acc : RvAcc) (va : Nat) : Except RvExc Nat :=
  if h.bare then .ok va
  else
    let m := fld h.satp 60 4
    let n := if m = 8 then 39 else 48
    let top := bits va (n - 1) (64 - (n - 1))
    if top != 0 && top != 2 ^ (64 - (n - 1)) - 1 then .error (.trap (pageFault acc) (BitVec.ofNat 64 va))
    else e.walk h acc va (if m = 8 then 2 else 3) (fld h.satp 0 44 * 4096)

/-- The pen-physical pieces of a virtual access: one piece for each 4 KiB page. -/
def RvEnv.pieces (e : RvEnv) (h : Hart) (acc : RvAcc) (va n : Nat) : Except RvExc (List (Nat × Nat)) :=
  if h.bare || (va % 4096 + n ≤ 4096) then (e.translate h acc va).map fun a => [(a, n)]
  else
    let k := 4096 - va % 4096
    match e.translate h acc va, e.translate h acc ((va + k) % 2 ^ 64) with
    | .ok a, .ok b => .ok [(a, k), (b, n - k)]
    | .error x, _ => .error x
    | _, .error x => .error x

/-- Read the bytes of several pieces. -/
def RvEnv.readPieces (e : RvEnv) (acc : RvAcc) (plain : Bool) : List (Nat × Nat) → Except RvExc (List Byte)
  | [] => .ok []
  | (a, n) :: l =>
    match e.readPhys acc plain a n, e.readPieces acc plain l with
    | .ok x, .ok y => .ok (x ++ y)
    | .error x, _ => .error x
    | _, .error x => .error x

/-- Load `n` bytes from a virtual address. -/
def RvEnv.load (e : RvEnv) (h : Hart) (plain : Bool) (va : Word) (n : Nat) : Except RvExc Nat :=
  (e.pieces h .load va.toNat n).bind fun l => (e.readPieces .load plain l).map leNat

/-- Write the bytes of several pieces. -/
def RvEnv.writePieces (e : RvEnv) (vec : Nat) : List Byte → List (Nat × Nat) → Except RvExc (List RvWr)
  | _, [] => .ok []
  | bs, (a, n) :: l =>
    match e.writePhys vec false a (bs.take n), e.writePieces vec (bs.drop n) l with
    | .ok x, .ok y => .ok (x ++ y)
    | .error x, _ => .error x
    | _, .error x => .error x

/-- Store bytes at a virtual address. -/
def RvEnv.store (e : RvEnv) (h : Hart) (vec : Nat) (va : Word) (bs : List Byte) : Except RvExc (List RvWr) :=
  (e.pieces h .store va.toNat bs.length).bind fun l => e.writePieces vec bs l

/-- Fetch two bytes of an instruction. -/
def RvEnv.fetch2 (e : RvEnv) (h : Hart) (pc : Word) : Except RvExc Nat :=
  (e.translate h .fetch pc.toNat).bind fun a => (e.readPhys .fetch false a 2).map leNat

/-! ### Traps of S-mode and M-mode -/

/-- TAKING A TRAP in S-mode (R222, R223): sepc, scause and stval are written, SPIE and SPP keep what SIE and the mode were, and
stvec gives the pc; a reservation is lost. -/
def Hart.trap (h : Hart) (interrupt : Bool) (cause : Nat) (tval : Word) : Hart :=
  let st := h.sstatus.toNat
  let st := setBits (setBits (setBits st 5 1 (bits st 1 1)) 1 1 0) 8 1 h.mode.toNat
  let base := h.stvec.toNat / 4 * 4
  { h with
    sepc := h.pc
    scause := BitVec.ofNat 64 (cause + (if interrupt then 2 ^ 63 else 0))
    stval := tval
    sstatus := sstatusOf (BitVec.ofNat 64 st)
    mode := 1
    pc := BitVec.ofNat 64 (if interrupt && h.stvec.toNat % 4 = 1 then base + 4 * cause else base)
    resv := none }

/-- TAKING A TRAP in M-mode (R222): mepc, mcause and mtval are written, MPIE and MPP keep what MIE and the mode were, and mtvec
gives the pc; a reservation is lost. -/
def Hart.trapM (h : Hart) (cause : Nat) (tval : Word) : Hart :=
  let st := h.m.status
  { h with
    m := { h.m with
      epc := h.pc
      cause := BitVec.ofNat 64 cause
      tval := tval
      status := setFld (setFld (setFld st 7 1 (fld st 3 1)) 3 1 0) 11 2 h.mode.toNat }
    mode := 3
    pc := BitVec.ofNat 64 (h.m.tvec.toNat / 4 * 4)
    resv := none }

/-- MRET: the return from a trap of M-mode. -/
def Hart.mret (h : Hart) : Hart :=
  let st := h.m.status
  let st := setFld (setFld (setFld st 3 1 (fld st 7 1)) 7 1 1) 11 2 0
  { h with
    pc := h.m.epc
    mode := BitVec.ofNat 2 (fld h.m.status 11 2)
    m := { h.m with status := if fld h.m.status 11 2 = 3 then st else setFld st 17 1 0 } }

/-- SRET: the return from a trap. -/
def Hart.sret (h : Hart) : Hart :=
  let st := h.sstatus.toNat
  let spp := bits st 8 1
  { h with
    pc := h.sepc
    mode := BitVec.ofNat 2 spp
    sstatus := sstatusOf (BitVec.ofNat 64 (setBits (setBits (setBits st 1 1 (bits st 5 1)) 5 1 1) 8 1 0)) }

end Sys2Proof.Machine
end

