-- ==== Sys2Proof/Machine/RvExec.lean ====
section
/-! DEFINITION. The scalar instructions of a hart (R222, R223; log 10): loads and stores, atomics, control transfer,
floating point, registers of Zicsr, and the instructions of S-mode. -/

namespace Sys2Proof.Machine

/-- What an instruction did: the hart after it, its writes, and the exception that ended it, if one did. -/
structure RvDone where
  h : Hart
  wr : List RvWr
  exc : Option RvExc
  wfi : Bool
  sbi : Bool

/-- An instruction that completed. -/
def RvDone.ok (h : Hart) : RvDone := { h := h, wr := [], exc := none, wfi := false, sbi := false }

/-- An instruction that completed with writes. -/
def RvDone.wrote (h : Hart) (w : List RvWr) : RvDone := { RvDone.ok h with wr := w }

/-- An instruction that an exception ended before it did anything. -/
def RvDone.err (h : Hart) (x : RvExc) : RvDone := { RvDone.ok h with exc := some x }

/-- A value, or the exception that it met. -/
def RvDone.of (h : Hart) (x : Except RvExc α) (f : α → RvDone) : RvDone :=
  match x with
  | .ok a => f a
  | .error y => .err h y

/-- The illegal-instruction exception of an instruction's bits. -/
def illegal (w : Nat) : RvExc := .trap 2 (if Config.illegalTval then BitVec.ofNat 64 w else 0)

/-! ### Registers -/

/-- Read and write an integer register; x0 reads 0. -/
def Hart.getX (h : Hart) (r : Nat) : Word := if r = 0 then 0 else h.x.toList.getD r 0
def Hart.setX (h : Hart) (r : Nat) (v : Word) : Hart := if r = 0 then h else { h with x := h.x.setIfInBounds r v }

/-- The instruction after this one. -/
def Hart.next (h : Hart) (len : Nat) : Hart := { h with pc := h.pc + BitVec.ofNat 64 len }

/-- Is the state of the floating-point, of the vector registers on? -/
def Hart.fOn (h : Hart) : Bool := fld h.sstatus 13 2 != 0
def Hart.vOn (h : Hart) : Bool := fld h.sstatus 9 2 != 0

/-- The floating-point, the vector state is dirty. -/
def Hart.fDirty (h : Hart) : Hart := { h with sstatus := sstatusOf (setFld h.sstatus 13 2 3) }
def Hart.vDirty (h : Hart) : Hart := { h with sstatus := sstatusOf (setFld h.sstatus 9 2 3) }

/-- Read and write a floating-point register. -/
def Hart.getF (h : Hart) (r : Nat) : Word := h.f.toList.getD r 0
def Hart.setF (h : Hart) (r : Nat) (v : Word) : Hart := { h with f := h.f.setIfInBounds r v }.fDirty

/-- Raise floating-point flags. -/
def Hart.raise (h : Hart) (f : Flags) : Hart :=
  if f = 0 then h else { h with fcsr := h.fcsr ||| BitVec.ofNat 32 (rvFlags f) }.fDirty

/-- The rounding mode of fcsr. -/
def Hart.frm (h : Hart) : Nat := bits h.fcsr.toNat 5 3

/-! ### Zicsr (R231, R427) -/

/-- May the mode read a counter (mcounteren below M-mode, scounteren for U-mode)? -/
def Hart.counterOk (h : Hart) (n : Nat) : Bool :=
  h.mode == 3 || (h.m.counteren.toNat.testBit n && (h.mode == 1 || h.scounteren.toNat.testBit n))

/-- May the mode reach an S-mode register: TVM keeps satp from S-mode? -/
def Hart.sCsrOk (h : Hart) (n : Nat) : Bool := h.mode == 3 || (h.mode == 1 && !(n == 0x180 && bit h.m.status 20))

/-- A counter as the pen reads it (R231). -/
def RvEnv.counter (e : RvEnv) (n : Nat) : Word :=
  if n = 2 then BitVec.ofNat 64 e.p.instret
  else if 2 < n then 0
  else if e.p.desc.detclk then BitVec.ofNat 64 e.p.instret
  else if n = 0 then Config.freeCycle e.s.fresh
  else BitVec.ofNat 64 ((e.s.dieAt e.d).tick.toNat / 20)

/-- The M-mode registers of hart `h` that the specification names: its identity and the pen bounds (R222, R225, Table 09.2). -/
def HartRegs.readM (r : HartRegs) (h n : Nat) : Option Word :=
  match n with
  | 0xF11 => some 0
  | 0xF12 => some 0
  | 0xF13 => some 1
  | 0xF14 => some (BitVec.ofNat 64 h)
  | 0x7C0 => some (BitVec.ofNat 64 (r.pen.toNat + 2 ^ 10 * r.asid.toNat))
  | 0x7C1 => some (BitVec.ofNat 64 r.pmbase.toNat)
  | 0x7C2 => some (BitVec.ofNat 64 r.pmsize.toNat)
  | 0x7C3 => some (BitVec.ofNat 64 r.pxbase.toNat)
  | 0x7C4 => some (BitVec.ofNat 64 r.pxsize.toNat)
  | _ => none

/-- Read a register of Zicsr; none where the access is illegal: of M-mode registers, outside M-mode (R227). -/
def RvEnv.csrRead (e : RvEnv) (h : Hart) (n : Nat) : Option Word :=
  if n = 0x001 then if h.fOn then some (BitVec.ofNat 64 (bits h.fcsr.toNat 0 5)) else none
  else if n = 0x002 then if h.fOn then some (BitVec.ofNat 64 h.frm) else none
  else if n = 0x003 then if h.fOn then some (BitVec.ofNat 64 (bits h.fcsr.toNat 0 8)) else none
  else if n = 0x008 then if h.vOn then some h.vstart else none
  else if n = 0x009 then if h.vOn then some (h.vcsr &&& 1) else none
  else if n = 0x00A then if h.vOn then some ((h.vcsr >>> 1) &&& 3) else none
  else if n = 0x00F then if h.vOn then some h.vcsr else none
  else if n = 0xC20 then if h.vOn then some h.vl else none
  else if n = 0xC21 then if h.vOn then some h.vtype else none
  else if n = 0xC22 then if h.vOn then some 32 else none
  else if 0xC00 ≤ n ∧ n < 0xC20 then if h.counterOk (n - 0xC00) then some (e.counter (n - 0xC00)) else none
  else if sCsr n then if h.sCsrOk n then some (h.readS n) else none
  else if h.mode == 3 then (h.readMCsr n).orElse fun _ => (e.s.paddock.harts[e.h]?).bind fun r => r.readM e.h n
  else none

/-- Write a register of Zicsr; none where the access is illegal. -/
def Hart.csrWrite (h : Hart) (n : Nat) (v : Word) : Option Hart :=
  let f := h.fcsr.toNat
  if n = 0x001 then some { h with fcsr := BitVec.ofNat 32 (setBits f 0 5 (fld v 0 5)) }.fDirty
  else if n = 0x002 then some { h with fcsr := BitVec.ofNat 32 (setBits f 5 3 (fld v 0 3)) }.fDirty
  else if n = 0x003 then some { h with fcsr := BitVec.ofNat 32 (fld v 0 8) }.fDirty
  else if n = 0x008 then some { h with vstart := v &&& 0xFF }.vDirty
  else if n = 0x009 then some { h with vcsr := setFld h.vcsr 0 1 (fld v 0 1) }.vDirty
  else if n = 0x00A then some { h with vcsr := setFld h.vcsr 1 2 (fld v 0 2) }.vDirty
  else if n = 0x00F then some { h with vcsr := v &&& 7 }.vDirty
  else if sCsr n then if h.sCsrOk n then some (h.writeS n v) else none
  else if h.mode == 3 then h.writeMCsr n v
  else none

/-- CSRRW, CSRRS, CSRRC and their immediate forms. -/
def RvEnv.csr (e : RvEnv) (h : Hart) (w len : Nat) : RvDone :=
  let n := bits w 20 12
  let f3 := rvF3 w
  let rs := rvRs1 w
  let src : Word := if 4 ≤ f3 then BitVec.ofNat 64 rs else h.getX rs
  let writes := f3 % 4 = 1 || rs != 0
  match e.csrRead h n with
  | none => .err h (illegal w)
  | some old =>
    if !writes then .ok ((h.setX (rvRd w) old).next len)
    else
      let v := match f3 % 4 with | 1 => src | 2 => old ||| src | _ => old &&& ~~~src
      match h.csrWrite n v with
      | none =>
        if h.mode == 3 && 0x7C0 ≤ n && n ≤ 0x7C4 then .wrote ((h.setX (rvRd w) old).next len) [.bound e.h n v] else .err h (illegal w)
      | some h1 => .ok ((h1.setX (rvRd w) old).next len)

/-! ### Loads, stores and atomics -/

/-- LB to LWU and LD. -/
def RvEnv.loads (e : RvEnv) (h : Hart) (w len : Nat) : RvDone :=
  let f3 := rvF3 w
  let n := 2 ^ (f3 % 4)
  if f3 = 7 then .err h (illegal w)
  else
    .of h (e.load h true (h.getX (rvRs1 w) + rvImmI w) n) fun v =>
      .ok ((h.setX (rvRd w) (if f3 < 4 then rvSext (8 * n) v else BitVec.ofNat 64 v)).next len)

/-- SB to SD. -/
def RvEnv.stores (e : RvEnv) (h : Hart) (w len : Nat) : RvDone :=
  let f3 := rvF3 w
  if 4 ≤ f3 then .err h (illegal w)
  else
    .of h (e.store h 0 (h.getX (rvRs1 w) + rvImmS w) (leBytes (2 ^ f3) (h.getX (rvRs2 w)).toNat)) fun x => .wrote (h.next len) x

/-- FLW, FLD. -/
def RvEnv.loadF (e : RvEnv) (h : Hart) (w len : Nat) : RvDone :=
  let n := 2 ^ rvF3 w
  if !h.fOn then .err h (illegal w)
  else
    .of h (e.load h true (h.getX (rvRs1 w) + rvImmI w) n) fun v =>
      .ok ((h.setF (rvRd w) (if n = 4 then rvBox v else BitVec.ofNat 64 v)).next len)

/-- FSW, FSD. -/
def RvEnv.storeF (e : RvEnv) (h : Hart) (w len : Nat) : RvDone :=
  if !h.fOn then .err h (illegal w)
  else
    .of h (e.store h 0 (h.getX (rvRs1 w) + rvImmS w) (leBytes (2 ^ rvF3 w) (h.getF (rvRs2 w)).toNat)) fun x => .wrote (h.next len) x

/-- The atomic operation of a funct5. -/
def rvAmo (f5 : Nat) : Option AmoOp :=
  match f5 with
  | 0x00 => some .add
  | 0x01 => some .swap
  | 0x04 => some .xor
  | 0x08 => some .or
  | 0x0C => some .and
  | 0x10 => some .min
  | 0x14 => some .max
  | 0x18 => some .minu
  | 0x1C => some .maxu
  | _ => none

/-- The HBM address that a pen-physical address has now. -/
def RvEnv.hbmAt (e : RvEnv) (a n : Nat) : Except RvExc Nat := (e.hbmRuns .rd a n).map fun l => (l.map (·.1)).headD 0

/-- LR, SC and the AMOs (R223). A reservation covers the eight bytes that hold it. -/
def RvEnv.atomics (e : RvEnv) (h : Hart) (w len : Nat) : RvDone :=
  let f3 := rvF3 w
  let n := 2 ^ f3
  let va := h.getX (rvRs1 w)
  let f5 := bits w 27 5
  let src := h.getX (rvRs2 w)
  let put (v : Nat) : Hart := h.setX (rvRd w) (rvSext (8 * n) v)
  if f3 != 2 && f3 != 3 then .err h (illegal w)
  else if f5 = 2 then
    if rvRs2 w != 0 then .err h (illegal w)
    else if va.toNat % n != 0 then .err h (.trap 4 va)
    else
      .of h (e.translate h .load va.toNat) fun a =>
        .of h (e.hbmAt a n) fun pa =>
          .of h (e.readPhys .load false a n) fun b => .ok ({ put (leNat b) with resv := some (pa / 8 * 8) }.next len)
  else if f5 = 3 then
    if va.toNat % n != 0 then .err h (.trap 6 va)
    else
      .of h (e.translate h .store va.toNat) fun a =>
        .of h (e.hbmAt a n) fun pa =>
          let h1 : Hart := { h with resv := none }
          if h.resv == some (pa / 8 * 8) then
            .of h (e.writePhys 0 true a (leBytes n src.toNat)) fun x => .wrote ((h1.setX (rvRd w) 0).next len) x
          else .ok ((h1.setX (rvRd w) 1).next len)
  else
    match rvAmo f5 with
    | none => .err h (illegal w)
    | some op =>
      if va.toNat % n != 0 then .err h (.trap 6 va)
      else
        .of h (e.translate h .store va.toNat) fun a =>
          .of h (e.readPhys .load false a n) fun b =>
            let new := (amoNew (8 * n) op (leNat b) (src.toNat % 2 ^ (8 * n)) 0).getD 0
            .of h (e.writePhys 0 true a (leBytes n new)) fun x => .wrote ((put (leNat b)).next len) x

/-! ### Floating point -/

/-- The format of a floating-point instruction: 0 single, 1 double. -/
def rvFmt (n : Nat) : Option Fmt := match n with | 0 => some .f32 | 1 => some .f64 | _ => none

/-- A result in a floating-point register, with its flags. -/
def Hart.putF (h : Hart) (f : Fmt) (r : Nat) (x : Res) : Hart := (h.setF r (rvPutF f x.v)).raise x.f

/-- A result in an integer register, with its flags. -/
def Hart.putX (h : Hart) (r : Nat) (v : Word) (f : Flags) : Hart := (h.setX r v).raise f

/-- Width and signedness of an integer operand of a conversion. -/
def rvInt (k : Nat) : Option (Nat × Bool) :=
  match k with
  | 0 => some (32, true)
  | 1 => some (32, false)
  | 2 => some (64, true)
  | 3 => some (64, false)
  | _ => none

/-- An integer operand as an exact integer. -/
def rvIntOf (n : Nat) (sg : Bool) (v : Word) : Int := if sg then signedOf n v.toNat else (v.toNat % 2 ^ n : Nat)

/-- Operations of opcode 0x53 that round: by the upper five bits of funct7. -/
def Hart.fRounds (h : Hart) (f : Fmt) (f5 rd rs2 : Nat) (m : RMode) (x y : Word) : Option Hart :=
  let a := rvGetF f x
  let b := rvGetF f y
  match f5 with
  | 0x00 => some (h.putF f rd (rvAdd f m false a b))
  | 0x01 => some (h.putF f rd (rvAdd f m true a b))
  | 0x02 => some (h.putF f rd (rvMul f m a b))
  | 0x03 => some (h.putF f rd (rvFdiv f m a b))
  | 0x0B => if rs2 = 0 then some (h.putF f rd (rvSqrt f m a)) else none
  | 0x08 =>
    match f, rs2 with
    | .f32, 1 => some (h.putF .f32 rd (rvCvt .f64 .f32 m x.toNat))
    | .f64, 0 => some (h.putF .f64 rd (rvCvt .f32 .f64 m (rvUnbox x)))
    | _, _ => none
  | 0x18 => (rvInt rs2).map fun k =>
      let r := rvToInt k.1 k.2 f m a
      h.putX rd (rvSext k.1 r.v) r.f
  | _ => none

/-- Operations of opcode 0x53 that do not round: by the upper five bits of funct7 and funct3. -/
def Hart.fPlain (h : Hart) (f : Fmt) (f5 f3 rd rs2 : Nat) (x y : Word) : Option Hart :=
  let a := rvGetF f x
  let b := rvGetF f y
  let n := if f == .f32 then 32 else 64
  match f5, f3 with
  | 0x04, 0 => some (h.setF rd (rvPutF f (rvSgnj n 0 a b)))
  | 0x04, 1 => some (h.setF rd (rvPutF f (rvSgnj n 1 a b)))
  | 0x04, 2 => some (h.setF rd (rvPutF f (rvSgnj n 2 a b)))
  | 0x05, 0 => some (h.putF f rd (rvMinMax f false a b))
  | 0x05, 1 => some (h.putF f rd (rvMinMax f true a b))
  | 0x14, 0 => let r := fCmp f .le a b; some (h.putX rd (rvBool r.1) r.2)
  | 0x14, 1 => let r := fCmp f .lt a b; some (h.putX rd (rvBool r.1) r.2)
  | 0x14, 2 => let r := fCmp f .eq a b; some (h.putX rd (rvBool r.1) r.2)
  | 0x1C, 0 => if rs2 = 0 then some (h.setX rd (rvSext n x.toNat)) else none
  | 0x1C, 1 => if rs2 = 0 then some (h.setX rd (BitVec.ofNat 64 (rvClass f a))) else none
  | _, _ => none

/-- Opcode 0x53. -/
def Hart.fOps (h : Hart) (w len : Nat) : RvDone :=
  let rd := rvRd w
  let rs2 := rvRs2 w
  let f5 := bits w 27 5
  let x := h.getF (rvRs1 w)
  let y := h.getF rs2
  let r : Option Hart :=
    match rvFmt (bits w 25 2) with
    | none => none
    | some f =>
      if f5 = 0x1A then
        match rvInt rs2, rvMode h.frm (rvF3 w) with
        | some k, some m => some (h.putF f rd (rvOfInteger f m (rvIntOf k.1 k.2 (h.getX (rvRs1 w)))))
        | _, _ => none
      else if f5 = 0x1E then
        if rvF3 w = 0 && rs2 = 0 then some (h.setF rd (rvPutF f (h.getX (rvRs1 w)).toNat)) else none
      else if f5 = 0x04 || f5 = 0x05 || f5 = 0x14 || f5 = 0x1C then h.fPlain f f5 (rvF3 w) rd rs2 x y
      else (rvMode h.frm (rvF3 w)).bind fun m => h.fRounds f f5 rd rs2 m x y
  match h.fOn, r with
  | true, some h1 => .ok (h1.next len)
  | _, _ => .err h (illegal w)

/-- FMADD, FMSUB, FNMSUB and FNMADD. -/
def Hart.fFmas (h : Hart) (w len : Nat) : RvDone :=
  let k := bits w 2 2
  match h.fOn, rvFmt (bits w 25 2), rvMode h.frm (rvF3 w) with
  | true, some f, some m =>
    let g (r : Nat) : Nat := rvGetF f (h.getF r)
    .ok ((h.putF f (rvRd w) (rvFma f m (decide (2 ≤ k)) (k = 1 || k = 3) (g (rvRs1 w)) (g (rvRs2 w)) (g (bits w 27 5)))).next len)
  | _, _, _ => .err h (illegal w)

/-! ### System instructions -/

/-- ECALL, EBREAK, SRET, MRET, WFI, SFENCE.VMA. An ecall of S-mode is the monitor's (R225). -/
def Hart.system (h : Hart) (w len : Nat) : RvDone :=
  if w = 0x00000073 then
    if h.mode == 1 then { RvDone.ok (h.next len) with sbi := true } else .err h (.trap (if h.mode == 3 then 11 else 8) 0)
  else if w = 0x00100073 then .err h (.trap 3 (if Config.breakTval then h.pc else 0))
  else if w = 0x10500073 then
    if h.mode != 3 && bit h.m.status 21 then .err h (illegal w) else { RvDone.ok (h.next len) with wfi := true }
  else if w = 0x10200073 then
    if h.mode == 3 || (h.mode == 1 && !bit h.m.status 22) then .ok h.sret else .err h (illegal w)
  else if w = 0x30200073 then if h.mode == 3 then .ok h.mret else .err h (illegal w)
  else if rvF7 w = 0x09 && rvRd w = 0 then
    if h.mode == 3 || (h.mode == 1 && !bit h.m.status 20) then .ok (h.next len) else .err h (illegal w)
  else .err h (illegal w)

/-- Every scalar instruction but those of vectors; none where the opcode belongs to them. -/
def RvEnv.scalar (e : RvEnv) (h : Hart) (w len : Nat) : RvDone :=
  let a := h.getX (rvRs1 w)
  let b := h.getX (rvRs2 w)
  let alu (r : Option Word) : RvDone :=
    match r with
    | some v => .ok ((h.setX (rvRd w) v).next len)
    | none => .err h (illegal w)
  let link := h.pc + BitVec.ofNat 64 len
  match rvOp w with
  | 0x37 => alu (some (rvImmU w))
  | 0x17 => alu (some (h.pc + rvImmU w))
  | 0x6F => .ok { h.setX (rvRd w) link with pc := h.pc + rvImmJ w }
  | 0x67 =>
    if rvF3 w = 0 then .ok { h.setX (rvRd w) link with pc := (a + rvImmI w) &&& 0xFFFFFFFFFFFFFFFE } else .err h (illegal w)
  | 0x63 =>
    match rvBranch (rvF3 w) a b with
    | some true => .ok { h with pc := h.pc + rvImmB w }
    | some false => .ok (h.next len)
    | none => .err h (illegal w)
  | 0x03 => e.loads h w len
  | 0x23 => e.stores h w len
  | 0x13 => alu (rvAluI w a)
  | 0x1B => alu (rvAluIW w a)
  | 0x33 => alu (rvAlu (rvF7 w) (rvF3 w) a b)
  | 0x3B => alu (rvAluW (rvF7 w) (rvF3 w) (rvRs2 w) a b)
  | 0x0F => if rvF3 w ≤ 1 then .ok (h.next len) else .err h (illegal w)
  | 0x2F => e.atomics h w len
  | 0x07 => e.loadF h w len
  | 0x27 => e.storeF h w len
  | 0x53 => h.fOps w len
  | 0x43 => h.fFmas w len
  | 0x47 => h.fFmas w len
  | 0x4B => h.fFmas w len
  | 0x4F => h.fFmas w len
  | 0x73 => if rvF3 w = 0 then h.system w len else if rvF3 w = 4 then .err h (illegal w) else e.csr h w len
  | _ => .err h (illegal w)

end Sys2Proof.Machine
end

