-- ==== Sys2Proof/Machine/RvVec.lean ====
section
/-! DEFINITION. Vectors of a hart: configuration, loads and stores, integer, fixed-point, mask and permutation instructions (R222,
R223: VLEN 256, ELEN 64, tails and masked elements undisturbed; log 10). -/

namespace Sys2Proof.Machine

/-! ### Elements -/

/-- Element `i` of `n` bits of a register group. -/
def Hart.vget (h : Hart) (n reg i : Nat) : Nat := bits (h.v.toList.getD (reg + i * n / 256) 0).toNat (i * n % 256) n

/-- Replace an element. -/
def Hart.vset (h : Hart) (n reg i v : Nat) : Hart :=
  let r := reg + i * n / 256
  { h with v := h.v.setIfInBounds r (BitVec.ofNat 256 (setBits (h.v.toList.getD r 0).toNat (i * n % 256) n (v % 2 ^ n))) }

/-- Bit `i` of a mask register. -/
def Hart.vbit (h : Hart) (reg i : Nat) : Bool := (h.v.toList.getD reg 0).getLsbD i

/-- Replace a bit of a mask register. -/
def Hart.vsetBit (h : Hart) (reg i : Nat) (b : Bool) : Hart := h.vset 1 reg i b.toNat

/-- What a vector instruction works under: element width, log2 of LMUL, vl, vstart, its mask bit and registers. -/
structure VecCtx where
  n : Nat
  lm : Int
  vl : Nat
  start : Nat
  vm : Bool
  vd : Nat
  vs1 : Nat
  vs2 : Nat

/-- log2 of LMUL of a vtype. -/
def lmOf (vtype : Word) : Int := signedOf 3 (fld vtype 0 3)

/-- The context of an instruction. -/
def Hart.vctx (h : Hart) (w : Nat) : VecCtx :=
  { n := sewOf h.vtype, lm := lmOf h.vtype, vl := h.vl.toNat, start := h.vstart.toNat, vm := bits w 25 1 == 1,
    vd := rvRd w, vs1 := rvRs1 w, vs2 := rvRs2 w }

/-- Registers of a group. -/
def vRegs (lm : Int) : Nat := 2 ^ lm.toNat

/-- Is a register the start of a legal group? -/
def vGroup (lm : Int) (r : Nat) : Bool := decide (-3 ≤ lm ∧ lm ≤ 3) && r % vRegs lm == 0

/-- May a destination overlap a source: the same element widths, a narrower destination at the lowest part of the source, or a
wider one whose highest part is the source? -/
def vOverlap (dn : Nat) (dl : Int) (d sn : Nat) (sl : Int) (r : Nat) : Bool :=
  !overlaps d (vRegs dl) r (vRegs sl) || dn == sn || (decide (dn < sn) && d == r) ||
    (decide (sn < dn) && decide (0 ≤ sl) && d + vRegs dl == r + vRegs sl)

/-- A source group of a width, against the destination's. -/
def VecCtx.src (c : VecCtx) (dn : Nat) (dl : Int) (sn : Nat) (sl : Int) (r : Nat) : Bool :=
  vGroup sl r && vOverlap dn dl c.vd sn sl r

/-- May the destination be v0 (not under a mask)? -/
def VecCtx.noV0 (c : VecCtx) : Bool := c.vm || c.vd != 0

/-- Is element `i` one of the body that the mask allows? -/
def Hart.vactive (h : Hart) (c : VecCtx) (i : Nat) : Bool := decide (c.start ≤ i) && (c.vm || h.vbit 0 i)

/-- Write the active elements, of `n` bits, from values of the state before. -/
def Hart.vEach (h : Hart) (c : VecCtx) (n : Nat) (f : Nat → Nat) : Hart :=
  (List.range c.vl).foldl (fun k i => if h.vactive c i then k.vset n c.vd i (f i) else k) h

/-- Write the active bits of a mask destination. -/
def Hart.vEachBit (h : Hart) (c : VecCtx) (f : Nat → Bool) : Hart :=
  (List.range c.vl).foldl (fun k i => if h.vactive c i then k.vsetBit c.vd i (f i) else k) h

/-- Write the active elements with flags. -/
def Hart.vEachF (h : Hart) (c : VecCtx) (n : Nat) (f : Nat → Res) : Hart :=
  let l := (List.range c.vl).filter (h.vactive c)
  (l.foldl (fun (k : Hart) i => k.vset n c.vd i (f i).v) h).raise (l.foldl (fun a i => a ||| (f i).f) 0)

/-- A vector instruction is over: vstart reads 0, the vector state is dirty. -/
def Hart.vdone (h : Hart) : Hart := { h with vstart := 0 }.vDirty

/-! ### Configuration -/

/-- The vl that an AVL gives. -/
def vlOf (avl vlmax : Nat) : Nat :=
  if avl ≤ vlmax then avl
  else if 2 * vlmax ≤ avl then vlmax
  else max ((avl + 1) / 2) (min vlmax (Config.vlChoice avl vlmax))

/-- VSETVLI, VSETIVLI, VSETVL. -/
def Hart.vset' (h : Hart) (w len : Nat) : RvDone :=
  let rd := rvRd w
  let rs := rvRs1 w
  let ivli := bits w 30 2 == 3
  let vl := bits w 25 7 == 0x40
  if bits w 31 1 = 1 && !ivli && !vl then .err h (illegal w)
  else
    let vt : Word :=
      if bits w 31 1 = 0 then BitVec.ofNat 64 (bits w 20 11) else if ivli then BitVec.ofNat 64 (bits w 20 10) else h.getX (rvRs2 w)
    let vt := vtypeOf vt
    let mx := if bit vt 63 then 0 else vlmaxOf vt
    let n :=
      if bit vt 63 then 0
      else if ivli then vlOf rs mx
      else if rs = 0 then if rd = 0 then min h.vl.toNat mx else mx
      else vlOf (h.getX rs).toNat mx
    .ok (({ h with vtype := vt, vl := BitVec.ofNat 64 n }.vdone.setX rd (BitVec.ofNat 64 n)).next len)

/-! ### Loads and stores -/

/-- Where a vector access goes: elements, fields, bytes of an element, log2 of the data group's LMUL, the addresses. -/
structure VecMem where
  vl : Nat
  nf : Nat
  b : Nat
  lm : Int
  addr : Nat → Word
  fof : Bool

/-- log2 of a power of two among the element widths. -/
def lg (n : Nat) : Int := (n.log2 : Int)

/-- Read the addressing of a vector load or store; none where it is illegal. -/
def Hart.vmem (h : Hart) (w : Nat) (store : Bool) : Option VecMem :=
  let c := h.vctx w
  let eew := match rvF3 w with | 0 => 8 | 5 => 16 | 6 => 32 | _ => 64
  let nf := bits w 29 3 + 1
  let base := h.getX c.vs1
  let mop := bits w 26 2
  let um := c.vs2
  let off (k : Nat) : Word := BitVec.ofNat 64 k
  if bits w 28 1 = 1 then none
  else if mop = 0 && um = 8 then
    if c.vm && (nf = 1 || nf = 2 || nf = 4 || nf = 8) && c.vd % nf == 0 && (!store || eew == 8) then
      some { vl := nf * 256 / eew, nf := 1, b := eew / 8, lm := lg nf, addr := fun i => base + off (i * (eew / 8)), fof := false }
    else none
  else if bit h.vtype 63 then none
  else if mop = 0 && um = 0x0B then
    if c.vm && nf == 1 && eew == 8 then
      some { vl := (c.vl + 7) / 8, nf := 1, b := 1, lm := 0, addr := fun i => base + off i, fof := false }
    else none
  else
    let indexed := mop % 2 == 1
    let dn := if indexed then c.n else eew
    let lm := c.lm + lg dn - lg c.n
    let il := c.lm + lg eew - lg c.n
    let b := dn / 8
    let span := nf * vRegs lm
    let addr (i : Nat) : Word :=
      if indexed then base + off (h.vget eew c.vs2 i)
      else if mop = 2 then base + off i * h.getX c.vs2
      else base + off (i * nf * b)
    let fof := mop = 0 && um = 0x10 && !store
    let okIx := !indexed || (vGroup il c.vs2 && (store || (if nf = 1 then vOverlap dn lm c.vd eew il c.vs2
      else !overlaps c.vd span c.vs2 (vRegs il))))
    if (mop = 0 && um != 0 && !fof) || !vGroup lm c.vd || 8 < span || 32 < c.vd + span || !okIx || (!store && !c.noV0) then none
    else some { vl := c.vl, nf := nf, b := b, lm := lm, addr := addr, fof := fof }

/-- Load the fields of element `i`: the hart, or the exception. -/
def RvEnv.vloadElem (e : RvEnv) (m : VecMem) (vd i : Nat) (h : Hart) : Except RvExc Hart :=
  (List.range m.nf).foldl (fun (r : Except RvExc Hart) f =>
    r.bind fun k => (e.load h false (m.addr i + BitVec.ofNat 64 (f * m.b)) m.b).map fun v =>
      k.vset (8 * m.b) (vd + f * vRegs m.lm) i v) (.ok h)

/-- The elements of a load from `i` on. -/
def RvEnv.vload (e : RvEnv) (c : VecCtx) (m : VecMem) (h0 : Hart) : List Nat → Hart → RvDone
  | [], h => .ok h.vdone
  | i :: l, h =>
    if !h0.vactive c i then e.vload c m h0 l h
    else
      match e.vloadElem m c.vd i h with
      | .ok k => e.vload c m h0 l k
      | .error (.copy g) => .err h (.copy g)
      | .error x =>
        if m.fof && decide (0 < i) then .ok { h with vl := BitVec.ofNat 64 i }.vdone
        else .err { h with vstart := BitVec.ofNat 64 i }.vDirty x

/-- The writes of the fields of element `i`. -/
def RvEnv.vstoreElem (e : RvEnv) (m : VecMem) (vd i : Nat) (h : Hart) : Except RvExc (List RvWr) :=
  (List.range m.nf).foldl (fun (r : Except RvExc (List RvWr)) f =>
    r.bind fun ws => (e.store h m.b (m.addr i + BitVec.ofNat 64 (f * m.b))
      (leBytes m.b (h.vget (8 * m.b) (vd + f * vRegs m.lm) i))).map fun x => ws ++ x) (.ok [])

/-- The elements of a store from `i` on, with the writes of those before. -/
def RvEnv.vstore (e : RvEnv) (c : VecCtx) (m : VecMem) (h : Hart) : List Nat → List RvWr → RvDone
  | [], ws => .wrote h.vdone ws
  | i :: l, ws =>
    if !h.vactive c i then e.vstore c m h l ws
    else
      match e.vstoreElem m c.vd i h with
      | .ok x => e.vstore c m h l (ws ++ x)
      | .error x => { RvDone.err { h with vstart := BitVec.ofNat 64 i }.vDirty x with wr := ws }

/-- A vector load or store. -/
def RvEnv.vecMem (e : RvEnv) (h : Hart) (w len : Nat) (store : Bool) : RvDone :=
  match h.vOn, h.vmem w store with
  | true, some m =>
    let c := h.vctx w
    let r := if store then e.vstore c m h (List.range m.vl) [] else e.vload c m h (List.range m.vl) h
    match r.exc with
    | none => { r with h := r.h.next len }
    | some _ => r
  | _, _ => .err h (illegal w)

/-! ### Integer arithmetic of elements -/

/-- A signed element as an integer, an integer as an element. -/
def sg (n v : Nat) : Int := signedOf n v
def un (n : Nat) (i : Int) : Nat := (i % (2 ^ n : Nat)).toNat

/-- The rounding increment of vxrm for a shift by `d` (vector fixed point). -/
def vround (vxrm v d : Nat) : Nat :=
  if d = 0 then 0
  else
    let low := v % 2 ^ (d - 1)
    let half := (v.testBit (d - 1)).toNat
    match vxrm with
    | 0 => half
    | 1 => if half = 1 && (low != 0 || v.testBit d) then 1 else 0
    | 2 => 0
    | _ => if !v.testBit d && v % 2 ^ d != 0 then 1 else 0

/-- A signed or unsigned number, given in two's complement of `k` bits, shifted right with rounding. -/
def vshift (vxrm k v d : Nat) (sgn : Bool) : Int :=
  (if sgn then sg k v / (2 ^ d : Nat) else (v / 2 ^ d : Nat)) + (vround vxrm v d : Nat)

/-- A saturated element, and whether it was saturated. -/
def vsat (n : Nat) (sgn : Bool) (i : Int) : Nat × Bool :=
  let lo : Int := if sgn then -(2 ^ (n - 1) : Nat) else 0
  let hi : Int := (if sgn then 2 ^ (n - 1) else 2 ^ n : Nat) - 1
  let r := max lo (min hi i)
  (un n r, r != i)

/-- Operations on elements of one width: funct6 of the OPI forms; `a` is vs2, `b` vs1, the scalar or the immediate. -/
def vOpI (n f6 a b : Nat) : Option Nat :=
  let sh := b % n
  match f6 with
  | 0x00 => some (a + b)
  | 0x02 => some (a + 2 ^ n - b)
  | 0x03 => some (b + 2 ^ n - a)
  | 0x04 => some (min a b)
  | 0x05 => some (if sg n a ≤ sg n b then a else b)
  | 0x06 => some (max a b)
  | 0x07 => some (if sg n a ≤ sg n b then b else a)
  | 0x09 => some (a &&& b)
  | 0x0A => some (a ||| b)
  | 0x0B => some (a ^^^ b)
  | 0x25 => some (a * 2 ^ sh)
  | 0x28 => some (a / 2 ^ sh)
  | 0x29 => some (un n (sg n a / (2 ^ sh : Nat)))
  | _ => none

/-- Operations that saturate or round (fixed point): the element and vxsat. -/
def vOpSat (vxrm n f6 a b : Nat) : Option (Nat × Bool) :=
  let sh := b % n
  match f6 with
  | 0x20 => some (vsat n false ((a + b : Nat) : Int))
  | 0x21 => some (vsat n true (sg n a + sg n b))
  | 0x22 => some (vsat n false ((a : Int) - b))
  | 0x23 => some (vsat n true (sg n a - sg n b))
  | 0x27 => some (vsat n true (vshift vxrm (2 * n) (un (2 * n) (sg n a * sg n b)) (n - 1) true))
  | 0x2A => some (un n (vshift vxrm n a sh false), false)
  | 0x2B => some (un n (vshift vxrm n a sh true), false)
  | _ => none

/-- Comparisons. -/
def vCmp (n f6 a b : Nat) : Option Bool :=
  match f6 with
  | 0x18 => some (a == b)
  | 0x19 => some (a != b)
  | 0x1A => some (decide (a < b))
  | 0x1B => some (decide (sg n a < sg n b))
  | 0x1C => some (decide (a ≤ b))
  | 0x1D => some (decide (sg n a ≤ sg n b))
  | 0x1E => some (decide (b < a))
  | 0x1F => some (decide (sg n b < sg n a))
  | _ => none

/-- Operations on elements of one width: funct6 of the OPM forms; `d` the destination's old value. -/
def vOpM (vxrm n f6 a b d : Nat) : Option Nat :=
  let p := sg n a * sg n b
  match f6 with
  | 0x08 => some (un n (vshift vxrm (n + 1) (a + b) 1 false))
  | 0x09 => some (un n (vshift vxrm (n + 1) (un (n + 1) (sg n a + sg n b)) 1 true))
  | 0x0A => some (un n (vshift vxrm (n + 1) (un (n + 1) ((a : Int) - b)) 1 true))
  | 0x0B => some (un n (vshift vxrm (n + 1) (un (n + 1) (sg n a - sg n b)) 1 true))
  | 0x20 => some (rvDivu a b n)
  | 0x21 => some (un n (rvDiv n a b))
  | 0x22 => some (rvRemu a b)
  | 0x23 => some (un n (rvRem n a b))
  | 0x24 => some (a * b / 2 ^ n)
  | 0x25 => some (a * b)
  | 0x26 => some (un n (sg n a * (b : Int) / (2 ^ n : Nat)))
  | 0x27 => some (un n (p / (2 ^ n : Nat)))
  | 0x29 => some (un n (sg n d * sg n b + sg n a))
  | 0x2B => some (un n (sg n a - sg n d * sg n b))
  | 0x2D => some (un n (p + sg n d))
  | 0x2F => some (un n (sg n d - p))
  | _ => none

/-- Widening operations: the exact integer of twice the width; `d` the destination's old value. -/
def vOpW (n f6 a b d : Nat) (scalar : Bool) : Option Int :=
  let x : Int := a
  let y : Int := b
  match f6 with
  | 0x30 => some (x + y)
  | 0x31 => some (sg n a + sg n b)
  | 0x32 => some (x - y)
  | 0x33 => some (sg n a - sg n b)
  | 0x34 => some (x + y)
  | 0x35 => some (sg (2 * n) a + sg n b)
  | 0x36 => some (x - y)
  | 0x37 => some (sg (2 * n) a - sg n b)
  | 0x38 => some (x * y)
  | 0x3A => some (sg n a * y)
  | 0x3B => some (sg n a * sg n b)
  | 0x3C => some (x * y + d)
  | 0x3D => some (sg n a * sg n b + d)
  | 0x3E => if scalar then some (sg n a * y + d) else none
  | 0x3F => some (x * sg n b + d)
  | _ => none

/-- Reductions. -/
def vRed (n f6 a b : Nat) : Option Nat :=
  match f6 with
  | 0 => some (a + b)
  | 1 => some (a &&& b)
  | 2 => some (a ||| b)
  | 3 => some (a ^^^ b)
  | 4 => some (min a b)
  | 5 => some (if sg n a ≤ sg n b then a else b)
  | 6 => some (max a b)
  | 7 => some (if sg n a ≤ sg n b then b else a)
  | _ => none

/-- Logic of mask registers. -/
def vMaskOp (f6 : Nat) (a b : Bool) : Option Bool :=
  match f6 with
  | 0x18 => some (a && !b)
  | 0x19 => some (a && b)
  | 0x1A => some (a || b)
  | 0x1B => some (a != b)
  | 0x1C => some (a || !b)
  | 0x1D => some (!(a && b))
  | 0x1E => some (!(a || b))
  | 0x1F => some (a == b)
  | _ => none

/-! ### Instructions -/

/-- The second operand of element `i`: a vector, the integer scalar or the immediate. -/
def Hart.vb (h : Hart) (c : VecCtx) (f3 : Nat) (unsigned : Bool) (i : Nat) : Nat :=
  match f3 with
  | 0 => h.vget c.n c.vs1 i
  | 2 => h.vget c.n c.vs1 i
  | 3 => if unsigned then c.vs1 else un c.n (signedOf 5 c.vs1)
  | _ => (h.getX c.vs1).toNat % 2 ^ c.n

/-- The scalar or immediate operand as an index or a shift, not cut to the element's width. -/
def Hart.vscalar (h : Hart) (c : VecCtx) (f3 : Nat) : Nat := if f3 = 3 then c.vs1 else (h.getX c.vs1).toNat

/-- Is the vector operand vs1 a legal group beside the destination? -/
def VecCtx.s1 (c : VecCtx) (f3 dn : Nat) (dl : Int) : Bool := (f3 != 0 && f3 != 2) || c.src dn dl c.n c.lm c.vs1

/-- Do destination and sources of one width stand in legal groups? -/
def VecCtx.same (c : VecCtx) (f3 : Nat) : Bool := c.noV0 && vGroup c.lm c.vd && vGroup c.lm c.vs2 && c.s1 f3 c.n c.lm

/-- A mask destination beside source groups. -/
def VecCtx.toMask (c : VecCtx) (f3 : Nat) : Bool := c.src 1 0 c.n c.lm c.vs2 && c.s1 f3 1 0

/-- VLMAX. -/
def VecCtx.vlmax (c : VecCtx) : Nat := if 0 ≤ c.lm then 256 * 2 ^ c.lm.toNat / c.n else 256 / 2 ^ (-c.lm).toNat / c.n

/-- vrgather and the slides. -/
def Hart.vPermI (h : Hart) (c : VecCtx) (f6 f3 : Nat) : Option Hart :=
  let x := h.vscalar c f3
  let at' (i : Nat) : Nat := if c.vlmax ≤ i then 0 else h.vget c.n c.vs2 i
  let apart (r : Nat) (lm : Int) : Bool := !overlaps c.vd (vRegs c.lm) r (vRegs lm)
  if !(c.noV0 && vGroup c.lm c.vd && vGroup c.lm c.vs2) then none
  else if f6 = 0x0C then
    if !apart c.vs2 c.lm || (f3 == 0 && !(vGroup c.lm c.vs1 && apart c.vs1 c.lm)) then none
    else some (h.vEach c c.n fun i => at' (if f3 = 0 then h.vget c.n c.vs1 i else x))
  else if f6 = 0x0E then
    if f3 = 0 then
      let il := c.lm + 4 - lg c.n
      if !apart c.vs2 c.lm || !(vGroup il c.vs1 && (apart c.vs1 il)) then none
      else some (h.vEach c c.n fun i => at' (h.vget 16 c.vs1 i))
    else if !apart c.vs2 c.lm then none
    else some (h.vEach { c with start := max c.start x } c.n fun i => h.vget c.n c.vs2 (i - x))
  else if f3 = 0 then none
  else some (h.vEach c c.n fun i => at' (i + x))

/-- vadc, vmadc, vsbc, vmsbc. -/
def Hart.vCarry (h : Hart) (c : VecCtx) (f6 f3 : Nat) : Option Hart :=
  let a (i : Nat) : Nat := h.vget c.n c.vs2 i
  let b (i : Nat) : Nat := h.vb c f3 false i
  let k (i : Nat) : Nat := if c.vm then 0 else (h.vbit 0 i).toNat
  let all : VecCtx := { c with vm := true }
  if (f6 = 0x12 || f6 = 0x13) && f3 = 3 then none
  else if f6 = 0x10 || f6 = 0x12 then
    if c.vm || !c.same f3 then none
    else some (h.vEach all c.n fun i => if f6 = 0x10 then a i + b i + k i else a i + 2 * 2 ^ c.n - b i - k i)
  else if !c.toMask f3 then none
  else some (h.vEachBit all fun i => if f6 = 0x11 then decide (2 ^ c.n ≤ a i + b i + k i) else decide (a i < b i + k i))

/-- vmerge and vmv.v. -/
def Hart.vMerge (h : Hart) (c : VecCtx) (f3 : Nat) : Option Hart :=
  let all : VecCtx := { c with vm := true }
  if c.vm then
    if c.vs2 != 0 || !vGroup c.lm c.vd || !c.s1 f3 c.n c.lm then none else some (h.vEach all c.n (h.vb c f3 false))
  else if !c.same f3 then none
  else some (h.vEach all c.n fun i => if h.vbit 0 i then h.vb c f3 false i else h.vget c.n c.vs2 i)

/-- vmv1r.v to vmv8r.v. -/
def Hart.vWhole (h : Hart) (c : VecCtx) : Option Hart :=
  let k := c.vs1 + 1
  if !c.vm || !(k == 1 || k == 2 || k == 4 || k == 8) || c.vd % k != 0 || c.vs2 % k != 0 then none
  else some ((List.range (32 * k)).foldl (fun x i => if c.start * c.n ≤ 8 * i then x.vset 8 c.vd i (h.vget 8 c.vs2 i) else x) h)

/-- vxsat. -/
def Hart.sat (h : Hart) (b : Bool) : Hart := if b then { h with vcsr := h.vcsr ||| 1 } else h

/-- Elements with vxsat. -/
def Hart.vEachSat (h : Hart) (c : VecCtx) (n : Nat) (f : Nat → Nat × Bool) : Hart :=
  (h.vEach c n fun i => (f i).1).sat (((List.range c.vl).filter (h.vactive c)).any fun i => (f i).2)

/-- vnsrl, vnsra, vnclipu, vnclip. -/
def Hart.vNarrow (h : Hart) (c : VecCtx) (f6 f3 vxrm : Nat) : Option Hart :=
  if 32 < c.n || !(c.noV0 && vGroup c.lm c.vd && c.src c.n c.lm (2 * c.n) (c.lm + 1) c.vs2 && c.s1 f3 c.n c.lm) then none
  else
    let a (i : Nat) : Nat := h.vget (2 * c.n) c.vs2 i
    let sh (i : Nat) : Nat := (if f3 = 0 then h.vget c.n c.vs1 i else h.vscalar c f3) % (2 * c.n)
    match f6 with
    | 0x2C => some (h.vEach c c.n fun i => a i / 2 ^ sh i)
    | 0x2D => some (h.vEach c c.n fun i => un c.n (sg (2 * c.n) (a i) / (2 ^ sh i : Nat)))
    | 0x2E => some (h.vEachSat c c.n fun i => vsat c.n false (vshift vxrm (2 * c.n) (a i) (sh i) false))
    | _ => some (h.vEachSat c c.n fun i => vsat c.n true (vshift vxrm (2 * c.n) (a i) (sh i) true))

/-- The result of a reduction over the active elements, from element 0 of vs1. -/
def Hart.vReduce (h : Hart) (c : VecCtx) (n : Nat) (f : Nat → Nat → Nat) (elem : Nat → Nat) : Option Hart :=
  if c.start != 0 then none
  else if c.vl = 0 then some h
  else
    let r := ((List.range c.vl).filter fun i => c.vm || h.vbit 0 i).foldl (fun a i => f a (elem i) % 2 ^ n) (h.vget n c.vs1 0)
    some (h.vset n c.vd 0 r)

/-- Instructions of the OPI forms (funct3 0, 3, 4). -/
def Hart.vecI (h : Hart) (w : Nat) : Option Hart :=
  let c := h.vctx w
  let f6 := bits w 26 6
  let f3 := rvF3 w
  let vxrm := fld h.vcsr 1 2
  let a (i : Nat) : Nat := h.vget c.n c.vs2 i
  let noVi := [0x02, 0x04, 0x05, 0x06, 0x07, 0x1A, 0x1B, 0x22, 0x23]
  if bit h.vtype 63 then none
  else if f6 = 0x27 && f3 = 3 then h.vWhole c
  else if (f3 == 3 && noVi.contains f6) || (f3 == 0 && [0x03, 0x1E, 0x1F].contains f6) then none
  else if f6 = 0x0C || f6 = 0x0E || f6 = 0x0F then h.vPermI c f6 f3
  else if 0x10 ≤ f6 && f6 ≤ 0x13 then h.vCarry c f6 f3
  else if f6 = 0x17 then h.vMerge c f3
  else if 0x2C ≤ f6 && f6 ≤ 0x2F then h.vNarrow c f6 f3 vxrm
  else if f6 = 0x30 || f6 = 0x31 then
    if f3 != 0 || 32 < c.n || !vGroup c.lm c.vs2 then none
    else h.vReduce c (2 * c.n) (· + ·) fun i => if f6 = 0x30 then a i else un (2 * c.n) (sg c.n (a i))
  else
    let un' := f6 = 0x25 || f6 = 0x28 || f6 = 0x29 || f6 = 0x2A || f6 = 0x2B
    let b (i : Nat) : Nat := h.vb c f3 un' i
    if (vCmp c.n f6 0 0).isSome then
      if c.toMask f3 then some (h.vEachBit c fun i => (vCmp c.n f6 (a i) (b i)).getD false) else none
    else if !c.same f3 then none
    else if (vOpI c.n f6 0 0).isSome then some (h.vEach c c.n fun i => (vOpI c.n f6 (a i) (b i)).getD 0)
    else if (vOpSat vxrm c.n f6 0 0).isSome then some (h.vEachSat c c.n fun i => (vOpSat vxrm c.n f6 (a i) (b i)).getD (0, false))
    else none

/-- vzext and vsext. -/
def Hart.vExtend (h : Hart) (c : VecCtx) : Option Hart :=
  let k : Nat := match c.vs1 / 2 with | 1 => 8 | 2 => 4 | _ => 2
  let n := c.n / k
  if c.vs1 < 2 || 7 < c.vs1 || n < 8 || !(c.noV0 && vGroup c.lm c.vd && c.src c.n c.lm n (c.lm - lg k) c.vs2) then none
  else some (h.vEach c c.n fun i => if c.vs1 % 2 = 1 then un c.n (sg n (h.vget n c.vs2 i)) else h.vget n c.vs2 i)

/-- vmsbf, vmsof, vmsif, viota, vid. -/
def Hart.vMaskUnary (h : Hart) (c : VecCtx) : Option Hart :=
  let act (i : Nat) : Bool := c.vm || h.vbit 0 i
  let set (i : Nat) : Bool := act i && h.vbit c.vs2 i
  let before (i : Nat) : Nat := ((List.range i).filter set).length
  let apart := c.vd != c.vs2 && c.noV0
  match c.vs1 with
  | 1 => if apart && c.start == 0 then some (h.vEachBit c fun i => before i == 0 && !set i) else none
  | 2 => if apart && c.start == 0 then some (h.vEachBit c fun i => before i == 0 && set i) else none
  | 3 => if apart && c.start == 0 then some (h.vEachBit c fun i => before i == 0) else none
  | 16 =>
    if c.noV0 && vGroup c.lm c.vd && c.start == 0 && !overlaps c.vd (vRegs c.lm) c.vs2 1 then some (h.vEach c c.n before) else none
  | 17 => if c.noV0 && vGroup c.lm c.vd && c.vs2 == 0 then some (h.vEach c c.n id) else none
  | _ => none

/-- vmv.x.s, vcpop.m, vfirst.m; vmv.s.x. -/
def Hart.vScalarMove (h : Hart) (c : VecCtx) (f3 : Nat) : Option Hart :=
  let set := (List.range c.vl).filter fun i => (c.vm || h.vbit 0 i) && h.vbit c.vs2 i
  if f3 = 6 then
    if c.vs2 != 0 || !c.vm then none
    else some (if c.start < c.vl then h.vset c.n c.vd 0 (h.getX c.vs1).toNat else h)
  else
    match c.vs1 with
    | 0 => if c.vm then some (h.setX c.vd (rvSext c.n (h.vget c.n c.vs2 0))) else none
    | 16 => if c.start = 0 then some (h.setX c.vd (BitVec.ofNat 64 set.length)) else none
    | 17 => if c.start = 0 then some (h.setX c.vd (match set with | i :: _ => BitVec.ofNat 64 i | [] => BitVec.allOnes 64)) else none
    | _ => none

/-- vcompress. -/
def Hart.vCompress (h : Hart) (c : VecCtx) : Option Hart :=
  if !c.vm || c.start != 0 || !vGroup c.lm c.vd || !vGroup c.lm c.vs2 || overlaps c.vd (vRegs c.lm) c.vs2 (vRegs c.lm) ||
      overlaps c.vd (vRegs c.lm) c.vs1 1 then none
  else
    let l := (List.range c.vl).filter fun i => h.vbit c.vs1 i
    some (l.zipIdx.foldl (fun k p => k.vset c.n c.vd p.2 (h.vget c.n c.vs2 p.1)) h)

/-- Widening integer instructions. -/
def Hart.vWiden (h : Hart) (c : VecCtx) (f6 f3 : Nat) : Option Hart :=
  let wide := 0x34 ≤ f6 && f6 ≤ 0x37
  let sn := if wide then 2 * c.n else c.n
  let sl := if wide then c.lm + 1 else c.lm
  if 32 < c.n || f6 = 0x39 || !(c.noV0 && vGroup (c.lm + 1) c.vd && c.src (2 * c.n) (c.lm + 1) sn sl c.vs2 &&
      c.s1 f3 (2 * c.n) (c.lm + 1)) || (vOpW c.n f6 0 0 0 (f3 = 6)).isNone then none
  else
    some (h.vEach c (2 * c.n) fun i =>
      un (2 * c.n) ((vOpW c.n f6 (h.vget sn c.vs2 i) (h.vb c f3 false i) (h.vget (2 * c.n) c.vd i) (f3 = 6)).getD 0))

/-- Instructions of the OPM forms (funct3 2, 6). -/
def Hart.vecM (h : Hart) (w : Nat) : Option Hart :=
  let c := h.vctx w
  let f6 := bits w 26 6
  let f3 := rvF3 w
  let vxrm := fld h.vcsr 1 2
  let a (i : Nat) : Nat := h.vget c.n c.vs2 i
  if bit h.vtype 63 then none
  else if f6 ≤ 7 then
    if f3 != 2 || !vGroup c.lm c.vs2 then none else h.vReduce c c.n (fun x y => (vRed c.n f6 x y).getD 0) a
  else if f6 = 0x0E then
    if f3 != 6 || !(c.noV0 && vGroup c.lm c.vd && vGroup c.lm c.vs2) || overlaps c.vd (vRegs c.lm) c.vs2 (vRegs c.lm) then none
    else some (h.vEach c c.n fun i => if i = 0 then (h.getX c.vs1).toNat else a (i - 1))
  else if f6 = 0x0F then
    if f3 != 6 || !(c.noV0 && vGroup c.lm c.vd && vGroup c.lm c.vs2) then none
    else some (h.vEach c c.n fun i => if i + 1 = c.vl then (h.getX c.vs1).toNat else a (i + 1))
  else if f6 = 0x10 then h.vScalarMove c f3
  else if f6 = 0x12 then if f3 = 2 then h.vExtend c else none
  else if f6 = 0x14 then if f3 = 2 then h.vMaskUnary c else none
  else if f6 = 0x17 then if f3 = 2 then h.vCompress c else none
  else if 0x18 ≤ f6 && f6 ≤ 0x1F then
    if f3 != 2 || !c.vm then none
    else some (h.vEachBit c fun i => (vMaskOp f6 (h.vbit c.vs2 i) (h.vbit c.vs1 i)).getD false)
  else if 0x30 ≤ f6 then h.vWiden c f6 f3
  else if !c.same f3 || (vOpM vxrm c.n f6 0 0 0).isNone then none
  else some (h.vEach c c.n fun i => (vOpM vxrm c.n f6 (a i) (h.vb c f3 false i) (h.vget c.n c.vd i)).getD 0)

end Sys2Proof.Machine
end

