-- ==== Sys2Proof/Machine/RvVecFp.lean ====
section
/-! DEFINITION. Floating-point vector instructions of a hart (R222, R223: the unordered sums add in ascending element order; log
10). -/

namespace Sys2Proof.Machine

/-- The floating-point format of an element width; there is none of 8 or 16 bits. -/
def vFmt (n : Nat) : Option Fmt := if n = 32 then some .f32 else if n = 64 then some .f64 else none

/-! ### The 7-bit estimates -/

/-- num / den rounded to the nearest integer, of a fraction in units of 1/128 above 1: 128 (x − 1). -/
def est7 (num den : Nat) : Nat := (2 * 128 * num + den) / (2 * den) - 128

/-- Mantissa of the reciprocal estimate of 1 + (i + 1/2)/128. -/
def recTable (i : Nat) : Nat := est7 (2 * 256) (256 + 2 * i + 1)

/-- Mantissa of the reciprocal square-root estimate: i of 0..63 the mantissas with an odd, of 64..127 with an even exponent. -/
def rsqrtTable (i : Nat) : Nat :=
  let j := i % 64
  let m := 128 + 2 * j + 1
  let v := if i < 64 then 2 * m else m
  (isqrt (2 ^ 40 * 4 * 128 / v) * 256 + 2 ^ 20) / 2 ^ 21 - 128

/-- A subnormal or normal magnitude as a mantissa fraction of p bits and its biased exponent, which may be 0 or below. -/
def normParts (f : Fmt) (a : Nat) : Int × Nat :=
  let e := a / 2 ^ f.p % 2 ^ f.e
  let m := a % 2 ^ f.p
  if e != 0 then (e, m)
  else
    let k := f.p - m.log2
    (1 - (k : Int), m * 2 ^ k % 2 ^ f.p)

/-- vfrsqrt7. -/
def vRsqrt7 (f : Fmt) (a : Nat) : Res :=
  match fDecode f a with
  | .nan s => ⟨f.nan, if s then fNV else 0⟩
  | .inf s => if s then ⟨f.nan, fNV⟩ else ⟨0, 0⟩
  | .num s n _ =>
    if n = 0 then ⟨rvInf f s, fDZ⟩
    else if s then ⟨f.nan, fNV⟩
    else
      let (e, m) := normParts f a
      let i := (e % 2).toNat * 64 + m / 2 ^ (f.p - 6)
      let oe := (3 * f.bias - 1 - e) / 2
      ⟨oe.toNat * 2 ^ f.p + rsqrtTable i * 2 ^ (f.p - 7), 0⟩

/-- vfrec7. -/
def vRec7 (f : Fmt) (mode : RMode) (a : Nat) : Res :=
  match fDecode f a with
  | .nan s => ⟨f.nan, if s then fNV else 0⟩
  | .inf s => ⟨f.signBit s, 0⟩
  | .num s n _ =>
    if n = 0 then ⟨rvInf f s, fDZ⟩
    else
      let (e, m) := normParts f a
      if e < -1 then
        let fin := match mode with | .rtz => true | .rdn => !s | .rup => s | _ => false
        ⟨if fin then rvInf f s - 1 else rvInf f s, fOF ||| fNX⟩
      else
        let t := recTable (m / 2 ^ (f.p - 7)) * 2 ^ (f.p - 7)
        let oe := 2 * f.bias - 1 - e
        if 0 < oe then ⟨f.signBit s + oe.toNat * 2 ^ f.p + t, 0⟩
        else ⟨f.signBit s + (2 ^ f.p + t) / 2 ^ (1 - oe).toNat, 0⟩

/-! ### Elements -/

/-- Rounding to odd, for vfncvt.rod: truncated, and the last bit set when inexact. -/
def rvRod (src dst : Fmt) (a : Nat) : Res :=
  let r := rvCvt src dst .rtz a
  ⟨if r.f &&& fNX != 0 then r.v ||| 1 else r.v, r.f⟩

/-- Operations on elements of one format: `a` is vs2, `b` vs1 or the scalar, `d` the destination's old value. -/
def vOpF (f : Fmt) (m : RMode) (f6 a b d : Nat) : Option Res :=
  let n := f.width
  match f6 with
  | 0x00 => some (rvAdd f m false a b)
  | 0x02 => some (rvAdd f m true a b)
  | 0x04 => some (rvMinMax f false a b)
  | 0x06 => some (rvMinMax f true a b)
  | 0x08 => some ⟨rvSgnj n 0 a b, 0⟩
  | 0x09 => some ⟨rvSgnj n 1 a b, 0⟩
  | 0x0A => some ⟨rvSgnj n 2 a b, 0⟩
  | 0x20 => some (rvFdiv f m a b)
  | 0x21 => some (rvFdiv f m b a)
  | 0x24 => some (rvMul f m a b)
  | 0x27 => some (rvAdd f m true b a)
  | 0x28 => some (rvFma f m false false d b a)
  | 0x29 => some (rvFma f m true true d b a)
  | 0x2A => some (rvFma f m false true d b a)
  | 0x2B => some (rvFma f m true false d b a)
  | 0x2C => some (rvFma f m false false b a d)
  | 0x2D => some (rvFma f m true true b a d)
  | 0x2E => some (rvFma f m false true b a d)
  | 0x2F => some (rvFma f m true false b a d)
  | _ => none

/-- Widening operations: the operands widened exactly. -/
def vOpFW (m : RMode) (f6 a b d : Nat) : Option Res :=
  match f6 with
  | 0x30 => some (rvAdd .f64 m false a b)
  | 0x32 => some (rvAdd .f64 m true a b)
  | 0x34 => some (rvAdd .f64 m false a b)
  | 0x36 => some (rvAdd .f64 m true a b)
  | 0x38 => some (rvMul .f64 m a b)
  | 0x3C => some (rvFma .f64 m false false a b d)
  | 0x3D => some (rvFma .f64 m true true a b d)
  | 0x3E => some (rvFma .f64 m false true a b d)
  | 0x3F => some (rvFma .f64 m true false a b d)
  | _ => none

/-- A single widened; a signalling NaN raises NV. -/
def widen (a : Nat) : Res := rvCvt .f32 .f64 .rne a

/-- Comparisons. -/
def vCmpF (f : Fmt) (f6 a b : Nat) : Option (Bool × Flags) :=
  match f6 with
  | 0x18 => some (fCmp f .eq a b)
  | 0x19 => some (fCmp f .le a b)
  | 0x1B => some (fCmp f .lt a b)
  | 0x1C => let r := fCmp f .eq a b; some (!r.1, r.2)
  | 0x1D => some (fCmp f .lt b a)
  | 0x1F => some (fCmp f .le b a)
  | _ => none

/-! ### Instructions -/

/-- The second operand of element `i`: a vector or the floating-point scalar. -/
def Hart.vbF (h : Hart) (c : VecCtx) (f : Fmt) (f3 i : Nat) : Nat :=
  if f3 = 1 then h.vget c.n c.vs1 i else rvGetF f (h.getF c.vs1)

/-- A sum or a minimum or maximum over the active elements, in ascending order, from element 0 of vs1. -/
def Hart.vReduceF (h : Hart) (c : VecCtx) (n : Nat) (f : Nat → Nat → Res) (elem : Nat → Res) : Option Hart :=
  if c.start != 0 then none
  else if c.vl = 0 then some h
  else
    let act := (List.range c.vl).filter fun i => c.vm || h.vbit 0 i
    let r := act.foldl (fun (a : Res) i => let x := elem i; let y := f a.v x.v; ⟨y.v, y.f ||| a.f ||| x.f⟩)
      (⟨h.vget n c.vs1 0, 0⟩ : Res)
    some ((h.vset n c.vd 0 r.v).raise r.f)

/-- An integer of `n` bits as a number. -/
def ofInt (f : Fmt) (m : RMode) (n : Nat) (sgn : Bool) (a : Nat) : Res := rvOfInteger f m (if sgn then sg n a else a)

/-- vfcvt, vfwcvt, vfncvt. -/
def Hart.vConvert (h : Hart) (c : VecCtx) (m : RMode) : Option Hart :=
  let k := c.vs1 % 8
  let mode : RMode := if 6 ≤ k then .rtz else m
  let a (n i : Nat) : Nat := h.vget n c.vs2 i
  let run (dn sn : Nat) (dl sl : Int) (f : Nat → Option Res) : Option Hart :=
    if !(c.noV0 && vGroup dl c.vd && c.src dn dl sn sl c.vs2) then none else some (h.vEachF c dn fun i => (f i).getD ⟨0, 0⟩)
  match c.vs1 / 8 with
  | 0 =>
    (vFmt c.n).bind fun f =>
      if k = 2 || k = 3 then run c.n c.n c.lm c.lm fun i => some (ofInt f m c.n (k = 3) (a c.n i))
      else if k ≤ 1 || 6 ≤ k then run c.n c.n c.lm c.lm fun i => some (rvToInt c.n (k % 2 = 1) f mode (a c.n i))
      else none
  | 1 =>
    let dn := 2 * c.n
    if 32 < c.n then none
    else if k = 2 || k = 3 then
      (vFmt dn).bind fun f => run dn c.n (c.lm + 1) c.lm fun i => some (ofInt f m c.n (k = 3) (a c.n i))
    else
      (vFmt c.n).bind fun f =>
        if k = 4 then run dn c.n (c.lm + 1) c.lm fun i => some (widen (a c.n i))
        else if k ≤ 1 || 6 ≤ k then run dn c.n (c.lm + 1) c.lm fun i => some (rvToInt dn (k % 2 = 1) f mode (a c.n i))
        else none
  | 2 =>
    let sn := 2 * c.n
    if 32 < c.n then none
    else if k = 2 || k = 3 then
      (vFmt c.n).bind fun f => run c.n sn c.lm (c.lm + 1) fun i => some (ofInt f m sn (k = 3) (a sn i))
    else
      (vFmt sn).bind fun f =>
        if k = 4 || k = 5 then
          (vFmt c.n).bind fun g => run c.n sn c.lm (c.lm + 1) fun i =>
            some (if k = 4 then rvCvt f g m (a sn i) else rvRod f g (a sn i))
        else run c.n sn c.lm (c.lm + 1) fun i => some (rvToInt c.n (k % 2 = 1) f mode (a sn i))
  | _ => none

/-- vfsqrt, vfrsqrt7, vfrec7, vfclass. -/
def Hart.vUnaryF (h : Hart) (c : VecCtx) (f : Fmt) (m : RMode) : Option Hart :=
  let a (i : Nat) : Nat := h.vget c.n c.vs2 i
  if !(c.noV0 && vGroup c.lm c.vd && vGroup c.lm c.vs2) then none
  else
    match c.vs1 with
    | 0x00 => some (h.vEachF c c.n fun i => rvSqrt f m (a i))
    | 0x04 => some (h.vEachF c c.n fun i => vRsqrt7 f (a i))
    | 0x05 => some (h.vEachF c c.n fun i => vRec7 f m (a i))
    | 0x10 => some (h.vEach c c.n fun i => rvClass f (a i))
    | _ => none

/-- Widening floating-point instructions and sums. -/
def Hart.vWidenF (h : Hart) (c : VecCtx) (m : RMode) (f6 f3 : Nat) : Option Hart :=
  let one (n r i : Nat) : Res := if n = 32 then widen (h.vget 32 r i) else ⟨h.vget 64 r i, 0⟩
  if c.n != 32 then none
  else if f6 = 0x31 || f6 = 0x33 then
    if f3 != 1 || !vGroup c.lm c.vs2 then none else h.vReduceF c 64 (rvAdd .f64 m false) (one 32 c.vs2)
  else
    let sn := if f6 = 0x34 || f6 = 0x36 then 64 else 32
    let sl := if sn = 64 then c.lm + 1 else c.lm
    if !(c.noV0 && vGroup (c.lm + 1) c.vd && c.src 64 (c.lm + 1) sn sl c.vs2 && (f3 != 1 || c.src 64 (c.lm + 1) 32 c.lm c.vs1)) ||
        (vOpFW m f6 0 0 0).isNone then none
    else
      some (h.vEachF c 64 fun i =>
        let x := one sn c.vs2 i
        let y := widen (h.vbF c .f32 f3 i)
        let r := (vOpFW m f6 x.v y.v (h.vget 64 c.vd i)).getD ⟨0, 0⟩
        ⟨r.v, r.f ||| x.f ||| y.f⟩)

/-- Moves, merges and slides with a scalar; none where funct6 is another. -/
def Hart.vMoveF (h : Hart) (c : VecCtx) (f : Fmt) (f6 f3 : Nat) : Option Hart :=
  let x := rvGetF f (h.getF c.vs1)
  let a (i : Nat) : Nat := h.vget c.n c.vs2 i
  let all : VecCtx := { c with vm := true }
  let groups := c.noV0 && vGroup c.lm c.vd && vGroup c.lm c.vs2
  match f6, f3 with
  | 0x10, 1 => if c.vs1 = 0 && c.vm then some (h.setF c.vd (rvPutF f (a 0))) else none
  | 0x10, _ => if c.vs2 = 0 && c.vm then some (if c.start < c.vl then h.vset c.n c.vd 0 x else h) else none
  | 0x17, 5 =>
    if c.vm then if c.vs2 = 0 && vGroup c.lm c.vd then some (h.vEach all c.n fun _ => x) else none
    else if groups then some (h.vEach all c.n fun i => if h.vbit 0 i then x else a i) else none
  | 0x0E, 5 =>
    if groups && !overlaps c.vd (vRegs c.lm) c.vs2 (vRegs c.lm) then some (h.vEach c c.n fun i => if i = 0 then x else a (i - 1))
    else none
  | 0x0F, 5 => if groups then some (h.vEach c c.n fun i => if i + 1 = c.vl then x else a (i + 1)) else none
  | _, _ => none

/-- Instructions of the OPF forms (funct3 1, 5). -/
def Hart.vecF (h : Hart) (w : Nat) : Option Hart :=
  let c := h.vctx w
  let f6 := bits w 26 6
  let f3 := rvF3 w
  let a (i : Nat) : Nat := h.vget c.n c.vs2 i
  match h.fOn && !bit h.vtype 63, rvMode h.frm 7 with
  | true, some m =>
    if f6 = 0x12 then if f3 = 1 then h.vConvert c m else none
    else if 0x30 ≤ f6 then h.vWidenF c m f6 f3
    else
      (vFmt c.n).bind fun f =>
        if f6 = 0x13 then if f3 = 1 then h.vUnaryF c f m else none
        else if f6 = 0x10 || f6 = 0x17 || f6 = 0x0E || f6 = 0x0F then h.vMoveF c f f6 f3
        else if f6 = 0x01 || f6 = 0x03 || f6 = 0x05 || f6 = 0x07 then
          if f3 != 1 || !vGroup c.lm c.vs2 then none
          else
            let op (x y : Nat) : Res := if f6 ≤ 3 then rvAdd f m false x y else rvMinMax f (f6 = 7) x y
            h.vReduceF c c.n op fun i => ⟨a i, 0⟩
        else if (vCmpF f f6 0 0).isSome then
          if (f3 = 1 && (f6 = 0x1D || f6 = 0x1F)) || !c.src 1 0 c.n c.lm c.vs2 || (f3 = 1 && !c.src 1 0 c.n c.lm c.vs1) then none
          else
            let r (i : Nat) : Bool × Flags := (vCmpF f f6 (a i) (h.vbF c f f3 i)).getD (false, 0)
            some ((h.vEachBit c fun i => (r i).1).raise
              (((List.range c.vl).filter (h.vactive c)).foldl (fun z i => z ||| (r i).2) 0))
        else if (f3 = 1 && (f6 = 0x21 || f6 = 0x27)) || (vOpF f m f6 0 0 0).isNone ||
            !(c.noV0 && vGroup c.lm c.vd && vGroup c.lm c.vs2 && (f3 != 1 || vGroup c.lm c.vs1)) then none
        else some (h.vEachF c c.n fun i => (vOpF f m f6 (a i) (h.vbF c f f3 i) (h.vget c.n c.vd i)).getD ⟨0, 0⟩)
  | _, _ => none

/-- Opcode 0x57: every vector instruction that is no load and no store. -/
def Hart.vecOp (h : Hart) (w len : Nat) : RvDone :=
  if !h.vOn then .err h (illegal w)
  else if rvF3 w = 7 then h.vset' w len
  else
    let r := match rvF3 w with
      | 1 => h.vecF w
      | 5 => h.vecF w
      | 2 => h.vecM w
      | 6 => h.vecM w
      | _ => h.vecI w
    match r with
    | some k => .ok (k.vdone.next len)
    | none => .err h (illegal w)

/-- Every instruction of a hart, by its 32-bit form and its length in bytes. -/
def RvEnv.exec (e : RvEnv) (h : Hart) (w len : Nat) : RvDone :=
  let f3 := rvF3 w
  let vec := f3 = 0 || 5 ≤ f3
  if rvOp w = 0x57 then h.vecOp w len
  else if rvOp w = 0x07 && vec then e.vecMem h w len false
  else if rvOp w = 0x27 && vec then e.vecMem h w len true
  else if (rvOp w = 0x07 || rvOp w = 0x27) && f3 != 2 && f3 != 3 then .err h (illegal w)
  else e.scalar h w len

end Sys2Proof.Machine
end

