-- ==== Sys2Proof/Machine/Pens.lean ====
section
/-! DEFINITION. The steps of a pen (09): its instructions, posts and pops (R239), WFI (R240), copy-on-write (R228), access faults
(R227), the budgets (R238) and the SBI calls that the monitor answers (R225). -/

namespace Sys2Proof.Machine

/-- What a pen's hart does next. -/
inductive RvNext where
  /-- An instruction retires, with its writes. -/
  | retire (h : Hart) (wr : List RvWr)
  /-- A trap is taken; nothing retires. -/
  | trap (h : Hart) (wr : List RvWr)
  /-- WFI. -/
  | wfi (h : Hart)
  /-- An ecall of S-mode. -/
  | sbi (h : Hart)
  /-- An access fault of R227, with what the instruction did before it. -/
  | access (h : Hart) (wr : List RvWr)
  /-- A page of pen memory is written for the first time (R228). -/
  | copy (page : Nat)
  /-- An uncorrectable error of HBM (R15). -/
  | error (pa : Nat)

/-- The instruction at the pc: its 32-bit form, its length and, for a 16-bit one, its own bits. -/
def RvEnv.fetch (e : RvEnv) (h : Hart) : Except RvExc (Option Nat × Nat × Nat) :=
  (e.fetch2 h h.pc).bind fun lo =>
    if lo % 4 != 3 then .ok (rvExpand lo, 2, lo)
    else (e.fetch2 h (h.pc + 2)).map fun hi => (some (lo + 65536 * hi), 4, lo + 65536 * hi)

/-- The runs of a page in the image, readable, and in pen memory, writable (R228). -/
def RvEnv.copyRuns (e : RvEnv) (g : Nat) : Except RvExc (List (Nat × Nat) × List (Nat × Nat)) :=
  (e.runs .rd (splitRuns [(e.p.desc.image + imageHead + 4096 * g, 4096)])).bind fun a =>
    (e.runs .wr (splitRuns [(e.p.desc.pbase + 4096 * g, 4096)])).map fun b => (a, b)

/-- An exception as the step that takes it: in M-mode a trap stays there. -/
def RvEnv.take (e : RvEnv) (h : Hart) (wr : List RvWr) : RvExc → RvNext
  | .trap c v => .trap (if h.mode == 3 then h.trapM c v else h.trap false c v) wr
  | .access => .access h wr
  | .copy g =>
    match e.copyRuns g with
    | .ok _ => .copy g
    | .error (.error pa) => .error pa
    | .error _ => .access h wr
  | .error pa => .error pa

/-- Is a software interrupt taken before the next instruction? -/
def Hart.interrupted (h : Hart) : Bool := bit h.sip 1 && bit h.sie 1 && (h.mode == 0 || (h.mode == 1 && bit h.sstatus 1))

/-- What the hart of a pen does next. -/
def RvEnv.next (e : RvEnv) : RvNext :=
  let h := e.p.hart
  if h.interrupted then .trap (h.trap true 1 0) []
  else
    match e.fetch h with
    | .error x => e.take h [] x
    | .ok (none, _, w) => e.take h [] (illegal w)
    | .ok (some w, len, raw) =>
      let r := e.exec h w len
      match r.exc with
      | some (.trap 2 _) => e.take r.h r.wr (illegal raw)
      | some x => e.take r.h r.wr x
      | none => if r.wfi then .wfi r.h else if r.sbi then .sbi r.h else .retire r.h r.wr

/-! ### Running pens -/

/-- The environment of a pen that a hart runs (R226, R229, R428). -/
def State.penEnv (s : State) (n : Nat) : Option RvEnv :=
  match s.pen? n with
  | none => none
  | some p =>
    match s.task? p.owner with
    | none => none
    | some t =>
      match s.paddock.hartOf n with
      | some h => if s.pkg.padUp && p.st == .running && !p.endPosted then some { s := s, t := t, d := p.desc.die, p := p, h := h } else none
      | none => none

/-- The budget that the next retired instruction would exceed: REASON 1 or 2 (R238). -/
def Pen.overBudget (p : Pen) : Option Nat :=
  if p.counting && p.desc.stepBud != 0 && decide (p.desc.stepBud < p.stepCnt + 1) then some 1
  else if p.desc.epBud != 0 && decide (p.desc.epBud < p.instret + 1) then some 2
  else none

/-- Would an instruction retire at this boundary? A WFI that waits retires once an action has come, whatever memory holds by then. -/
def RvEnv.retires (e : RvEnv) : Bool :=
  if e.p.waiting then !e.p.acts.isEmpty
  else
    match e.next with
    | .retire .. => true
    | .wfi _ => !e.p.acts.isEmpty
    | _ => false

/-- The pen after an instruction that retires (R238, R241). -/
def Pen.retire (p : Pen) (h : Hart) : Pen :=
  { p with hart := h, instret := p.instret + 1, stepCnt := if p.counting then p.stepCnt + 1 else p.stepCnt, waiting := false }

/-- Writes into OBSSTAGE (R239). -/
def Pen.stageWrites (p : Pen) (wr : List RvWr) : Pen :=
  wr.foldl (fun p w =>
    match w with
    | .page off v => if 0x200 ≤ off ∧ off < 0x300 then { p with stage := slotSet p.stage (off - 0x200) 8 v.toNat } else p
    | _ => p) p

/-- Write a bounds register (Table 09.2). -/
def HartRegs.writeM (r : HartRegs) (n : Nat) (v : Word) : HartRegs :=
  match n with
  | 0x7C0 => { r with pen := BitVec.ofNat 10 (fld v 0 10), asid := BitVec.ofNat 8 (fld v 10 8) }
  | 0x7C1 => { r with pmbase := BitVec.ofNat 48 (fld v 0 48) }
  | 0x7C2 => { r with pmsize := BitVec.ofNat 33 (fld v 0 33) }
  | 0x7C3 => { r with pxbase := BitVec.ofNat 48 (fld v 0 48) }
  | 0x7C4 => { r with pxsize := BitVec.ofNat 29 (fld v 0 29) }
  | _ => r

/-- A write of M-mode to a bounds register of a hart. -/
def State.writeBound (s : State) (h n : Nat) (v : Word) : State :=
  { s with paddock := { s.paddock with
      harts := s.paddock.harts.setIfInBounds h ((s.paddock.harts.toList.getD h HartRegs.reset).writeM n v) } }

/-- The writes of an instruction to HBM and to bounds registers; the pen's own reservation stands against its own stores (R223). -/
def State.penWrites (s : State) (wr : List RvWr) : State :=
  wr.foldl (fun s w => match w with | .bytes pa bs => s.hbmPut pa bs | .bound h n v => s.writeBound h n v | .page _ _ => s) s

/-- A hart has acted for a pen: the next one looked for is another (log 2), and free values have been drawn. -/
def State.penActed (s : State) (n : Nat) : State :=
  { s with fresh := s.fresh + 1, paddock := { s.paddock with next := n + 1, last := (s.dieAt 1).tick } }

/-- Does a write pop the oldest action, post the observation? -/
def popsAction (wr : List RvWr) : Bool := wr.any fun w => match w with | .page off v => off == 0x108 && bit v 0 | _ => false
def postsObs (wr : List RvWr) : Bool := wr.any fun w => match w with | .page off v => off == 0x300 && bit v 0 | _ => false

/-- The kinds of step that retire an instruction. -/
inductive RetireKind where
  | plain | pop | post
  deriving DecidableEq, Repr

/-- Which of them the writes make. -/
def retireKind (wr : List RvWr) : RetireKind := if popsAction wr then .pop else if postsObs wr then .post else .plain

/-- An instruction of a pen retires (R239). -/
def State.retirePen (s : State) (n : Nat) (p : Pen) (h : Hart) (wr : List RvWr) : State :=
  let s1 := s.penWrites wr
  let p1 := (p.retire h).stageWrites wr
  let p2 : Pen := if popsAction wr then { p1 with acts := p1.acts.drop 1 } else p1
  if postsObs wr then (s1.putPen n (p2.post (s.penTick p))).feedRecv n else s1.putPen n p2

/-- An instruction of the kind named, if the next one is such and no budget forbids it. -/
def State.penRetires (s : State) (k : RetireKind) (n : Nat) : Option State :=
  match s.penEnv n with
  | none => none
  | some e =>
    if e.p.waiting then none
    else
      match e.next with
      | .retire h wr =>
        if retireKind wr != k || e.p.overBudget.isSome then none else some ((s.retirePen n e.p h wr).penActed n)
      | _ => none

/-- An uncorrectable error of HBM meets a pen: a machine check of the owner, and REASON 5 (R15, R234). -/
def State.penError (s : State) (e : RvEnv) (n pa : Nat) : State :=
  (s.hardwareError e.p e.t n).checkTask e.t e.d 0x41 (BitVec.ofNat 64 pa)

/-- PEN_INSTRUCTION (R223): an instruction retires, or a trap of S-mode is taken, or an uncorrectable error stops the pen. -/
def State.penInstruction (s : State) (n : Nat) : Option State :=
  match s.penEnv n with
  | none => none
  | some e =>
    if e.p.waiting then none
    else
      match e.next with
      | .trap h wr => some (((s.penWrites wr).putPen n ({ e.p with hart := h }.stageWrites wr)).penActed n)
      | .error pa => some ((s.penError e n pa).penActed n)
      | _ => s.penRetires .plain n

/-- WFI (R240): it retires at once while an action is held, else the pen waits. -/
def State.penWfi (s : State) (n : Nat) : Option State :=
  match s.penEnv n with
  | none => none
  | some e =>
    if e.p.waiting then none
    else
      match e.next with
      | .wfi h =>
        if e.p.acts.isEmpty then some ((s.putPen n { e.p with waiting := true }).penActed n)
        else if e.p.overBudget.isSome then none
        else some ((s.putPen n (e.p.retire h)).penActed n)
      | _ => none

/-- WFI_WAKE (R240): an action has come, and the WFI retires once. -/
def State.penWake (s : State) (n : Nat) : Option State :=
  match s.penEnv n with
  | none => none
  | some e =>
    if !e.p.waiting || e.p.acts.isEmpty || e.p.overBudget.isSome then none
    else some ((s.putPen n (e.p.retire (e.p.hart.next 4))).penActed n)

/-- The eight bytes of a page that a reservation holds, at the page's new place. -/
def RvEnv.moveResv (e : RvEnv) (g : Nat) (h : Hart) : Hart :=
  match h.resv with
  | none => h
  | some r =>
    let at' (base k : Nat) : Option Nat :=
      match e.runs .rd [(base + 4096 * g + 8 * k, 8)] with
      | .ok [(pa, _)] => some pa
      | _ => none
    match (List.range 512).find? fun k => at' (e.p.desc.image + imageHead) k == some r with
    | some k => { h with resv := at' e.p.desc.pbase k }
    | none => h

/-- COPY_ON_WRITE (R228): the page is copied from the image to pen memory; nothing retires. -/
def State.copyPage (s : State) (n g : Nat) : Option State :=
  match s.penEnv n with
  | none => none
  | some e =>
    if e.p.waiting then none
    else
      match e.next with
      | .copy k =>
        if k != g then none
        else
          match (e.copyRuns g).bind fun r => (e.readRuns r.1).map fun bs => (bs, r.2) with
          | .ok (bs, runs) =>
            let p : Pen := { e.p with copied := e.p.copied ++ [g], hart := e.moveResv g e.p.hart }
            some (((s.penWrites (wrRuns bs runs)).putPen n p).penActed n)
          | .error (.error pa) => some ((s.penError e n pa).penActed n)
          | .error _ => none
      | _ => none

/-- PEN_ACCESS_FAULT (R227): the episode ends with REASON 4. -/
def State.penAccessFault (s : State) (n : Nat) : Option State :=
  match s.penEnv n with
  | none => none
  | some e =>
    if e.p.waiting then none
    else
      match e.next with
      | .access h wr =>
        some ((((s.penWrites wr).putPen n ({ e.p with hart := h }.stageWrites wr)).truncatePen n 4).penActed n)
      | _ => none

/-- STEP_BUDGET and EPISODE_BUDGET (R238). -/
def State.penBudget (s : State) (reason n : Nat) : Option State :=
  match s.penEnv n with
  | none => none
  | some e =>
    if e.retires && e.p.overBudget == some reason then some ((s.truncatePen n reason).penActed n) else none

/-- WALL_BACKSTOP (R238): at an instruction boundary at which no budget ends the episode. -/
def State.wallBackstop (s : State) (n : Nat) : Option State :=
  match s.pen? n with
  | none => none
  | some p =>
    let budget := match s.penEnv n with | some e => e.retires && e.p.overBudget.isSome | none => false
    if s.wallDue p && !budget then some (s.truncatePen n 3) else none

/-! ### The SBI (R225) -/

/-- The calls of the base extension, by function, and every other call. -/
inductive SbiCall where
  | spec | implId | implVersion | probe | vendor | arch | imp | other
  deriving DecidableEq, Repr

/-- The call of an ecall: a7 the extension, a6 the function. -/
def sbiCall (h : Hart) : SbiCall :=
  if h.getX 17 != 0x10 then .other
  else
    match (h.getX 16).toNat with
    | 0 => .spec
    | 1 => .implId
    | 2 => .implVersion
    | 3 => .probe
    | 4 => .vendor
    | 5 => .arch
    | 6 => .imp
    | _ => .other

/-- Error and value that the monitor returns; the value beside SBI_ERR_NOT_SUPPORTED is free (log 10). -/
def sbiAnswer (h : Hart) (free : Word) : SbiCall → Word × Word
  | .spec => (0, 0x02000000)
  | .implId => (0, 0x41565452)
  | .implVersion => (0, Config.monitorVersion)
  | .probe => (0, if h.getX 10 = 0x10 then 1 else 0)
  | .vendor => (0, 0)
  | .arch => (0, 0)
  | .imp => (0, 1)
  | .other => (BitVec.ofInt 64 (-2), free)

/-- The hart after the monitor has answered an ecall: the trap to M-mode, the registers of the answer, the return behind the ecall. -/
def Hart.answered (h : Hart) (r : Word × Word) : Hart :=
  let x := h.trapM 9 0
  ({ (x.setX 10 r.1).setX 11 r.2 with m := { x.m with epc := x.m.epc + 4 } }).mret

/-- The monitor answers an ecall: a0 the error, a1 the value. -/
def State.sbi (s : State) (c : SbiCall) (n : Nat) : Option State :=
  match s.penEnv n with
  | none => none
  | some e =>
    if e.p.waiting then none
    else
      match e.next with
      | .sbi h =>
        if sbiCall h != c then none
        else
          let r := sbiAnswer h (Config.freeWord s.fresh) c
          some ((s.putPen n { e.p with hart := e.p.hart.answered r }).penActed n)
      | _ => none

/-! ### The steps -/

/-- PEN_INSTRUCTION (R223). -/
def execPenInstruction (n : Nat) (s : State) : Host.Outcome State Fault Refusal := enabled "PEN_INSTRUCTION" (s.penInstruction n)

/-- OBSPOST (R239). -/
def execObspost (n : Nat) (s : State) : Host.Outcome State Fault Refusal := enabled "OBSPOST" (s.penRetires .post n)

/-- ACTPOP (R239). -/
def execActpop (n : Nat) (s : State) : Host.Outcome State Fault Refusal := enabled "ACTPOP" (s.penRetires .pop n)

/-- WFI (R240). -/
def execWfi (n : Nat) (s : State) : Host.Outcome State Fault Refusal := enabled "WFI" (s.penWfi n)

/-- WFI_WAKE (R240). -/
def execWfiWake (n : Nat) (s : State) : Host.Outcome State Fault Refusal := enabled "WFI_WAKE" (s.penWake n)

/-- COPY_ON_WRITE (R228). -/
def execCopyOnWrite (n page : Nat) (s : State) : Host.Outcome State Fault Refusal := enabled "COPY_ON_WRITE" (s.copyPage n page)

/-- PEN_ACCESS_FAULT (R227). -/
def execPenAccessFault (n : Nat) (s : State) : Host.Outcome State Fault Refusal :=
  enabled "PEN_ACCESS_FAULT" (s.penAccessFault n)

/-- STEP_BUDGET (R238). -/
def execStepBudget (n : Nat) (s : State) : Host.Outcome State Fault Refusal := enabled "STEP_BUDGET" (s.penBudget 1 n)

/-- EPISODE_BUDGET (R238). -/
def execEpisodeBudget (n : Nat) (s : State) : Host.Outcome State Fault Refusal := enabled "EPISODE_BUDGET" (s.penBudget 2 n)

/-- WALL_BACKSTOP (R238). -/
def execWallBackstop (n : Nat) (s : State) : Host.Outcome State Fault Refusal := enabled "WALL_BACKSTOP" (s.wallBackstop n)

/-- SBI_GET_SPEC_VERSION (R225). -/
def execSbiGetSpecVersion (n : Nat) (s : State) : Host.Outcome State Fault Refusal :=
  enabled "SBI_GET_SPEC_VERSION" (s.sbi .spec n)

/-- SBI_GET_IMPL_ID (R225). -/
def execSbiGetImplId (n : Nat) (s : State) : Host.Outcome State Fault Refusal := enabled "SBI_GET_IMPL_ID" (s.sbi .implId n)

/-- SBI_GET_IMPL_VERSION (R225). -/
def execSbiGetImplVersion (n : Nat) (s : State) : Host.Outcome State Fault Refusal :=
  enabled "SBI_GET_IMPL_VERSION" (s.sbi .implVersion n)

/-- SBI_PROBE_EXTENSION (R225). -/
def execSbiProbeExtension (n : Nat) (s : State) : Host.Outcome State Fault Refusal :=
  enabled "SBI_PROBE_EXTENSION" (s.sbi .probe n)

/-- SBI_GET_MVENDORID (R225). -/
def execSbiGetMvendorid (n : Nat) (s : State) : Host.Outcome State Fault Refusal :=
  enabled "SBI_GET_MVENDORID" (s.sbi .vendor n)

/-- SBI_GET_MARCHID (R225). -/
def execSbiGetMarchid (n : Nat) (s : State) : Host.Outcome State Fault Refusal := enabled "SBI_GET_MARCHID" (s.sbi .arch n)

/-- SBI_GET_MIMPID (R225). -/
def execSbiGetMimpid (n : Nat) (s : State) : Host.Outcome State Fault Refusal := enabled "SBI_GET_MIMPID" (s.sbi .imp n)

/-- SBI_NOT_SUPPORTED (R225). -/
def execSbiNotSupported (n : Nat) (s : State) : Host.Outcome State Fault Refusal :=
  enabled "SBI_NOT_SUPPORTED" (s.sbi .other n)

end Sys2Proof.Machine
end

