-- ==== Sys2Proof/Machine/Save.lean ====
section
/-! DEFINITION. Saving a pre-empted task (11 R277 to R281, Tables 11.4 to 11.6) and bringing it back (05 R137, R142, 06 R158, R159). -/

namespace Sys2Proof.Machine

/-! ### When a save can finish (R277, R280) -/

/-- Does a fault wait that stops the victim before its save (R143)? -/
def State.stopWaits (s : State) (t : Task) : Bool :=
  t.ctxs.any fun p =>
    let x := (s.dieAt p.1).ctxAt p.2
    x.deferred.any fun f => x.takesDeferred (x.fc (s.dieAt p.1).scy) f.code (!t.heldCtxs.contains p)

/-- Have the completions of R277 taken place for a task: sent entries, copies but for those that a failure halts, rows in flight to a
stopped fold, and the fold stops that are being handed over? -/
def State.savable (s : State) (t : Task) : Bool :=
  t.st == .saving && !s.stopWaits t &&
    t.ctxs.all (fun p =>
      let x := (s.dieAt p.1).ctxAt p.2
      x.grp.isNone && !(x.entries.any fun e => e.sent) && !(s.dieAt p.1).stopFrozen &&
        (x.kind != CtxKind.timed || (s.dieAt p.1).flight.isEmpty)) &&
    !allDies.any (fun d => (s.dieAt d).chans.toList.any fun ch => !ch.err && ch.copies.any fun c => c.lid == t.lid) &&
    !s.links.ssteps.any fun x => x.lid == t.lid

/-- The transfers of the fill commands that have started complete before the save (R277). -/
def State.finishFills (s : State) (t : Task) : State :=
  allDies.foldl (fun s d => ((s.dieAt d).fills.filter fun f => f.lid == t.lid && f.started).foldl (fun s f =>
    s.transfers d f.order f.left) s) s

/-! ### The save area -/

/-- The SAVELIST of a context. -/
def State.saveList (s : State) (d : DieId) (c : CtxId) : Word := (s.dieAt d).savelist.get c

/-- The extents of a context's save area: base and length (R278). -/
def State.extents (s : State) (d : DieId) (c : CtxId) : List (Nat × Nat) :=
  let v := s.saveList d c
  (List.range (fld v 48 7)).map fun i =>
    (leNat (s.hbm.readN (fld v 12 36 * 4096 + 16 * i) 8), leNat (s.hbm.readN (fld v 12 36 * 4096 + 16 * i + 8) 8))

/-- Bytes of several extents. -/
def extentBytes (l : List (Nat × Nat)) : Nat := (l.map (·.2)).foldl (· + ·) 0

/-- Row units of byte ranges of a scratchpad, once each. -/
def rangeUnits (rs : List (Nat × Nat)) : List Nat :=
  (normRanges rs).flatMap fun r => (List.range ((r.1 + r.2 + 255) / 256 - r.1 / 256)).map fun i => r.1 / 256 + i

/-- The owned row units that the save of a context writes: of a timed context whose list has OWNSAVE (R279, R281). -/
def State.savedUnits (s : State) (t : Task) (d : DieId) (c : CtxId) : List Nat :=
  if ((s.dieAt d).ctxAt c).kind == CtxKind.timed && bit (s.saveList d c) 55 then rangeUnits (t.onDie d).owned else []

/-- Bytes that the state of a context needs (Table 11.5): 84 KiB, or 7,182 KiB and the owned rows. -/
def State.saveNeeds (s : State) (t : Task) (d : DieId) (c : CtxId) : Nat :=
  if ((s.dieAt d).ctxAt c).kind == CtxKind.timed then 0x703800 + 288 * (s.savedUnits t d c).length
  else 84 * 1024

/-- The first context of a task whose extents end before its state does (R280). -/
def State.saveShort (s : State) (t : Task) : Option (DieId × CtxId) :=
  t.ctxs.find? fun p => decide (extentBytes (s.extents p.1 p.2) < s.saveNeeds t p.1 p.2)

/-- Bytes that stand under one key slot, as another slot sees them. -/
def keyed (a b : BitVec 4) (pa : Nat) (bs : List Byte) : List Byte :=
  if a = b then bs else bs.zipIdx.map fun x => Config.otherKey a b (pa + x.2) x.1

/-- The pieces of a run of the extents laid end to end, from an offset: physical address, place in the run, length. -/
def areaPieces : List (Nat × Nat) → Nat → Nat → Nat → List (Nat × Nat × Nat)
  | [], _, _, _ => []
  | (b, m) :: l, off, done, n =>
    if m ≤ off then areaPieces l (off - m) done n
    else
      let k := min (m - off) n
      (pagePieces (b + off) k).map (fun p => (p.1, done + (p.1 - (b + off)), p.2)) ++
        (if n ≤ m - off then [] else areaPieces l 0 (done + k) (n - k))

/-- Write bytes at an offset of a save area under a task's key slot (R278); what lies past its end is not written (R280). -/
def State.putArea (s : State) (k : BitVec 4) (e : List (Nat × Nat)) (off : Nat) (bs : List Byte) : State :=
  (areaPieces e off 0 bs.length).foldl (fun s p => s.hbmPut p.1 (keyed k (s.slotOf p.1) p.1 (slice bs p.2.1 p.2.2))) s

/-- Read what a save wrote at an offset of its area, under the task's key slot (R278): as written where the memory still holds it. -/
def State.areaRead (s : State) (k : BitVec 4) (e : List (Nat × Nat)) (off : Nat) (old : List Byte) : List Byte :=
  let l := areaPieces e off 0 old.length
  if l.all fun p => s.hbm.readN p.1 p.2.2 == keyed k (s.slotOf p.1) p.1 (slice old p.2.1 p.2.2) then old
  else l.flatMap fun p => keyed (s.slotOf p.1) k p.1 (s.hbm.readN p.1 p.2.2)

/-- An uncorrectable error in the extent lists of a task's save areas (R15). -/
def State.listBad (s : State) (t : Task) : Option (DieId × Nat) :=
  t.ctxs.findSome? fun p =>
    let v := s.saveList p.1 p.2
    if s.hbmBad (fld v 12 36 * 4096) (16 * fld v 48 7) then some (p.1, fld v 12 36 * 4096) else none

/-- The save header (Table 11.6). -/
def saveHeader (lid : BitVec 32) (d : DieId) (x : Ctx) (c : CtxId) (count bytes : Nat) : List Byte :=
  [0x53, 0x41, 0x56, 0x00, 0x44, 0x4C, 0x41, 0x56] ++ leBytes 4 lid.toNat ++
    [BitVec.ofNat 8 d.val, BitVec.ofNat 8 c.val, if x.kind == CtxKind.timed then 1 else 0, x.numProf] ++
    leBytes 8 count ++ leBytes 8 bytes ++ List.replicate 4064 0

/-- The bytes of a B buffer's columns and index rows (Table 11.5). -/
def BBuf.saveBytes (b : BBuf) : List Byte :=
  (b.cols.toList.flatMap fun (r : Row) => rowBytes r ++ rowSide r) ++ b.ix.toList.flatMap fun x => leBytes 256 x.toNat

/-- The place of a format tag in the list of tags. -/
def Tag.place : Tag → Nat
  | .none => 0 | .e4m3 => 1 | .e5m2 => 2 | .e2m1 => 3 | .bf16 => 4 | .f16 => 5 | .i8 => 6 | .sE4m3 => 7 | .sE5m2 => 8
  | .sI8 => 9

/-- The tag bytes of a B buffer. -/
def BBuf.tagBytes (b : BBuf) : List Byte :=
  (List.range 16).map fun j => BitVec.ofNat 8 ((Config.tagCode (b.tags.toList.getD j .none).place).toNat + 16 * (b.sc.getLsbD j).toNat)

/-- The 11,296 bytes of a cell's buffers. -/
def Cell.saveBytes (c : Cell) : List Byte :=
  c.active.saveBytes ++ c.shadow.saveBytes ++ c.active.tagBytes ++ c.shadow.tagBytes

/-- The tiles, the masks m1 to m7, the accumulators and the B buffers as a save lays them out (Table 11.5). -/
def Wall.tileBytes (w : Wall) : List Byte := w.t.toList.flatMap fun (t : Tile) => t.flatMap fun r => rowBytes r ++ rowSide r
def Wall.maskBytes (w : Wall) : List Byte := (w.m.toList.drop 1).flatMap fun (m : Mask) => m.flatMap fun b => leBytes 32 b.toNat
def Wall.accBytes (w : Wall) : List Byte := w.cells.flatMap fun c => c.acc.flatMap fun r => r.flatMap fun x => leBytes 4 x.toNat
def Wall.bufBytes (w : Wall) : List Byte := w.cells.flatMap Cell.saveBytes

/-- The entries of the 64 live routes: of each that stands its block's address and VALID (R367). -/
def Wall.liveBytes (w : Wall) : List Byte :=
  (List.range 64).flatMap fun i =>
    match w.live.find? fun l => l.route == 448 + i with
    | some l => leBytes 4 (256 * l.block) ++ [1] ++ List.replicate 763 0
    | none => List.replicate 768 0

/-- The settings of a live route as the solver left them, 83,968 bytes: of the settings that carry its permutation the specification
names none (log 12). -/
def liveSettings (perm : List Nat) : List Byte := (List.range 83968).map (Config.liveSetting perm)

/-- The permutation that settings in a block carry (R367): stage A of slice `s` at 104 s, the plane of position `k` at 26,624 + 240 k,
stage C at 57,344 + 104 s. -/
def permOf (bs : List Byte) : List Nat :=
  let out := (threeStages (fun i => leAt bs (104 * i) 104) (fun k => leAt bs (26624 + 240 * k) 240)
    (fun j => leAt bs (57344 + 104 * j) 104) fun i => (List.range 128).map fun k => 128 * i + k).flatten
  (out.zipIdx.foldl (fun (v : Vector Nat 32768) p => v.setIfInBounds p.1 p.2) (.replicate 32768 0)).toList

/-- A save writes the settings of the live routes into their blocks (R367). -/
def Die.putSettings (d : Die) : Die :=
  d.wall.live.foldl (fun d l => { d with sp := d.sp.write (256 * l.block) (liveSettings l.perm) }) d

/-- A live route whose settings a restore reloads: the permutation is that of the bytes in its block (R367). -/
def Live.reload (l : Live) (sp : Mem) : Live :=
  let bs := sp.readN (256 * l.block) 83968
  if bs = liveSettings l.perm then l else { l with perm := permOf bs }

/-- A restore reloads the settings of the live routes from their blocks (R367). -/
def Die.loadSettings (d : Die) : Die := { d with wall := { d.wall with live := d.wall.live.map fun l => l.reload d.sp } }

/-- The first `n` entries of a table, `len` bytes each (R310). -/
def tableBytes (l : List (Nat × List Byte)) (n len : Nat) : List Byte :=
  (List.range n).flatMap fun i => slice ((l.lookup i).getD []) 0 len

/-- Save one context: its sections in offset order (R279, R280). -/
def State.saveSections (s : State) (t : Task) (d : DieId) (c : CtxId) : State :=
  let e := s.extents d c
  let put (off : Nat) (bs : List Byte) (s : State) : State := s.putArea t.kslot e off bs
  let w := (s.dieAt d).wall
  let s1 := if ((s.dieAt d).ctxAt c).kind == CtxKind.timed then
      let a := put 0x39F000 w.bufBytes (put 0x29F000 w.accBytes (put 0x291000 w.maskBytes (put 0x51000 w.tileBytes
        (put 0x1000 (freeBytes s.fresh 0x50000) s))))
      let b := put 0x6A3800 (tableBytes w.routes 448 768) (put 0x667800 (tableBytes w.planes 1024 240)
        (put 0x661000 (tableBytes w.pats 256 104) a))
      put 0x703800 ((s.savedUnits t d c).flatMap fun u => rowBytes ((s.dieAt d).row u) ++ rowSide ((s.dieAt d).row u))
        (put 0x6F7800 w.liveBytes b)
    else put 0x1000 (freeBytes s.fresh 0x14000) s
  { s1 with fresh := s.fresh + 0x100000 }

/-- The header of a context's save is written last (R280). -/
def State.saveHead (s : State) (t : Task) (d : DieId) (c : CtxId) : State :=
  let x := (s.dieAt d).ctxAt c
  s.putArea t.kslot (s.extents d c) 0 (saveHeader t.lid d x c (x.baseCount (s.dieAt d).scy) (s.saveNeeds t d c))

/-- Until a save is complete its header is not valid (R280, log 12). -/
def State.saveBegin (s : State) (t : Task) (d : DieId) (c : CtxId) : State :=
  s.putArea t.kslot (s.extents d c) 4 [0, 0, 0, 0]

/-- Do something for every context of a task. -/
def State.eachCtx (s : State) (t : Task) (f : State → DieId → CtxId → State) : State := t.ctxs.foldl (fun s p => f s p.1 p.2) s

/-- The four copy channels of a context (R192). -/
def chansOf (c : CtxId) : List (Fin 16) := (List.range 4).map fun i => ⟨4 * c.val + i % 4, by omega⟩

/-- What a task's resumption needs of a context (R281): the context with FC at its stop count, the tile side, the commands not yet
started or not complete with the bytes that they hold, the copy channels, and the owned rows that were written. -/
def State.keepCtx (s : State) (t : Task) (d : DieId) (c : CtxId) : SavedCtx :=
  let y := s.dieAt d
  let x := y.ctxAt c
  let timed := x.kind == CtxKind.timed
  { die := d, cid := c, ctx := { x with origin := BitVec.ofNat 64 (x.fc y.scy) }, wall := if timed then some y.wall else none,
    fills := if timed then y.fills.filter (fun f => f.lid == t.lid) else [],
    committed := if timed then y.committed else .replicate 8 0,
    owned := (s.savedUnits t d c).map fun u => (u, y.row u), chans := (chansOf c).map fun k => y.chans.get k,
    area := s.extents d c }

/-- A channel whose task leaves it: the copies that a failure halted leave with the save. -/
def Chan.left (x : Chan) : Chan := { x with copies := [], doneId := x.nextId, errId := 0, err := false, cause := 0 }

/-- A context leaves its die at a save. -/
def Die.leave (d : Die) (c : CtxId) : Die :=
  let lid := (d.ctxAt c).lid
  let d0 := (chansOf c).foldl (fun (d : Die) k => { d with chans := d.chans.set k.val (d.chans.get k).left k.isLt }) d
  let d1 := if (d.ctxAt c).kind == CtxKind.timed then
      { d0 with fills := d.fills.filter (fun f => f.lid != lid), committed := .replicate 8 0, rx := .replicate 16 [],
                wall := Wall.reset }
    else d0
  ({ d1 with current := if d1.current == some c then none else d1.current }).onCtxAt c fun _ => Ctx.reset

/-- The victim goes on from its snapshots (R170, R280): contexts that were held before stay held. -/
def State.letGo (s : State) (t : Task) : State :=
  if t.heldCtxs.any fun p => ((s.dieAt p.1).ctxAt p.2).kind == CtxKind.timed then
    s.onTask t.lid fun t => { t with st := .held, heldCtxs := [] }
  else if t.multiDie then
    let top := ((foldDies t.fold).map fun d => (s.dieAt d).fcNow).foldl max 0
    let s1 := s.eachCtx t fun s d c => s.onCtxAt d c fun x => if x.kind == CtxKind.timed then x.alignTop top else x
    s1.onTask t.lid fun t => { t with st := .resuming, stopCounts := [], startTick := BitVec.ofNat 64 (s.estTickOf t.refDie + 4096), startOn := 0 }
  else
    let s1 := s.eachCtx t fun s d c =>
      if t.heldCtxs.contains (d, c) then s
      else (s.onCtxAt d c Ctx.unhold).onDieAt d fun y => if (y.ctxAt c).kind == CtxKind.timed then y.refillLanes c else y
    s1.onTask t.lid fun t => { t with st := if t.heldCtxs.isEmpty then .running else .held, heldCtxs := [], stopCounts := [] }

/-- SAVEOVERFLOW (R280): the sections that fit are written; the pre-emption is abandoned on every context, and the task is chosen no
more. -/
def State.saveOverflow (s : State) (t : Task) (d : DieId) (c : CtxId) : State :=
  let payload := leBytes 4 t.lid.toNat ++ [BitVec.ofNat 8 d.val, BitVec.ofNat 8 c.val, 0, 0] ++
    leBytes 8 (s.saveNeeds t d c) ++ leBytes 8 (extentBytes (s.extents d c))
  let s1 := s.eachCtx t fun s d c => s.saveSections t d c
  let s2 := (s1.postEvent 0 0x25 d 0 payload).onTask t.lid fun t => { t with noVictim := true }
  s2.letGo t

/-- Before a task's state is written, the settings of its live routes go into their blocks (R367), and the owned rows that a save area
takes are read, with the errors that they hold (R195); true when nothing is withheld. -/
def State.readyRows (s : State) (t : Task) : State × Bool :=
  let s1 := s.eachCtx t fun s d c => if ((s.dieAt d).ctxAt c).kind == CtxKind.timed then s.onDieAt d Die.putSettings else s
  t.ctxs.foldl (fun (x : State × Bool) p =>
    let (s2, ok) := x.1.eccReads p.1 (x.1.savedUnits t p.1 p.2)
    (s2, x.2 && ok)) (s1, true)

/-- Every context of the victim is saved and freed; the task waits for its resumption (R142). -/
def State.saveAll (s : State) (t : Task) : State :=
  let kept := t.ctxs.map fun p => s.keepCtx t p.1 p.2
  let s1 := s.eachCtx t fun s d c => (s.saveSections t d c).saveHead t d c
  let s2 := s1.eachCtx t fun s d c => s.onDieAt d fun x => x.leave c
  let s3 := s2.onTask t.lid fun t => { t with st := .saved, saved := kept, startTick := (s.dieAt 1).tick }
  { s3 with sched := { s3.sched with want := true } }

/-- SAVE (R280): the transfers under way complete; a machine check that they or the extent lists meet stops the victim first
(R143). -/
def State.saveTask (s : State) (lid : BitVec 32) : Option State :=
  match s.task? lid with
  | none => none
  | some t =>
    if !s.savable t then none
    else
      let s1 := s.finishFills t
      if s1.stopWaits t then some s1
      else
        match s1.listBad t with
        | some (d, a) => some (s1.checkTask t d 0x41 (BitVec.ofNat 64 a))
        | none =>
          let (s1, ok) := s1.readyRows t
          if !ok then some s1
          else
          let s2 := s1.eachCtx t fun s d c => s.saveBegin t d c
          match s2.saveShort t with
          | some (d, c) => some (s2.saveOverflow t d c)
          | none => some (s2.saveAll t)

/-! ### Coming back (R137, R142, R158, R159, R276) -/

/-- What the bounds of a task read on a die when it resumes: owned ranges their saved rows, or the rows that stayed; the rest 0
(R159, R281). -/
def Die.restoreBounds (d : Die) (bounds owned : List (Nat × Nat)) (rows : List (Nat × Row)) : Die :=
  let keep := rangeUnits owned
  let d1 := (rangeUnits bounds).foldl (fun d u => if keep.contains u then d else d.zeroUnits u 1) d
  d1.writeRows rows

/-- The format tag of a code. -/
def tagOf (code : Nat) : Tag :=
  (([.none, .e4m3, .e5m2, .e2m1, .bf16, .f16, .i8, .sE4m3, .sE5m2, .sI8] : List Tag).find? fun g =>
    (Config.tagCode g.place).toNat == code).getD .none

/-- A row at a place of a run of bytes, its side lane behind it. -/
def rowAt (bs : List Byte) (o : Nat) : Row := mkRow (slice bs o 256) (slice bs (o + 256) 32)

/-- A B buffer from its columns and index rows at one place and its tag bytes at another (Table 11.5). -/
def bufAt (bs : List Byte) (o tags : Nat) : BBuf :=
  { cols := Vector.ofFn fun j => rowAt bs (o + 288 * j.val)
    tags := Vector.ofFn fun j => tagOf (leAt bs (tags + j.val) 1 % 16)
    sc := BitVec.ofNat 16 (packOf 1 ((List.range 16).map fun j => leAt bs (tags + j) 1 / 16 % 2))
    ix := Vector.ofFn fun k => BitVec.ofNat 2048 (leAt bs (o + 4608 + 256 * k.val) 256) }

/-- The entries of a table, `len` bytes each, that are not the identity. -/
def tableOf (bs : List Byte) (len : Nat) : List (Nat × List Byte) :=
  (List.range (bs.length / len)).filterMap fun i =>
    let b := slice bs (len * i) len
    if leNat b = 0 then none else some (i, b)

/-- The live routes whose entries are valid, each with the permutation that it had (R367). -/
def liveOf (live : List Live) (bs : List Byte) : List Live :=
  (List.range 64).filterMap fun i =>
    if leAt bs (768 * i + 4) 1 = 1 then
      some { route := 448 + i, perm := ((live.find? fun l => l.route == 448 + i).map Live.perm).getD [],
             block := leAt bs (768 * i) 4 / 256 }
    else none

/-- A part of the tile side that comes back: what was saved, or what its section now holds. -/
def backAs {α : Type} (old : List Byte) (saved : α) (now : List Byte) (f : List Byte → α) : α := if now = old then saved else f now

/-- The tile side as its save area gives it back (R281); `rd` reads what was written at an offset. -/
def Wall.backFrom (w : Wall) (rd : Nat → List Byte → List Byte) : Wall :=
  let back {α : Type} (off : Nat) (old : List Byte) (saved : α) (f : List Byte → α) : α := backAs old saved (rd off old) f
  let accs (bs : List Byte) : List Cell := w.cells.zipIdx.map fun c =>
    { c.1 with acc := (List.range 64).map fun r => (List.range 16).map fun x => BitVec.ofNat 32 (leAt bs (4096 * c.2 + 64 * r + 4 * x) 4) }
  let bufs (l : List Cell) (bs : List Byte) : List Cell := l.zipIdx.map fun c =>
    { c.1 with active := bufAt bs (11296 * c.2) (11296 * c.2 + 11264), shadow := bufAt bs (11296 * c.2 + 5632) (11296 * c.2 + 11280) }
  let cells := back 0x29F000 w.accBytes w.cells accs
  let live := back 0x6F7800 w.liveBytes w.live (liveOf w.live)
  { w with
    live := live
    blocks := if live == w.live then w.blocks else live.map fun l => (l.route, l.block)
    t := back 0x51000 w.tileBytes w.t fun bs => Vector.ofFn fun i => (List.range 256).map fun k => rowAt bs (73728 * i.val + 288 * k)
    m := back 0x291000 w.maskBytes w.m fun bs => Vector.ofFn fun i =>
      if i.val = 0 then Mask.ones else (List.range 256).map fun k => BitVec.ofNat 256 (leAt bs (8192 * (i.val - 1) + 32 * k) 32)
    cells := back 0x39F000 w.bufBytes cells (bufs cells)
    pats := back 0x661000 (tableBytes w.pats 256 104) w.pats fun bs => tableOf bs 104
    planes := back 0x667800 (tableBytes w.planes 1024 240) w.planes fun bs => tableOf bs 240
    routes := back 0x6A3800 (tableBytes w.routes 448 768) w.routes fun bs => tableOf bs 768 }

/-- What a context's save area gives back of the tile side and of the owned rows (R278, R281). -/
def State.readBack (s : State) (t : Task) (y : SavedCtx) : SavedCtx :=
  let old := y.owned.flatMap fun r => rowBytes r.2 ++ rowSide r.2
  let rows := s.areaRead t.kslot y.area 0x703800 old
  { y with wall := y.wall.map fun w => w.backFrom (s.areaRead t.kslot y.area),
           owned := backAs old y.owned rows fun bs => y.owned.zipIdx.map fun r => (r.1.1, rowAt bs (288 * r.2)) }

/-- A save area in which an uncorrectable error withholds what the resumption reads (R15). -/
def State.areaBad (s : State) (y : SavedCtx) : Option Nat :=
  ((areaPieces y.area 0 0 (if y.wall.isSome then 0x703800 + 288 * y.owned.length else 84 * 1024)).find? fun p =>
    s.hbmBad p.1 p.2.2).map (·.1)

/-- A saved context returns to its die: FC stands at the stop count, its operations keep their remaining latency (R276), its copy
channels stand as they were (R277). -/
def Die.restoreCtx (d : Die) (y : SavedCtx) : Die :=
  let d1 := match y.wall with
    | some w => { d with wall := w, fills := d.fills ++ y.fills, committed := y.committed }.loadSettings
    | none => d
  let d2 := ((chansOf y.cid).zip y.chans).foldl (fun (d : Die) p => { d with chans := d.chans.set p.1.val p.2 p.1.isLt }) d1
  d2.onCtxAt y.cid fun _ => { y.ctx with origin := d.scy - y.ctx.origin }

/-- A pre-empted task resumes on the contexts that it held (R137, R142): a fold of several dies starts at an agreed tick, every
other task at once; contexts that were held stay held (Table 11.7). -/
def State.restoreTask (s : State) (t : Task) : State :=
  let l := t.saved.map (s.readBack t)
  let bad := t.saved.findSome? fun y => (s.areaBad y).map fun a => (y.die, a)
  let dies := allDies.filter fun d => l.any fun y => y.die == d
  let s1 := dies.foldl (fun s d => s.onDieAt d fun x =>
    x.restoreBounds (t.onDie d).bounds (t.onDie d).owned ((l.filter fun y => y.die == d).flatMap (·.owned))) s
  let s2 := l.foldl (fun s y => s.onDieAt y.die fun d => d.restoreCtx y) s1
  let s3 := (s2.onTask t.lid fun t => { t with saved := [], restored := t.multiDie }).letGo t
  match bad, s3.task? t.lid with
  | some (d, a), some t => s3.checkTask t d 0x41 (BitVec.ofNat 64 a)
  | _, _ => s3

/-- SAVE (R280). -/
def execSave (lid : BitVec 32) (s : State) : Host.Outcome State Fault Refusal := enabled "SAVE" (s.saveTask lid)

end Sys2Proof.Machine
end

