-- ==== Sys2Proof/Machine/Scan.lean ====
section
/-! DEFINITION. The scan wall (14 R353, R354): row scans, cross-slice scans with segments, cross-slice reductions. -/

namespace Sys2Proof.Machine

/-- Deliver a tile on sc.q and raise its flags at the visible count. -/
def State.deliverSc (s : State) (l : Nat) (x : Tile × Flags) : State :=
  (s.after l (.port .scq (.t x.1))).raise l x.2

/-- A masked output lane is 0 and raises nothing (R249, R340, R353). -/
def unmasked (m : BitVec 256) (j : Nat) (x : Res) : Res := if governed m 32 j then x else ⟨0, 0⟩

/-- One slice of a row scan (R353). -/
def scanRow (cv : Nat → Res) (ident : Nat) (op : Res → Res → Res) (m : BitVec 256) (v : Row) : Row × Flags :=
  let l := (treeScan op 6 (treeLanes 32 cv ident m v)).zipIdx.map fun x => unmasked m x.2 x.1
  (dataRow (packOf 32 (l.map (·.v))), flagsOf l)

/-- Run a row scan. -/
def runScan (port : BitVec 9) (cv : Nat → Res) (ident : Nat) (op : Res → Res → Res) (g : Guard) (src : Src) (s : State) :
    State :=
  runTrig g src port [] noFaults noWait
    (fun a => a.st.deliverSc 8 (perSlice fun i => scanRow cv ident op (a.mask i) (a.rv i))) s

/-- The elements of every slice, lane by lane, as they enter a cross-slice form. -/
def Args.columns (a : Args) (cv : Nat → Res) (ident : Nat) : List (List Res) :=
  let rows := (List.range 256).map fun i => treeLanes 32 cv ident (a.mask i) (a.rv i)
  (List.range 64).map fun j => rows.map fun r => r.getD j ⟨0, 0⟩

/-- The segmented combination of R256. -/
def segOp (op : Res → Res → Res) (x y : Bool × Res) : Bool × Res :=
  (x.1 || y.1, if y.1 then y.2 else op x.2 y.2)

/-- A segmented scan of one lane over the slices. -/
def segScan (op : Res → Res → Res) (flags : List Bool) (l : List Res) : List Res :=
  (treeScan (segOp op) 8 (flags.zip l)).map (·.2)

/-- Rows from lanes: row i holds element i of every lane. -/
def rowsOfColumns (cols : List (List Nat)) : Tile :=
  (List.range 256).map fun i => dataRow (packOf 32 (cols.map fun c => c.getD i 0))

/-- The segment flags of a lane: bits of the governing byte of sc.f, 0 when it is empty (R354). -/
def segFlags (f : Option Value) (j : Nat) : List Bool :=
  (List.range 256).map fun i => match f with
    | some v => governed ((valMask v).getD i 0) 32 j
    | none => false

/-- Run a cross-slice scan: sc.f is read and consumed when it is full (R354). -/
def runXscan (port : BitVec 9) (cv : Nat → Res) (ident : Nat) (op : Res → Res → Res) (g : Guard) (src : Src)
    (s : State) : State :=
  runTrig g src port [] noFaults noWait
    (fun a =>
      let (f, s1) := match a.st.takeLatch .scf with
        | some (v, s1) => (some v, s1)
        | none => (none, a.st)
      let cols := (a.columns cv ident).zipIdx.map fun c =>
        (segScan op (segFlags f c.2) c.1).zipIdx.map fun x => unmasked (a.mask x.2) c.2 x.1
      s1.deliverSc 24 (rowsOfColumns (cols.map fun c => c.map (·.v)), flagsOf cols.flatten)) s

/-- Run a cross-slice reduction: its value stands in every slice (R354). -/
def runXred (port : BitVec 9) (cv : Nat → Res) (ident : Nat) (op : Res → Res → Res) (g : Guard) (src : Src)
    (s : State) : State :=
  runTrig g src port [] noFaults noWait
    (fun a =>
      let rs := (a.columns cv ident).map fun c => (treeLast op 8 c).getD ⟨0, 0⟩
      a.st.deliverSc 20 (List.replicate 256 (dataRow (packOf 32 (rs.map (·.v)))), flagsOf rs)) s

/-- SC_SCAN_ADD_F32 (R353). -/
def execScScanAddF32 (g : Guard) (src : Src) (s : State) : Host.Outcome State Fault Refusal :=
  .next (runScan 0x176 canonF32 idAdd addF32 g src s)

/-- SC_SCAN_ADD_I32 (R353). -/
def execScScanAddI32 (g : Guard) (src : Src) (s : State) : Host.Outcome State Fault Refusal :=
  .next (runScan 0x177 (fun x => ⟨x, 0⟩) idAdd addI32 g src s)

/-- SC_SCAN_MAX_F32 (R353). -/
def execScScanMaxF32 (g : Guard) (src : Src) (s : State) : Host.Outcome State Fault Refusal :=
  .next (runScan 0x178 canonF32 idMax maxF32 g src s)

/-- SC_SCAN_MIN_F32 (R353). -/
def execScScanMinF32 (g : Guard) (src : Src) (s : State) : Host.Outcome State Fault Refusal :=
  .next (runScan 0x179 canonF32 idMin minF32 g src s)

/-- SC_XSCAN_ADD_F32 (R354). -/
def execScXscanAddF32 (g : Guard) (src : Src) (s : State) : Host.Outcome State Fault Refusal :=
  .next (runXscan 0x17A canonF32 idAdd addF32 g src s)

/-- SC_XSCAN_ADD_I32 (R354). -/
def execScXscanAddI32 (g : Guard) (src : Src) (s : State) : Host.Outcome State Fault Refusal :=
  .next (runXscan 0x17B (fun x => ⟨x, 0⟩) idAdd addI32 g src s)

/-- SC_XSCAN_MAX_F32 (R354). -/
def execScXscanMaxF32 (g : Guard) (src : Src) (s : State) : Host.Outcome State Fault Refusal :=
  .next (runXscan 0x17C canonF32 idMax maxF32 g src s)

/-- SC_XRED_ADD_F32 (R354). -/
def execScXredAddF32 (g : Guard) (src : Src) (s : State) : Host.Outcome State Fault Refusal :=
  .next (runXred 0x17D canonF32 idAdd addF32 g src s)

/-- SC_XRED_ADD_I32 (R354). -/
def execScXredAddI32 (g : Guard) (src : Src) (s : State) : Host.Outcome State Fault Refusal :=
  .next (runXred 0x17E (fun x => ⟨x, 0⟩) idAdd addI32 g src s)

/-- SC_XRED_MAX_F32 (R354). -/
def execScXredMaxF32 (g : Guard) (src : Src) (s : State) : Host.Outcome State Fault Refusal :=
  .next (runXred 0x17F canonF32 idMax maxF32 g src s)

end Sys2Proof.Machine
end

