-- ==== Sys2Proof/Machine/Scheduler.lean ====
section
/-! DEFINITION. The scheduler (05 R130 to R143): the head of each queue and its steps, deficit round robin, placement, pre-emption,
the dispatch of launches and sealed transfers (03 R87, R88, R99, R100), and budgets (R102). -/

namespace Sys2Proof.Machine

/-! ### The launch record (R99, R100, Table 03.8) -/

/-- Field of a record: bits of word `q`. -/
def recFld (rec : List Byte) (q lo len : Nat) : Nat := bits (leAt rec (8 * q) 8) lo len

/-- KIND of a record. -/
def recKind (rec : List Byte) : Nat := recFld rec 0 0 2

/-- Does a prerequisite name a launch rightly (R100)? -/
def State.preNamed (s : State) (q : BitVec 10) (lid pre : BitVec 32) : Bool :=
  let p := queueOf pre
  (s.queue p).func == (s.queue q).func &&
    (p != q || (let d := (lid.toNat % 2 ^ 22 + 2 ^ 22 - pre.toNat % 2 ^ 22) % 2 ^ 22
                decide (1 ≤ d ∧ d < 2 ^ 21)))

/-- Is a prerequisite met (R100)? -/
def State.preMet (s : State) (pre : BitVec 32) : Bool :=
  let d := ((s.queue (queueOf pre)).done.toNat + 2 ^ 22 - pre.toNat % 2 ^ 22) % 2 ^ 22
  decide (1 ≤ d ∧ d ≤ 2 ^ 21)

/-- The prerequisites that a record uses, with the byte offsets of their fields. -/
def recPres (rec : List Byte) : List (Nat × BitVec 32) :=
  ([40, 44, 48].map fun o => (o, BitVec.ofNat 32 (leAt rec o 4))).take (recFld rec 0 14 2)

/-- The checks of a record as pairs of failure and byte offset (R99, R100). -/
def State.recChecks (s : State) (q : BitVec 10) (lid : BitVec 32) (rec : List Byte) : List (Bool × Nat) :=
  let fn := (s.queue q).func
  let kind := recKind rec
  let launch := kind == 0
  let sealed := recFld rec 0 4 1 == 1
  let fold := recFld rec 0 8 3
  let timed := recFld rec 0 11 1
  let free := recFld rec 0 12 2
  let handle : BitVec 32 := BitVec.ofNat 32 (recFld rec 0 32 32)
  let owned := match s.handleObj handle with | some (_, o) => o.fn == fn | none => false
  [(kind == 3, 0), (sealed != s.sealed fn, 0), (!launch && !sealed, 0),
   (launch && timed == 1 && fold == 0, 1), (decide (4 < timed + free), 1), (launch && timed + free == 0, 1),
   (!launch && recFld rec 0 16 1 == 1, 2), (recFld rec 0 17 15 != 0, 2), (launch && !owned, 4),
   (!launch && recFld rec 0 2 2 != 0, 0), (!launch && (fold != 0 || timed != 0 || free != 0), 1), (!launch && handle != 0, 4),
   (!launch && recFld rec 1 0 4 != 0, 8), (!launch && recFld rec 2 0 6 != 0, 16), (!launch && recFld rec 2 48 16 != 0, 22),
   (!launch && recFld rec 3 0 40 == 0, 24), (!launch && recFld rec 3 40 24 != 0, 29),
   (launch && recFld rec 4 0 6 != 0, 32), (recFld rec 4 48 16 != 0, 38), (recFld rec 7 0 5 != 0, 56)] ++
    (recPres rec).map fun p => (!s.preNamed q lid p.2, p.1)

/-- Step 1 of a head (Table 05.1): DETAIL of BADREC, the lowest byte offset of a check that fails (R99). -/
def State.badRec (s : State) (q : BitVec 10) (lid : BitVec 32) (rec : List Byte) : Option Nat :=
  minOf ((s.recChecks q lid rec).filterMap fun c => if c.1 then some c.2 else none)

/-- The dispatch entry that a launch selects, and its index (R119, R121). -/
def State.selectEntry (s : State) (rec : List Byte) : Option (BitVec 10 × Obj × DispEntry × Nat) :=
  match s.handleObj (BitVec.ofNat 32 (recFld rec 0 32 32)) with
  | none => none
  | some (slot, o) =>
    let fold := recFld rec 0 8 3
    let timed := recFld rec 0 11 1
    let none32 := 0xFFFFFFFF
    let fits (e : DispEntry) : Bool :=
      (List.range 6).all (fun k =>
        let v := leAt rec (8 + 4 * k) 4
        decide (e.lo.getD k 0 ≤ v ∧ v ≤ e.hi.getD k 0)) &&
      decide (e.needs % 8 &&& (7 - fld s.pkg.caps 0 3) = 0) &&
      (e.folds.testBit fold || (timed == 0 && fold == 0)) &&
      (timed == 0 || e.tpc != none32) && (recFld rec 0 12 2 == 0 || e.fpc != none32) &&
      (recFld rec 0 2 1 == 0 || e.detok) && (decide (o.isaMin ≤ 1) || e.heft)
    (o.disp.zipIdx.find? fun x => fits x.1).map fun x => (slot, o, x.1, x.2)

/-- Does the service level allow a launch with its selected entry (R35, R37)? -/
def State.levelAllows (s : State) (rec : List Byte) (e : DispEntry) : Bool :=
  match s.pkg.level.toNat with
  | 0 => false
  | 1 => recFld rec 0 3 1 == 1 && recFld rec 0 8 3 == 2
  | 2 => !e.needs.testBit 0 && !e.needs.testBit 2
  | _ => !e.needs.testBit 0 || s.pkg.padUp

/-! ### Heads (R131 to R133) -/

/-- The head of a queue. -/
inductive SchedHead where
  | saved (t : Task)
  | record (lid : BitVec 32) (bytes : List Byte)
  deriving DecidableEq, Repr

/-- The head of a queue: its first pre-empted task, else its first record (R131). -/
def State.head (s : State) (q : BitVec 10) : Option SchedHead :=
  match s.sched.tasks.find? fun t => t.st == .saved && queueOf t.lid == q with
  | some t => some (.saved t)
  | none => (s.queue q).recs.head?.map fun r => .record r.1 r.2

/-- PRIO of a head. -/
def SchedHead.prio : SchedHead → Nat
  | .saved t => t.prio
  | .record _ r => recFld r 0 5 3

/-- COST of a head (Table 05.2). -/
def SchedHead.cost : SchedHead → Nat
  | .saved t => t.ctxs.length
  | .record _ r =>
    if recKind r ≠ 0 then 1
    else
      let fold := recFld r 0 8 3
      let n := recFld r 0 11 1 + recFld r 0 12 2
      if fold ≠ 0 then popcount 3 fold * n else n

/-- Does nothing hold a record that has passed step 1 (steps 2, 4 and 5 of Table 05.1), so that it is checked once more (R99, R110)? -/
def State.recReady (s : State) (r : List Byte) : Bool :=
  (recPres r).all (fun p => s.preMet p.2) && !s.pkg.inForce &&
    (if recKind r ≠ 0 then decide (1 ≤ s.pkg.level.toNat)
     else match s.selectEntry r with
       | some (_, _, e, _) => s.levelAllows r e
       | none => true)

/-- The checks that a head takes now: those of step 1 when it first stands at the head, and again when nothing holds it any more, for
a record is checked at dispatch and what a held one names may have changed (R99, R110, log 21). -/
def State.headBad (s : State) (q : BitVec 10) (lid : BitVec 32) (r : List Byte) : Option Nat :=
  if (s.queue q).passed == some lid && !s.recReady r then none else s.badRec q lid r

/-- The head of a queue passes the steps of Table 05.1, as far as it can: heads that fail step 1 or 3 complete at once. -/
def State.settleHead (q : BitVec 10) : Nat → State → State
  | 0, s => s
  | n + 1, s =>
    let idle (s : State) : State := s.onQueue q fun x => { x with eligible := false, deficit := 0 }
    let wait (s : State) (ok : Bool) : State :=
      if ok then
        (if (s.queue q).eligible then s else s.onQueue q fun x => { x with eligible := true, age := (s.dieAt 1).tick.toNat })
      else idle s
    match s.head q with
    | none => idle s
    | some (.saved _) => wait s (!s.pkg.inForce)
    | some (.record lid r) =>
      match s.headBad q lid r with
      | some d => State.settleHead q n (s.dropRecord q lid r 1 d)
      | none =>
        let s := s.onQueue q fun x => { x with passed := some lid }
        if !(recPres r).all (fun p => s.preMet p.2) then idle s
        else if recKind r == 0 && (s.selectEntry r).isNone && (s.badRec q lid r).isNone then
          State.settleHead q n (s.dropRecord q lid r 2 0)
        else wait s (s.recReady r)

/-- Effective priority of the head of a queue (R132): a saved task ages from its save. -/
def State.ep (s : State) (q : BitVec 10) : Nat :=
  match s.head q with
  | none => 0
  | some h =>
    let since := match h with | .saved t => t.startTick.toNat | .record _ _ => (s.queue q).age
    min 7 (h.prio + ((s.dieAt 1).tick.toNat - since) / 20000000)

/-- WEIGHT of a queue; 0 counts as 1 (Table 03.7). -/
def Queue.weightOf (q : Queue) : Nat := max 1 q.weight.toNat

/-! ### Placement (R135 to R137, R281) -/

/-- The free contexts of a die in service, in ascending order. -/
def State.freeCtxs (s : State) (d : DieId) : List CtxId :=
  if s.inService d then allCtxs.filter fun c => ((s.dieAt d).ctxAt c).kind == CtxKind.none else []

/-- Ranges of a die that saved tasks, but for one, keep there (R281). -/
def State.keptRanges (s : State) (lid : BitVec 32) (d : DieId) : List (Nat × Nat) :=
  s.sched.tasks.flatMap fun t =>
    if t.lid != lid && t.st == .saved && !(t.saved.any fun y => y.die == d && !y.owned.isEmpty) then (t.onDie d).owned else []

/-- The bounds that an object gives a die (R178). -/
def Obj.bounds (o : Obj) (d : DieId) : List (Nat × Nat) :=
  (o.sectsOf 7 d).flatMap fun x => (List.range (x.body.length / 16)).map fun i =>
    (leAt x.body (16 * i) 8 % 2 ^ 28, leAt x.body (16 * i + 8) 8)

/-- May a task with these bounds stand on a die beside what other saved tasks keep there? -/
def State.boundsFree (s : State) (bounds : List (Nat × Nat)) (lid : BitVec 32) (d : DieId) : Bool :=
  bounds.all fun r => (s.keptRanges lid d).all fun k => !overlaps r.1 r.2 k.1 k.2

/-- Can a die take `n` contexts of a launch, one of them timed? -/
def State.dieTakes (s : State) (o : Obj) (lid : BitVec 32) (n : Nat) (timed : Bool) (d : DieId) : Bool :=
  decide (n ≤ (s.freeCtxs d).length) && (!timed || (s.dieAt d).timedCid.isNone) && s.boundsFree (o.bounds d) lid d

/-- The die with the most free contexts, the lowest among equals (R137). -/
def State.bestDie (s : State) (l : List DieId) : Option DieId :=
  l.foldl (fun (b : Option DieId) d =>
    match b with
    | none => some d
    | some e => if (s.freeCtxs e).length < (s.freeCtxs d).length then some d else some e) none

/-- The dies on which a launch is placed, if it is placeable, none of them among `blocked` (R135, R137). -/
def State.placeLaunch (s : State) (blocked : List DieId) (lid : BitVec 32) (r : List Byte) : Option (List DieId) :=
  match s.selectEntry r with
  | none => none
  | some (_, o, _, _) =>
    let fold : BitVec 3 := BitVec.ofNat 3 (recFld r 0 8 3)
    let timed := recFld r 0 11 1 == 1
    let free := recFld r 0 12 2
    if fold ≠ 0 then
      let ds := foldDies fold
      if ds.all fun d => !blocked.contains d && s.dieTakes o lid (timed.toNat + free) timed d then some ds else none
    else
      (s.bestDie ((if s.pkg.level = 1 then [1] else allDies).filter fun d =>
        !blocked.contains d && s.dieTakes o lid free false d)).map fun d => [d]

/-- The dies on which a head is placed: none of a transfer; of a saved task its own (R136, R137). -/
def State.placeHead (s : State) (blocked : List DieId) : SchedHead → Option (List DieId)
  | .saved t =>
    if t.saved.all fun y => !blocked.contains y.die && s.inService y.die && ((s.dieAt y.die).ctxAt y.cid).kind == CtxKind.none &&
        (y.wall.isNone || (s.dieAt y.die).timedCid.isNone) && s.boundsFree (t.onDie y.die).bounds t.lid y.die then
      some (allDies.filter fun d => t.saved.any fun y => y.die == d)
    else none
  | .record lid r => if recKind r ≠ 0 then (if s.sched.xfers.length < 8 then some [] else none) else s.placeLaunch blocked lid r

/-- The dies that a head needs (R135): its fold, its own dies, or any die. -/
def SchedHead.needs : SchedHead → List DieId
  | .saved t => allDies.filter fun d => t.saved.any fun y => y.die == d
  | .record _ r =>
    if recKind r ≠ 0 then []
    else if recFld r 0 8 3 ≠ 0 then foldDies (BitVec.ofNat 3 (recFld r 0 8 3)) else allDies

/-- Does a head need a timed context (R139)? -/
def SchedHead.needsTimed : SchedHead → Bool
  | .saved t => t.timed
  | .record _ r => recKind r == 0 && recFld r 0 11 1 == 1

/-- Contexts that a head needs on each of its dies. -/
def SchedHead.perDie : SchedHead → Nat
  | .saved t => t.timed.toNat + t.freeCtx
  | .record _ r => recFld r 0 11 1 + recFld r 0 12 2

/-! ### Pre-emption (R139, R140) -/

/-- Does a task hold a timed context on one of several dies? -/
def State.holdsTimed (s : State) (t : Task) (ds : List DieId) : Bool := ds.any fun d => (s.timedOf t d).isSome

/-- Contexts that a task holds on a die. -/
def Task.heldOn (t : Task) (d : DieId) : Nat := (t.ctxs.filter fun p => p.1 == d).length

/-- Would a head fit if the contexts of some tasks were free? A saved task needs those that it held (R137). -/
def State.wouldFit (s : State) (h : SchedHead) (l : List Task) : Bool :=
  match h with
  | .saved t => t.saved.all fun y => (s.freeCtxs y.die).contains y.cid || l.any fun v => v.ctxs.contains (y.die, y.cid)
  | .record _ _ => h.needs.all fun d =>
      decide (h.perDie ≤ (s.freeCtxs d).length + (l.map fun t => t.heldOn d).foldl (· + ·) 0)

/-- Insert a task into those to be taken: ascending PRIO, the most recently dispatched first among equals (R139); of two of one pass
that is the one inserted later. -/
def insertVictim (t : Task) : List Task → List Task
  | [] => [t]
  | x :: l => if t.prio < x.prio || (t.prio == x.prio && decide (x.dispAt ≤ t.dispAt)) then t :: x :: l else x :: insertVictim t l

/-- Take tasks from a list until a head fits. -/
def State.takeUntil (s : State) (h : SchedHead) : List Task → List Task → List Task
  | taken, [] => taken
  | taken, t :: l => if s.wouldFit h taken then taken else State.takeUntil s h (taken ++ [t]) l

/-- The tasks that R139 names for a blocked head. -/
def State.victims (s : State) (h : SchedHead) : List Task :=
  let live := s.sched.tasks.filter fun t => t.st != .saved
  let timed := live.filter fun t => s.holdsTimed t h.needs
  let others := (live.filter fun t => !timed.contains t && h.needs.any fun d => decide (0 < t.heldOn d)).foldl
    (fun l t => insertVictim t l) []
  s.takeUntil h timed others

/-- May a task be a victim of a head with effective priority `ep` (R139, R278, R280)? One that is being pre-empted already counts;
one that has not started yet does not (log 42). -/
def State.victimOk (s : State) (ep : Nat) (t : Task) : Bool :=
  decide (t.prio < ep) &&
    (t.agreed.isSome || t.st == .saving ||
      ((t.st == .running || t.st == .held) && !t.noVictim && t.ctxs.all fun p => bit (s.saveList p.1 p.2) 63))

/-- The count of a member of a fold as die 1 takes it to be (R140): its own, a partner's by R50; of a fold of several dies without die 1
what the member's messages gave and the ticks since, of a fold of one die its SCY by R50 less its origin (log 17). -/
def State.estFc (s : State) (t : Task) (d : DieId) : Nat :=
  let x := s.dieAt 1
  let p := x.partners.get d
  if d = 1 then x.fcNow
  else if !t.multiDie then
    ((x.scy.toNat : Int) + p.raw -
      (((s.timedOf t d).map fun c => ((s.dieAt d).ctxAt c).origin).getD 0).toNat).toNat
  else if t.fold.getLsbD 1 then ((x.fcNow : Int) + p.offset + (p.waited : Nat)).toNat
  else p.fc + 6 + (x.tick - p.lastArr).toNat

/-- A task begins to be pre-empted: with a timed context at an agreed count, else at its contexts' next boundaries (R140). -/
def State.preempt (s : State) (t : Task) : State :=
  if t.agreed.isSome || t.st == .saving then s
  else if t.timed then
    let p := ((foldDies t.fold).map (s.estFc t)).foldl max 0 + 2048
    let now := (s.dieAt 1).tick
    s.onTask t.lid fun t => { t with agreed := some { count := p, since := now, named := now, here := [], leaving := [], reports := [] } }
  else s.stopVictim t (s.heldOf t)

/-- PREEMPTION_DECISION (R139). -/
def State.decidePreempt (s : State) (h : SchedHead) (ep : Nat) : State :=
  let l := s.victims h
  if h.needsTimed && s.wouldFit h l && l.all (s.victimOk ep) then l.foldl State.preempt s else s

/-! ### Dispatch (R87, R101, R137, R138, R158) -/

/-- What a task holds on a die at its start (R158, R197). -/
def TaskDie.fresh (bounds : List (Nat × Nat)) : TaskDie :=
  { tokens := .replicate 64 .clear, bounds := bounds, owned := [], pinned := [], pinMap := [], phase := 0, tokIds := [], solves := [] }

/-- The contexts that a launch takes on a die: the timed one first (R137). -/
def State.takeCtxs (s : State) (timed : Bool) (free : Nat) (d : DieId) : List (DieId × CtxId × Bool) :=
  ((s.freeCtxs d).take (timed.toNat + free)).zipIdx.map fun x => (d, x.1, timed && x.2 == 0)

/-- A context at the start of a task (Table 06.4, R101, R119, R122). -/
def startCtx (o : Obj) (e : DispEntry) (r : List Byte) (lid : BitVec 32) (timed held : Bool) (rank team : Nat) (scy : Word) : Ctx :=
  let z := Ctx.reset
  let regs := (((z.s.set 1 (BitVec.ofNat 64 (recFld r 4 0 48))).set 2 (BitVec.ofNat 64 rank)).set 3 (BitVec.ofNat 64 team)).set 4
    (BitVec.ofNat 64 lid.toNat)
  { z with
    kind := if timed then .timed else .free
    lid := lid
    status := if held then .held else .run
    s := regs
    bundle := o.base + (if timed then e.tpc else e.fpc)
    base := o.base
    codeLen := if e.heft then o.bundles else o.code
    origin := scy
    startScy := scy
    priv := recFld r 0 16 1 == 1
    shape := Vector.ofFn fun k => BitVec.ofNat 32 (leAt r (8 + 4 * k.val) 4)
    padShape := Vector.ofFn fun k => BitVec.ofNat 32 (e.hi.getD k.val 0)
    numProf := o.numProf }

/-- A die takes the contexts of a task: its bounds read 0, its tile side stands as at task start (R158). -/
def Die.takeTask (d : Die) (bounds : List (Nat × Nat)) (timed : Bool) : Die :=
  let d1 := (normRanges bounds).foldl (fun d r => d.zeroUnits (r.1 / 256) (r.2 / 256)) d
  if timed then { d1 with wall := Wall.reset, fills := [], committed := .replicate 8 0, rx := .replicate 16 [] } else d1

/-- Phase set 0 is checked at task start; a failure waits for the first group of the rank-0 context (R197). -/
def State.startPhase (s : State) (t : Task) : State :=
  match t.ctxs.head? with
  | some p =>
    if t.det && (allDies.any fun d => t.ctxs.any (fun x => x.1 == d) && s.phaseOverlap t d 0) then
      s.defer p.1 p.2 ⟨0x0C, 0, 0, 0, 2, 0⟩
    else s
  | none => s

/-- DISPATCH of a launch (R137, R138): the contexts are taken; a fold of several dies starts at an agreed tick. -/
def State.dispatchLaunch (s : State) (q : BitVec 10) (lid : BitVec 32) (r : List Byte) (ds : List DieId) : State :=
  match s.selectEntry r with
  | none => s
  | some (slot, o, e, i) =>
    let fn := (s.queue q).func
    let timed := recFld r 0 11 1 == 1
    let fold : BitVec 3 := BitVec.ofNat 3 (recFld r 0 8 3)
    let l := ds.flatMap (s.takeCtxs timed (recFld r 0 12 2))
    let multi := timed && decide (1 < ds.length)
    let ref : DieId := ds.headD 0
    let here (d : DieId) : List (Nat × Nat) := if ds.contains d then o.bounds d else []
    let t : Task := {
      lid := lid
      fn := fn
      obj := slot.toNat
      handle := BitVec.ofNat 32 (recFld r 0 32 32)
      entry := i
      record := r
      fold := fold
      timed := timed
      freeCtx := recFld r 0 12 2
      prio := recFld r 0 5 3
      det := recFld r 0 2 1 == 1
      supv := recFld r 0 16 1 == 1
      redsvc := recFld r 0 3 1 == 1
      asid := s.asidOf fn
      kslot := s.fnSlot fn
      budget := leAt r 52 4
      ctxs := l.map fun x => (x.1, x.2.1)
      st := if multi then .starting else .running
      dies := #v[TaskDie.fresh (here 0), TaskDie.fresh (here 1), TaskDie.fresh (here 2)]
      polgen := 0
      startTick := BitVec.ofNat 64 (s.estTickOf ref + 4096)
      refDie := ref
      primary := none
      agreed := none
      dispAt := (s.dieAt 1).tick
      noVictim := false
      heldCtxs := []
      restored := false
      saved := []
      discards := 0
      startOn := 0
      stopCounts := []
      causes := []
      reported := false
      bound1 := s.pkg.level == 1 }
    let s0 := if multi then s.onDieAt 1 fun x => { x with partners := x.partners.map fun (p : Partner) => { p with fc := 0 } } else s
    let s1 := ds.foldl (fun s d => s.onDieAt d fun x => x.takeTask (o.bounds d) timed) s0
    let s2 := l.zipIdx.foldl (fun s x =>
      s.onCtxAt x.1.1 x.1.2.1 fun _ => startCtx o e r lid x.1.2.2 multi x.2 l.length (s.dieAt x.1.1).scy) s1
    let s3 := s2.onQueue q fun x =>
      { x with recs := x.recs.filter fun y => y.1 != lid, dispatched := x.dispatched + 1, eligible := false }
    let s4 : State := { s3 with sched := { s3.sched with tasks := s3.sched.tasks ++ [t] } }
    s4.startPhase t

/-- DISPATCH of a sealed transfer (R87): the counter of its direction advances. -/
def State.dispatchXfer (s : State) (q : BitVec 10) (lid : BitVec 32) (r : List Byte) : State :=
  let fn := (s.queue q).func
  let dirIn := recKind r == 1
  let n := if dirIn then (s.fn fn).ctrIn else (s.fn fn).ctrOut
  let s1 := s.onFn fn fun f => if dirIn then { f with ctrIn := f.ctrIn + 1 } else { f with ctrOut := f.ctrOut + 1 }
  let s2 := s1.onQueue q fun x =>
    { x with recs := x.recs.filter fun y => y.1 != lid, dispatched := x.dispatched + 1, eligible := false }
  { s2 with sched := { s2.sched with xfers := s2.sched.xfers ++ [{ lid := lid, fn := fn, dirIn := dirIn, record := r, number := n }] } }

/-- DISPATCH (R137). -/
def State.dispatch (s : State) (q : BitVec 10) (h : SchedHead) (ds : List DieId) : State :=
  match h with
  | .saved t => (s.restoreTask t).onQueue q fun x => { x with eligible := false }
  | .record lid r => if recKind r ≠ 0 then s.dispatchXfer q lid r else s.dispatchLaunch q lid r ds

/-! ### The pass (R130, R134, R135) -/

/-- What a pass carries: the state, and the dies that blocked heads of higher levels need. -/
structure Pass where
  st : State
  blocked : List DieId

/-- The queues that hold a record or a pre-empted task. -/
def State.busyQueues (s : State) : List (BitVec 10) :=
  ((List.range 1024).map (BitVec.ofNat 10)).filter fun q => (s.head q).isSome

/-- The queues whose heads a pass looks at: a queue that is empty now loses its deficit (R133). -/
def State.toSettle (s : State) : List (BitVec 10) :=
  ((List.range 1024).map (BitVec.ofNat 10)).filter fun q => (s.head q).isSome || (s.queue q).deficit != 0 || (s.queue q).eligible

/-- The inner loop of R134 for one queue: at most `fuel` dispatches. -/
def Pass.serve (lvl : Nat) (q : BitVec 10) : Nat → Pass → Pass
  | 0, p => p
  | n + 1, p =>
    let s := p.st
    match s.head q with
    | none => p
    | some h =>
      if !(s.queue q).eligible || s.ep q != lvl || (s.queue q).deficit < h.cost then p
      else
        match s.placeHead p.blocked h with
        | none => p
        | some ds =>
          let s1 := s.onQueue q fun x => { x with deficit := x.deficit - h.cost }
          let s2 := State.settleHead q 65 (s1.dispatch q h ds)
          let s3 : State := { s2 with host := { s2.host with cursor := s2.host.cursor.setIfInBounds lvl q.toNat } }
          Pass.serve lvl q n { p with st := s3 }

/-- One queue at a level (R134, R135): its deficit grows, its heads are served, and a head that stays blocked asks for a
pre-emption. The dies that it needs are given to `add`. -/
def Pass.queue (lvl : Nat) (p : Pass × List DieId) (q : BitVec 10) : Pass × List DieId :=
  let s := p.1.st
  match s.head q with
  | none => p
  | some h =>
    if !(s.queue q).eligible || s.ep q != lvl then p
    else
      let s1 := if (s.queue q).deficit < h.cost then
          s.onQueue q fun x => { x with deficit := min (x.deficit + x.weightOf) (x.weightOf + 12) }
        else s
      let p1 := Pass.serve lvl q 70 { p.1 with st := s1 }
      match p1.st.head q with
      | none => (p1, p.2)
      | some h1 =>
        let x := p1.st.queue q
        if x.eligible && p1.st.ep q == lvl && decide (h1.cost ≤ x.deficit) && (p1.st.placeHead [] h1).isNone then
          ({ p1 with st := p1.st.decidePreempt h1 lvl }, p.2 ++ h1.needs)
        else (p1, p.2)

/-- The queues of a level, ascending, starting after the queue served last (R134). -/
def State.atLevel (s : State) (lvl : Nat) : List (BitVec 10) :=
  let c := s.host.cursor.toList.getD lvl 1023
  let l := s.busyQueues.filter fun q => (s.queue q).eligible && s.ep q == lvl
  l.filter (fun q => decide (c < q.toNat)) ++ l.filter fun q => decide (q.toNat ≤ c)

/-- One level of a pass. -/
def Pass.level (p : Pass) (lvl : Nat) : Pass :=
  let r := (p.st.atLevel lvl).foldl (Pass.queue lvl) (p, [])
  { r.1 with blocked := r.1.blocked ++ r.2 }

/-- A dispatch pass (R134). -/
def State.pass (s : State) : State :=
  let s1 : State := { s with sched := { s.sched with want := false, passAt := (s.dieAt 1).tick } }
  let s2 := s1.toSettle.foldl (fun s q => State.settleHead q 65 s) s1
  ([7, 6, 5, 4, 3, 2, 1, 0].foldl Pass.level { st := s2, blocked := [] }).st

/-- DISPATCH_PASS (R130): on an event that asks for one, or when 10 µs have passed. -/
def State.dispatchPass (s : State) : Option State :=
  if s.pkg.power && decide (1 ≤ s.pkg.level.toNat) &&
      (s.sched.want || decide (20000 ≤ ((s.dieAt 1).tick - s.sched.passAt).toNat)) then
    some s.pass
  else none

/-! ### Sealed transfers (R87, R88) -/

/-- The chunks of a transfer: index, offset and length. -/
def xferChunks (len : Nat) : List (Nat × Nat × Nat) :=
  (List.range ((len + 65535) / 65536)).map fun i => (i, 65536 * i, min 65536 (len - 65536 * i))

/-- The nonce of a chunk (R87). -/
def nonceOf (out : Bool) (i : Nat) (number : Word) : Nat := out.toNat * 2 ^ 95 + i % 2 ^ 31 * 2 ^ 64 + number.toNat

/-- Is a page of a transfer unmapped in the VF's address space or of another slot (R88)? -/
def State.xferRange (s : State) (fn : BitVec 6) (va n : Nat) : Bool :=
  (pagePieces va n).any fun a =>
    decide (2 ^ 48 ≤ a.1) ||
      (match s.walk (s.asidOf fn) a.1 with
       | .ok e => e.kslot != (s.fn fn).slot || e.kslot != s.slotOf (e.phys a.1)
       | .error _ => true)

/-- A transfer ends (R103). -/
def State.endXfer (s : State) (x : Xfer) (outcome detail : Nat) : State :=
  let s1 : State := { s with sched := { s.sched with xfers := s.sched.xfers.filter fun y => y.lid != x.lid } }
  s1.complete x.lid (leAt x.record 56 8) outcome 0 detail

/-- The plaintexts of an inbound transfer's chunks, or the first chunk whose tag fails. -/
def State.openChunks (s : State) (x : Xfer) : List (Nat × Nat × Nat) → Except Nat (List (Nat × List Byte))
  | [] => .ok []
  | (i, off, n) :: l =>
    let a := leAt x.record 8 8 + off + 16 * i
    match gcmOpen (s.fn x.fn).xferKey (nonceOf false i x.number) (slice x.record 0 48) (s.hostRead x.fn a n)
        (s.hostRead x.fn (a + n) 16) with
    | none => .error i
    | some p =>
      match State.openChunks s x l with
      | .error k => .error k
      | .ok ps => .ok ((off, slice p 0 n) :: ps)

/-- SEALED_TRANSFER_IN (R88). -/
def State.transferIn (s : State) (lid : BitVec 32) : Option State :=
  match s.sched.xfers.find? fun x => x.lid == lid && x.dirIn && !(s.dieAt 1).frozen with
  | none => none
  | some x =>
    let va := recFld x.record 2 0 48
    let len := recFld x.record 3 0 40
    let asid := s.asidOf x.fn
    if s.xferRange x.fn va len then some (s.endXfer x 8 0)
    else
      match s.openChunks x (xferChunks len) with
      | .ok ps => some ((ps.foldl (fun s p => s.writeVirt asid (va + p.1) p.2) s).endXfer x 0 0)
      | .error k =>
        let s1 := s.writeVirt asid va (List.replicate len 0)
        some ((s1.postEvent x.fn 0x11 1 (queueOf lid).toNat (leBytes 8 (lid.toNat + k % 2 ^ 32 * 2 ^ 32))).endXfer x 7 k)

/-- The plaintext of an outbound chunk; data that an uncorrectable error withholds is a free value, and the error is posted (R15). -/
def State.outChunk (s : State) (asid : BitVec 8) (va n : Nat) : State × List Byte :=
  (pagePieces va n).foldl (fun (r : State × List Byte) a =>
    let (s, bs) := r
    match s.walk asid a.1 with
    | .error _ => (s, bs)
    | .ok e =>
      if s.hbmBad (e.phys a.1) a.2 then
        let d : DieId := ⟨hbmDie (e.phys a.1) % 3, by omega⟩
        let s1 := s.postEvent 0 0x24 d 0 (leBytes 8 (e.phys a.1) ++ [0x41])
        let s2 : State := { s1 with fresh := s1.fresh + a.2 }
        (s2, bs ++ freeBytes s1.fresh a.2)
      else (s, bs ++ s.hbm.readN (e.phys a.1) a.2)) (s, [])

/-- A chunk of a sealed transfer out (R88): `n` bytes from offset `off` leave encrypted, their tag behind them. -/
def State.sealChunk (s : State) (x : Xfer) (i off n : Nat) : State :=
  let (s1, plain) := s.outChunk (s.asidOf x.fn) (recFld x.record 2 0 48 + off) n
  let (cipher, tag) := gcmSeal (s.fn x.fn).xferKey (nonceOf true i x.number) (slice x.record 0 48) plain
  s1.hostPut x.fn (leAt x.record 8 8 + off + 16 * i) (slice cipher 0 n ++ slice tag 0 16)

/-- SEALED_TRANSFER_OUT (R88): every chunk with its tag, then the completion record. -/
def State.transferOut (s : State) (lid : BitVec 32) : Option State :=
  match s.sched.xfers.find? fun x => x.lid == lid && !x.dirIn && !(s.dieAt 1).frozen with
  | none => none
  | some x =>
    let len := recFld x.record 3 0 40
    if s.xferRange x.fn (recFld x.record 2 0 48) len then some (s.endXfer x 8 0)
    else
      let s1 := (xferChunks len).foldl (fun s c => s.sealChunk x c.1 c.2.1 c.2.2) s
      some (s1.endXfer x 0 0)

/-! ### Budgets (R102, R142) -/

/-- BUDGET_EXPIRY (R102): wall time from dispatch, whatever state the task is in. -/
def State.budgetExpiry (s : State) (lid : BitVec 32) : Option State :=
  match s.task? lid with
  | none => none
  | some t =>
    if t.budget = 0 || decide (((s.dieAt 1).tick - t.dispAt).toNat < 2000 * t.budget) then none
    else some (s.endTask t 3 0)

/-! ### The events -/

/-- DISPATCH_PASS (R134). -/
def execDispatchPass (s : State) : Host.Outcome State Fault Refusal := enabled "DISPATCH_PASS" s.dispatchPass

/-- SEALED_TRANSFER_IN (R88). -/
def execSealedTransferIn (lid : BitVec 32) (s : State) : Host.Outcome State Fault Refusal :=
  enabled "SEALED_TRANSFER_IN" (s.transferIn lid)

/-- SEALED_TRANSFER_OUT (R88). -/
def execSealedTransferOut (lid : BitVec 32) (s : State) : Host.Outcome State Fault Refusal :=
  enabled "SEALED_TRANSFER_OUT" (s.transferOut lid)

/-- BUDGET_EXPIRY (R102). -/
def execBudgetExpiry (lid : BitVec 32) (s : State) : Host.Outcome State Fault Refusal :=
  enabled "BUDGET_EXPIRY" (s.budgetExpiry lid)

end Sys2Proof.Machine
end

