-- ==== Sys2Proof/Machine/Dispatch.lean ====
section
/-! DEFINITION. The one dispatch from each constructor of Instr to its meaning. -/

namespace Sys2Proof.Machine

def exec (i : Instr) (s : State) : Host.Outcome State Fault Refusal :=
  match i with
  | .perstRelease => Sys2Proof.Machine.execPerstRelease s
  | .stageA => Sys2Proof.Machine.execStageA s
  | .stageB => Sys2Proof.Machine.execStageB s
  | .stageC => Sys2Proof.Machine.execStageC s
  | .stageD strap0 strap2 => Sys2Proof.Machine.execStageD strap0 strap2 s
  | .stageE => Sys2Proof.Machine.execStageE s
  | .stageFailure code => Sys2Proof.Machine.execStageFailure code s
  | .pfReset => Sys2Proof.Machine.execPfReset s
  | .functionLevelReset fn => Sys2Proof.Machine.execFunctionLevelReset fn s
  | .thermalPowerOff => Sys2Proof.Machine.execThermalPowerOff s
  | .clockMachineCheck d => Sys2Proof.Machine.execClockMachineCheck d s
  | .controlParity d c => Sys2Proof.Machine.execControlParity d c s
  | .farLaneFrame d l fixed bad => Sys2Proof.Machine.execFarLaneFrame d l fixed bad s
  | .farPathLost b => Sys2Proof.Machine.execFarPathLost b s
  | .countMessageSend d => Sys2Proof.Machine.execCountMessageSend d s
  | .countMessage d crc => Sys2Proof.Machine.execCountMessage d crc s
  | .countMessagesMissing d o => Sys2Proof.Machine.execCountMessagesMissing d o s
  | .freezeEventMessage d crc => Sys2Proof.Machine.execFreezeEventMessage d crc s
  | .stopEventMessage d crc => Sys2Proof.Machine.execStopEventMessage d crc s
  | .freezeDebtPaid d => Sys2Proof.Machine.execFreezeDebtPaid d s
  | .scrubRead d u new => Sys2Proof.Machine.execScrubRead d u new s
  | .lossOfLight p l => Sys2Proof.Machine.execLossOfLight p l s
  | .spareLaserLock p => Sys2Proof.Machine.execSpareLaserLock p s
  | .spareWavelengthLock p => Sys2Proof.Machine.execSpareWavelengthLock p s
  | .dataFlit p peer h data crc tag => Sys2Proof.Machine.execDataFlit p peer h data crc tag s
  | .idleFlit p lack => Sys2Proof.Machine.execIdleFlit p lack s
  | .acknowledgement p lack => Sys2Proof.Machine.execAcknowledgement p lack s
  | .restripeMarker p mask => Sys2Proof.Machine.execRestripeMarker p mask s
  | .creditReturn p vc n => Sys2Proof.Machine.execCreditReturn p vc n s
  | .drainMarker p => Sys2Proof.Machine.execDrainMarker p s
  | .replayRequest p lack => Sys2Proof.Machine.execReplayRequest p lack s
  | .replayTimeout p => Sys2Proof.Machine.execReplayTimeout p s
  | .replayRequestRepeat p => Sys2Proof.Machine.execReplayRequestRepeat p s
  | .acknowledgementTimer p => Sys2Proof.Machine.execAcknowledgementTimer p s
  | .planeDrain k => Sys2Proof.Machine.execPlaneDrain k s
  | .planeDrainForce k => Sys2Proof.Machine.execPlaneDrainForce k s
  | .planeEnable k => Sys2Proof.Machine.execPlaneEnable k s
  | .planeEnableCommit k => Sys2Proof.Machine.execPlaneEnableCommit k s
  | .planeDrained k => Sys2Proof.Machine.execPlaneDrained k s
  | .planeEnabled k => Sys2Proof.Machine.execPlaneEnabled k s
  | .membersetWrite v => Sys2Proof.Machine.execMembersetWrite v s
  | .readRequest p k => Sys2Proof.Machine.execReadRequest p k s
  | .readResponse p => Sys2Proof.Machine.execReadResponse p s
  | .writeRequest p k => Sys2Proof.Machine.execWriteRequest p k s
  | .flagRequest p => Sys2Proof.Machine.execFlagRequest p s
  | .writeAndFlagResponse p => Sys2Proof.Machine.execWriteAndFlagResponse p s
  | .atomicRequest p => Sys2Proof.Machine.execAtomicRequest p s
  | .atomicResponse p => Sys2Proof.Machine.execAtomicResponse p s
  | .orderedAtomicRequest p => Sys2Proof.Machine.execOrderedAtomicRequest p s
  | .orderedFetchedValueWrite p => Sys2Proof.Machine.execOrderedFetchedValueWrite p s
  | .orderedAtomicStatus p => Sys2Proof.Machine.execOrderedAtomicStatus p s
  | .threePartyRequest p k => Sys2Proof.Machine.execThreePartyRequest p k s
  | .delivery p k => Sys2Proof.Machine.execDelivery p k s
  | .threePartyStatus p => Sys2Proof.Machine.execThreePartyStatus p s
  | .reductionRead p k => Sys2Proof.Machine.execReductionRead p k s
  | .reductionValue p => Sys2Proof.Machine.execReductionValue p s
  | .superstepArrive p => Sys2Proof.Machine.execSuperstepArrive p s
  | .superstepReady p => Sys2Proof.Machine.execSuperstepReady p s
  | .superstepAbort p => Sys2Proof.Machine.execSuperstepAbort p s
  | .superstepDone p => Sys2Proof.Machine.execSuperstepDone p s
  | .superstepTimeout k => Sys2Proof.Machine.execSuperstepTimeout k s
  | .streamRow p => Sys2Proof.Machine.execStreamRow p s
  | .streamCredit p => Sys2Proof.Machine.execStreamCredit p s
  | .fabricTimeout k => Sys2Proof.Machine.execFabricTimeout k s
  | .streamtimeout d c => Sys2Proof.Machine.execStreamtimeout d c s
  | .stageWrite fn q off bs => Sys2Proof.Machine.execStageWrite fn q off bs s
  | .recordSubmit fn q off bs => Sys2Proof.Machine.execRecordSubmit fn q off bs s
  | .flush fn q => Sys2Proof.Machine.execFlush fn q s
  | .qcfgWrite fn q v => Sys2Proof.Machine.execQcfgWrite fn q v s
  | .dmwinWrite v => Sys2Proof.Machine.execDmwinWrite v s
  | .bar4Read off n => Sys2Proof.Machine.execBar4Read off n s
  | .bar4Write off bs => Sys2Proof.Machine.execBar4Write off bs s
  | .pwrlimWrite v => Sys2Proof.Machine.execPwrlimWrite v s
  | .lowpwrWrite v => Sys2Proof.Machine.execLowpwrWrite v s
  | .wake => Sys2Proof.Machine.execWake s
  | .wakeHoldEnd => Sys2Proof.Machine.execWakeHoldEnd s
  | .registerWrite r => Sys2Proof.Machine.execRegisterWrite r s
  | .getVersion fn => Sys2Proof.Machine.execGetVersion fn s
  | .getCapabilities fn => Sys2Proof.Machine.execGetCapabilities fn s
  | .negotiateAlgorithms fn offered => Sys2Proof.Machine.execNegotiateAlgorithms fn offered s
  | .getDigests fn => Sys2Proof.Machine.execGetDigests fn s
  | .getCertificate fn off len => Sys2Proof.Machine.execGetCertificate fn off len s
  | .challenge fn nonce => Sys2Proof.Machine.execChallenge fn nonce s
  | .getMeasurements fn index sign nonce => Sys2Proof.Machine.execGetMeasurements fn index sign nonce s
  | .keyExchange fn req => Sys2Proof.Machine.execKeyExchange fn req s
  | .finish fn good => Sys2Proof.Machine.execFinish fn good s
  | .heartbeat fn => Sys2Proof.Machine.execHeartbeat fn s
  | .heartbeatFailure fn => Sys2Proof.Machine.execHeartbeatFailure fn s
  | .keyUpdate fn => Sys2Proof.Machine.execKeyUpdate fn s
  | .endSession fn => Sys2Proof.Machine.execEndSession fn s
  | .ideKeyManagement fn stream => Sys2Proof.Machine.execIdeKeyManagement fn stream s
  | .ideStreamInsecure fn stream => Sys2Proof.Machine.execIdeStreamInsecure fn stream s
  | .lockInterface fn => Sys2Proof.Machine.execLockInterface fn s
  | .startInterface fn => Sys2Proof.Machine.execStartInterface fn s
  | .stopInterface fn => Sys2Proof.Machine.execStopInterface fn s
  | .loadObject fn secured req => Sys2Proof.Machine.execLoadObject fn secured req s
  | .unloadObject fn secured handle => Sys2Proof.Machine.execUnloadObject fn secured handle s
  | .attestationLogRead fn => Sys2Proof.Machine.execAttestationLogRead fn s
  | .dispatchPass => Sys2Proof.Machine.execDispatchPass s
  | .sealedTransferIn lid => Sys2Proof.Machine.execSealedTransferIn lid s
  | .sealedTransferOut lid => Sys2Proof.Machine.execSealedTransferOut lid s
  | .foldStart d => Sys2Proof.Machine.execFoldStart d s
  | .agreedCount lid d => Sys2Proof.Machine.execAgreedCount lid d s
  | .noPreemptOverrun lid d => Sys2Proof.Machine.execNoPreemptOverrun lid d s
  | .save lid => Sys2Proof.Machine.execSave lid s
  | .budgetExpiry lid => Sys2Proof.Machine.execBudgetExpiry lid s
  | .governorSettlement r => Sys2Proof.Machine.execGovernorSettlement r s
  | .freezeDebtRaise d => Sys2Proof.Machine.execFreezeDebtRaise d s
  | .freeContextSwitch d => Sys2Proof.Machine.execFreeContextSwitch d s
  | .contextRetire d c => Sys2Proof.Machine.execContextRetire d c s
  | .alignRelease d => Sys2Proof.Machine.execAlignRelease d s
  | .alignmentTimeout d => Sys2Proof.Machine.execAlignmentTimeout d s
  | .stopctlResume d c => Sys2Proof.Machine.execStopctlResume d c s
  | .stopctlEnd d c => Sys2Proof.Machine.execStopctlEnd d c s
  | .queueEntryPerformed d c seq off => Sys2Proof.Machine.execQueueEntryPerformed d c seq off s
  | .fillStart d k rows => Sys2Proof.Machine.execFillStart d k rows s
  | .fillCompletion d k => Sys2Proof.Machine.execFillCompletion d k s
  | .tableLoadComplete d => Sys2Proof.Machine.execTableLoadComplete d s
  | .solveComplete d => Sys2Proof.Machine.execSolveComplete d s
  | .pinComplete d => Sys2Proof.Machine.execPinComplete d s
  | .copyComplete d ch blocks => Sys2Proof.Machine.execCopyComplete d ch blocks s
  | .copyFailure d ch => Sys2Proof.Machine.execCopyFailure d ch s
  | .copyErrClear d c seq => Sys2Proof.Machine.execCopyErrClear d c seq s
  | .invalWrite r => Sys2Proof.Machine.execInvalWrite r s
  | .slotmapWrite r => Sys2Proof.Machine.execSlotmapWrite r s
  | .polgenWrite d c seq => Sys2Proof.Machine.execPolgenWrite d c seq s
  | .rmodeWrite d c => Sys2Proof.Machine.execRmodeWrite d c s
  | .windowDescriptorWrite d c seq => Sys2Proof.Machine.execWindowDescriptorWrite d c seq s
  | .streamcfgWrite d c seq => Sys2Proof.Machine.execStreamcfgWrite d c seq s
  | .obspost n => Sys2Proof.Machine.execObspost n s
  | .actpop n => Sys2Proof.Machine.execActpop n s
  | .wfi n => Sys2Proof.Machine.execWfi n s
  | .wfiWake n => Sys2Proof.Machine.execWfiWake n s
  | .copyOnWrite n page => Sys2Proof.Machine.execCopyOnWrite n page s
  | .penAccessFault n => Sys2Proof.Machine.execPenAccessFault n s
  | .stepBudget n => Sys2Proof.Machine.execStepBudget n s
  | .episodeBudget n => Sys2Proof.Machine.execEpisodeBudget n s
  | .wallBackstop n => Sys2Proof.Machine.execWallBackstop n s
  | .paddockHardwareError n => Sys2Proof.Machine.execPaddockHardwareError n s
  | .penCreate d c seq => Sys2Proof.Machine.execPenCreate d c seq s
  | .penReset d c seq => Sys2Proof.Machine.execPenReset d c seq s
  | .penHalt d c seq => Sys2Proof.Machine.execPenHalt d c seq s
  | .penSnap d c seq => Sys2Proof.Machine.execPenSnap d c seq s
  | .penReadrec d c seq => Sys2Proof.Machine.execPenReadrec d c seq s
  | .penDestroy d c seq => Sys2Proof.Machine.execPenDestroy d c seq s
  | .sbiGetSpecVersion n => Sys2Proof.Machine.execSbiGetSpecVersion n s
  | .sbiGetImplId n => Sys2Proof.Machine.execSbiGetImplId n s
  | .sbiGetImplVersion n => Sys2Proof.Machine.execSbiGetImplVersion n s
  | .sbiProbeExtension n => Sys2Proof.Machine.execSbiProbeExtension n s
  | .sbiGetMvendorid n => Sys2Proof.Machine.execSbiGetMvendorid n s
  | .sbiGetMarchid n => Sys2Proof.Machine.execSbiGetMarchid n s
  | .sbiGetMimpid n => Sys2Proof.Machine.execSbiGetMimpid n s
  | .sbiNotSupported n => Sys2Proof.Machine.execSbiNotSupported n s
  | .move g h src dst => Sys2Proof.Machine.execMove g h src dst s
  | .nop => Sys2Proof.Machine.execNop s
  | .ia0Add g src => Sys2Proof.Machine.execIa0Add g src s
  | .ia0Sub g src => Sys2Proof.Machine.execIa0Sub g src s
  | .ia0And g src => Sys2Proof.Machine.execIa0And g src s
  | .ia0Or g src => Sys2Proof.Machine.execIa0Or g src s
  | .ia0Xor g src => Sys2Proof.Machine.execIa0Xor g src s
  | .ia0Andn g src => Sys2Proof.Machine.execIa0Andn g src s
  | .ia0Orn g src => Sys2Proof.Machine.execIa0Orn g src s
  | .ia0Shl g src => Sys2Proof.Machine.execIa0Shl g src s
  | .ia0Shr g src => Sys2Proof.Machine.execIa0Shr g src s
  | .ia0Sar g src => Sys2Proof.Machine.execIa0Sar g src s
  | .ia0Rol g src => Sys2Proof.Machine.execIa0Rol g src s
  | .ia0Ror g src => Sys2Proof.Machine.execIa0Ror g src s
  | .ia0Min g src => Sys2Proof.Machine.execIa0Min g src s
  | .ia0Max g src => Sys2Proof.Machine.execIa0Max g src s
  | .ia0Minu g src => Sys2Proof.Machine.execIa0Minu g src s
  | .ia0Maxu g src => Sys2Proof.Machine.execIa0Maxu g src s
  | .ia0Clz g src => Sys2Proof.Machine.execIa0Clz g src s
  | .ia0Ctz g src => Sys2Proof.Machine.execIa0Ctz g src s
  | .ia0Popc g src => Sys2Proof.Machine.execIa0Popc g src s
  | .ia0Sext8 g src => Sys2Proof.Machine.execIa0Sext8 g src s
  | .ia0Sext16 g src => Sys2Proof.Machine.execIa0Sext16 g src s
  | .ia0Sext32 g src => Sys2Proof.Machine.execIa0Sext32 g src s
  | .ia0Zext32 g src => Sys2Proof.Machine.execIa0Zext32 g src s
  | .ia0Bext g src => Sys2Proof.Machine.execIa0Bext g src s
  | .ia0Bins g src => Sys2Proof.Machine.execIa0Bins g src s
  | .ia0Ceq g src => Sys2Proof.Machine.execIa0Ceq g src s
  | .ia0Cne g src => Sys2Proof.Machine.execIa0Cne g src s
  | .ia0Clt g src => Sys2Proof.Machine.execIa0Clt g src s
  | .ia0Cltu g src => Sys2Proof.Machine.execIa0Cltu g src s
  | .ia0Cle g src => Sys2Proof.Machine.execIa0Cle g src s
  | .ia0Cleu g src => Sys2Proof.Machine.execIa0Cleu g src s
  | .imMul g src => Sys2Proof.Machine.execImMul g src s
  | .imMulhu g src => Sys2Proof.Machine.execImMulhu g src s
  | .imMulhsu g src => Sys2Proof.Machine.execImMulhsu g src s
  | .imDiv g src => Sys2Proof.Machine.execImDiv g src s
  | .imDivu g src => Sys2Proof.Machine.execImDivu g src s
  | .ia1Add g src => Sys2Proof.Machine.execIa1Add g src s
  | .ia1Sub g src => Sys2Proof.Machine.execIa1Sub g src s
  | .ia1And g src => Sys2Proof.Machine.execIa1And g src s
  | .ia1Or g src => Sys2Proof.Machine.execIa1Or g src s
  | .ia1Xor g src => Sys2Proof.Machine.execIa1Xor g src s
  | .ia1Andn g src => Sys2Proof.Machine.execIa1Andn g src s
  | .ia1Shl g src => Sys2Proof.Machine.execIa1Shl g src s
  | .ia1Shr g src => Sys2Proof.Machine.execIa1Shr g src s
  | .ia1Sar g src => Sys2Proof.Machine.execIa1Sar g src s
  | .ia1Ceq g src => Sys2Proof.Machine.execIa1Ceq g src s
  | .ia1Clt g src => Sys2Proof.Machine.execIa1Clt g src s
  | .ia1Cltu g src => Sys2Proof.Machine.execIa1Cltu g src s
  | .brJmp g src => Sys2Proof.Machine.execBrJmp g src s
  | .brCall g src => Sys2Proof.Machine.execBrCall g src s
  | .brLoop g src => Sys2Proof.Machine.execBrLoop g src s
  | .brRotcfg g src => Sys2Proof.Machine.execBrRotcfg g src s
  | .brYield g src => Sys2Proof.Machine.execBrYield g src s
  | .brAlign g src => Sys2Proof.Machine.execBrAlign g src s
  | .brExit g src => Sys2Proof.Machine.execBrExit g src s
  | .brExitAbandon g src => Sys2Proof.Machine.execBrExitAbandon g src s
  | .brTrap g src => Sys2Proof.Machine.execBrTrap g src s
  | .lsLdb g src => Sys2Proof.Machine.execLsLdb g src s
  | .lsLdbu g src => Sys2Proof.Machine.execLsLdbu g src s
  | .lsLdh g src => Sys2Proof.Machine.execLsLdh g src s
  | .lsLdhu g src => Sys2Proof.Machine.execLsLdhu g src s
  | .lsLdw g src => Sys2Proof.Machine.execLsLdw g src s
  | .lsLdwu g src => Sys2Proof.Machine.execLsLdwu g src s
  | .lsLdd g src => Sys2Proof.Machine.execLsLdd g src s
  | .lsStb g src => Sys2Proof.Machine.execLsStb g src s
  | .lsSth g src => Sys2Proof.Machine.execLsSth g src s
  | .lsStw g src => Sys2Proof.Machine.execLsStw g src s
  | .lsStd g src => Sys2Proof.Machine.execLsStd g src s
  | .lsLdrow g src => Sys2Proof.Machine.execLsLdrow g src s
  | .lsStrow g src => Sys2Proof.Machine.execLsStrow g src s
  | .lsStrowm g src => Sys2Proof.Machine.execLsStrowm g src s
  | .lsQmark g src => Sys2Proof.Machine.execLsQmark g src s
  | .syAmoAddW g src => Sys2Proof.Machine.execSyAmoAddW g src s
  | .syAmoAddD g src => Sys2Proof.Machine.execSyAmoAddD g src s
  | .syAmoAndW g src => Sys2Proof.Machine.execSyAmoAndW g src s
  | .syAmoAndD g src => Sys2Proof.Machine.execSyAmoAndD g src s
  | .syAmoOrW g src => Sys2Proof.Machine.execSyAmoOrW g src s
  | .syAmoOrD g src => Sys2Proof.Machine.execSyAmoOrD g src s
  | .syAmoXorW g src => Sys2Proof.Machine.execSyAmoXorW g src s
  | .syAmoXorD g src => Sys2Proof.Machine.execSyAmoXorD g src s
  | .syAmoMinW g src => Sys2Proof.Machine.execSyAmoMinW g src s
  | .syAmoMinD g src => Sys2Proof.Machine.execSyAmoMinD g src s
  | .syAmoMaxW g src => Sys2Proof.Machine.execSyAmoMaxW g src s
  | .syAmoMaxD g src => Sys2Proof.Machine.execSyAmoMaxD g src s
  | .syAmoMinuW g src => Sys2Proof.Machine.execSyAmoMinuW g src s
  | .syAmoMinuD g src => Sys2Proof.Machine.execSyAmoMinuD g src s
  | .syAmoMaxuW g src => Sys2Proof.Machine.execSyAmoMaxuW g src s
  | .syAmoMaxuD g src => Sys2Proof.Machine.execSyAmoMaxuD g src s
  | .syAmoSwapW g src => Sys2Proof.Machine.execSyAmoSwapW g src s
  | .syAmoSwapD g src => Sys2Proof.Machine.execSyAmoSwapD g src s
  | .syAmoCasW g src => Sys2Proof.Machine.execSyAmoCasW g src s
  | .syAmoCasD g src => Sys2Proof.Machine.execSyAmoCasD g src s
  | .syFenceR g src => Sys2Proof.Machine.execSyFenceR g src s
  | .syFenceW g src => Sys2Proof.Machine.execSyFenceW g src s
  | .syFenceRw g src => Sys2Proof.Machine.execSyFenceRw g src s
  | .syTokWait g src => Sys2Proof.Machine.execSyTokWait g src s
  | .syTokTest g src => Sys2Proof.Machine.execSyTokTest g src s
  | .syTokId g src => Sys2Proof.Machine.execSyTokId g src s
  | .syTokClr g src => Sys2Proof.Machine.execSyTokClr g src s
  | .syBarArrive g src => Sys2Proof.Machine.execSyBarArrive g src s
  | .syBarWait g src => Sys2Proof.Machine.execSyBarWait g src s
  | .syPhase g src => Sys2Proof.Machine.execSyPhase g src s
  | .fxRldW g h src => Sys2Proof.Machine.execFxRldW g h src s
  | .fxRldD g h src => Sys2Proof.Machine.execFxRldD g h src s
  | .fxRldrow g h src => Sys2Proof.Machine.execFxRldrow g h src s
  | .fxRstW g h src => Sys2Proof.Machine.execFxRstW g h src s
  | .fxRstD g h src => Sys2Proof.Machine.execFxRstD g h src s
  | .fxRstrow g h src => Sys2Proof.Machine.execFxRstrow g h src s
  | .fxRamoAdd g h src => Sys2Proof.Machine.execFxRamoAdd g h src s
  | .fxRamoAnd g h src => Sys2Proof.Machine.execFxRamoAnd g h src s
  | .fxRamoOr g h src => Sys2Proof.Machine.execFxRamoOr g h src s
  | .fxRamoXor g h src => Sys2Proof.Machine.execFxRamoXor g h src s
  | .fxRamoMin g h src => Sys2Proof.Machine.execFxRamoMin g h src s
  | .fxRamoMax g h src => Sys2Proof.Machine.execFxRamoMax g h src s
  | .fxRamoSwap g h src => Sys2Proof.Machine.execFxRamoSwap g h src s
  | .fxRamoCas g h src => Sys2Proof.Machine.execFxRamoCas g h src s
  | .fxRamoAddOrd g h src => Sys2Proof.Machine.execFxRamoAddOrd g h src s
  | .fxRamoAndOrd g h src => Sys2Proof.Machine.execFxRamoAndOrd g h src s
  | .fxRamoOrOrd g h src => Sys2Proof.Machine.execFxRamoOrOrd g h src s
  | .fxRamoXorOrd g h src => Sys2Proof.Machine.execFxRamoXorOrd g h src s
  | .fxRamoMinOrd g h src => Sys2Proof.Machine.execFxRamoMinOrd g h src s
  | .fxRamoMaxOrd g h src => Sys2Proof.Machine.execFxRamoMaxOrd g h src s
  | .fxRamoSwapOrd g h src => Sys2Proof.Machine.execFxRamoSwapOrd g h src s
  | .fxRamoCasOrd g h src => Sys2Proof.Machine.execFxRamoCasOrd g h src s
  | .fxRdel g h src => Sys2Proof.Machine.execFxRdel g h src s
  | .fxRdelg g h src => Sys2Proof.Machine.execFxRdelg g h src s
  | .fxMlrAddF32 g h src => Sys2Proof.Machine.execFxMlrAddF32 g h src s
  | .fxMlrAddBf16 g h src => Sys2Proof.Machine.execFxMlrAddBf16 g h src s
  | .fxMlrMaxF32 g h src => Sys2Proof.Machine.execFxMlrMaxF32 g h src s
  | .fxMlrMaxBf16 g h src => Sys2Proof.Machine.execFxMlrMaxBf16 g h src s
  | .fxMlrMinF32 g h src => Sys2Proof.Machine.execFxMlrMinF32 g h src s
  | .fxMlrMinBf16 g h src => Sys2Proof.Machine.execFxMlrMinBf16 g h src s
  | .fxMlrAddI32 g h src => Sys2Proof.Machine.execFxMlrAddI32 g h src s
  | .fxMlrAddI64 g h src => Sys2Proof.Machine.execFxMlrAddI64 g h src s
  | .fxFlag g h src => Sys2Proof.Machine.execFxFlag g h src s
  | .fxSstep g h src => Sys2Proof.Machine.execFxSstep g h src s
  | .fxSpush g src => Sys2Proof.Machine.execFxSpush g src s
  | .fxSpop g src => Sys2Proof.Machine.execFxSpop g src s
  | .fxMbsend g h src => Sys2Proof.Machine.execFxMbsend g h src s
  | .fxMbrecv g h src => Sys2Proof.Machine.execFxMbrecv g h src s
  | .fxMbpeek g h src => Sys2Proof.Machine.execFxMbpeek g h src s
  | .fxPen g h src => Sys2Proof.Machine.execFxPen g h src s
  | .vxFaddF32 g src => Sys2Proof.Machine.execVxFaddF32 g src s
  | .vxFsubF32 g src => Sys2Proof.Machine.execVxFsubF32 g src s
  | .vxFmulF32 g src => Sys2Proof.Machine.execVxFmulF32 g src s
  | .vxFmaF32 g src => Sys2Proof.Machine.execVxFmaF32 g src s
  | .vxFmsF32 g src => Sys2Proof.Machine.execVxFmsF32 g src s
  | .vxFnmaF32 g src => Sys2Proof.Machine.execVxFnmaF32 g src s
  | .vxFnmsF32 g src => Sys2Proof.Machine.execVxFnmsF32 g src s
  | .vxFminF32 g src => Sys2Proof.Machine.execVxFminF32 g src s
  | .vxFmaxF32 g src => Sys2Proof.Machine.execVxFmaxF32 g src s
  | .vxFminNumF32 g src => Sys2Proof.Machine.execVxFminNumF32 g src s
  | .vxFmaxNumF32 g src => Sys2Proof.Machine.execVxFmaxNumF32 g src s
  | .vxFcmpEqF32 g src => Sys2Proof.Machine.execVxFcmpEqF32 g src s
  | .vxFcmpLtF32 g src => Sys2Proof.Machine.execVxFcmpLtF32 g src s
  | .vxFcmpLeF32 g src => Sys2Proof.Machine.execVxFcmpLeF32 g src s
  | .vxFcmpUnF32 g src => Sys2Proof.Machine.execVxFcmpUnF32 g src s
  | .vxFaddBf16 g src => Sys2Proof.Machine.execVxFaddBf16 g src s
  | .vxFsubBf16 g src => Sys2Proof.Machine.execVxFsubBf16 g src s
  | .vxFmulBf16 g src => Sys2Proof.Machine.execVxFmulBf16 g src s
  | .vxFmaBf16 g src => Sys2Proof.Machine.execVxFmaBf16 g src s
  | .vxFmsBf16 g src => Sys2Proof.Machine.execVxFmsBf16 g src s
  | .vxFnmaBf16 g src => Sys2Proof.Machine.execVxFnmaBf16 g src s
  | .vxFnmsBf16 g src => Sys2Proof.Machine.execVxFnmsBf16 g src s
  | .vxFminBf16 g src => Sys2Proof.Machine.execVxFminBf16 g src s
  | .vxFmaxBf16 g src => Sys2Proof.Machine.execVxFmaxBf16 g src s
  | .vxFaddF16 g src => Sys2Proof.Machine.execVxFaddF16 g src s
  | .vxFmulF16 g src => Sys2Proof.Machine.execVxFmulF16 g src s
  | .vxFmaF16 g src => Sys2Proof.Machine.execVxFmaF16 g src s
  | .vxFmaxF16 g src => Sys2Proof.Machine.execVxFmaxF16 g src s
  | .vxFmulE4m3 g src => Sys2Proof.Machine.execVxFmulE4m3 g src s
  | .vxFmulE5m2 g src => Sys2Proof.Machine.execVxFmulE5m2 g src s
  | .vxFmulE2m1 g src => Sys2Proof.Machine.execVxFmulE2m1 g src s
  | .vxIaddI32 g src => Sys2Proof.Machine.execVxIaddI32 g src s
  | .vxIsubI32 g src => Sys2Proof.Machine.execVxIsubI32 g src s
  | .vxIaddSI32 g src => Sys2Proof.Machine.execVxIaddSI32 g src s
  | .vxIsubSI32 g src => Sys2Proof.Machine.execVxIsubSI32 g src s
  | .vxImulI32 g src => Sys2Proof.Machine.execVxImulI32 g src s
  | .vxImadI32 g src => Sys2Proof.Machine.execVxImadI32 g src s
  | .vxIminI32 g src => Sys2Proof.Machine.execVxIminI32 g src s
  | .vxImaxI32 g src => Sys2Proof.Machine.execVxImaxI32 g src s
  | .vxIminuI32 g src => Sys2Proof.Machine.execVxIminuI32 g src s
  | .vxImaxuI32 g src => Sys2Proof.Machine.execVxImaxuI32 g src s
  | .vxIcmpEqI32 g src => Sys2Proof.Machine.execVxIcmpEqI32 g src s
  | .vxIcmpLtI32 g src => Sys2Proof.Machine.execVxIcmpLtI32 g src s
  | .vxIcmpLtuI32 g src => Sys2Proof.Machine.execVxIcmpLtuI32 g src s
  | .vxShlI32 g src => Sys2Proof.Machine.execVxShlI32 g src s
  | .vxShrI32 g src => Sys2Proof.Machine.execVxShrI32 g src s
  | .vxSarI32 g src => Sys2Proof.Machine.execVxSarI32 g src s
  | .vxPopcI32 g src => Sys2Proof.Machine.execVxPopcI32 g src s
  | .vxClzI32 g src => Sys2Proof.Machine.execVxClzI32 g src s
  | .vxIaddI16 g src => Sys2Proof.Machine.execVxIaddI16 g src s
  | .vxIaddI8 g src => Sys2Proof.Machine.execVxIaddI8 g src s
  | .vxIaddSI8 g src => Sys2Proof.Machine.execVxIaddSI8 g src s
  | .vxAnd g src => Sys2Proof.Machine.execVxAnd g src s
  | .vxOr g src => Sys2Proof.Machine.execVxOr g src s
  | .vxXor g src => Sys2Proof.Machine.execVxXor g src s
  | .vxAndn g src => Sys2Proof.Machine.execVxAndn g src s
  | .vxLut3 g src => Sys2Proof.Machine.execVxLut3 g src s
  | .vxSel g src => Sys2Proof.Machine.execVxSel g src s
  | .vxRot g src => Sys2Proof.Machine.execVxRot g src s
  | .vxFsh g src => Sys2Proof.Machine.execVxFsh g src s
  | .vxCvtF32Bf16 g src => Sys2Proof.Machine.execVxCvtF32Bf16 g src s
  | .vxCvtF32F16 g src => Sys2Proof.Machine.execVxCvtF32F16 g src s
  | .vxCvtBf16F32 g src => Sys2Proof.Machine.execVxCvtBf16F32 g src s
  | .vxCvtF16F32 g src => Sys2Proof.Machine.execVxCvtF16F32 g src s
  | .vxCvtF32E4m3Sat g src => Sys2Proof.Machine.execVxCvtF32E4m3Sat g src s
  | .vxCvtF32E4m3Nan g src => Sys2Proof.Machine.execVxCvtF32E4m3Nan g src s
  | .vxCvtF32E5m2Sat g src => Sys2Proof.Machine.execVxCvtF32E5m2Sat g src s
  | .vxCvtF32E5m2Inf g src => Sys2Proof.Machine.execVxCvtF32E5m2Inf g src s
  | .vxCvtF32E2m1 g src => Sys2Proof.Machine.execVxCvtF32E2m1 g src s
  | .vxCvtBf16E4m3Sat g src => Sys2Proof.Machine.execVxCvtBf16E4m3Sat g src s
  | .vxCvtBf16E5m2Sat g src => Sys2Proof.Machine.execVxCvtBf16E5m2Sat g src s
  | .vxCvtE4m3F32 g src => Sys2Proof.Machine.execVxCvtE4m3F32 g src s
  | .vxCvtE5m2F32 g src => Sys2Proof.Machine.execVxCvtE5m2F32 g src s
  | .vxCvtE2m1F32 g src => Sys2Proof.Machine.execVxCvtE2m1F32 g src s
  | .vxCvtE4m3Bf16 g src => Sys2Proof.Machine.execVxCvtE4m3Bf16 g src s
  | .vxCvtF32I32 g src => Sys2Proof.Machine.execVxCvtF32I32 g src s
  | .vxCvtI32F32 g src => Sys2Proof.Machine.execVxCvtI32F32 g src s
  | .vxCvtI8F32 g src => Sys2Proof.Machine.execVxCvtI8F32 g src s
  | .vxCvtF32I8 g src => Sys2Proof.Machine.execVxCvtF32I8 g src s
  | .vxCvtI4I8 g src => Sys2Proof.Machine.execVxCvtI4I8 g src s
  | .vxCvtI32I8S g src => Sys2Proof.Machine.execVxCvtI32I8S g src s
  | .vxCvtF32E4m3SatAmax g src => Sys2Proof.Machine.execVxCvtF32E4m3SatAmax g src s
  | .vxCvtF32E5m2SatAmax g src => Sys2Proof.Machine.execVxCvtF32E5m2SatAmax g src s
  | .vxCvtF32Bf16Amax g src => Sys2Proof.Machine.execVxCvtF32Bf16Amax g src s
  | .vxCvtSrF32E4m3Sat g src => Sys2Proof.Machine.execVxCvtSrF32E4m3Sat g src s
  | .vxCvtSrF32E5m2Sat g src => Sys2Proof.Machine.execVxCvtSrF32E5m2Sat g src s
  | .vxCvtSrF32Bf16 g src => Sys2Proof.Machine.execVxCvtSrF32Bf16 g src s
  | .vxRcpF32 g src => Sys2Proof.Machine.execVxRcpF32 g src s
  | .vxRsqrtF32 g src => Sys2Proof.Machine.execVxRsqrtF32 g src s
  | .vxSqrtF32 g src => Sys2Proof.Machine.execVxSqrtF32 g src s
  | .vxExp2F32 g src => Sys2Proof.Machine.execVxExp2F32 g src s
  | .vxLog2F32 g src => Sys2Proof.Machine.execVxLog2F32 g src s
  | .vxRsumF32 g src => Sys2Proof.Machine.execVxRsumF32 g src s
  | .vxRsumBf16 g src => Sys2Proof.Machine.execVxRsumBf16 g src s
  | .vxRmaxF32 g src => Sys2Proof.Machine.execVxRmaxF32 g src s
  | .vxRmaxBf16 g src => Sys2Proof.Machine.execVxRmaxBf16 g src s
  | .vxRminF32 g src => Sys2Proof.Machine.execVxRminF32 g src s
  | .vxRminBf16 g src => Sys2Proof.Machine.execVxRminBf16 g src s
  | .vxRsumI32 g src => Sys2Proof.Machine.execVxRsumI32 g src s
  | .vxRsumI8 g src => Sys2Proof.Machine.execVxRsumI8 g src s
  | .vxBscaleE4m3 g src => Sys2Proof.Machine.execVxBscaleE4m3 g src s
  | .vxBscaleE5m2 g src => Sys2Proof.Machine.execVxBscaleE5m2 g src s
  | .vxBscaleE2m1 g src => Sys2Proof.Machine.execVxBscaleE2m1 g src s
  | .vxBquantE4m3 g src => Sys2Proof.Machine.execVxBquantE4m3 g src s
  | .vxBquantE5m2 g src => Sys2Proof.Machine.execVxBquantE5m2 g src s
  | .vxBquantE2m1 g src => Sys2Proof.Machine.execVxBquantE2m1 g src s
  | .scScanAddF32 g src => Sys2Proof.Machine.execScScanAddF32 g src s
  | .scScanAddI32 g src => Sys2Proof.Machine.execScScanAddI32 g src s
  | .scScanMaxF32 g src => Sys2Proof.Machine.execScScanMaxF32 g src s
  | .scScanMinF32 g src => Sys2Proof.Machine.execScScanMinF32 g src s
  | .scXscanAddF32 g src => Sys2Proof.Machine.execScXscanAddF32 g src s
  | .scXscanAddI32 g src => Sys2Proof.Machine.execScXscanAddI32 g src s
  | .scXscanMaxF32 g src => Sys2Proof.Machine.execScXscanMaxF32 g src s
  | .scXredAddF32 g src => Sys2Proof.Machine.execScXredAddF32 g src s
  | .scXredAddI32 g src => Sys2Proof.Machine.execScXredAddI32 g src s
  | .scXredMaxF32 g src => Sys2Proof.Machine.execScXredMaxF32 g src s
  | .mxPushE4m3 g src => Sys2Proof.Machine.execMxPushE4m3 g src s
  | .mxPushE5m2 g src => Sys2Proof.Machine.execMxPushE5m2 g src s
  | .mxPushE2m1 g src => Sys2Proof.Machine.execMxPushE2m1 g src s
  | .mxPushBf16 g src => Sys2Proof.Machine.execMxPushBf16 g src s
  | .mxPushF16 g src => Sys2Proof.Machine.execMxPushF16 g src s
  | .mxPushI8 g src => Sys2Proof.Machine.execMxPushI8 g src s
  | .mxPushSp g src => Sys2Proof.Machine.execMxPushSp g src s
  | .mxPushIx g src => Sys2Proof.Machine.execMxPushIx g src s
  | .mxSwap g src => Sys2Proof.Machine.execMxSwap g src s
  | .mxAccE4m3 g src => Sys2Proof.Machine.execMxAccE4m3 g src s
  | .mxAccE5m2 g src => Sys2Proof.Machine.execMxAccE5m2 g src s
  | .mxAccE2m1 g src => Sys2Proof.Machine.execMxAccE2m1 g src s
  | .mxAccBf16 g src => Sys2Proof.Machine.execMxAccBf16 g src s
  | .mxAccF16 g src => Sys2Proof.Machine.execMxAccF16 g src s
  | .mxAccI8 g src => Sys2Proof.Machine.execMxAccI8 g src s
  | .mxAccSp g src => Sys2Proof.Machine.execMxAccSp g src s
  | .mxDrain4 g src => Sys2Proof.Machine.execMxDrain4 g src s
  | .mxDrain8Bf16 g src => Sys2Proof.Machine.execMxDrain8Bf16 g src s
  | .mxDrainE4m3 g src => Sys2Proof.Machine.execMxDrainE4m3 g src s
  | .mxZero g src => Sys2Proof.Machine.execMxZero g src s
  | .ag0Set g r => Sys2Proof.Machine.execAg0Set g r s
  | .ag0Rd g src => Sys2Proof.Machine.execAg0Rd g src s
  | .ag0Step g src => Sys2Proof.Machine.execAg0Step g src s
  | .ag1Set g r => Sys2Proof.Machine.execAg1Set g r s
  | .ag1Rd g src => Sys2Proof.Machine.execAg1Rd g src s
  | .ag1Step g src => Sys2Proof.Machine.execAg1Step g src s
  | .ag2Set g r => Sys2Proof.Machine.execAg2Set g r s
  | .ag2Wr g src => Sys2Proof.Machine.execAg2Wr g src s
  | .ag2Step g src => Sys2Proof.Machine.execAg2Step g src s
  | .ag3Set g r => Sys2Proof.Machine.execAg3Set g r s
  | .ag3Wr g src => Sys2Proof.Machine.execAg3Wr g src s
  | .ag3Step g src => Sys2Proof.Machine.execAg3Step g src s
  | .nwLdroute g src => Sys2Proof.Machine.execNwLdroute g src s
  | .nwLdpat g src => Sys2Proof.Machine.execNwLdpat g src s
  | .nwLdplane g src => Sys2Proof.Machine.execNwLdplane g src s
  | .nwSolve g src => Sys2Proof.Machine.execNwSolve g src s
  | .nwFarclr g src => Sys2Proof.Machine.execNwFarclr g src s
  | .nwFarstat g src => Sys2Proof.Machine.execNwFarstat g src s
  | .feFill g src => Sys2Proof.Machine.execFeFill g src s
  | .feSpill g src => Sys2Proof.Machine.execFeSpill g src s
  | .feBfill g src => Sys2Proof.Machine.execFeBfill g src s
  | .feGfill g src => Sys2Proof.Machine.execFeGfill g src s
  | .feSspill g src => Sys2Proof.Machine.execFeSspill g src s
  | .fePin g src => Sys2Proof.Machine.execFePin g src s
  | .sySrd g src => Sys2Proof.Machine.execSySrd g src s
  | .sySwr g src => Sys2Proof.Machine.execSySwr g src s
  | .syClaim g src => Sys2Proof.Machine.execSyClaim g src s
  | .syPublish g src => Sys2Proof.Machine.execSyPublish g src s
  | .syRfe g src => Sys2Proof.Machine.execSyRfe g src s
  | .syBrk g src => Sys2Proof.Machine.execSyBrk g src s
  | .keyRenewalRetraining p => Sys2Proof.Machine.execKeyRenewalRetraining p s
  | .hbmRefreshScrub pa bad => Sys2Proof.Machine.execHbmRefreshScrub pa bad s
  | .penHartSwitch h n => Sys2Proof.Machine.execPenHartSwitch h n s
  | .penInstruction n => Sys2Proof.Machine.execPenInstruction n s

end Sys2Proof.Machine
end

