-- ==== Sys2Proof/Machine/Due.lean ====
section
/-! DEFINITION. The event of the package that is due when nothing is named from outside (log 2): whatever the package does of
itself happens at the first moment at which its rule lets it, in the order below. -/

namespace Sys2Proof.Machine

/-- An event, if its condition holds. -/
def ifEnabled (i : Instr) (o : Option State) : Option Instr := if o.isSome then some i else none

/-- The first event of a list whose condition holds. -/
def firstEnabled (l : List (Instr × (Unit → Option State))) : Option Instr := l.findSome? fun x => ifEnabled x.1 (x.2 ())

/-! ### Bring-up and registers -/

/-- The stages of bring-up end as they should (R34). -/
def State.dueStage (s : State) : Option Instr :=
  firstEnabled [(.stageA, fun _ => s.stageA), (.stageB, fun _ => s.stageB), (.stageC, fun _ => s.stageC),
    (.stageD false false, fun _ => s.stageD false false), (.stageE, fun _ => s.stageE)]

/-- The package at the temperature at which it removes its power (R28), a die whose neighbour's clock drifts (R20), and the governor's
settlement with what the sensors and meters show (R148). -/
def State.duePower (s : State) : Option Instr :=
  firstEnabled [(.thermalPowerOff, fun _ => s.thermalOff), (.clockMachineCheck 0, fun _ => s.clockCheck 0),
    (.clockMachineCheck 1, fun _ => s.clockCheck 1), (.clockMachineCheck 2, fun _ => s.clockCheck 2),
    (.governorSettlement s.pkg.sensors, fun _ => s.settlement s.pkg.sensors)]

/-- A special register that a context wrote takes its value. -/
def State.dueSreg (s : State) (d : DieId) : Option Instr :=
  allCtxs.findSome? fun c =>
    if (((s.dieAt d).ctxAt c).dueSreg (s.dieAt d).scy).isNone then none
    else firstEnabled [(.rmodeWrite d c, fun _ => s.sregStep .rmode d c), (.invalWrite (.special d c), fun _ => s.sregStep .inval d c),
      (.slotmapWrite (.special d c), fun _ => s.sregStep .slotmap d c), (.stopctlResume d c, fun _ => s.sregStep .resume d c),
      (.stopctlEnd d c, fun _ => s.sregStep .finish d c), (.registerWrite (.special d c), fun _ => s.sregStep .plain d c)]

/-! ### The wall and the fold -/

/-- Commands of the fill engines and results that come by an event (R191, R212, R362, R366, R380). -/
def State.dueWall (s : State) (d : DieId) : Option Instr :=
  let n := (s.dieAt d).fills.length
  match firstEnabled [(.tableLoadComplete d, fun _ => s.tableDone d), (.solveComplete d, fun _ => s.solveDone d),
      (.pinComplete d, fun _ => s.pinDone d)] with
  | some i => some i
  | none =>
    match (List.range n).findSome? fun k => ifEnabled (.fillCompletion d k) (s.fillDone d k) with
    | some i => some i
    | none => (List.range n).findSome? fun k =>
        if ((s.dieAt d).fills[k]?.map fun (f : Fill) => f.started).getD true then none
        else ifEnabled (.fillStart d k []) (s.fillStart d k [])

/-- The sideband, the far lanes and the fold of a die (R44, R49 to R51, R138, R164 to R169). -/
def State.dueFold (s : State) (d : DieId) : Option Instr :=
  let lane : Option Instr := (s.dieAt d).flight.findSome? fun f =>
    ifEnabled (.farLaneFrame d f.lane 0 false) (s.farFrame d f.lane 0 false)
  let more := firstEnabled [(.countMessageSend d, fun _ => s.countSend d), (.countMessage d true, fun _ => s.countMessage d true),
    (.freezeEventMessage d true, fun _ => s.freezeMessage d true), (.stopEventMessage d true, fun _ => s.stopMessage d true),
    (.countMessagesMissing d 0, fun _ => s.countsMissing d 0), (.countMessagesMissing d 1, fun _ => s.countsMissing d 1),
    (.countMessagesMissing d 2, fun _ => s.countsMissing d 2), (.foldStart d, fun _ => s.foldStart d),
    (.alignRelease d, fun _ => s.alignRelease d), (.alignmentTimeout d, fun _ => s.alignTimeout d),
    (.freezeDebtRaise d, fun _ => s.raiseDebt d)]
  match lane with
  | some i => some i
  | none => more

/-! ### The fabric -/

/-- The step that receives a packet (Table 16.8). -/
def packetStep (op : BitVec 6) : Option Instr :=
  match op.toNat with
  | 0x01 => some (.readRequest 0 [])
  | 0x02 => some (.readResponse 0)
  | 0x03 => some (.writeRequest 0 [])
  | 0x04 => some (.flagRequest 0)
  | 0x05 => some (.writeAndFlagResponse 0)
  | 0x06 => some (.atomicRequest 0)
  | 0x07 => some (.atomicResponse 0)
  | 0x08 => some (.orderedAtomicRequest 0)
  | 0x09 => some (.orderedFetchedValueWrite 0)
  | 0x0A => some (.orderedAtomicStatus 0)
  | 0x0B => some (.threePartyRequest 0 [])
  | 0x0C => some (.delivery 0 [])
  | 0x0D => some (.threePartyStatus 0)
  | 0x0E => some (.reductionRead 0 [])
  | 0x0F => some (.reductionValue 0)
  | 0x10 => some (.superstepArrive 0)
  | 0x11 => some (.superstepReady 0)
  | 0x12 => some (.superstepAbort 0)
  | 0x13 => some (.superstepDone 0)
  | 0x14 => some (.streamRow 0)
  | 0x15 => some (.streamCredit 0)
  | _ => none

/-- The oldest packet that came, a transaction whose time is over, a plane that has drained or trained. -/
def State.dueFabric (s : State) : Option Instr :=
  match s.links.inbox.head?.bind fun p => packetStep p.op with
  | some i => some i
  | none =>
    match (List.range s.links.trans.length).findSome? fun k => ifEnabled (.fabricTimeout k) (s.fabricTimeout k) with
    | some i => some i
    | none =>
      match (List.range s.links.ssteps.length).findSome? fun k => ifEnabled (.superstepTimeout k) (s.sstepTimeout k) with
      | some i => some i
      | none => ([0, 1, 2, 3] : List (Fin 4)).findSome? fun k =>
          firstEnabled [(.planeDrained k, fun _ => s.planeDrained k), (.planeEnabled k, fun _ => s.planeEnabled k)]

/-! ### Queues and channels -/

/-- The step that performs the byte at an offset of an entry. -/
def EntryStep.instr (k : EntryStep) (d : DieId) (c : CtxId) (seq off : Nat) : Instr :=
  match k with
  | .plain => .queueEntryPerformed d c seq off
  | .polgen => .polgenWrite d c seq
  | .window => .windowDescriptorWrite d c seq
  | .stream => .streamcfgWrite d c seq
  | .errClear => .copyErrClear d c seq
  | .pen .create => .penCreate d c seq
  | .pen .reset => .penReset d c seq
  | .pen .halt => .penHalt d c seq
  | .pen .snap => .penSnap d c seq
  | .pen .readrec => .penReadrec d c seq
  | .pen .destroy => .penDestroy d c seq

/-- The oldest entry of a context that may be performed, at its lowest offset that may. -/
def State.dueEntry (s : State) (d : DieId) (c : CtxId) : Option Instr :=
  ((s.dieAt d).ctxAt c).entries.findSome? fun e =>
    let offs := if e.step == .plain then e.left else [0]
    offs.findSome? fun off => ifEnabled (e.step.instr d c e.seq off) (s.perform e.step d c e.seq off)

/-- A copy channel of a die goes on, or fails (R193, R194). -/
def State.dueCopy (s : State) (d : DieId) : Option Instr :=
  ((List.range 16).map (Fin.ofNat 16)).findSome? fun ch =>
    if (s.chan d ch).copies.isEmpty then none
    else firstEnabled [(.copyComplete d ch [], fun _ => s.copyStep d ch []), (.copyFailure d ch, fun _ => s.copyFailure d ch)]

/-- The queues and channels of a die, and contexts that retire (R161, R203). -/
def State.dueQueues (s : State) (d : DieId) : Option Instr :=
  match allCtxs.findSome? (s.dueEntry d) with
  | some i => some i
  | none =>
    match s.dueCopy d with
    | some i => some i
    | none => allCtxs.findSome? fun c => ifEnabled (.contextRetire d c) (s.retire d c)

/-! ### The scheduler -/

/-- What a task of the scheduler comes to (R102, R140, R141, R280). -/
def State.dueTask (s : State) (t : Task) : Option Instr :=
  match allDies.findSome? fun d =>
      firstEnabled [(.agreedCount t.lid d, fun _ => s.agreedCount t.lid d), (.noPreemptOverrun t.lid d, fun _ => s.overrun t.lid d)] with
  | some i => some i
  | none => firstEnabled [(.save t.lid, fun _ => s.saveTask t.lid), (.budgetExpiry t.lid, fun _ => s.budgetExpiry t.lid)]

/-- The scheduler's events (R87, R88, R130), the end of a wake hold (R151). -/
def State.dueSched (s : State) : Option Instr :=
  match s.sched.tasks.findSome? s.dueTask with
  | some i => some i
  | none =>
    match s.sched.xfers.findSome? fun x =>
        if x.dirIn then ifEnabled (.sealedTransferIn x.lid) (s.transferIn x.lid)
        else ifEnabled (.sealedTransferOut x.lid) (s.transferOut x.lid) with
    | some i => some i
    | none => firstEnabled [(.wakeHoldEnd, fun _ => s.wakeHoldEnd), (.dispatchPass, fun _ => s.dispatchPass)]

/-! ### Pens -/

/-- The SBI step of a call. -/
def SbiCall.instr (k : SbiCall) (n : Nat) : Instr :=
  match k with
  | .spec => .sbiGetSpecVersion n
  | .implId => .sbiGetImplId n
  | .implVersion => .sbiGetImplVersion n
  | .probe => .sbiProbeExtension n
  | .vendor => .sbiGetMvendorid n
  | .arch => .sbiGetMarchid n
  | .imp => .sbiGetMimpid n
  | .other => .sbiNotSupported n

/-- What a pen that a hart runs does next. -/
noncomputable def RvEnv.step (e : RvEnv) (n : Nat) : Instr :=
  if e.p.waiting then
    match e.p.overBudget with
    | some 1 => .stepBudget n
    | some _ => .episodeBudget n
    | none => .wfiWake n
  else match e.next, e.p.overBudget with
  | .retire _ _, some 1 => .stepBudget n
  | .retire _ _, some _ => .episodeBudget n
  | .retire _ wr, none =>
    (match retireKind wr with
     | .plain => .penInstruction n
     | .pop => .actpop n
     | .post => .obspost n)
  | .trap _ _, _ => .penInstruction n
  | .error _, _ => .penInstruction n
  | .wfi _, b =>
    if e.p.acts.isEmpty then .wfi n
    else if b == some 1 then .stepBudget n
    else if b.isSome then .episodeBudget n
    else .wfi n
  | .sbi h, _ => (sbiCall h).instr n
  | .access _ _, _ => .penAccessFault n
  | .copy g, _ => .copyOnWrite n g

/-- A hart of a die that no pen needs, else the hart of a pen's own number (log 2). -/
def State.hartFor (s : State) (d : DieId) (n : Nat) : Nat :=
  let idle (h : Nat) : Bool :=
    servesPens h &&
      (match s.paddock.harts[h]? with
       | some r => (match r.serving.bind s.pen? with | some p => p.st != .running || p.endPosted | none => true)
       | none => false)
  match ((List.range 32).map fun k => 32 * d.val + k).find? idle with
  | some h => h
  | none => 32 * d.val + n % 31

/-- What a pen comes to: a wait that stays a wait is nothing. -/
noncomputable def State.duePen (s : State) (n : Nat) (p : Pen) : Option Instr :=
  if (s.wallBackstop n).isSome then some (.wallBackstop n)
  else if !s.pkg.padUp || p.st != .running || p.endPosted || (p.waiting && p.acts.isEmpty) || s.paddock.last == (s.dieAt 1).tick then none
  else
    match s.penEnv n with
    | some e => some (e.step n)
    | none => ifEnabled (.penHartSwitch (s.hartFor p.desc.die n) n) (s.hartSwitch (s.hartFor p.desc.die n) n)

/-- The pens, in rotation: one step in a tick of die 1 (log 2). -/
noncomputable def State.duePens (s : State) : Option Instr :=
  let l := s.paddock.pens
  (l.filter (fun x => decide (s.paddock.next ≤ x.1)) ++ l.filter fun x => decide (x.1 < s.paddock.next)).findSome? fun x =>
    s.duePen x.1 x.2

/-! ### The next event -/

/-- The event that happens next of itself, if one does. -/
noncomputable def State.due (s : State) : Option Instr :=
  if !s.pkg.power then none
  else
    let d := s.turn
    (([s.dueStage, s.duePower, s.dueSreg 0, s.dueSreg 1, s.dueSreg 2, s.dueFold 0, s.dueFold 1, s.dueFold 2, s.dueWall 0, s.dueWall 1,
       s.dueWall 2, s.dueFabric, s.dueQueues 0, s.dueQueues 1, s.dueQueues 2, s.dueSched, s.duePens,
       allCtxs.findSome? fun c => ifEnabled (.streamtimeout d c) (s.streamTimeout d c),
       ifEnabled (.freeContextSwitch d) (s.freeSwitch d),
       ifEnabled (.freezeDebtPaid d) (s.debtPaid d)] : List (Option Instr)).findSome? id)

end Sys2Proof.Machine
end

