-- ==== Sys2Proof/Machine/Fetch.lean ====
section
/-! DEFINITION. What one step of the package runs, and a state that is about to run a given word (log 1, 2, 3, 5). -/

namespace Sys2Proof.Machine

/-- Is the step an event of the package, which has no encoding, and no move of a group? -/
def isEvent (i : Instr) : Bool := (encode i).isNone

/-- Does the current die have an open group? Its slots all belong to one cycle, so nothing else comes between them. -/
def State.midGroup (s : State) : Bool := s.clocked && s.ctx.grp.isSome

/-- One step (log 1, 2, 3): the next slot of an open group; otherwise the next event named from outside; otherwise an event
that is due; otherwise what the current die does in its cycle. -/
noncomputable def State.advance (s : State) : Host.Outcome State Fault Refusal :=
  let issue : Host.Outcome State Fault Refusal :=
    match s.nextMove with
    | .run i s' => exec i s'
    | .idle s' => .next s'
  if s.midGroup then issue
  else
    match s.agenda with
    | i :: l =>
      if isEvent i then exec i { s with agenda := l } else .refused (.notEnabled "agenda: a move is no event")
    | [] =>
      match s.due with
      | some i => exec i s
      | none => issue

/-- The kind of a context that may issue a word: timed where Table 06.2 denies it to a free context. -/
def kindFor (w : BitVec 24) : CtxKind :=
  let f := moveFields w
  let dst := match decodeDst f.dst with
    | some d => dstDenied false d
    | none => trigDenied false f.dst
  let src := match decodeSrc f.imm f.src with
    | some x => srcDenied false x
    | none => false
  if dst || src then .timed else .free

/-- The bundle that holds a word alone in its first group, at the start of the program store. -/
def Die.placeWord (d : Die) (w : BitVec 24) : Die :=
  { d with pstore := d.pstore.write 0 (bytesOfBundle (bundleOfWord w)), heldReset := false }

/-- A context that is about to commit a word: bundle 0, slot 0, its group open (log 5). -/
def Ctx.placeWord (c : Ctx) (w : BitVec 24) : Ctx :=
  { c with kind := kindFor w, status := .run, base := 0, codeLen := 1, bundle := 0, slot := 0, inh := false }

/-- The state whose next step runs a word: the package has power, the word stands in bundle 0 and its group is open. -/
def State.withWord (s : State) (w : BitVec 24) : State :=
  let s := { s with pkg := { s.pkg with power := true }, agenda := [] }
  let s := (s.onDie fun d => d.placeWord w).onCtx fun c => c.placeWord w
  s.onCtx fun c => { c with grp := some (s.die.groupOf s.die.issuing [⟨0, 0, w⟩] 0 1 0 []) }

end Sys2Proof.Machine
end

