-- ==== Sys2Proof/Machine/Step.lean ====
section
/-! DEFINITION. The step of the machine, and the placing of a table word where the step fetches. -/

namespace Sys2Proof.Machine

/-- One step of the package. -/
noncomputable def step (s : State) : Host.Outcome State Fault Refusal := s.advance

/-- The state whose next step runs the table word `w` (its low 24 bits, one slot of a bundle; log 5). -/
def State.withFetchWord (s : State) (_nbits w : Nat) : State := s.withWord (BitVec.ofNat 24 w)

end Sys2Proof.Machine
end

