-- ==== Sys2Proof/Safety.lean ====
section
/-! DEFINITION. What a safe run is: the canonical form of every memory, kept by every step. -/

namespace Sys2Proof.Machine

/-- The memories of a die are in canonical form (log 4). -/
def Die.memOk (d : Die) : Bool := d.sp.wf && d.spSide.wf && d.pstore.wf

/-- Every memory of the package is in canonical form. -/
def State.memOk (s : State) : Bool :=
  allDies.all (fun d => (s.dieAt d).memOk) && s.hbm.wf && s.host.mem.wf

end Sys2Proof.Machine
end

