-- ==== Sys2Proof/Certificates/Slice0/Obligations.lean ====
section
/-! DEFINITION. The statements for the provers: what each instruction does where it completes, what a step is, what an exception
takes, and what no step breaks. -/

/-! ### Words of the statements -/

namespace Sys2Proof.Claims

open Sys2Proof.Machine

/-- Running an instruction answers a next state with a property. -/
def Answers (i : Instr) (s : State) (p : State → Prop) : Prop := ∃ t, exec i s = .next t ∧ p t

/-- The move `src > port` of the open group `s` reads its operands (R292 to R294): its guard takes effect, its source and the
latches that the port names have values of the kinds the port takes, and its context may name both (Table 06.2). `a` holds the
trigger value, the latches' values and the state after the reads. -/
structure Reads (s : State) (g : Guard) (src : Src) (port : BitVec 9) (need : List Latch) (a : Args) : Prop where
  taken : s.takes g = true
  mayStand : legalMove src.kind (trigKind port) = true
  mayIssue : trigDenied s.ctx.timedNow port = false
  mayRead : s.srcFaults src = []
  value : ∃ s1, s.readSrc src = some (a.v, s1) ∧ s1.takeLatches need = (a.ops, a.st)
  kind : legalMove (kindOf a.v) (trigKind port) = true
  full : a.ops.all (fun x => x.2.isSome) = true
  fits : a.ops.any latchMismatch = false

/-- Whenever a trigger reads its operands and `ok` holds of them, it answers the state `eff` gives, its slot dealt with. -/
def Completes (i : Guard → Src → Instr) (port : BitVec 9) (need : List Latch) (ok : Args → Prop) (eff : Args → State) :
    Prop :=
  ∀ s g src a, Reads s.openGroup g src port need a → ok a → exec (i g src) s = .next (eff a).finishSlot

/-- The same for a trigger whose slot commits and ends its group (R271). -/
def Raises (i : Guard → Src → Instr) (port : BitVec 9) (eff : Args → State) : Prop :=
  ∀ s g src a, Reads s.openGroup g src port [] a → exec (i g src) s = .next (eff a)

/-- The same for a trigger with an H bit, which `ok` and `eff` may read. -/
def CompletesH (i : Guard → Bool → Src → Instr) (port : BitVec 9) (need : List Latch) (ok : Bool → Args → Prop)
    (eff : Bool → Args → State) : Prop :=
  ∀ s g h src a, Reads s.openGroup g src port need a → ok h a → exec (i g h src) s = .next (eff h a).finishSlot

/-- An operation of latency `l` on a scalar result port (R156). -/
def Scalar (i : Guard → Src → Instr) (port : BitVec 9) (need : List Latch) (p : LatPort) (l : Nat) (f : Args → Word) : Prop :=
  Completes i port need (fun _ => True) fun a => a.st.after l (.port p (.s (f a)))

/-- An operation of im: two results of one operand in im.a and the trigger value, at one visible count (R315). -/
def Product (i : Guard → Src → Instr) (port : BitVec 9) (l : Nat) (f : Word → Word → Word × Word) : Prop :=
  Completes i port [.ima] (fun _ => True) fun a =>
    (a.st.after l (.port .imq (.s (f (a.op .ima) a.word).1))).after l (.port .imq2 (.s (f (a.op .ima) a.word).2))

/-- A vx operation of latency `l`: slice `i` of the result on vx.q and its flags. -/
def Slices (i : Guard → Src → Instr) (port : BitVec 9) (need : List Latch) (l : Nat) (ok : Args → Prop)
    (f : Args → Nat → Row × Flags) : Prop :=
  Completes i port need ok fun a => a.st.deliverVx l (perSlice (f a))

/-- An elementwise vx operation on lanes of `w` bits (R340, R343). -/
def Lanes (i : Guard → Src → Instr) (port : BitVec 9) (need : List Latch) (l w : Nat) (op : RMode → Nat → Nat → Nat → Res) :
    Prop :=
  Slices i port need l (fun _ => True) fun a k => lanewise w (op a.mode) (a.mask k) (a.ra k) (a.rb k) (a.rv k)

/-- A byte-wise vx operation (R346): masked bytes of the result are 0. -/
def Bytewise (i : Guard → Src → Instr) (port : BitVec 9) (need : List Latch) (l : Nat) (ok : Args → Prop)
    (f : Args → Nat → Row) : Prop :=
  Slices i port need l ok fun a k => (maskRow (a.mask k) (f a k), 0)

/-- The slices, flags and source elements of a conversion (R347). -/
def converted (k : CvtForm) (a : Args) : List (Row × Flags × List Nat) :=
  (List.range 256).map fun i =>
    cvtRow k.ws k.wd (a.part i (cvtRatio k.ws k.wd)) (fun e x => k.conv (a.cvtMode k.sr i e) a.st.ctx.profile1 x) (a.mask i)
      (a.rv i)

/-- A conversion (R347, R348): latency 3; under profile 1 with RNE, where the form has a routine, the stall of 16 (R123). The AMAX
forms raise their register, the SR forms count towards the counter's advance when the group commits (R262). -/
def Converts (i : Guard → Src → Instr) (port : BitVec 9) (k : CvtForm) : Prop :=
  Completes i port (if k.ws = k.wd then [] else [.vxa]) (fun _ => True) fun a =>
    let slow := k.stall1 && a.st.ctx.profile1 && a.mode == .rne
    let lat := if slow then 17 else 3
    let l := converted k a
    let s1 := a.st.deliverVx lat (l.map (·.1), l.foldl (fun f x => f ||| x.2.1) 0)
    let s2 := match k.amax with
      | some f => s1.amaxAt lat a.amaxK (amaxOver (l.flatMap fun x => x.2.2.map (fDecode f)))
      | none => s1
    let s3 := if k.sr then s2.onGroup fun g => { g with rng := g.rng + 1 } else s2
    if slow then s3.onGroup fun g => { g with stall := g.stall + 16 } else s3

/-- A function of one operand under profile 2, or one that profile 1 computes alike (R349). -/
def Function1 (i : Guard → Src → Instr) (port : BitVec 9) (l : Nat) (ok : Args → Prop) (f : Nat → Res) : Prop :=
  Slices i port [] l ok fun a k => lanewise 32 (fun _ _ v => f v) (a.mask k) Row.zero Row.zero (a.rv k)

/-- The same under profile 1, by a resident routine whose result is visible after the group's stall of `n` (R123). -/
def Routine1 (i : Guard → Src → Instr) (port : BitVec 9) (n : Nat) (f : Nat → Res) : Prop :=
  Completes i port [] (fun a => a.st.ctx.profile1 = true) fun a =>
    (a.st.deliverVx (n + 1)
      (perSlice fun k => lanewise 32 (fun _ _ v => f v) (a.mask k) Row.zero Row.zero (a.rv k))).onGroup fun g =>
        { g with stall := g.stall + n }

/-- A form that enters a queue of the context: a result place on `p`, then the entry, then its trace record (R323). -/
def Queued (i : Guard → Src → Instr) (port : BitVec 9) (need : List Latch) (side : QSide) (p : QPort) (ok : Args → Prop)
    (op : Args → QOp) (addr : Args → Word) (left : List Nat) (n kind : Nat) : Prop :=
  Completes i port need (fun a => ok a ∧ a.st.ctx.placesFull p = false ∧ a.st.ctx.queueFull side = false) fun a =>
    ((a.st.place p).push side (op a) (addr a) left).traceMem (addr a) n kind

/-- A fabric or mailbox form (R382 to R384): its result places are free, its queue has room and the package reaches what it names,
so its places are taken and its entry joins its queue. -/
def Joins (i : Guard → Bool → Src → Instr) (port : BitVec 9) (side : QSide) (need : List Latch) (op : Args → RemOp)
    (addr : Args → Word) (ok : Args → Prop) : Prop :=
  CompletesH i port need (fun h a => ok a ∧ a.st.ctx.fxFull (op a) h = [] ∧ a.st.ctx.queueFull side = false ∧
      a.st.atIssue (op a) (addr a) = none)
    fun h a => (a.st.fxPlaces (op a) h).push side (.remote (op a) h) (addr a) [0]

/-- The group of an ordered atomic, from fx.c (R388). -/
def ordGroup (a : Args) : BitVec 6 := BitVec.ofNat 6 (fld (a.op .fxc) 32 6)

/-- An ordered atomic (R388): its issue sequence is the context's count for the group, which rises by 1; DIE 3 of its local address
is its own die. -/
def JoinsOrdered (i : Guard → Bool → Src → Instr) (port : BitVec 9) (op : AmoOp) : Prop :=
  CompletesH i port (ramoLatches op ++ [.fxc])
    (fun h a => fabOffset (a.op .fxa) % 8 = 0 ∧ a.st.ordFaults (a.op .fxc) = [] ∧
      a.st.ctx.fxFull (.amoOrd op 0 0 0 0 0) h = [] ∧ a.st.ctx.queueFull .both = false ∧
      a.st.atIssue (.amoOrd op 0 0 0 (ordGroup a) 0) (a.op .fxa) = none)
    fun h a =>
      let n := a.st.ctx.ordSeq.get ⟨(ordGroup a).toNat, (ordGroup a).isLt⟩
      let s1 := a.st.onCtx fun c => { c with ordSeq := c.ordSeq.set (ordGroup a).toNat (n + 1) (ordGroup a).isLt }
      let r := spDie a.st.turn (fld (a.op .fxc) 0 32)
      let e : RemOp := .amoOrd op a.word (a.op .fxb) (BitVec.ofNat 32 (setBits (fld (a.op .fxc) 0 32) 28 2 r.val)) (ordGroup a) n
      (s1.fxPlaces e h).push .both (.remote e h) (a.op .fxa) [0]

/-- A scalar store (R182, R322, R323): a timed store is applied at count n + 4, any other enters the store queue. -/
def Stores (i : Guard → Src → Instr) (port : BitVec 9) (w : Wid) : Prop :=
  Completes i port [.lsa] (fun a => a.st.storeFaults (a.op .lsa) (widBytes w) false = [] ∧ a.st.storeWaits (a.op .lsa) = false)
    fun a => a.st.store (a.op .lsa) (.st w a.word) (leBytes (widBytes w) a.word.toNat) [] (fun _ => true) (fun _ => false)

/-- A fence (R207, R326): it stands between the entries before it and those after it. -/
def Fences (i : Guard → Src → Instr) (port : BitVec 9) (loads stores : Bool) : Prop :=
  Completes i port [.sya, .syb] (fun a => a.word.toNat < 4) fun a => a.st.onCtx fun c =>
    { c with seq := c.seq + 1, fences := c.fences ++ [{ seq := c.seq, loads := loads, stores := stores, base := a.op .sya,
                                                        len := a.op .syb, scope := BitVec.ofNat 2 a.word.toNat }] }

/-- A quantisation of blocks (R351): latency 4; under RMODE 4 the group counts towards the advance of the counter of stochastic rounding (R262). -/
def Quantises (i : Guard → Src → Instr) (port : BitVec 9) (f : Fmt) : Prop :=
  Completes i port [.vxa, .vxb] (fun _ => True) fun a =>
    let s1 := a.st.deliverVx 4 (perSlice fun k =>
      bquantRow f (a.cvtMode (a.st.ctx.rmode == 4) k) (a.part k (blockRatio f)) (a.mask k) (a.rb k) (a.rv k))
    if a.st.ctx.rmode = 4 then s1.onGroup fun g => { g with rng := g.rng + 1 } else s1

/-- The lanes of a cross-slice scan (R354): masked outputs are 0 and raise nothing (R249). -/
def scanLanes (a : Args) (cv : Nat → Res) (ident : Nat) (op : Res → Res → Res) (f : Option Value) : List (List Res) :=
  (a.columns cv ident).zipIdx.map fun c =>
    (segScan op (segFlags f c.2) c.1).zipIdx.map fun x => unmasked (a.mask x.2) c.2 x.1

/-- A cross-slice scan (R354): latency 24, its segments from sc.f. -/
def Scans (i : Guard → Src → Instr) (port : BitVec 9) (cv : Nat → Res) (ident : Nat) (op : Res → Res → Res) : Prop :=
  (∀ x s1, Completes i port [] (fun a => a.st.takeLatch .scf = some (x, s1)) fun a =>
    let cols := scanLanes a cv ident op (some x)
    s1.deliverSc 24 (rowsOfColumns (cols.map fun c => c.map (·.v)), flagsOf cols.flatten)) ∧
  Completes i port [] (fun a => a.st.takeLatch .scf = none) fun a =>
    let cols := scanLanes a cv ident op none
    a.st.deliverSc 24 (rowsOfColumns (cols.map fun c => c.map (·.v)), flagsOf cols.flatten)

/-- A cross-slice reduction (R354): latency 20, its value in every slice. -/
def Reduces (i : Guard → Src → Instr) (port : BitVec 9) (cv : Nat → Res) (ident : Nat) (op : Res → Res → Res) : Prop :=
  Completes i port [] (fun _ => True) fun a =>
    let rs := (a.columns cv ident).map fun c => (treeLast op 8 c).getD ⟨0, 0⟩
    a.st.deliverSc 20 (List.replicate 256 (dataRow (packOf 32 (rs.map (·.v)))), flagsOf rs)

/-- A push of one column of every cell's shadow buffer (R371, R372): visible from p + 2 on. -/
def Pushes (i : Guard → Src → Instr) (port : BitVec 9) (f : MxForm) : Prop :=
  Completes i port [.mxa, .mxb]
    (fun a => (a.op .mxa).toNat < 16 ∧ (a.op .mxb).toNat < 16 ∧ (f.scales = true ∨ bit (a.op .mxb) 0 = false))
    fun a => a.st.after 2 (.push (a.op .mxa).toNat f.tag (bit (a.op .mxb) 0) a.tile)

/-- A dense beat (R374): the sums of every cell reach accumulator row mx.a at latency 10. -/
def Beats (i : Guard → Src → Instr) (port : BitVec 9) (f : MxForm) : Prop :=
  Completes i port [.mxa, .mxb]
    (fun a => (a.op .mxa).toNat < 64 ∧ (a.op .mxb).toNat < 4 ∧ (f.scales = true ∨ bit (a.op .mxb) 0 = false) ∧
      ∀ t ∈ a.st.die.wall.activeTags, t = f.tag)
    fun a => a.st.after 10 (.beat (a.op .mxa).toNat (bit (a.op .mxb) 1) f.fmt.isNone
      (a.st.die.wall.cells.zipIdx.map fun c => denseSums f (bit (a.op .mxb) 0) c.1 (a.rv c.2)))

/-- A drain (R375): latency 6, with its flags. -/
def Drains (i : Guard → Src → Instr) (port : BitVec 9) (step : Nat) (f : Nat → Cell → Row × Flags) : Prop :=
  Completes i port [] (fun a => a.word.toNat < 64 ∧ a.word.toNat % step = 0) fun a =>
    let rs := a.st.die.wall.cells.map (f a.word.toNat)
    (a.st.after 6 (.port .mxq (.t (rs.map (·.1))))).raise 6 (rs.foldl (fun x r => x ||| r.2) 0)

/-- agK.set (R290, R358): the descriptor of a pair of registers whose first is even, by its name and after rotation. -/
def Sets (i : Guard → BitVec 5 → Instr) (k : Fin 4) (port : BitVec 9) : Prop :=
  ∀ s g r a d, Reads s.openGroup g (.s r) port [] a → r.toNat % 2 = 0 → a.st.ctx.physS r % 2 = 0 →
    genOf (a.st.ctx.readS r) (a.st.ctx.s.toList.getD (a.st.ctx.physS r + 1) 0) = some d → exec (i g r) s = .next (a.st.setGen k (some d)).finishSlot

/-- agK.step (R358). -/
def Steps (i : Guard → Src → Instr) (k : Fin 4) (port : BitVec 9) : Prop :=
  ∀ d, Completes i port [] (fun a => a.st.gen k = some d) fun a => a.st.setGen k (some (d.advance a.word.toNat))

/-- A gather of a generator's row (R184, R358, R361): the rows of its units through the route, far lanes substituted, at latency 5;
a read that meets an uncorrectable error delivers nothing (R195). -/
def Gathers (i : Guard → Src → Instr) (k : Fin 4) (port : BitVec 9) (out : LatPort) (routeOf : GroupCtx → BitVec 9) : Prop :=
  ∀ d s1 ok y s2, Completes i port []
    (fun a => a.st.gen k = some d ∧ a.st.unitFaults false d.units d.units = [] ∧
      a.st.gatherFaults (routeOf a.st.group).toNat a.st.group.count = [] ∧ a.st.eccReads a.st.turn d.units = (s1, ok) ∧
      s1.gatherFar (s1.die.wall.route (routeOf a.st.group).toNat (d.units.map fun u => a.st.die.row u))
        (s1.die.wall.far (routeOf a.st.group).toNat true) = (y, s2))
    fun _ => if ok then (s2.setGen k (some (d.advance 1))).after 5 (.port out (.t y)) else s2.setGen k (some (d.advance 1))

/-- A scatter of a tile to a generator's units (R184, R358, R361): far slices leave on their lanes, the others are written at
n + 4. -/
def Scatters (i : Guard → Src → Instr) (k : Fin 4) (port : BitVec 9) : Prop :=
  ∀ d, Completes i port []
    (fun a => a.st.gen k = some d ∧
      a.st.unitFaults true d.units (d.units.filter fun u => !(a.st.die.wall.far a.st.group.sr.toNat false).any fun f => f.slice == u % 256) = [] ∧
      ∀ f ∈ a.st.die.wall.far a.st.group.sr.toNat false, a.st.laneInFold f.lane = true)
    fun a =>
      let y := a.st.die.wall.route a.st.group.sr.toNat a.tile
      let far := a.st.die.wall.far a.st.group.sr.toNat false
      let s1 := far.foldl (fun s f => s.sendFar f.lane (y.row f.slice) (BitVec.ofNat 16 a.st.group.count)) a.st
      (s1.setGen k (some (d.advance 1))).after 4 (.rows ((d.units.zip y).filter fun p => !far.any fun f => f.slice == p.1 % 256))

/-- A table load (R357, R362, Table 15.3): its token is pending, the entry takes effect 64 counts later. -/
def LoadsTable (i : Guard → Src → Instr) (port : BitVec 9) (kind top : Nat) : Prop :=
  ∀ t b, Completes i port [.nwa]
    (fun a => tokWord a.word = some t ∧ a.st.nwTokFaults a.word = [] ∧ a.st.routesEntry kind (a.op .nwa).toNat = some b ∧
      1 ≤ (a.op .nwa).toNat ∧ (a.op .nwa).toNat ≤ top ∧ (kind = 0 → routeLegal a.st.turn b = true))
    fun a => (a.st.pend t.prod).after 64 (.table kind (a.op .nwa).toNat b t.prod)

/-- A fill, a spill or a gather of the fill engine (R190, R377): its token is pending, and the command joins those of its die. -/
def Fills (i : Guard → Src → Instr) (port : BitVec 9) (k : FillKind) : Prop :=
  ∀ t, Completes i port [.fea, .feb]
    (fun a => tokWord a.word = some t ∧ feFields k (a.op .fea) (a.op .feb) = true ∧ a.st.curToken t.prod = .clear ∧
      a.st.admission (a.st.fillOf k (a.op .fea) (a.op .feb) t) (startCount a.st.group.count t.start) = [])
    fun a =>
      let f := a.st.fillOf k (a.op .fea) (a.op .feb) t
      let s1 := a.st.onDie fun d =>
        { d with fills := d.fills ++ [f], fillOrder := d.fillOrder + 1
                 committed := d.committed.setIfInBounds f.ch (d.committed.toList.getD f.ch 0 + f.bytes) }
      (s1.pend t.prod).trace 3 (BitVec.ofNat 64 f.b) (BitVec.ofNat 64 (f.start + f.bytes * 2 ^ 32))

/-- The state in which a request is served: a three-party read that reaches its own requester is noted as received (Table 16.5). -/
def noted (s : State) (p : Packet) : State := { s with links := s.links.ownReached p }

/-- A request at its owner or consumer (R72, R76): refused with the status of its first failing check, else performed and
answered; none of its table entries is withheld by an error (R15), and none of its bytes lies in the scratchpad of a frozen die (R180). -/
def Serves (i : Nat → List Nat → Instr) (op : BitVec 6) : Prop :=
  (∀ s n p r ev, s.inboxAt op n = some p → p.checked = false → (s.workOf p).any s.pieceRests = false → (noted s p).requestCheck p = .error (r, ev) →
    (ev = true → (noted s p).requestBad p = none) → exec (i n []) s = .next (((noted s p).dropInbox n).refuse p r ev)) ∧
  (∀ s n p work s1 q, s.inboxAt op n = some p → p.checked = false → (s.workOf p).any s.pieceRests = false → (noted s p).requestCheck p = .ok work →
    (noted s p).requestBad p = none →
    (noted s p).performPieces { p with checked := true, work := work } work = (s1, some q) → q.work = [] →
    exec (i n []) s = .next ((s1.dropInbox n).finishRequest q))

/-- A message of a superstep that is not over (R394): it is kept, and the superstep moves on as far as it can. -/
def Told (i : Nat → Instr) (op : BitVec 6) : Prop :=
  ∀ s n p l, s.inboxAt op n = some p → (s.links.groupMembers p.group.toNat).contains p.src = true →
    (op = opReady → s.closeRests p.group p.seq.toNat = false) →
    l = (if op = opArrive then (s.dropInbox n).links.arrived p.src p.group (p.seq.toNat + 1)
        else if op = opAbort then (s.dropInbox n).links.arrived p.src p.group
          (max ((s.dropInbox n).links.stepOf p.src p.group) (p.seq.toNat + 1))
        else (s.dropInbox n).links) →
    l.stepOver p.group p.seq.toNat = false →
    exec (i n) s = .next (State.stepOn p.group p.seq.toNat 5 { s.dropInbox n with
      links := { l with smsgs := l.smsgs ++ [⟨op, p.src, p.group, p.seq.toNat, p.status, BitVec.ofNat 7 p.operand.toNat⟩] } })

/-- A call of the SBI that a pen's hart makes (R225): a0 is 0, a1 the value. -/
def Calls (i : Nat → Instr) (c : SbiCall) (v : Hart → Word) : Prop :=
  ∀ s n e h, s.penEnv n = some e → e.p.waiting = false → e.next = .sbi h → sbiCall h = c →
    Answers (i n) s fun t => ∃ p, t.pen? n = some p ∧ p.hart.getX 10 = 0 ∧ p.hart.getX 11 = v h ∧ p.hart.pc = e.p.hart.pc + 4

/-- An entry of a context's queues that nothing holds back (R203): the entry, its task, the byte at an offset. -/
structure Performable (s : State) (d : DieId) (c : CtxId) (q off : Nat) (e : Entry) (k : Task) : Prop where
  entry : ((s.dieAt d).ctxAt c).entry? q = some e
  task : s.task? ((s.dieAt d).ctxAt c).lid = some k
  may : s.mayPerform k d ((s.dieAt d).ctxAt c) e off = true

/-- A pen-control operation that reaches the paddock (R401), no error withholding what it reads (R15): the pen changes and the form ends
with its status. -/
def Controls (i : DieId → CtxId → Nat → Instr) (op : PenOp) : Prop :=
  ∀ s d c q e k n a st, Performable s d c q 0 e k → e.op = .remote (.pen op n a) st → s.penBad k d op n a = none →
    exec (i d c q) s = .next ((s.penControl k d op n a).1.fxEnd k.lid d c e.seq (.pen op n a) st e.addr
      (s.penControl k d op n a).2.1 0 (s.penControl k d op n a).2.2 (.s 0))

/-- Another slot of the open group follows the current one, so that the group goes on after it. -/
def MoreSlots (s : State) : Prop := ∃ x y l, s.group.left = x :: y :: l

/-! ### Words of the whole-machine statements -/

/-- The guard of a move; a NOP and an event have none. -/
def guardOf (i : Instr) : Option Guard :=
  match i.parts with
  | .move g _ _ _ => some g
  | .trig g _ _ _ => some g
  | .agSet g _ _ => some g
  | .nop => none
  | .event => none

/-- The current die issues from a context at a group boundary (R144, R145): its timed context, or, when it has none, its current
context while no other is ready. `s1` is the state in which the group opens, with the flags and magnitudes of its count. -/
inductive Issues (s : State) (c : CtxId) (s1 : State) (nf : Flags) (na : List (Fin 4 × Bool × BitVec 32)) : Prop where
  | timed (h1 : s.cycleStart.die.timedCid = some c) (h2 : (s.cycleStart.die.ctxAt c).fcHolds = false)
      (h3 : s.cycleStart.settled c = (s1, nf, na)) (h4 : (s1.die.ctxAt c).timedIssues = true)
  | free (h1 : s.cycleStart.die.timedCid = none) (h2 : s.cycleStart.die.current = some c)
      (h3 : (s.cycleStart.die.ctxAt c).freeNow = true) (h4 : s.cycleStart.readyAt c = true)
      (h5 : s.cycleStart.nextReady c = none) (h6 : s.cycleStart.settled c = (s1, nf, na))

/-- A trigger that reads its operands and meets a condition commits nothing: its group stops at its slot with a fault (R271). -/
def Traps (i : Guard → Src → Instr) (port : BitVec 9) (need : List Latch) (cond : Args → Prop) (f : Args → Flt) : Prop :=
  ∀ s g src a, Reads s.openGroup g src port need a → cond a → exec (i g src) s = .next (s.openGroup.takeFault (f a) false)

/-- The context `y` has taken the fault `f` at its place in `x` (R267, Table 11.2). -/
structure Interrupted (x y : Ctx) (f : Flt) (cnt : Nat) : Prop where
  code : y.fcode = f.code
  reason : y.reason = f.reason
  addr : y.faddr = f.addr
  count : y.fcnt = BitVec.ofNat 64 cnt
  bundle : y.epc = x.bundle
  slot : y.cswSlot = x.slot

/-- Every byte of every memory of the package reads as before. -/
structure SameMemory (s t : State) : Prop where
  device : ∀ a, t.hbm.read a = s.hbm.read a
  host : ∀ a, t.host.mem.read a = s.host.mem.read a
  rows : ∀ d a, (t.dieAt d).sp.read a = (s.dieAt d).sp.read a
  lanes : ∀ d a, (t.dieAt d).spSide.read a = (s.dieAt d).spSide.read a
  code : ∀ d a, (t.dieAt d).pstore.read a = (s.dieAt d).pstore.read a

/-- The queue ports of `t` are those of `s` but for one that `src` reads. -/
def OtherPorts (s t : State) (named : QPort → Prop) : Prop := ∀ p, ¬ named p → t.ctx.results p = s.ctx.results p

/-- A queue port that a move names: as its source, or as the source of a later move of its group that writes one of its latches. -/
def Names (s : State) (src : Src) (need : List Latch) (p : QPort) : Prop :=
  src = .queue p ∨ ∃ l ∈ need, ∃ h, s.laterWrite l = some (.queue p, h)

/-- No later move of the group writes one of these latches from a stream (R295 refuses such a group). -/
def NoStreams (s : State) (need : List Latch) : Prop := ∀ l ∈ need, ∀ n h, s.laterWrite l ≠ some (.stream n, h)

/-- The scalar forms whose only effect is a result on a latency port, with their trigger port and latches (Tables 13.1, 13.3). -/
def aluForms : List ((Guard → Src → Instr) × BitVec 9 × List Latch) :=
  [(.ia0Add, 0x048, [.ia0a]), (.ia0Sub, 0x049, [.ia0a]), (.ia0And, 0x04A, [.ia0a]), (.ia0Or, 0x04B, [.ia0a]),
   (.ia0Xor, 0x04C, [.ia0a]), (.ia0Andn, 0x04D, [.ia0a]), (.ia0Orn, 0x04E, [.ia0a]), (.ia0Shl, 0x04F, [.ia0a]),
   (.ia0Shr, 0x050, [.ia0a]), (.ia0Sar, 0x051, [.ia0a]), (.ia0Rol, 0x052, [.ia0a]), (.ia0Ror, 0x053, [.ia0a]),
   (.ia0Min, 0x054, [.ia0a]), (.ia0Max, 0x055, [.ia0a]), (.ia0Minu, 0x056, [.ia0a]), (.ia0Maxu, 0x057, [.ia0a]),
   (.ia0Clz, 0x058, []), (.ia0Ctz, 0x059, []), (.ia0Popc, 0x05A, []), (.ia0Sext8, 0x05B, []), (.ia0Sext16, 0x05C, []),
   (.ia0Sext32, 0x05D, []), (.ia0Zext32, 0x05E, []), (.ia0Bext, 0x05F, [.ia0a]), (.ia0Bins, 0x060, [.ia0a, .ia0b]),
   (.ia0Ceq, 0x061, [.ia0a]), (.ia0Cne, 0x062, [.ia0a]), (.ia0Clt, 0x063, [.ia0a]), (.ia0Cltu, 0x064, [.ia0a]),
   (.ia0Cle, 0x065, [.ia0a]), (.ia0Cleu, 0x066, [.ia0a]), (.ia1Add, 0x070, [.ia1a]), (.ia1Sub, 0x071, [.ia1a]),
   (.ia1And, 0x072, [.ia1a]), (.ia1Or, 0x073, [.ia1a]), (.ia1Xor, 0x074, [.ia1a]), (.ia1Andn, 0x075, [.ia1a]),
   (.ia1Shl, 0x076, [.ia1a]), (.ia1Shr, 0x077, [.ia1a]), (.ia1Sar, 0x078, [.ia1a]), (.ia1Ceq, 0x079, [.ia1a]),
   (.ia1Clt, 0x07A, [.ia1a]), (.ia1Cltu, 0x07B, [.ia1a]), (.imMul, 0x068, [.ima]), (.imMulhu, 0x069, [.ima]),
   (.imMulhsu, 0x06A, [.ima]), (.imDiv, 0x06B, [.ima]), (.imDivu, 0x06C, [.ima])]

/-- The loads of the ls unit with their trigger port and their bytes (Table 13.6). -/
def loadForms : List ((Guard → Src → Instr) × BitVec 9 × Nat) :=
  [(.lsLdb, 0x091, 1), (.lsLdbu, 0x092, 1), (.lsLdh, 0x093, 2), (.lsLdhu, 0x094, 2), (.lsLdw, 0x095, 4), (.lsLdwu, 0x096, 4),
   (.lsLdd, 0x097, 8), (.lsLdrow, 0x09C, 256)]

/-- The scalar stores of the ls unit with their trigger port and width (Table 13.6). -/
def storeForms : List ((Guard → Src → Instr) × BitVec 9 × Wid) :=
  [(.lsStb, 0x098, .b), (.lsSth, 0x099, .h), (.lsStw, 0x09A, .w), (.lsStd, 0x09B, .d)]

/-- Side-lane addresses within the die of the side-lane bytes that a row store writes, with their values (R177, R182). -/
def sideBytes (x : Nat) (bs : List Byte) (keep : Nat → Bool) : List (Nat × Byte) :=
  bs.zipIdx.filterMap fun p => if keep p.2 then some (32 * spUnit x + p.2, p.1) else none

/-- A queued store that nothing holds back, and that no fault and no error meets (R186, R203). -/
structure QueuedStore (s : State) (d : DieId) (c : CtxId) (q off : Nat) (e : Entry) (k : Task) : Prop where
  runs : Performable s d c q off e k
  kind : (∃ w v, e.op = .st w v) ∨ ∃ r m, e.op = .strow r m
  granted : lowestFail (s.byteFaults k d c .wr e.phase e.addr e.left) = none
  good : s.bytesBad k d e.addr e.left = none

/-- The bytes that a queued store writes in the piece performed (R200): offset and value. -/
def pieceOf (e : Entry) (off : Nat) : List (Nat × Byte) := e.stores.filter fun b => (e.piece off).contains b.1

end Sys2Proof.Claims


open Sys2Proof Sys2Proof.Machine Sys2Proof.Claims

/-! ### The step, the encoding and the whole machine -/

/-- A step is the next slot of the open group, decoded from its word and run by `exec`; an illegal word takes code 0x01 with reason
3 at its slot. With no group open it is the next event named from outside, else an event that is due. A word placed for the host
runs as the first step. -/
def Obligations.StepRunsTheDecodedSlot : Prop :=
  (∀ (s : State) g x l i, s.clocked = true → s.ctx.grp = some g → g.left = x :: l → decodeMove x.word = .ok i → step s = exec i s) ∧
  (∀ (s : State) g x l e, s.clocked = true → s.ctx.grp = some g → g.left = x :: l → decodeMove x.word = .error e →
    step s = .next (s.takeFault ⟨0x01, 3, 0⟩ false)) ∧
  (∀ (s : State) i l, s.midGroup = false → s.agenda = i :: l → isEvent i = true → step s = exec i { s with agenda := l }) ∧
  (∀ (s : State) i, s.midGroup = false → s.agenda = [] → s.due = some i → step s = exec i s) ∧
  (∀ (s : State) n w i, decodeMove (BitVec.ofNat 24 w) = .ok i → step (s.withFetchWord n w) = exec i (s.withFetchWord n w))

/-- At a group boundary a step opens the issuing context's next group from the bytes of the program store at its place, past pads
(R286, R288), and runs the first slot. -/
def Obligations.StepFetchesTheNextGroup : Prop :=
  ∀ (s : State) c s1 nf na s2 i, s.clocked = true → s.ctx.grp = none → s.agenda = [] → s.due = none →
    s.cycleStart.die.frozen = false → Issues s c s1 nf na → (s1.die.ctxAt c).resumes = none →
    (s1.atGroup c).openAt nf na = .ok s2 →
    let p := s1.die.pastPads (s1.die.pastPads (s1.die.ctxAt c))
    let w := slotOf (bundleOfBytes (s1.die.pstore.readN (32 * p.bundle) 32)) p.slot
    (∃ l, s2.group.left = ⟨p.bundle, p.slot, w⟩ :: l) ∧ (decodeMove w = .ok i → step s = exec i s2.traceGroup)

/-- Words that the specification writes out (Tables 12.12, 13.5, 14.10, 15.6, 16.3) decode to the moves it gives them. -/
def Obligations.WordsOfTheSpecificationDecode : Prop :=
  decodeMove 0x000840 = .ok (.move ⟨false, 0⟩ false (.s 4) (.latch .ia0a)) ∧
  decodeMove 0x042048 = .ok (.ia0Add ⟨false, 0⟩ (.imm 16)) ∧
  decodeMove 0x03AC40 = .ok (.move ⟨false, 0⟩ false .lit (.latch .ia0a)) ∧
  decodeMove 0x004B04 = .ok (.vxFaddF32 ⟨false, 0⟩ (.t 5)) ∧
  decodeMove 0x000297 = .ok (.lsLdd ⟨false, 0⟩ (.s 1)) ∧
  decodeMove 0x04028A = .ok (.brLoop ⟨false, 0⟩ (.imm 1)) ∧
  decodeMove 0x00820B = .ok (.move ⟨false, 0⟩ false (.lat .ia1q) (.s 11)) ∧
  decodeMove 0x010070 = .ok (.ia1Add ⟨false, 0⟩ (.queue .lsq)) ∧
  decodeMove 0x004170 = .ok (.vxBscaleE4m3 ⟨false, 0⟩ (.t 0)) ∧
  decodeMove 0x005339 = .ok (.vxOr ⟨false, 0⟩ (.t 9)) ∧
  decodeMove 0x0A0101 = .ok (.move ⟨false, 0⟩ true (.lat .vxq) (.latch .vxb)) ∧
  decodeMove 0x03AD88 = .ok (.mxPushE4m3 ⟨false, 0⟩ .lit) ∧
  decodeMove 0x040198 = .ok (.mxDrain4 ⟨false, 0⟩ (.imm 0)) ∧
  decodeMove 0x000CDC = .ok (.fxRstD ⟨false, 0⟩ false (.s 6)) ∧
  decodeMove 0x080CDC = .ok (.fxRstD ⟨false, 0⟩ true (.s 6)) ∧
  decodeMove 0x01A3C1 = .ok (.move ⟨false, 0⟩ false (.queue .fxst) (.c 1)) ∧
  decodeMove 0x0187D0 = .ok (.move ⟨false, 0⟩ false (.stream 3) (.w 0)) ∧
  decodeMove 0x03A2C2 = .ok (.move ⟨false, 0⟩ false (.w 1) (.stream 2)) ∧
  decodeMove 0x040000 = .ok .nop

/-- Decoding and encoding agree (R292, Tables 12.2 to 12.11): the word of a well-formed move decodes to it, with every operand at
every value, and the move that any legal word decodes to is encoded by that word again. -/
def Obligations.DecodeAndEncodeAgree : Prop :=
  (∀ i w, i.wf = true → encode i = some w → decodeMove w = .ok i) ∧ (∀ w i, decodeMove w = .ok i → encode i = some w)

/-- Every step keeps every memory of the package in canonical form (log 4), from every state. -/
def Obligations.StepKeepsMemoryCanonical : Prop := ∀ (s t : State), s.memOk = true → step s = .next t → t.memOk = true

/-- What reset leaves where the specification gives a value (Tables 01.2, 01.4, 01.8, 02.11 to 02.15, 03.6, 03.7, 07.8, 07.10, 11.4, 11.8,
16.10), with nothing listed in any memory (what a byte that nothing has written reads as: log 4). The limit of 2,800 W stands for the
manifest's power class (log 6). -/
def Obligations.ResetState : Prop :=
  let s := State.reset
  (∀ d, (s.dieAt d).tick = 0 ∧ (s.dieAt d).scy = 0 ∧ (s.dieAt d).debt = 0) ∧
  s.pkg.level = 0 ∧ s.pkg.pwrLimit = 2800 ∧ s.pkg.pwrBad = false ∧
  s.links.memberSet = 0 ∧ s.links.errFar = 0 ∧ s.links.errReplay = 0 ∧
  (∀ p, s.links.planes.get p = .drained) ∧
  (∀ f, (s.host.fns.get f).evHead = 0 ∧ (s.host.fns.get f).evTail = 0 ∧ (s.host.fns.get f).tdi = .unlocked) ∧
  (∀ q, (s.host.queues.get q).accepted = 0 ∧ (s.host.queues.get q).done = 0) ∧
  (∀ a, s.host.asidRoot.get a = 0) ∧
  (∀ d c, ((s.dieAt d).chans.get c).nextId = 0 ∧ ((s.dieAt d).chans.get c).err = false) ∧
  (∀ d k, (s.dieAt d).dbgBp.get k = 0) ∧ (∀ d, (s.dieAt d).trcCtl = 0) ∧
  (∀ d n, ((s.dieAt d).streams.get n).cfg = 0) ∧
  s.sched.tasks = [] ∧ s.paddock.pens = [] ∧
  s.hbm = [] ∧ s.host.mem = [] ∧ (∀ d, (s.dieAt d).sp = [] ∧ (s.dieAt d).spSide = [] ∧ (s.dieAt d).pstore = [])

/-- A guarded-off move writes nothing, fills no latch, starts no operation and consumes nothing (R292): its slot is passed. -/
def Obligations.GuardedOffMovesDoNothing : Prop :=
  ∀ i g (s : State), guardOf i = some g → s.openGroup.takes g = false → exec i s = .next s.openGroup.finishSlot

/-- No move writes memory in its own step, whatever it meets: device memory and the program stores stay as they are, and so do the
scratchpads unless a task ends (whose live routes' blocks are cleared, R368). Stores take effect at their counts or as queue
entries. -/
def Obligations.MovesWriteNoMemory : Prop :=
  ∀ i (s t : State), i.parts ≠ .event → exec i s = .next t →
    (∀ a, t.hbm.read a = s.hbm.read a) ∧ (∀ d a, (t.dieAt d).pstore.read a = (s.dieAt d).pstore.read a) ∧
    (t.sched.tasks.map Task.lid = s.sched.tasks.map Task.lid →
      ∀ d a, (t.dieAt d).sp.read a = (s.dieAt d).sp.read a ∧ (t.dieAt d).spSide.read a = (s.dieAt d).spSide.read a)

/-- A NOP only lets its group go on; a plain move (R292 to R297, Table 12.3) writes the value it reads, converted, to its destination. -/
def Obligations.PlainMovesComplete : Prop :=
  (∀ s, exec .nop s = .next s.openGroup.finishSlot) ∧
  (∀ s g h src dst v s1, s.openGroup.takes g = true → legalMove src.kind dst.kind = true → holdLegal h dst = true →
    s.openGroup.srcFaults src = [] → s.openGroup.readSrc src = some (v, s1) → fits src v dst.kind = true →
    s1.dstFaults dst v = [] → s1.dstWaits dst = false → exec (.move g h src dst) s = .next (s1.writeDst dst h v).finishSlot)

/-- The ia units (R312 to R314, Table 13.1): each form puts its value on its port at latency 1; the im unit (R315, Tables 13.2, 13.3): its two results appear together. -/
def Obligations.ScalarFormsComplete : Prop :=
  (Scalar .ia0Add 0x048 [.ia0a] .ia0q 1 (fun a => a.op .ia0a + a.word)) ∧
  (Scalar .ia0Sub 0x049 [.ia0a] .ia0q 1 (fun a => a.op .ia0a - a.word)) ∧
  (Scalar .ia0And 0x04A [.ia0a] .ia0q 1 (fun a => a.op .ia0a &&& a.word)) ∧
  (Scalar .ia0Or 0x04B [.ia0a] .ia0q 1 (fun a => a.op .ia0a ||| a.word)) ∧
  (Scalar .ia0Xor 0x04C [.ia0a] .ia0q 1 (fun a => a.op .ia0a ^^^ a.word)) ∧
  (Scalar .ia0Andn 0x04D [.ia0a] .ia0q 1 (fun a => a.op .ia0a &&& ~~~a.word)) ∧
  (Scalar .ia0Orn 0x04E [.ia0a] .ia0q 1 (fun a => a.op .ia0a ||| ~~~a.word)) ∧
  (Scalar .ia0Shl 0x04F [.ia0a] .ia0q 1 (fun a => a.op .ia0a <<< shamt a.word)) ∧
  (Scalar .ia0Shr 0x050 [.ia0a] .ia0q 1 (fun a => a.op .ia0a >>> shamt a.word)) ∧
  (Scalar .ia0Sar 0x051 [.ia0a] .ia0q 1 (fun a => (a.op .ia0a).sshiftRight (shamt a.word))) ∧
  (Scalar .ia0Rol 0x052 [.ia0a] .ia0q 1 (fun a => (a.op .ia0a).rotateLeft (shamt a.word))) ∧
  (Scalar .ia0Ror 0x053 [.ia0a] .ia0q 1 (fun a => (a.op .ia0a).rotateRight (shamt a.word))) ∧
  (Scalar .ia0Min 0x054 [.ia0a] .ia0q 1 (fun a => if (a.word).slt (a.op .ia0a) then a.word else a.op .ia0a)) ∧
  (Scalar .ia0Max 0x055 [.ia0a] .ia0q 1 (fun a => if (a.op .ia0a).slt (a.word) then a.word else a.op .ia0a)) ∧
  (Scalar .ia0Minu 0x056 [.ia0a] .ia0q 1 (fun a => if a.word < a.op .ia0a then a.word else a.op .ia0a)) ∧
  (Scalar .ia0Maxu 0x057 [.ia0a] .ia0q 1 (fun a => if a.op .ia0a < a.word then a.word else a.op .ia0a)) ∧
  (Scalar .ia0Clz 0x058 [] .ia0q 1 (fun a => clz64 a.word)) ∧
  (Scalar .ia0Ctz 0x059 [] .ia0q 1 (fun a => ctz64 a.word)) ∧
  (Scalar .ia0Popc 0x05A [] .ia0q 1 (fun a => popc64 a.word)) ∧
  (Scalar .ia0Sext8 0x05B [] .ia0q 1 (fun a => sext64 8 a.word)) ∧
  (Scalar .ia0Sext16 0x05C [] .ia0q 1 (fun a => sext64 16 a.word)) ∧
  (Scalar .ia0Sext32 0x05D [] .ia0q 1 (fun a => sext64 32 a.word)) ∧
  (Scalar .ia0Zext32 0x05E [] .ia0q 1 (fun a => zext64 32 a.word)) ∧
  (Scalar .ia0Bext 0x05F [.ia0a] .ia0q 1 (fun a => bext (a.op .ia0a) a.word)) ∧
  (Scalar .ia0Bins 0x060 [.ia0a, .ia0b] .ia0q 1 (fun a => bins (a.op .ia0a) (a.op .ia0b) a.word)) ∧
  (Scalar .ia0Ceq 0x061 [.ia0a] .ia0q 1 (fun a => boolWord (a.op .ia0a == a.word))) ∧
  (Scalar .ia0Cne 0x062 [.ia0a] .ia0q 1 (fun a => boolWord (a.op .ia0a != a.word))) ∧
  (Scalar .ia0Clt 0x063 [.ia0a] .ia0q 1 (fun a => boolWord ((a.op .ia0a).slt (a.word)))) ∧
  (Scalar .ia0Cltu 0x064 [.ia0a] .ia0q 1 (fun a => boolWord (decide (a.op .ia0a < a.word)))) ∧
  (Scalar .ia0Cle 0x065 [.ia0a] .ia0q 1 (fun a => boolWord ((a.op .ia0a).sle (a.word)))) ∧
  (Scalar .ia0Cleu 0x066 [.ia0a] .ia0q 1 (fun a => boolWord (decide (a.op .ia0a ≤ a.word)))) ∧
  (Scalar .ia1Add 0x070 [.ia1a] .ia1q 1 (fun a => a.op .ia1a + a.word)) ∧
  (Scalar .ia1Sub 0x071 [.ia1a] .ia1q 1 (fun a => a.op .ia1a - a.word)) ∧
  (Scalar .ia1And 0x072 [.ia1a] .ia1q 1 (fun a => a.op .ia1a &&& a.word)) ∧
  (Scalar .ia1Or 0x073 [.ia1a] .ia1q 1 (fun a => a.op .ia1a ||| a.word)) ∧
  (Scalar .ia1Xor 0x074 [.ia1a] .ia1q 1 (fun a => a.op .ia1a ^^^ a.word)) ∧
  (Scalar .ia1Andn 0x075 [.ia1a] .ia1q 1 (fun a => a.op .ia1a &&& ~~~a.word)) ∧
  (Scalar .ia1Shl 0x076 [.ia1a] .ia1q 1 (fun a => a.op .ia1a <<< shamt a.word)) ∧
  (Scalar .ia1Shr 0x077 [.ia1a] .ia1q 1 (fun a => a.op .ia1a >>> shamt a.word)) ∧
  (Scalar .ia1Sar 0x078 [.ia1a] .ia1q 1 (fun a => (a.op .ia1a).sshiftRight (shamt a.word))) ∧
  (Scalar .ia1Ceq 0x079 [.ia1a] .ia1q 1 (fun a => boolWord (a.op .ia1a == a.word))) ∧
  (Scalar .ia1Clt 0x07A [.ia1a] .ia1q 1 (fun a => boolWord ((a.op .ia1a).slt (a.word)))) ∧
  (Scalar .ia1Cltu 0x07B [.ia1a] .ia1q 1 (fun a => boolWord (decide (a.op .ia1a < a.word)))) ∧
  (Product .imMul 0x068 3 (fun a v => halves (a.toInt * v.toInt))) ∧
  (Product .imMulhu 0x069 3 (fun a v => halves (a.toNat * v.toNat : Nat))) ∧
  (Product .imMulhsu 0x06A 3 (fun a v => halves (a.toInt * (v.toNat : Int)))) ∧
  Product .imDiv 0x06B 20 (sdivide) ∧
  Product .imDivu 0x06C 20 (udivide)

/-- Control (R160 to R164, R271, R316 to R321, Table 13.4). -/
def Obligations.BranchesComplete : Prop :=
  (Completes .brJmp 0x088 [] (fun a => a.st.ctx.delay = none ∧ a.word.toNat < 2 ^ 16 ∧ a.word.toNat < a.st.ctx.codeLen) fun a => a.st.branchTo a.word) ∧
  (Completes .brCall 0x089 [] (fun a => a.st.ctx.delay = none ∧ a.word.toNat < 2 ^ 16 ∧ a.word.toNat < a.st.ctx.codeLen) fun a => (a.st.onCtx fun c => c.writeS 15 a.st.link).branchTo a.word) ∧
  (Completes .brLoop 0x08A [] (fun a => a.st.ctx.delay = none ∧ a.st.ctx.rotNow.lc - 1 ≠ 0 ∧ a.word.toNat < 2 ^ 16 ∧ a.word.toNat < a.st.ctx.codeLen) fun a => a.st.loopStep.branchTo a.word) ∧
  (Completes .brLoop 0x08A [] (fun a => a.st.ctx.delay = none ∧ a.st.ctx.rotNow.lc - 1 = 0) fun a => a.st.loopStep.trace 0 a.word 0) ∧
  (Completes .brRotcfg 0x08B [] (fun a => rotLegal a.word = true) fun a => a.st.onCtx fun c =>
    { c with rot := { lc := c.rot.lc, rofs := 0, rsz := fld a.word 0 5, rfile := BitVec.ofNat 2 (fld a.word 5 2) } }) ∧
  (Completes .brYield 0x08C [] (fun a => 1 ≤ a.word.toNat ∧ a.word.toNat ≤ 4096) fun a => a.st.onGroup fun g => { g with yield := some (g.count + a.word.toNat + 1) }) ∧
  (Completes .brAlign 0x08D [] (fun a => ∀ t, a.st.curTask = some t → t.multiDie = false) fun a => a.st) ∧
  (∀ t, Completes .brAlign 0x08D [] (fun a => a.st.curTask = some t ∧ t.multiDie = true) fun a => a.st.onGroup fun g => { g with align := true }) ∧
  (Completes .brExit 0x08E [] (fun a => a.st.ctx.delay = none) fun a => a.st.onGroup fun g => { g with exit := true }) ∧
  (Completes .brExitAbandon 0x08F [] (fun a => a.st.ctx.delay = none) fun a => a.st.discardAll) ∧
  (Raises .brTrap 0x090 fun a => a.st.takeFault ⟨0x30, 0, a.word⟩ true)

/-- Loads (R182, R322, R323, Table 13.6): a place on ls.q and an entry of the load queue. -/
def Obligations.LoadsJoinTheirQueue : Prop :=
  (Queued .lsLdb 0x091 [] .load .lsq (fun a => a.st.accessFaults a.word 1 false = []) (fun _ => (.ld .b true)) (fun a => a.word) (List.range 1) 1 0) ∧
  (Queued .lsLdbu 0x092 [] .load .lsq (fun a => a.st.accessFaults a.word 1 false = []) (fun _ => (.ld .b false)) (fun a => a.word) (List.range 1) 1 0) ∧
  (Queued .lsLdh 0x093 [] .load .lsq (fun a => a.st.accessFaults a.word 2 false = []) (fun _ => (.ld .h true)) (fun a => a.word) (List.range 2) 2 0) ∧
  (Queued .lsLdhu 0x094 [] .load .lsq (fun a => a.st.accessFaults a.word 2 false = []) (fun _ => (.ld .h false)) (fun a => a.word) (List.range 2) 2 0) ∧
  (Queued .lsLdw 0x095 [] .load .lsq (fun a => a.st.accessFaults a.word 4 false = []) (fun _ => (.ld .w true)) (fun a => a.word) (List.range 4) 4 0) ∧
  (Queued .lsLdwu 0x096 [] .load .lsq (fun a => a.st.accessFaults a.word 4 false = []) (fun _ => (.ld .w false)) (fun a => a.word) (List.range 4) 4 0) ∧
  (Queued .lsLdd 0x097 [] .load .lsq (fun a => a.st.accessFaults a.word 8 false = []) (fun _ => (.ld .d true)) (fun a => a.word) (List.range 8) 8 0) ∧
  (Queued .lsLdrow 0x09C [] .load .lsq (fun a => a.st.accessFaults a.word 256 true = []) (fun _ => (.ldrow)) (fun a => a.word) (List.range 256) 256 0)

/-- Stores and qmark (R182, R205, R322, Table 13.6): a timed store is in flight, any other joins the store queue. -/
def Obligations.StoresComplete : Prop :=
  Stores .lsStb 0x098 .b ∧
  Stores .lsSth 0x099 .h ∧
  Stores .lsStw 0x09A .w ∧
  Stores .lsStd 0x09B .d ∧
  (Completes .lsStrow 0x09D [.lsa] (fun a => a.st.storeFaults (a.op .lsa) 256 true = [] ∧ a.st.storeWaits (a.op .lsa) = false) fun a => a.st.store (a.op .lsa) (.strow (valRow a.v) none) (rowBytes (valRow a.v)) (rowSide (valRow a.v)) (fun _ => true) (fun _ => true)) ∧
  (Completes .lsStrowm 0x09E [.lsa, .lsm] (fun a => rowEmpty a.maskRow = false ∧ a.st.storeFaults (a.op .lsa) 256 true = [] ∧ a.st.storeWaits (a.op .lsa) = false) fun a => a.st.store (a.op .lsa) (.strow (valRow a.v) (some a.maskRow)) (rowBytes (valRow a.v)) (rowSide (valRow a.v))
    (byteSet a.maskRow.data.toNat) (byteSet a.maskRow.side.toNat)) ∧
  (Completes .lsStrowm 0x09E [.lsa, .lsm] (fun a => rowEmpty a.maskRow = true) fun a => a.st) ∧
  (Completes .lsQmark 0x09F [] (fun a => True) fun a => a.st.onCtx fun c => { c with marks := c.marks ++ [c.seq], seq := c.seq + 1 })

/-- Atomics (R206, R323, R325, Table 12.6): a place on sy.q and one entry of both queues. -/
def Obligations.AtomicsJoinBothQueues : Prop :=
  (Queued .syAmoAddW 0x0A0 [.sya] .both .syq (fun a => a.st.amoFaults (a.op .sya) 4 = []) (fun a => .amo .add false a.word (a.op .syb)) (fun a => a.op .sya) (List.range 4) 4 2) ∧
  (Queued .syAmoAddD 0x0A1 [.sya] .both .syq (fun a => a.st.amoFaults (a.op .sya) 8 = []) (fun a => .amo .add true a.word (a.op .syb)) (fun a => a.op .sya) (List.range 8) 8 2) ∧
  (Queued .syAmoAndW 0x0A2 [.sya] .both .syq (fun a => a.st.amoFaults (a.op .sya) 4 = []) (fun a => .amo .and false a.word (a.op .syb)) (fun a => a.op .sya) (List.range 4) 4 2) ∧
  (Queued .syAmoAndD 0x0A3 [.sya] .both .syq (fun a => a.st.amoFaults (a.op .sya) 8 = []) (fun a => .amo .and true a.word (a.op .syb)) (fun a => a.op .sya) (List.range 8) 8 2) ∧
  (Queued .syAmoOrW 0x0A4 [.sya] .both .syq (fun a => a.st.amoFaults (a.op .sya) 4 = []) (fun a => .amo .or false a.word (a.op .syb)) (fun a => a.op .sya) (List.range 4) 4 2) ∧
  (Queued .syAmoOrD 0x0A5 [.sya] .both .syq (fun a => a.st.amoFaults (a.op .sya) 8 = []) (fun a => .amo .or true a.word (a.op .syb)) (fun a => a.op .sya) (List.range 8) 8 2) ∧
  (Queued .syAmoXorW 0x0A6 [.sya] .both .syq (fun a => a.st.amoFaults (a.op .sya) 4 = []) (fun a => .amo .xor false a.word (a.op .syb)) (fun a => a.op .sya) (List.range 4) 4 2) ∧
  (Queued .syAmoXorD 0x0A7 [.sya] .both .syq (fun a => a.st.amoFaults (a.op .sya) 8 = []) (fun a => .amo .xor true a.word (a.op .syb)) (fun a => a.op .sya) (List.range 8) 8 2) ∧
  (Queued .syAmoMinW 0x0A8 [.sya] .both .syq (fun a => a.st.amoFaults (a.op .sya) 4 = []) (fun a => .amo .min false a.word (a.op .syb)) (fun a => a.op .sya) (List.range 4) 4 2) ∧
  (Queued .syAmoMinD 0x0A9 [.sya] .both .syq (fun a => a.st.amoFaults (a.op .sya) 8 = []) (fun a => .amo .min true a.word (a.op .syb)) (fun a => a.op .sya) (List.range 8) 8 2) ∧
  (Queued .syAmoMaxW 0x0AA [.sya] .both .syq (fun a => a.st.amoFaults (a.op .sya) 4 = []) (fun a => .amo .max false a.word (a.op .syb)) (fun a => a.op .sya) (List.range 4) 4 2) ∧
  (Queued .syAmoMaxD 0x0AB [.sya] .both .syq (fun a => a.st.amoFaults (a.op .sya) 8 = []) (fun a => .amo .max true a.word (a.op .syb)) (fun a => a.op .sya) (List.range 8) 8 2) ∧
  (Queued .syAmoMinuW 0x0AC [.sya] .both .syq (fun a => a.st.amoFaults (a.op .sya) 4 = []) (fun a => .amo .minu false a.word (a.op .syb)) (fun a => a.op .sya) (List.range 4) 4 2) ∧
  (Queued .syAmoMinuD 0x0AD [.sya] .both .syq (fun a => a.st.amoFaults (a.op .sya) 8 = []) (fun a => .amo .minu true a.word (a.op .syb)) (fun a => a.op .sya) (List.range 8) 8 2) ∧
  (Queued .syAmoMaxuW 0x0AE [.sya] .both .syq (fun a => a.st.amoFaults (a.op .sya) 4 = []) (fun a => .amo .maxu false a.word (a.op .syb)) (fun a => a.op .sya) (List.range 4) 4 2) ∧
  (Queued .syAmoMaxuD 0x0AF [.sya] .both .syq (fun a => a.st.amoFaults (a.op .sya) 8 = []) (fun a => .amo .maxu true a.word (a.op .syb)) (fun a => a.op .sya) (List.range 8) 8 2) ∧
  (Queued .syAmoSwapW 0x0B0 [.sya] .both .syq (fun a => a.st.amoFaults (a.op .sya) 4 = []) (fun a => .amo .swap false a.word (a.op .syb)) (fun a => a.op .sya) (List.range 4) 4 2) ∧
  (Queued .syAmoSwapD 0x0B1 [.sya] .both .syq (fun a => a.st.amoFaults (a.op .sya) 8 = []) (fun a => .amo .swap true a.word (a.op .syb)) (fun a => a.op .sya) (List.range 8) 8 2) ∧
  (Queued .syAmoCasW 0x0B2 [.sya, .syb] .both .syq (fun a => a.st.amoFaults (a.op .sya) 4 = []) (fun a => .amo .cas false a.word (a.op .syb)) (fun a => a.op .sya) (List.range 4) 4 2) ∧
  (Queued .syAmoCasD 0x0B3 [.sya, .syb] .both .syq (fun a => a.st.amoFaults (a.op .sya) 8 = []) (fun a => .amo .cas true a.word (a.op .syb)) (fun a => a.op .sya) (List.range 8) 8 2)

/-- Fences, tokens, barriers, phases and claims (R159, R172, R197, R207, R211, R326 to R331). In a handler an arrival counts at once (the
model's choice, log 19). -/
def Obligations.SynchronisationCompletes : Prop :=
  Fences .syFenceR 0x0B4 true false ∧
  Fences .syFenceW 0x0B5 false true ∧
  Fences .syFenceRw 0x0B6 true true ∧
  (Completes .syTokWait 0x0B7 [] (fun a => a.word.toNat < 64 ∧ a.st.curToken a.word.toNat = .set) fun a => a.st) ∧
  (Completes .syTokTest 0x0B8 [] (fun a => a.word.toNat < 64 ∧ (a.st.ctx.timedNow = true → a.st.curToken a.word.toNat = .set)) fun a => a.st.after 1 (.port .syr (.s (if a.st.curToken a.word.toNat = .set then 1 else 0)))) ∧
  (Completes .syTokClr 0x0BA [] (fun a => a.word.toNat < 64 ∧ a.st.curToken a.word.toNat ≠ .pending) fun a => a.st.setTok a.st.ctx.lid a.st.turn a.word.toNat .clear) ∧
  (∀ d c, Completes .syTokId 0x0B9 [.sya, .syb] (fun a => a.word.toNat < 64 ∧ a.st.curToken a.word.toNat = .clear ∧ a.st.tokChan (a.op .sya) = some (d, c) ∧
      passed ((a.st.dieAt d).chans.get c).doneId (BitVec.ofNat 32 (a.op .syb).toNat) = true) fun a => (a.st.after 1 (.port .syr (.s 1))).setTok a.st.ctx.lid a.st.turn a.word.toNat .set) ∧
  (∀ d c, Completes .syTokId 0x0B9 [.sya, .syb] (fun a => a.word.toNat < 64 ∧ a.st.curToken a.word.toNat = .clear ∧ a.st.tokChan (a.op .sya) = some (d, c) ∧
      passed ((a.st.dieAt d).chans.get c).doneId (BitVec.ofNat 32 (a.op .syb).toNat) = false) fun a => ((((a.st.after 1 (.port .syr (.s 0))).setTok a.st.ctx.lid a.st.turn a.word.toNat .pending).onTask a.st.ctx.lid fun t =>
      t.setDie a.st.turn fun x => { x with tokIds := x.tokIds ++ [(a.word.toNat, d, c, BitVec.ofNat 32 (a.op .syb).toNat)] }).onCtx
        fun x => { x with holds := x.holds ++ [(x.seq, a.word.toNat)], seq := x.seq + 1 })) ∧
  (Completes .syBarArrive 0x0BB [] (fun a => a.word.toNat < 2) fun a => a.st.onCtx fun c =>
    { c with epoch0 := if a.word = 0 then c.epoch0 + 1 else c.epoch0
             epoch1 := if a.word = 0 then c.epoch1 else c.epoch1 + 1
             arriving := (c.arriving.filter fun x => !c.arrivalDone a.st.die.scy x.2.1 x.2.2) ++
               [(a.word.toNat, c.seq, if a.st.ctx.inh then 0 else a.st.group.count + 4)] }) ∧
  (Completes .syBarWait 0x0BC [] (fun a => a.word.toNat < 2 ∧ a.st.barrierOpen a.word.toNat = true) fun a => a.st) ∧
  (Completes .syPhase 0x0BD [] (fun a => a.word.toNat < 64 ∧ ∀ t, a.st.curTask = some t → (t.det && a.st.phaseOverlap t a.st.turn a.word.toNat) = false) fun a => a.st.onTask a.st.ctx.lid fun t => t.setDie a.st.turn fun x => { x with phase := BitVec.ofNat 6 a.word.toNat }) ∧
  (Completes .syClaim 0x1E8 [.sya] (fun a => a.st.claimFaults (a.op .sya) a.word = []) fun a => a.st.onTask a.st.ctx.lid fun t =>
    t.setDie (spDie a.st.turn (a.op .sya).toNat) fun x => { x with owned := joinRange x.owned (claimRange (a.op .sya) a.word) })

/-- Special registers, publish, return from a handler, and breakpoint (R269, R271, R332 to R336). -/
def Obligations.SystemMovesComplete : Prop :=
  (Completes .sySrd 0x1E6 [] (fun a => a.st.srdFaults a.word = [] ∧ queuedReg a.word.toNat = false ∧ supReg a.word.toNat = false) fun a => a.st.after 1 (.port .syr (.s (a.st.readTask a.word.toNat)))) ∧
  (Completes .sySrd 0x1E6 [] (fun a => a.st.srdFaults a.word = [] ∧ queuedReg a.word.toNat = false ∧ supReg a.word.toNat = true) fun a => a.st.after 1 (.port .syr (.s (a.st.readSup a.st.turn a.word.toNat)))) ∧
  (Completes .sySrd 0x1E6 [] (fun a => a.st.srdFaults a.word = [] ∧ queuedReg a.word.toNat = true ∧ a.st.ctx.queueFull .load = false) fun a => (a.st.place .syq).push .load (.srd a.word.toNat) 0 [0]) ∧
  (Completes .sySwr 0x1E7 [.sysri] (fun a => a.st.swrFaults (a.op .sysri) a.word = [] ∧ queuedReg (a.op .sysri).toNat = true ∧ a.st.ctx.queueFull .store = false) fun a => a.st.push .store (.swr (a.op .sysri).toNat a.word) 0 [0]) ∧
  (Completes .sySwr 0x1E7 [.sysri] (fun a => a.st.swrFaults (a.op .sysri) a.word = [] ∧ queuedReg (a.op .sysri).toNat = false ∧ supReg (a.op .sysri).toNat = true) fun a => a.st.after 1 (.sreg (a.op .sysri).toNat a.word)) ∧
  (Completes .sySwr 0x1E7 [.sysri] (fun a => a.st.swrFaults (a.op .sysri) a.word = [] ∧ queuedReg (a.op .sysri).toNat = false ∧ supReg (a.op .sysri).toNat = false ∧
      writableReg a.st.ctx (a.op .sysri).toNat = true) fun a => a.st.after 1 (.sreg (a.op .sysri).toNat (a.st.group.written (a.op .sysri).toNat a.word))) ∧
  (Completes .sySwr 0x1E7 [.sysri] (fun a => a.st.swrFaults (a.op .sysri) a.word = [] ∧ queuedReg (a.op .sysri).toNat = false ∧ supReg (a.op .sysri).toNat = false ∧
      writableReg a.st.ctx (a.op .sysri).toNat = false) fun a => a.st) ∧
  (Completes .syPublish 0x1E9 [.sya] (fun a => a.st.ctx.placesFull .syq = false ∧ a.st.ctx.queueFull .load = false) fun a => (a.st.place .syq).push .load (.publish a.word) (a.op .sya) [0]) ∧
  (Completes .syRfe 0x1EA [] (fun a => a.st.ctx.inh = true) fun a => a.st.onGroup fun x => { x with rfe := true }) ∧
  (Raises .syBrk 0x1EB fun a => a.st.takeFault ⟨0x31, 0, a.word⟩ true)

/-- Elementwise floating-point vx forms (R340, R343, R344, R252, Table 14.2): every lane in its format and rounding mode. -/
def Obligations.VectorFloatsComplete : Prop :=
  (Lanes .vxFaddF32 0x104 [.vxa] 3 32 (fun md a _ v => fAdd .f32 md a v)) ∧
  (Lanes .vxFsubF32 0x105 [.vxa] 3 32 (fun md a _ v => fSub .f32 md a v)) ∧
  (Lanes .vxFmulF32 0x106 [.vxa] 5 32 (fun md a _ v => fMul .f32 md a v)) ∧
  (Lanes .vxFmaF32 0x107 [.vxa, .vxb] 5 32 (fun md a b v => fFma .f32 md false false a b v)) ∧
  (Lanes .vxFmsF32 0x108 [.vxa, .vxb] 5 32 (fun md a b v => fFma .f32 md false true a b v)) ∧
  (Lanes .vxFnmaF32 0x109 [.vxa, .vxb] 5 32 (fun md a b v => fFma .f32 md true false a b v)) ∧
  (Lanes .vxFnmsF32 0x10A [.vxa, .vxb] 5 32 (fun md a b v => fFma .f32 md true true a b v)) ∧
  (Lanes .vxFminF32 0x10B [.vxa] 3 32 (fun _ a _ v => fMinMax .f32 false false a v)) ∧
  (Lanes .vxFmaxF32 0x10C [.vxa] 3 32 (fun _ a _ v => fMinMax .f32 true false a v)) ∧
  (Lanes .vxFminNumF32 0x10D [.vxa] 3 32 (fun _ a _ v => fMinMax .f32 false true a v)) ∧
  (Lanes .vxFmaxNumF32 0x10E [.vxa] 3 32 (fun _ a _ v => fMinMax .f32 true true a v)) ∧
  (Lanes .vxFaddBf16 0x113 [.vxa] 3 16 (fun md a _ v => fAdd .bf16 md a v)) ∧
  (Lanes .vxFsubBf16 0x114 [.vxa] 3 16 (fun md a _ v => fSub .bf16 md a v)) ∧
  (Lanes .vxFmulBf16 0x115 [.vxa] 5 16 (fun md a _ v => fMul .bf16 md a v)) ∧
  (Lanes .vxFmaBf16 0x116 [.vxa, .vxb] 5 16 (fun md a b v => fFma .bf16 md false false a b v)) ∧
  (Lanes .vxFmsBf16 0x117 [.vxa, .vxb] 5 16 (fun md a b v => fFma .bf16 md false true a b v)) ∧
  (Lanes .vxFnmaBf16 0x118 [.vxa, .vxb] 5 16 (fun md a b v => fFma .bf16 md true false a b v)) ∧
  (Lanes .vxFnmsBf16 0x119 [.vxa, .vxb] 5 16 (fun md a b v => fFma .bf16 md true true a b v)) ∧
  (Lanes .vxFminBf16 0x11A [.vxa] 3 16 (fun _ a _ v => fMinMax .bf16 false false a v)) ∧
  (Lanes .vxFmaxBf16 0x11B [.vxa] 3 16 (fun _ a _ v => fMinMax .bf16 true false a v)) ∧
  (Lanes .vxFaddF16 0x11C [.vxa] 3 16 (fun md a _ v => fAdd .f16 md a v)) ∧
  (Lanes .vxFmulF16 0x11D [.vxa] 5 16 (fun md a _ v => fMul .f16 md a v)) ∧
  (Lanes .vxFmaF16 0x11E [.vxa, .vxb] 5 16 (fun md a b v => fFma .f16 md false false a b v)) ∧
  (Lanes .vxFmaxF16 0x11F [.vxa] 3 16 (fun _ a _ v => fMinMax .f16 true false a v)) ∧
  (Lanes .vxFmulE4m3 0x120 [.vxa] 5 8 (fun md a _ v => fMul .e4m3 md a v)) ∧
  (Lanes .vxFmulE5m2 0x121 [.vxa] 5 8 (fun md a _ v => fMul .e5m2 md a v)) ∧
  (Lanes .vxFmulE2m1 0x122 [.vxa] 5 4 (fun md a _ v => fMul .e2m1 md a v)) ∧
  (Lanes .vxFcmpEqF32 0x10F [.vxa] 3 32 (fun _ a _ v => maskLane32 (fCmp .f32 .eq a v).1 (fCmp .f32 .eq a v).2)) ∧
  (Lanes .vxFcmpLtF32 0x110 [.vxa] 3 32 (fun _ a _ v => maskLane32 (fCmp .f32 .lt a v).1 (fCmp .f32 .lt a v).2)) ∧
  (Lanes .vxFcmpLeF32 0x111 [.vxa] 3 32 (fun _ a _ v => maskLane32 (fCmp .f32 .le a v).1 (fCmp .f32 .le a v).2)) ∧
  (Lanes .vxFcmpUnF32 0x112 [.vxa] 3 32 (fun _ a _ v => maskLane32 (fCmp .f32 .un a v).1 (fCmp .f32 .un a v).2))

/-- Elementwise integer, byte-wise and shift vx forms (R345, R346, Tables 14.3, 14.4). The side lane of lut3 follows R346, where R340's list
leaves it out (the model's choice, log 52). -/
def Obligations.VectorIntegersComplete : Prop :=
  (Lanes .vxIaddI32 0x123 [.vxa] 2 32 (fun _ a _ v => ⟨(a + v) % 2 ^ 32, 0⟩)) ∧
  (Lanes .vxIsubI32 0x124 [.vxa] 2 32 (fun _ a _ v => ⟨(a + 2 ^ 32 - v) % 2 ^ 32, 0⟩)) ∧
  (Lanes .vxIaddSI32 0x125 [.vxa] 2 32 (fun _ a _ v => ⟨satInt 32 (signedOf 32 a + signedOf 32 v), 0⟩)) ∧
  (Lanes .vxIsubSI32 0x126 [.vxa] 2 32 (fun _ a _ v => ⟨satInt 32 (signedOf 32 a - signedOf 32 v), 0⟩)) ∧
  (Lanes .vxImulI32 0x127 [.vxa] 4 32 (fun _ a _ v => ⟨a * v % 2 ^ 32, 0⟩)) ∧
  (Lanes .vxImadI32 0x128 [.vxa, .vxb] 4 32 (fun _ a b v => ⟨(a * b + v) % 2 ^ 32, 0⟩)) ∧
  (Lanes .vxIminI32 0x129 [.vxa] 2 32 (fun _ a _ v => ⟨if signedOf 32 v < signedOf 32 a then v else a, 0⟩)) ∧
  (Lanes .vxImaxI32 0x12A [.vxa] 2 32 (fun _ a _ v => ⟨if signedOf 32 a < signedOf 32 v then v else a, 0⟩)) ∧
  (Lanes .vxIminuI32 0x12B [.vxa] 2 32 (fun _ a _ v => ⟨min a v, 0⟩)) ∧
  (Lanes .vxImaxuI32 0x12C [.vxa] 2 32 (fun _ a _ v => ⟨max a v, 0⟩)) ∧
  (Lanes .vxIcmpEqI32 0x12D [.vxa] 2 32 (fun _ a _ v => maskLane32 (a == v) 0)) ∧
  (Lanes .vxIcmpLtI32 0x12E [.vxa] 2 32 (fun _ a _ v => maskLane32 (decide (signedOf 32 a < signedOf 32 v)) 0)) ∧
  (Lanes .vxIcmpLtuI32 0x12F [.vxa] 2 32 (fun _ a _ v => maskLane32 (decide (a < v)) 0)) ∧
  (Lanes .vxShlI32 0x130 [.vxa] 2 32 (fun _ a _ v => ⟨a * 2 ^ (v % 32) % 2 ^ 32, 0⟩)) ∧
  (Lanes .vxShrI32 0x131 [.vxa] 2 32 (fun _ a _ v => ⟨a / 2 ^ (v % 32), 0⟩)) ∧
  (Lanes .vxSarI32 0x132 [.vxa] 2 32 (fun _ a _ v => intRes 32 (signedOf 32 a / (2 ^ (v % 32) : Nat)))) ∧
  (Lanes .vxPopcI32 0x133 [] 2 32 (fun _ _ _ v => ⟨popcount 32 v, 0⟩)) ∧
  (Lanes .vxClzI32 0x134 [] 2 32 (fun _ _ _ v => ⟨clz32 v, 0⟩)) ∧
  (Lanes .vxIaddI16 0x135 [.vxa] 2 16 (fun _ a _ v => ⟨(a + v) % 2 ^ 16, 0⟩)) ∧
  (Lanes .vxIaddI8 0x136 [.vxa] 2 8 (fun _ a _ v => ⟨(a + v) % 2 ^ 8, 0⟩)) ∧
  (Lanes .vxIaddSI8 0x137 [.vxa] 2 8 (fun _ a _ v => ⟨satInt 8 (signedOf 8 a + signedOf 8 v), 0⟩)) ∧
  (Bytewise .vxAnd 0x138 [.vxa] 1 (fun _ => True) (fun a i => bitwiseRow (fun a v => a &&& v) (fun a v => a &&& v) (a.ra i) (a.rv i))) ∧
  (Bytewise .vxOr 0x139 [.vxa] 1 (fun _ => True) (fun a i => bitwiseRow (fun a v => a ||| v) (fun a v => a ||| v) (a.ra i) (a.rv i))) ∧
  (Bytewise .vxXor 0x13A [.vxa] 1 (fun _ => True) (fun a i => bitwiseRow (fun a v => a ^^^ v) (fun a v => a ^^^ v) (a.ra i) (a.rv i))) ∧
  (Bytewise .vxAndn 0x13B [.vxa] 1 (fun _ => True) (fun a i => bitwiseRow (fun a v => a &&& ~~~v) (fun a v => a &&& ~~~v) (a.ra i) (a.rv i))) ∧
  (Bytewise .vxLut3 0x13C [.vxa, .vxb, .vxc] 1 (fun a => a.word.toNat < 256) (fun a i => ⟨lutBits a.word.toNat (a.ra i).data (a.rb i).data (a.rc i).data, lutBits a.word.toNat (a.ra i).side (a.rb i).side (a.rc i).side⟩)) ∧
  (Bytewise .vxSel 0x13D [.vxa, .vxb] 1 (fun _ => True) (fun a i => selRow (a.ra i) (a.rb i) (a.rv i))) ∧
  (Bytewise .vxRot 0x13E [.vxa] 2 (fun a => a.word.toNat < 2048) (fun a i => rotRow a.word.toNat (a.ra i))) ∧
  (Bytewise .vxFsh 0x13F [.vxa, .vxb] 2 (fun a => a.word.toNat < 2048) (fun a i => fshRow a.word.toNat (a.ra i) (a.rb i)))

/-- Conversions (R347, R348, Table 14.5), with the stall of R123 under profile 1. -/
def Obligations.ConversionsComplete : Prop :=
  (Converts .vxCvtF32Bf16 0x148 ⟨32, 16, fun md p1 x => fConv .bf16 .f32 false md p1 x, false, none, false⟩) ∧
  (Converts .vxCvtF32F16 0x149 ⟨32, 16, fun md p1 x => fConv .f16 .f32 false md p1 x, false, none, false⟩) ∧
  (Converts .vxCvtBf16F32 0x14A ⟨16, 32, fun md p1 x => fConv .f32 .bf16 false md p1 x, false, none, false⟩) ∧
  (Converts .vxCvtF16F32 0x14B ⟨16, 32, fun md p1 x => fConv .f32 .f16 false md p1 x, false, none, false⟩) ∧
  (Converts .vxCvtF32E4m3Sat 0x14C ⟨32, 8, fun md p1 x => fConv .e4m3 .f32 true md p1 x, false, none, true⟩) ∧
  (Converts .vxCvtF32E4m3Nan 0x14D ⟨32, 8, fun md p1 x => fConv .e4m3 .f32 false md p1 x, false, none, true⟩) ∧
  (Converts .vxCvtF32E5m2Sat 0x14E ⟨32, 8, fun md p1 x => fConv .e5m2 .f32 true md p1 x, false, none, false⟩) ∧
  (Converts .vxCvtF32E5m2Inf 0x14F ⟨32, 8, fun md p1 x => fConv .e5m2 .f32 false md p1 x, false, none, false⟩) ∧
  (Converts .vxCvtF32E2m1 0x150 ⟨32, 4, fun md p1 x => fConv .e2m1 .f32 true md p1 x, false, none, false⟩) ∧
  (Converts .vxCvtBf16E4m3Sat 0x151 ⟨16, 8, fun md p1 x => fConv .e4m3 .bf16 true md p1 x, false, none, true⟩) ∧
  (Converts .vxCvtBf16E5m2Sat 0x152 ⟨16, 8, fun md p1 x => fConv .e5m2 .bf16 true md p1 x, false, none, false⟩) ∧
  (Converts .vxCvtE4m3F32 0x153 ⟨8, 32, fun md p1 x => fConv .f32 .e4m3 false md p1 x, false, none, false⟩) ∧
  (Converts .vxCvtE5m2F32 0x154 ⟨8, 32, fun md p1 x => fConv .f32 .e5m2 false md p1 x, false, none, false⟩) ∧
  (Converts .vxCvtE2m1F32 0x155 ⟨4, 32, fun md p1 x => fConv .f32 .e2m1 false md p1 x, false, none, false⟩) ∧
  (Converts .vxCvtE4m3Bf16 0x156 ⟨8, 16, fun md p1 x => fConv .bf16 .e4m3 false md p1 x, false, none, false⟩) ∧
  (Converts .vxCvtF32I32 0x157 ⟨32, 32, fun md _ x => fToInt 32 .f32 md x, false, none, false⟩) ∧
  (Converts .vxCvtI32F32 0x158 ⟨32, 32, fun md _ x => fOfInt .f32 md (signedOf 32 x), false, none, false⟩) ∧
  (Converts .vxCvtI8F32 0x159 ⟨8, 32, fun md _ x => fOfInt .f32 md (signedOf 8 x), false, none, false⟩) ∧
  (Converts .vxCvtF32I8 0x15A ⟨32, 8, fun md _ x => fToInt 8 .f32 md x, false, none, false⟩) ∧
  (Converts .vxCvtI4I8 0x15B ⟨4, 8, fun _ _ x => sextLane 4 8 x, false, none, false⟩) ∧
  (Converts .vxCvtI32I8S 0x15C ⟨32, 8, fun _ _ x => ⟨satInt 8 (signedOf 32 x), 0⟩, false, none, false⟩) ∧
  (Converts .vxCvtF32E4m3SatAmax 0x15D ⟨32, 8, fun md p1 x => fConv .e4m3 .f32 true md p1 x, false, some .f32, true⟩) ∧
  (Converts .vxCvtF32E5m2SatAmax 0x15E ⟨32, 8, fun md p1 x => fConv .e5m2 .f32 true md p1 x, false, some .f32, false⟩) ∧
  (Converts .vxCvtF32Bf16Amax 0x15F ⟨32, 16, fun md p1 x => fConv .bf16 .f32 false md p1 x, false, some .f32, false⟩) ∧
  (Converts .vxCvtSrF32E4m3Sat 0x160 ⟨32, 8, fun md p1 x => fConv .e4m3 .f32 true md p1 x, true, none, false⟩) ∧
  (Converts .vxCvtSrF32E5m2Sat 0x161 ⟨32, 8, fun md p1 x => fConv .e5m2 .f32 true md p1 x, true, none, false⟩) ∧
  (Converts .vxCvtSrF32Bf16 0x162 ⟨32, 16, fun md p1 x => fConv .bf16 .f32 false md p1 x, true, none, false⟩)

/-- Functions of one operand, row reductions, and block scales and quantisation (R349 to R352, Table 14.6); under profile 1 the functions of
Table 04.7 are routines (R123, R124). -/
def Obligations.FunctionsAndBlocksComplete : Prop :=
  (Function1 .vxRcpF32 0x163 12 (fun a => a.st.ctx.profile1 = false) fRcp) ∧
  Routine1 .vxRcpF32 0x163 48 rcp1 ∧
  (Function1 .vxRsqrtF32 0x164 12 (fun a => a.st.ctx.profile1 = false) fRsqrt) ∧
  Routine1 .vxRsqrtF32 0x164 48 rsqrt1 ∧
  (Function1 .vxSqrtF32 0x165 12 (fun _ => True) fSqrt) ∧
  (Function1 .vxExp2F32 0x166 14 (fun a => a.st.ctx.profile1 = false) fExp2) ∧
  Routine1 .vxExp2F32 0x166 64 exp2_1 ∧
  (Function1 .vxLog2F32 0x167 14 (fun _ => True) fLog2) ∧
  (Slices .vxRsumF32 0x168 [] 7 (fun _ => True) fun a k => reduceRow 32 canonF32 idAdd addF32 (a.mask k) (a.rv k)) ∧
  (Slices .vxRsumBf16 0x169 [] 7 (fun _ => True) fun a k => reduceRow 16 canonBf16 idAdd addF32 (a.mask k) (a.rv k)) ∧
  (Slices .vxRmaxF32 0x16A [] 7 (fun _ => True) fun a k => reduceRow 32 canonF32 idMax maxF32 (a.mask k) (a.rv k)) ∧
  (Slices .vxRmaxBf16 0x16B [] 7 (fun _ => True) fun a k => reduceRow 16 canonBf16 idMax maxF32 (a.mask k) (a.rv k)) ∧
  (Slices .vxRminF32 0x16C [] 7 (fun _ => True) fun a k => reduceRow 32 canonF32 idMin minF32 (a.mask k) (a.rv k)) ∧
  (Slices .vxRminBf16 0x16D [] 7 (fun _ => True) fun a k => reduceRow 16 canonBf16 idMin minF32 (a.mask k) (a.rv k)) ∧
  (Slices .vxRsumI32 0x16E [] 7 (fun _ => True) fun a k => reduceRow 32 (fun x => ⟨x, 0⟩) idAdd addI32 (a.mask k) (a.rv k)) ∧
  (Slices .vxRsumI8 0x16F [] 7 (fun _ => True) fun a k => reduceRow 8 (sextLane 8 32) idAdd addI32 (a.mask k) (a.rv k)) ∧
  (Slices .vxBscaleE4m3 0x170 [.vxa] 4 (fun _ => True) fun a k => bscaleRow .e4m3 (a.part k (blockRatio .e4m3)) (a.mask k) (a.rv k)) ∧
  (Slices .vxBscaleE5m2 0x171 [.vxa] 4 (fun _ => True) fun a k => bscaleRow .e5m2 (a.part k (blockRatio .e5m2)) (a.mask k) (a.rv k)) ∧
  (Slices .vxBscaleE2m1 0x172 [.vxa] 4 (fun _ => True) fun a k => bscaleRow .e2m1 (a.part k (blockRatio .e2m1)) (a.mask k) (a.rv k)) ∧
  Quantises .vxBquantE4m3 0x173 .e4m3 ∧
  Quantises .vxBquantE5m2 0x174 .e5m2 ∧
  Quantises .vxBquantE2m1 0x175 .e2m1

/-- Row scans, cross-slice scans and cross-slice reductions (R353, R354, Table 14.7). -/
def Obligations.ScansComplete : Prop :=
  (Completes .scScanAddF32 0x176 [] (fun _ => True) fun a => a.st.deliverSc 8 (perSlice fun k => scanRow canonF32 idAdd addF32 (a.mask k) (a.rv k))) ∧
  (Completes .scScanAddI32 0x177 [] (fun _ => True) fun a => a.st.deliverSc 8 (perSlice fun k => scanRow (fun x => ⟨x, 0⟩) idAdd addI32 (a.mask k) (a.rv k))) ∧
  (Completes .scScanMaxF32 0x178 [] (fun _ => True) fun a => a.st.deliverSc 8 (perSlice fun k => scanRow canonF32 idMax maxF32 (a.mask k) (a.rv k))) ∧
  (Completes .scScanMinF32 0x179 [] (fun _ => True) fun a => a.st.deliverSc 8 (perSlice fun k => scanRow canonF32 idMin minF32 (a.mask k) (a.rv k))) ∧
  Scans .scXscanAddF32 0x17A canonF32 idAdd addF32 ∧
  (Scans .scXscanAddI32 0x17B (fun x => ⟨x, 0⟩) idAdd addI32) ∧
  Scans .scXscanMaxF32 0x17C canonF32 idMax maxF32 ∧
  Reduces .scXredAddF32 0x17D canonF32 idAdd addF32 ∧
  (Reduces .scXredAddI32 0x17E (fun x => ⟨x, 0⟩) idAdd addI32) ∧
  Reduces .scXredMaxF32 0x17F canonF32 idMax maxF32

/-- Matrix cells (R371 to R376, Table 15.4). -/
def Obligations.MatrixMovesComplete : Prop :=
  Pushes .mxPushE4m3 0x188 mxE4m3 ∧
  Pushes .mxPushE5m2 0x189 mxE5m2 ∧
  Pushes .mxPushE2m1 0x18A mxE2m1 ∧
  Pushes .mxPushBf16 0x18B mxBf16 ∧
  Pushes .mxPushF16 0x18C mxF16 ∧
  Pushes .mxPushI8 0x18D mxI8 ∧
  Beats .mxAccE4m3 0x191 mxE4m3 ∧
  Beats .mxAccE5m2 0x192 mxE5m2 ∧
  Beats .mxAccE2m1 0x193 mxE2m1 ∧
  Beats .mxAccBf16 0x194 mxBf16 ∧
  Beats .mxAccF16 0x195 mxF16 ∧
  Beats .mxAccI8 0x196 mxI8 ∧
  Drains .mxDrain4 0x198 4 drain4Row ∧
  Drains .mxDrain8Bf16 0x199 8 drain8Row ∧
  Drains .mxDrainE4m3 0x19A 16 drainE4m3Row ∧
  (∀ t, Completes .mxPushSp 0x18E [.mxa, .mxb] (fun a => (a.op .mxa).toNat < 16 ∧ (a.op .mxb).toNat < 16 ∧ spTag (a.op .mxb) = some t ∧
      (fld (a.op .mxb) 2 2 = 2 → bit (a.op .mxb) 0 = false)) fun a => a.st.after 2 (.push (a.op .mxa).toNat t (bit (a.op .mxb) 0) a.tile)) ∧
  (Completes .mxPushIx 0x18F [.mxa] (fun a => (a.op .mxa).toNat < 4) fun a => a.st.after 2 (.pushIx (a.op .mxa).toNat a.tile)) ∧
  (Completes .mxSwap 0x190 [] (fun a => True) fun a => a.st.after 2 .swap) ∧
  (∀ f, Completes .mxAccSp 0x197 [.mxa, .mxb] (fun a => a.st.die.wall.sparseForm = some f ∧ (a.op .mxa).toNat < 64 ∧ (a.op .mxb).toNat < 4 ∧
      (f.scales = true ∨ bit (a.op .mxb) 0 = false)) fun a => a.st.after 10 (.beat (a.op .mxa).toNat (bit (a.op .mxb) 1) f.fmt.isNone
      (a.st.die.wall.cells.zipIdx.map fun c =>
        sparseSums f (bit (a.op .mxb) 0) c.1 (a.rv c.2) ((valTile (a.st.ctx.port .g1)).row c.2)))) ∧
  (Completes .mxZero 0x19B [] (fun a => a.word.toNat < 2 ^ 13 ∧ 1 ≤ fld a.word 6 7 ∧ fld a.word 6 7 ≤ 64 ∧ fld a.word 0 6 + fld a.word 6 7 ≤ 64) fun a => a.st.after 10 (.zero (fld a.word 0 6) (fld a.word 6 7)))

/-- Address generators, tables, solver and far lanes (R357 to R369, Tables 15.1 to 15.3). A solve keeps the block of an earlier solve of its
route until its own permutation stands (the model's choice on R368, log 50). -/
def Obligations.GeneratorsAndNetworkComplete : Prop :=
  Sets .ag0Set 0 0x1A0 ∧
  Sets .ag1Set 1 0x1A3 ∧
  Sets .ag2Set 2 0x1A6 ∧
  Sets .ag3Set 3 0x1A9 ∧
  Steps .ag0Step 0 0x1A2 ∧
  Steps .ag1Step 1 0x1A5 ∧
  Steps .ag2Step 2 0x1A8 ∧
  Steps .ag3Step 3 0x1AB ∧
  Gathers .ag0Rd 0 0x1A1 .g0 GroupCtx.g0 ∧
  Gathers .ag1Rd 1 0x1A4 .g1 GroupCtx.g1 ∧
  Scatters .ag2Wr 2 0x1A7 ∧
  Scatters .ag3Wr 3 0x1AA ∧
  LoadsTable .nwLdroute 0x1B0 0 447 ∧
  LoadsTable .nwLdpat 0x1B1 1 255 ∧
  LoadsTable .nwLdplane 0x1B2 2 1023 ∧
  (∀ t, Completes .nwSolve 0x1B3 [.nwa, .nwb] (fun a => a.st.hasSolver = true ∧ (∀ m, a.st.die.wall.lastSolve = some m → m + 320 ≤ a.st.group.count) ∧
      a.st.solveFaults (a.op .nwa) = [] ∧ a.st.nwTokFaults (a.op .nwb) = [] ∧ tokWord (a.op .nwb) = some t) fun a => 
    let route := fld (a.op .nwa) 0 9
    let u := 256 * fld (a.op .nwa) 9 12
    let s1 := a.st.onDie fun d =>
      { d with wall := { d.wall with lastSolve := some a.st.group.count,
                                     blocks := d.wall.blocks ++ (if d.wall.blocks.contains (route, u) then []
                                                                 else [(route, u)]) } }
    ((s1.pend t.prod).after 320 (.live route ((solvePerm a.tile).getD []) u t.prod)).after 320
      (.port .nwq (.s (if (solvePerm a.tile).isSome then 0 else 10)))) ∧
  (Completes .nwFarclr 0x1B4 [] (fun a => a.word.toNat < 16 ∧ (lanePeer a.st.turn a.word.toNat).isSome = true) fun a => a.st.onDie fun d => { d with rx := d.rx.setIfInBounds a.word.toNat [] }) ∧
  (Completes .nwFarstat 0x1B5 [] (fun a => a.word.toNat < 16 ∧ (lanePeer a.st.turn a.word.toNat).isSome = true) fun a => a.st.after 1 (.port .nwq (.s (a.st.farstat a.word.toNat))))

/-- Fill-engine commands (R190, R357, R377, R380, Tables 15.7, 15.8). -/
def Obligations.FillCommandsComplete : Prop :=
  Fills .feFill 0x1E0 .fill ∧
  Fills .feSpill 0x1E1 .spill ∧
  Fills .feBfill 0x1E2 .bfill ∧
  Fills .feGfill 0x1E3 .gfill ∧
  Fills .feSspill 0x1E4 .sspill ∧
  (Completes .fePin 0x1E5 [.fea] (fun a => a.st.pinFaults (a.op .fea) a.word = []) fun a => (a.st.onDie fun d => { d with wall := { d.wall with lastPin := some a.st.group.count } }).after 65536
    (.pin (a.op .fea).toNat a.word.toNat))

/-- Remote loads, stores and atomics (R382 to R388, Table 16.1). -/
def Obligations.FabricAccessesComplete : Prop :=
  (Joins .fxRldW 0x0D8 .load [] (fun _ => .ld false) (fun a => a.word) fun _ => True) ∧
  (Joins .fxRldD 0x0D9 .load [] (fun _ => .ld true) (fun a => a.word) fun _ => True) ∧
  (Joins .fxRldrow 0x0DA .load [] (fun _ => .ldrow) (fun a => a.word) fun a => fabOffset a.word % 256 = 0) ∧
  (Joins .fxRstW 0x0DB .store [.fxa] (fun a => .st false a.word) (fun a => a.op .fxa) fun _ => True) ∧
  (Joins .fxRstD 0x0DC .store [.fxa] (fun a => .st true a.word) (fun a => a.op .fxa) fun _ => True) ∧
  (Joins .fxRstrow 0x0DD .store [.fxa] (fun a => .strow (valRow a.v)) (fun a => a.op .fxa) fun a => fabOffset (a.op .fxa) % 256 = 0) ∧
  (Joins .fxRamoAdd 0x0DE .both (ramoLatches .add) (fun a => .amo .add a.word (a.op .fxb)) (fun a => a.op .fxa) fun a => fabOffset (a.op .fxa) % 8 = 0) ∧
  (Joins .fxRamoAnd 0x0DF .both (ramoLatches .and) (fun a => .amo .and a.word (a.op .fxb)) (fun a => a.op .fxa) fun a => fabOffset (a.op .fxa) % 8 = 0) ∧
  (Joins .fxRamoOr 0x0E0 .both (ramoLatches .or) (fun a => .amo .or a.word (a.op .fxb)) (fun a => a.op .fxa) fun a => fabOffset (a.op .fxa) % 8 = 0) ∧
  (Joins .fxRamoXor 0x0E1 .both (ramoLatches .xor) (fun a => .amo .xor a.word (a.op .fxb)) (fun a => a.op .fxa) fun a => fabOffset (a.op .fxa) % 8 = 0) ∧
  (Joins .fxRamoMin 0x0E2 .both (ramoLatches .min) (fun a => .amo .min a.word (a.op .fxb)) (fun a => a.op .fxa) fun a => fabOffset (a.op .fxa) % 8 = 0) ∧
  (Joins .fxRamoMax 0x0E3 .both (ramoLatches .max) (fun a => .amo .max a.word (a.op .fxb)) (fun a => a.op .fxa) fun a => fabOffset (a.op .fxa) % 8 = 0) ∧
  (Joins .fxRamoSwap 0x0E4 .both (ramoLatches .swap) (fun a => .amo .swap a.word (a.op .fxb)) (fun a => a.op .fxa) fun a => fabOffset (a.op .fxa) % 8 = 0) ∧
  (Joins .fxRamoCas 0x0E5 .both (ramoLatches .cas) (fun a => .amo .cas a.word (a.op .fxb)) (fun a => a.op .fxa) fun a => fabOffset (a.op .fxa) % 8 = 0) ∧
  JoinsOrdered .fxRamoAddOrd 0x0E6 .add ∧
  JoinsOrdered .fxRamoAndOrd 0x0E7 .and ∧
  JoinsOrdered .fxRamoOrOrd 0x0E8 .or ∧
  JoinsOrdered .fxRamoXorOrd 0x0E9 .xor ∧
  JoinsOrdered .fxRamoMinOrd 0x0EA .min ∧
  JoinsOrdered .fxRamoMaxOrd 0x0EB .max ∧
  JoinsOrdered .fxRamoSwapOrd 0x0EC .swap ∧
  JoinsOrdered .fxRamoCasOrd 0x0ED .cas

/-- Three-party reads, reductions, flags, supersteps, streams, mailboxes and pen control (R389 to R401). -/
def Obligations.FabricExchangesComplete : Prop :=
  (Joins .fxRdel 0x0EE .load [.fxa, .fxb] (fun a => .rdel (a.op .fxb) a.word.toNat) (fun a => a.op .fxa)
    fun a => rdelLen a.word = true ∧ fabOffset (a.op .fxa) % 32 = 0 ∧ fabOffset (a.op .fxb) % 32 = 0) ∧
  (Joins .fxRdelg 0x0EF .load [.fxa, .fxb] (fun a => .rdelg (a.op .fxb) a.word.toNat) (fun a => a.op .fxa)
    fun a => rdelLen a.word = true ∧ fabOffset (a.op .fxa) % 32 = 0 ∧ fabOffset (a.op .fxb) % 32 = 0 ∧ bit (a.op .fxb) 63 = false) ∧
  (Joins .fxMlrAddF32 0x0F0 .load [.fxa, .fxb] (fun a => .mlr .addF32 (a.op .fxb) a.word.toNat) (fun a => a.op .fxa)
    fun a => a.word.toNat % mlrWidth .addF32 = 0 ∧ mlrWidth .addF32 ≤ a.word.toNat ∧ a.word.toNat ≤ 4096 ∧ bit (a.op .fxa) 63 = false ∧
      fabOffset (a.op .fxa) % mlrWidth .addF32 = 0 ∧ a.st.mlrDest .addF32 (a.op .fxb) a.word.toNat = []) ∧
  (Joins .fxMlrAddBf16 0x0F1 .load [.fxa, .fxb] (fun a => .mlr .addBf16 (a.op .fxb) a.word.toNat) (fun a => a.op .fxa)
    fun a => a.word.toNat % mlrWidth .addBf16 = 0 ∧ mlrWidth .addBf16 ≤ a.word.toNat ∧ a.word.toNat ≤ 4096 ∧ bit (a.op .fxa) 63 = false ∧
      fabOffset (a.op .fxa) % mlrWidth .addBf16 = 0 ∧ a.st.mlrDest .addBf16 (a.op .fxb) a.word.toNat = []) ∧
  (Joins .fxMlrMaxF32 0x0F2 .load [.fxa, .fxb] (fun a => .mlr .maxF32 (a.op .fxb) a.word.toNat) (fun a => a.op .fxa)
    fun a => a.word.toNat % mlrWidth .maxF32 = 0 ∧ mlrWidth .maxF32 ≤ a.word.toNat ∧ a.word.toNat ≤ 4096 ∧ bit (a.op .fxa) 63 = false ∧
      fabOffset (a.op .fxa) % mlrWidth .maxF32 = 0 ∧ a.st.mlrDest .maxF32 (a.op .fxb) a.word.toNat = []) ∧
  (Joins .fxMlrMaxBf16 0x0F3 .load [.fxa, .fxb] (fun a => .mlr .maxBf16 (a.op .fxb) a.word.toNat) (fun a => a.op .fxa)
    fun a => a.word.toNat % mlrWidth .maxBf16 = 0 ∧ mlrWidth .maxBf16 ≤ a.word.toNat ∧ a.word.toNat ≤ 4096 ∧ bit (a.op .fxa) 63 = false ∧
      fabOffset (a.op .fxa) % mlrWidth .maxBf16 = 0 ∧ a.st.mlrDest .maxBf16 (a.op .fxb) a.word.toNat = []) ∧
  (Joins .fxMlrMinF32 0x0F4 .load [.fxa, .fxb] (fun a => .mlr .minF32 (a.op .fxb) a.word.toNat) (fun a => a.op .fxa)
    fun a => a.word.toNat % mlrWidth .minF32 = 0 ∧ mlrWidth .minF32 ≤ a.word.toNat ∧ a.word.toNat ≤ 4096 ∧ bit (a.op .fxa) 63 = false ∧
      fabOffset (a.op .fxa) % mlrWidth .minF32 = 0 ∧ a.st.mlrDest .minF32 (a.op .fxb) a.word.toNat = []) ∧
  (Joins .fxMlrMinBf16 0x0F5 .load [.fxa, .fxb] (fun a => .mlr .minBf16 (a.op .fxb) a.word.toNat) (fun a => a.op .fxa)
    fun a => a.word.toNat % mlrWidth .minBf16 = 0 ∧ mlrWidth .minBf16 ≤ a.word.toNat ∧ a.word.toNat ≤ 4096 ∧ bit (a.op .fxa) 63 = false ∧
      fabOffset (a.op .fxa) % mlrWidth .minBf16 = 0 ∧ a.st.mlrDest .minBf16 (a.op .fxb) a.word.toNat = []) ∧
  (Joins .fxMlrAddI32 0x0F6 .load [.fxa, .fxb] (fun a => .mlr .addI32 (a.op .fxb) a.word.toNat) (fun a => a.op .fxa)
    fun a => a.word.toNat % mlrWidth .addI32 = 0 ∧ mlrWidth .addI32 ≤ a.word.toNat ∧ a.word.toNat ≤ 4096 ∧ bit (a.op .fxa) 63 = false ∧
      fabOffset (a.op .fxa) % mlrWidth .addI32 = 0 ∧ a.st.mlrDest .addI32 (a.op .fxb) a.word.toNat = []) ∧
  (Joins .fxMlrAddI64 0x0F7 .load [.fxa, .fxb] (fun a => .mlr .addI64 (a.op .fxb) a.word.toNat) (fun a => a.op .fxa)
    fun a => a.word.toNat % mlrWidth .addI64 = 0 ∧ mlrWidth .addI64 ≤ a.word.toNat ∧ a.word.toNat ≤ 4096 ∧ bit (a.op .fxa) 63 = false ∧
      fabOffset (a.op .fxa) % mlrWidth .addI64 = 0 ∧ a.st.mlrDest .addI64 (a.op .fxb) a.word.toNat = []) ∧
  (Joins .fxFlag 0x0F8 .store [.fxa] (fun a => .flag a.word) (fun a => a.op .fxa) fun a => fabOffset (a.op .fxa) % 8 = 0) ∧
  (Joins .fxSstep 0x0F9 .both [] (fun a => .sstep (BitVec.ofNat 6 a.word.toNat)) (fun a => a.word) fun a => a.word.toNat < 64) ∧
  (Completes .fxSpush 0x0FA [.fxa] (fun a => a.st.streamNoFaults (a.op .fxa) = [] ∧ a.st.noCredit (BitVec.ofNat 4 (a.op .fxa).toNat) = false)
    fun a => a.st.pushStream (BitVec.ofNat 4 (a.op .fxa).toNat) (valRow a.v)) ∧
  (∀ r s2, Completes .fxSpop 0x0FB [] (fun a => a.st.streamNoFaults a.word = [] ∧ a.st.ctx.placesFull .fxq = false ∧
      (a.st.place .fxq).spopWaits a.st.turn (BitVec.ofNat 4 a.word.toNat) = none ∧
      (a.st.place .fxq).popStream (BitVec.ofNat 4 a.word.toNat) = some (r, s2))
    fun a => s2.onCtx fun c => { c with fxq := fillPlace c.fxq a.st.ctx.seq (.w r) none, seq := a.st.ctx.seq + 1 }) ∧
  (Completes .fxSpop 0x0FB [] (fun a => a.st.streamNoFaults a.word = [] ∧ a.st.ctx.placesFull .fxq = false ∧
      (a.st.place .fxq).popStream (BitVec.ofNat 4 a.word.toNat) = none)
    fun a => ((a.st.place .fxq).waitSpop (BitVec.ofNat 4 a.word.toNat)).onCtx fun c => { c with seq := a.st.ctx.seq + 1 }) ∧
  (Joins .fxMbsend 0x0FC .store [.fxa] (fun a => .mbsend (a.op .fxa).toNat (valRow a.v)) (fun a => a.op .fxa)
    fun a => bit a.st.pkg.caps 0 = true ∧ (a.op .fxa).toNat < 1024) ∧
  (Joins .fxMbrecv 0x0FD .load [] (fun a => .mbrecv a.word.toNat) (fun a => a.word) fun a => bit a.st.pkg.caps 0 = true ∧ a.word.toNat < 1024) ∧
  (Joins .fxMbpeek 0x0FE .load [] (fun a => .mbpeek a.word.toNat) (fun a => a.word) fun a => bit a.st.pkg.caps 0 = true ∧ a.word.toNat < 1024) ∧
  (Joins .fxPen 0x0FF .store [.fxa] (fun a => .pen (penOp (a.op .fxa)) (fld (a.op .fxa) 0 10) a.word)
    (fun a => BitVec.ofNat 64 (fld (a.op .fxa) 0 10)) fun a => bit a.st.pkg.caps 0 = true ∧ penLegal (a.op .fxa) a.word = true)

/-- Bring-up (R28, R30, R34, R37): each stage that is under way with nothing failed before it brings the package to what Table 01.7 says;
a failed check or stage leaves its code; stage E goes on without a unit that has failed. -/
def Obligations.BringUpStagesComplete : Prop :=
  (∀ s, s.pkg.power = false → Answers .perstRelease s fun t =>
    t.pkg.power = true ∧ t.pkg.stage = 1 ∧ t.pkg.level = 0 ∧ t.pkg.fail = s.pkg.flashFail ∧ t.pkg.flashFail = 0 ∧
      t.pkg.manifest = s.pkg.manifest ∧ t.host.mem = s.host.mem ∧ (t.dieAt 0).heldReset = true ∧ (t.dieAt 2).heldReset = true) ∧
  (∀ s, s.inStage 1 = true → s.pkg.failing = none → Answers .stageA s fun t =>
    t.pkg.stage = 2 ∧ t.pkg.idOk = s.pkg.identityMatches ∧ t.pkg.fail = (if s.pkg.identityMatches then s.pkg.fail else 0x12) ∧
      t.host.logHead = 0 ∧ t.host.log = []) ∧
  (∀ s k, s.inStage 1 = true → s.pkg.failing = some k → Answers .stageA s fun t =>
    t.pkg.stage = 1 ∧ t.pkg.halted = true ∧ t.pkg.fail = 0x11 ∧ t.pkg.bootFail = BitVec.ofNat 4 k) ∧
  (∀ s, s.inStage 2 = true → Answers .stageB s fun t => t.pkg.stage = 3 ∧ t.pkg.caps = capsOf s.pkg.manifest) ∧
  (∀ s, s.inStage 3 = true → Answers .stageC s fun t =>
    t.pkg.stage = 4 ∧ t.pkg.level = 1 ∧ t.pkg.dieUp = 2 ∧ t.host.slotmap = [] ∧ t.host.slotKeys.get 0 = s.fresh) ∧
  (∀ s, s.inStage 4 = true → Answers (.stageD false false) s fun t =>
    t.pkg.stage = 5 ∧ t.pkg.level = 2 ∧ t.pkg.dieUp = 7 ∧ t.pkg.hbmFull = true ∧ (t.dieAt 0).heldReset = false ∧
      (t.dieAt 2).heldReset = false ∧ (t.dieAt 0).pstore = (s.dieAt 1).pstore ∧ (t.dieAt 2).pstore = (s.dieAt 1).pstore) ∧
  (∀ s x y, s.inStage 4 = true → (x || y) = true → Answers (.stageD x y) s fun t =>
    t.pkg.stage = 4 ∧ t.pkg.level = s.pkg.level ∧ t.pkg.halted = true ∧ t.pkg.fail = 0x21) ∧
  (∀ s, s.inStage 5 = true → s.pkg.level = 2 → Answers .stageE s fun t =>
    t.pkg.level = 3 ∧ t.pkg.optUp = (!s.pkg.optFail && bit s.pkg.caps 2) ∧ t.pkg.padUp = (!s.pkg.padFail && bit s.pkg.caps 0)) ∧
  (∀ s c, s.pkg.power = true → s.pkg.stopped = false → s.pkg.stage ≠ 5 → c.toNat ∈ s.pkg.failsWith →
    Answers (.stageFailure c) s fun t => t.pkg.fail = c ∧ t.pkg.halted = true ∧ t.pkg.level = s.pkg.level ∧
      t.pkg.stage = s.pkg.stage ∧ (c = 0x21 → (t.dieAt 1).heldReset = true)) ∧
  (∀ s c, s.pkg.power = true → s.pkg.stopped = false → s.pkg.stage = 5 → c.toNat ∈ s.pkg.failsWith →
    Answers (.stageFailure c) s fun t => t.pkg.fail = c ∧ t.pkg.level = s.pkg.level ∧ t.pkg.halted = s.pkg.halted ∧
      t.pkg.optFail = (s.pkg.optFail || c == 0x32) ∧ t.pkg.padFail = (s.pkg.padFail || c == 0x33))

/-- Resets and losses of the whole package or of a die (R20, R28, R79): a reset of the PF begins stage A again, the thermal trip
leaves only its flash code, a clock check on a die whose neighbour's rate differs too much takes it out of service. That device memory
has its reset contents after a PF reset is the model's choice (log 4, 24). -/
def Obligations.PackageResetsComplete : Prop :=
  (∀ s, s.pkg.power = true → Answers .pfReset s fun t =>
    t.pkg.power = true ∧ t.pkg.stage = 1 ∧ t.pkg.level = 0 ∧ t.pkg.fail = s.pkg.flashFail ∧ t.sched.tasks = [] ∧
      t.host.mem = s.host.mem ∧ t.hbm = State.reset.hbm) ∧
  (∀ s, s.pkg.power = true → (115 ≤ s.pkg.tempDie.toNat ∨ 80 ≤ s.pkg.tempLaser.toNat) → Answers .thermalPowerOff s fun t =>
    t.pkg.power = false ∧ t.pkg.flashFail = 0x41 ∧ t.sched.tasks = []) ∧
  (∀ s d, s.inService d = true → (s.dieAt d).drifts = true → Answers (.clockMachineCheck d) s fun t =>
    t.pkg.fail = 0x31 ∧ (t.dieAt d).outOfService = true ∧ t.pkg.dieUp.getLsbD d.val = false)

/-- The sideband and the far lanes (R44, R45, R49 to R51, R168, R169): what each frame or message does at its receiver. The 64 ticks that a
stop waits for its hand-over are the model's reading of R169 (log 16), the order of messages is log 14's. -/
def Obligations.SidebandEventsComplete : Prop :=
  (∀ s d, s.clockedAt d = true → (s.dieAt d).tick.toNat % 32 = 0 → (s.dieAt d).sentTick ≠ some (s.dieAt d).tick →
    Answers (.countMessageSend d) s fun t => (t.dieAt d).countOwed = true ∧ (t.dieAt d).sentTick = some (s.dieAt d).tick) ∧
  (∀ s d w l k y f, s.clockedAt d = true → (s.dieAt d).inbox = w :: l → w.usable ≤ (s.dieAt d).tick → w.msg = .count k y f →
    Answers (.countMessage d true) s fun t => (t.dieAt d).inbox = l ∧
      ((t.dieAt d).partners.get w.origin).lastTick = k ∧ ((t.dieAt d).partners.get w.origin).lastArr = (s.dieAt d).tick ∧
      (((s.dieAt d).partners.get w.origin).missing < 3 →
        k.toNat / 32 - ((s.dieAt d).partners.get w.origin).lastTick.toNat / 32 - 1 < 3 →
        ((t.dieAt d).partners.get w.origin).missing = 0)) ∧
  (∀ s d w l k y f, s.clockedAt d = true → (s.dieAt d).inbox = w :: l → w.usable ≤ (s.dieAt d).tick → w.msg = .count k y f →
    Answers (.countMessage d false) s fun t => (t.dieAt d).inbox = l ∧
      ((t.dieAt d).partners.get w.origin).missing = ((s.dieAt d).partners.get w.origin).missing + 1 ∧
      t.links.errCount = satInc16 s.links.errCount 1) ∧
  (∀ s d o k c, s.foldTask d = some (k, c) → o ≠ d → k.fold.getLsbD o.val = true → k.startedOn d = true →
    3 ≤ ((s.dieAt d).partners.get o).missing →
    exec (.countMessagesMissing d o) s = .next ((s.onDieAt d fun y => y.onPartner o fun p =>
      { p with missing := 0, lastArr := y.tick }).checkMembers k 0x44)) ∧
  (∀ s d w l k c a e n y, s.clockedAt d = true → (s.dieAt d).inbox = w :: l → w.usable ≤ (s.dieAt d).tick →
    w.msg = .freeze a e n y true → s.foldTask d = some (k, c) → k.fold.getLsbD w.origin.val = true →
    e = ((s.dieAt d).partners.get w.origin).eseq + 1 →
    Answers (.freezeEventMessage d true) s fun t => (t.dieAt d).inbox = l ∧
      (t.dieAt d).debt = (s.dieAt d).debt + n.toNat ∧ ((t.dieAt d).partners.get w.origin).eseq = e) ∧
  (∀ s d w l k c e x y n, s.clockedAt d = true → (s.dieAt d).inbox = w :: l → w.usable ≤ (s.dieAt d).tick →
    w.msg = .stop e x y n → s.foldTask d = some (k, c) → k.fold.getLsbD w.origin.val = true →
    e = ((s.dieAt d).partners.get w.origin).eseq + 1 → (k.stopCounts.any fun z => z.1 == d) = false →
    (∀ m, ((s.dieAt d).ctxAt c).status ≠ .stalled m) →
    Answers (.stopEventMessage d true) s fun t => (t.dieAt d).stopFrozen = true ∧ (t.dieAt d).stopHand = 64 ∧
      (t.dieAt d).rx = .replicate 16 []) ∧
  (∀ s d l n f k c o p q, (s.dieAt d).flight.find? (fun f => f.lane == l && decide (f.arrive ≤ (s.dieAt d).tick)) = some f →
    s.foldTask d = some (k, c) → lanePeer d l.toNat = some (o, p, q) → k.fold.getLsbD o.val = true →
    s.lanesStopped k d c = false → ((s.dieAt d).lane l.toNat).length < 24 →
    Answers (.farLaneFrame d l n false) s fun t =>
      (t.dieAt d).lane l.toNat = (s.dieAt d).lane l.toNat ++ [(f.row, f.stamp)] ∧
      (t.dieAt d).flight = (s.dieAt d).flight.erase f ∧ t.links.errFar = satInc16 s.links.errFar n) ∧
  (∀ s b, (s.inService 1 || s.inService (if b then 2 else 0)) = true → Answers (.farPathLost b) s fun t =>
    t.pkg.fail = 0x24 ∧ (s.inService 1 = true → (t.dieAt 1).outOfService = true) ∧
      (s.inService (if b then 2 else 0) = true → (t.dieAt (if b then 2 else 0)).outOfService = true))

/-- Errors that a die or a stack meets (R15, R195, R274): a soft error is a machine check at the next boundary of its context, or event
0x24 without one; a scrub read counts what it corrects. -/
def Obligations.ErrorEventsComplete : Prop :=
  (∀ s d c k, s.clockedAt d = true → ((s.dieAt d).ctxAt c).kind ≠ .none → s.task? ((s.dieAt d).ctxAt c).lid = some k →
    Answers (.controlParity d c) s fun t => ∃ n, ((t.dieAt d).ctxAt c).deferred =
      ((s.dieAt d).ctxAt c).deferred ++ [⟨0x43, 0, 0, n, 2, 0⟩]) ∧
  (∀ s d c, s.clockedAt d = true → ((s.dieAt d).ctxAt c).kind = .none →
    exec (.controlParity d c) s = .next (s.postEvent 0 0x24 d 0 (leBytes 8 0 ++ [0x43]))) ∧
  (∀ s d u, s.clockedAt d = true → u < spUnits → (s.dieAt d).spEcc.lookup u = none → exec (.scrubRead d u []) s = .next s) ∧
  (∀ s d u, s.clockedAt d = true → u < spUnits → Answers (.scrubRead d u [(u, 1)]) s fun t =>
    t.pkg.errSram = satInc16 s.pkg.errSram 1 ∧ (t.dieAt d).debt = (s.dieAt d).debt + 32 ∧
      (t.dieAt d).spEcc.lookup u = none ∧ (t.dieAt d).sp = (s.dieAt d).sp) ∧
  (∀ s pa, s.pkg.power = true → pa < hbmSize → s.hbmBad pa 1 = false → Answers (.hbmRefreshScrub pa []) s fun t =>
    t.pkg.errHbm = satInc16 s.pkg.errHbm 1 ∧ t.hbm = s.hbm ∧ t.hbmEcc = s.hbmEcc) ∧
  (∀ s pa, s.pkg.power = true → pa < hbmSize → Answers (.hbmRefreshScrub pa [pa]) s fun t =>
    pa ∈ t.hbmEcc ∧ t.hbm = s.hbm) ∧
  (∀ s pa, s.pkg.power = true → pa < hbmSize → s.hbmBad pa 1 = true → Answers (.hbmRefreshScrub pa []) s fun t =>
    t.pkg.errHbm = s.pkg.errHbm ∧ t.hbm = s.hbm ∧ t.hbmEcc = s.hbmEcc)

/-- A frozen cycle pays one cycle of the debt of its die; the last one brings it to 0 (R18, R168). -/
def Obligations.FreezeDebtIsPaid : Prop :=
  ∀ s, s.clocked = true → s.die.debt = 1 → s.die.stopFrozen = false → s.ctx.grp = none →
    exec (.freezeDebtPaid s.turn) s = .next (s.cycleStart.endCycle true false)

/-- Work queues and their records (R94 to R97): staging, submission, flushing and configuration. -/
def Obligations.HostQueueEventsComplete : Prop :=
  (∀ s fn q off bs, s.hostUp = true → (s.queue q).func = fn → stagingWide off bs.length = true → off + bs.length < 64 →
    exec (.stageWrite fn q off bs) s = .next (s.onQueue q fun x => x.stagePut off bs)) ∧
  (∀ s fn q off bs, s.hostUp = true → (s.queue q).func = fn → stagingWide off bs.length = false →
    exec (.stageWrite fn q off bs) s = .next (s.onQueue q fun x => { x with stageErr := true })) ∧
  (∀ s fn q off bs, s.hostUp = true → (s.queue q).func = fn → stagingWide off bs.length = true → off + bs.length = 64 →
    (s.queue q).recs.length < 64 → Answers (.recordSubmit fn q off bs) s fun t =>
      (t.queue q).recs = (s.queue q).recs ++
        [(BitVec.ofNat 32 (q.toNat * 2 ^ 22 + (s.queue q).accepted.toNat % 2 ^ 22), ((s.queue q).stagePut off bs).stage)] ∧
      (t.queue q).accepted = (s.queue q).accepted + 1 ∧ (t.queue q).stage = List.replicate 64 0) ∧
  (∀ s fn q off bs, s.hostUp = true → (s.queue q).func = fn → stagingWide off bs.length = true → off + bs.length = 64 →
    64 ≤ (s.queue q).recs.length → Answers (.recordSubmit fn q off bs) s fun t =>
      (t.queue q).recs = (s.queue q).recs ∧ (t.queue q).accepted = (s.queue q).accepted ∧
        (t.queue q).ovfcnt = satInc16 (s.queue q).ovfcnt 1) ∧
  (∀ s fn q, s.hostUp = true → s.windowOpen fn q = true →
    (s.queue q).recs ≠ [] → exec (.flush fn q) s =
      .next (((s.queue q).recs.foldl (fun s r => s.dropRecord q r.1 r.2 6 0) s).onQueue q fun x =>
        { x with deficit := if s.savedHead q then x.deficit else 0 })) ∧
  (∀ s fn q, s.hostUp = true → (s.queue q).recs = [] → exec (.flush fn q) s = .next s) ∧
  (∀ s q v, s.hostUp = true → s.sealed (s.queue q).func = false → s.refusesPf (s.queue q).func = false → s.queueBusy q = false →
    Answers (.qcfgWrite 0 q v) s fun t => (t.queue q).func = BitVec.ofNat 6 (fld v 0 6) ∧
      (t.queue q).weight = BitVec.ofNat 8 (fld v 8 8) ∧ (t.queue q).vector = BitVec.ofNat 6 (fld v 16 6) ∧
      (t.queue q).irq = bit v 22 ∧ (t.queue q).deficit = 0) ∧
  (∀ s q v, s.hostUp = true → s.sealed (s.queue q).func = false → s.refusesPf (s.queue q).func = false → s.queueBusy q = true →
    Answers (.qcfgWrite 0 q v) s fun t => (t.queue q).cfgRef = true ∧ (t.queue q).func = (s.queue q).func)

/-- Registers of the host port and the device-memory aperture (R39, R40, R78, R86, R89, R90, R92, R151, R188): what each
write leaves. What a page whose slot changes reads as is the model's choice (log 39). -/
def Obligations.HostRegisterEventsComplete : Prop :=
  (∀ s v, s.hostUp = true → fld v 30 9 < 432 → s.sealedOp = false →
    (∀ n < 64, s.refusesPf (BitVec.ofNat 6 n) = false) → Answers (.dmwinWrite v) s fun t =>
    t.host.dmwin = BitVec.ofNat 9 (fld v 30 9) ∧ t.hbm = s.hbm) ∧
  (∀ s off n, s.hostUp = true → s.bar4Addr off n = none → Answers (.bar4Read off n) s fun t =>
    t.host.barReads = s.host.barReads ++ [none]) ∧
  (∀ s off n pa, s.hostUp = true → s.bar4Addr off n = some pa → (∀ x ∈ pagePieces pa n, s.slotOf x.1 = 0 ∧ s.hbmBad x.1 x.2 = false) →
    Answers (.bar4Read off n) s fun t =>
      t.host.barReads = s.host.barReads ++ [some ((pagePieces pa n).flatMap fun x => s.hbm.readN x.1 x.2)]) ∧
  (∀ s off bs pa, s.hostUp = true → s.bar4Addr off bs.length = some pa →
    exec (.bar4Write off bs) s = .next ((pagePieces pa bs.length).foldl (fun s x =>
      if s.slotOf x.1 != 0 then s else s.hbmPut x.1 (slice bs (x.1 - pa) x.2)) s)) ∧
  (∀ s fn v, s.hostUp = true → Answers (.registerWrite (.bar fn 0 0x0C00 v)) s fun t =>
    (t.fn fn).evBase = BitVec.ofNat 64 (v.toNat / 64 * 64)) ∧
  (∀ s fn v, s.hostUp = true → Answers (.registerWrite (.bar fn 0 0x0C18 v)) s fun t =>
    (t.fn fn).evTail = BitVec.ofNat 32 (fld v 0 32)) ∧
  (∀ s v, s.hostUp = true → Answers (.registerWrite (.bar 0 0 0x0030 v)) s fun t =>
    t.pkg.errSram = s.pkg.errSram &&& ~~~BitVec.ofNat 16 (fld v 0 16) ∧ t.pkg.errHbm = s.pkg.errHbm &&& ~~~BitVec.ofNat 16 (fld v 16 16)) ∧
  (∀ s fn off v, fn ≠ 0 → off ∈ [0x0010, 0x0040, 0x0058, 0x0070, 0x0C40] → exec (.registerWrite (.bar fn 0 off v)) s = .next s) ∧
  (∀ s v, s.clockedAt 1 = true → Answers (.registerWrite (.mctp 0x0030 v)) s fun t =>
    t.pkg.errSram = s.pkg.errSram &&& ~~~BitVec.ofNat 16 (fld v 0 16) ∧ t.pkg.errHbm = s.pkg.errHbm &&& ~~~BitVec.ofNat 16 (fld v 16 16)) ∧
  (∀ s d v, s.firmware = true → Answers (.invalWrite (.firmware d 0x1700 v)) s fun t => t = s.invalidate v) ∧
  (∀ s d v, s.firmware = true → slotBad v = false → Answers (.slotmapWrite (.firmware d 0x1701 v)) s fun t =>
    t = s.moveSlots (slotPages v).1 (slotPages v).2 (fld v 40 4))

/-- Power (R26, R148 to R151): the limit, the low-power order and its hold, a settlement, and the debt of a governor's interval. The
400,000 ticks of die 1 of the wake hold, and what a wake leaves in force, are the model's reading (log 26), the debt's place log 34's. -/
def Obligations.PowerEventsComplete : Prop :=
  (∀ s v, s.clockedAt 1 = true → 1200 ≤ fld v 0 12 → fld v 0 12 ≤ 2800 → Answers (.pwrlimWrite v) s fun t =>
    t.pkg.pwrNext = some (BitVec.ofNat 12 (fld v 0 12)) ∧ t.pkg.pwrLimit = s.pkg.pwrLimit ∧
      t.pkg.pwrBad = (s.pkg.pwrBad && !bit v 12)) ∧
  (∀ s v, s.clockedAt 1 = true → (fld v 0 12 < 1200 ∨ 2800 < fld v 0 12) → Answers (.pwrlimWrite v) s fun t =>
    t.pkg.pwrNext = s.pkg.pwrNext ∧ t.pkg.pwrLimit = s.pkg.pwrLimit ∧ t.pkg.pwrBad = true) ∧
  (∀ s v, s.clockedAt 1 = true → bit v 1 = false → Answers (.lowpwrWrite v) s fun t => t.pkg.lowPwr = bit v 0 ∧ t.pkg.hold = s.pkg.hold) ∧
  (∀ s v, s.clockedAt 1 = true → bit v 1 = true → Answers (.lowpwrWrite v) s fun t => t.pkg.lowPwr = bit v 0 ∧ t.pkg.hold = true ∧
    t.pkg.holdAt = (s.dieAt 1).tick) ∧
  (∀ s, Answers .wake s fun t => t.pkg.hold = true ∧ t.pkg.holdAt = (s.dieAt 1).tick ∧ t.pkg.inForce = false ∧
    t.pkg.lowPwr = s.pkg.lowPwr) ∧
  (∀ s, s.pkg.hold = true → 400000 ≤ ((s.dieAt 1).tick - s.pkg.holdAt).toNat → Answers .wakeHoldEnd s fun t =>
    t.pkg.hold = false ∧ t.pkg.lowPwr = s.pkg.lowPwr) ∧
  (∀ s r, s.pkg.power = true → 100000 ≤ ((s.dieAt 1).tick - s.pkg.settleAt).toNat → Answers (.governorSettlement r) s fun t =>
    t.pkg.pwrLimit = s.pkg.pwrNext.getD s.pkg.pwrLimit ∧ t.pkg.pwrNext = none ∧ t.pkg.settleAt = (s.dieAt 1).tick ∧
      t.pkg.inForce = (s.pkg.lowPwr && !s.pkg.hold) ∧ ((s.pkg.lowPwr && !s.pkg.hold) = true → t.pkg.pass = 1) ∧
      (t.pkg.interval.get 1) = some { n := 100 * (1000 - t.pkg.pass), sub := 0, since := (s.dieAt 1).tick }) ∧
  (∀ s d v, s.pkg.interval.get d = some v → s.clockedAt d = true → v.sub < 50 →
    2000 * v.sub ≤ ((s.dieAt d).tick - v.since).toNat → s.raises d = true → Answers (.freezeDebtRaise d) s fun t =>
      (t.dieAt d).debt = (s.dieAt d).debt + (v.n * (v.sub + 1) / 50 - v.n * v.sub / 50) ∧
        t.pkg.interval.get d = some { v with sub := v.sub + 1 }) ∧
  (∀ s d v, s.pkg.interval.get d = some v → s.clockedAt d = true → v.sub < 50 →
    2000 * v.sub ≤ ((s.dieAt d).tick - v.since).toNat → s.raises d = false → Answers (.freezeDebtRaise d) s fun t =>
      (t.dieAt d).debt = (s.dieAt d).debt)

/-- The responder of a function (R80 to R83): where its exchange stands after each request, and what it answers. -/
def Obligations.SpdmEventsComplete : Prop :=
  (∀ s fn, s.hostUp = true → (s.fn fn).spdm ≠ .session → Answers (.getVersion fn) s fun t => (t.fn fn).spdm = .version) ∧
  (∀ s fn, s.hostUp = true → (s.fn fn).spdm = .version → Answers (.getCapabilities fn) s fun t => (t.fn fn).spdm = .capabilities) ∧
  (∀ s fn l, s.hostUp = true → (s.fn fn).spdm = .capabilities →
    (∀ x ∈ [SpdmAlg.ed25519, .sha512, .measSha512, .secp384r1, .aes256gcm, .spdmSchedule], x ∈ l) →
    Answers (.negotiateAlgorithms fn l) s fun t => (t.fn fn).spdm = .negotiated) ∧
  (∀ s fn, s.hostUp = true → 3 ≤ (s.fn fn).spdm.rank → exec (.getDigests fn) s =
    .next (s.respondDoe fn (.digests (beBytes 64 (sha512 s.certificates).toNat)))) ∧
  (∀ s fn off n, s.hostUp = true → 3 ≤ (s.fn fn).spdm.rank → exec (.getCertificate fn off n) s =
    .next (s.respondDoe fn (.certificate ((s.certificates.drop off).take n)))) ∧
  (∀ s fn nonce, s.hostUp = true → 3 ≤ (s.fn fn).spdm.rank → exec (.challenge fn nonce) s =
    .next (s.respondDoe fn (.challengeAuth (beBytes 64 (sha512 s.certificates).toNat)
      (s.aliasSign (beBytes 64 (sha512 s.certificates).toNat) nonce)))) ∧
  (∀ s fn k nonce, s.hostUp = true → 3 ≤ (s.fn fn).spdm.rank → 1 ≤ k → k ≤ 10 →
    exec (.getMeasurements fn k false nonce) s = .next (s.respondDoe fn (.measurements (s.blockBytes fn k) none)) ∧
      exec (.getMeasurements fn k true nonce) s =
        .next (s.respondDoe fn (.measurements (s.blockBytes fn k) (some (s.aliasSign (s.blockBytes fn k) nonce))))) ∧
  (∀ s fn req, s.hostUp = true → (s.fn fn).spdm = .negotiated → s.pkg.idOk = true →
    Answers (.keyExchange fn req) s fun t => (t.fn fn).spdm = .exchanged) ∧
  (∀ s fn, s.hostUp = true → (s.fn fn).spdm = .exchanged → Answers (.finish fn true) s fun t => (t.fn fn).spdm = .session) ∧
  (∀ s fn, s.hostUp = true → (s.fn fn).spdm = .session → exec (.heartbeat fn) s = .next (s.respondDoe fn .heartbeat) ∧
    exec (.keyUpdate fn) s = .next (s.respondDoe fn .keyUpdate)) ∧
  (∀ s fn, s.hostUp = true → (s.fn fn).spdm = .session → (s.fn fn).tdi = .unlocked →
    (Answers (.endSession fn) s fun t => (t.fn fn).spdm = .none ∧ (t.fn fn).secret = []) ∧
      Answers (.heartbeatFailure fn) s fun t => (t.fn fn).spdm = .none ∧ (t.fn fn).secret = []) ∧
  (∀ s fn, s.hostUp = true → (s.fn fn).spdm = .session → s.sealed fn = true → exec (.attestationLogRead fn) s =
    .next (s.respondDoe fn (.vendor ((s.host.log.filter fun e => e.fn.toNat == fn.toNat).flatMap LogEntry.bytes))))

/-- The interface of a virtual function (R79, R84, R85, R91, R92): it is locked under a tenant slot with a new key, runs sealed, and
returns to UNLOCKED. -/
def Obligations.TdispEventsComplete : Prop :=
  (∀ s fn k, s.hostUp = true → (s.fn fn).spdm = .session →
    (∀ n < 64, BitVec.ofNat 6 n ≠ fn → (s.fn (BitVec.ofNat 6 n)).ides.contains k = false) →
    Answers (.ideKeyManagement fn k) s fun t => k ∈ (t.fn fn).ides) ∧
  (∀ s fn k, s.hostUp = true → k ∈ (s.fn fn).ides → (s.fn fn).tdi = .unlocked → Answers (.ideStreamInsecure fn k) s fun t =>
    k ∉ (t.fn fn).ides ∧ (t.fn fn).tdi = .unlocked) ∧
  (∀ s fn k, s.hostUp = true → (s.fn fn).spdm = .session → fn ≠ 0 → (s.fn fn).tdi = .unlocked → s.lockedVfs < 15 →
    (s.fn fn).ides ≠ [] → s.freeTenantSlot = some k → Answers (.lockInterface fn) s fun t =>
      (t.fn fn).tdi = .locked ∧ (t.fn fn).slot = k ∧ (t.fn fn).ctrIn = 0 ∧ (t.fn fn).ctrOut = 0 ∧
      (t.fn fn).xferKey = xferKeyOf (s.fn fn).secret k) ∧
  (∀ s fn, s.hostUp = true → (s.fn fn).spdm = .session → (s.fn fn).tdi = .locked → Answers (.startInterface fn) s fun t =>
    (t.fn fn).tdi = .run) ∧
  (∀ s fn, s.hostUp = true → (s.fn fn).spdm = .session → Answers (.stopInterface fn) s fun t => (t.fn fn).tdi = .unlocked) ∧
  (∀ s fn, s.hostUp = true → fn ≠ 0 → Answers (.functionLevelReset fn) s fun t =>
    (t.fn fn).evBase = 0 ∧ (t.fn fn).evHead = 0 ∧ (t.fn fn).evTail = 0 ∧ (t.fn fn).evLost = 0)

/-- Light and the stripe of a port (R54 to R57): what a loss, a lock and a marker leave. -/
def Obligations.LightEventsComplete : Prop :=
  (∀ s p l x, bit s.pkg.caps 2 = true → (s.links.port p).st = .up → (s.links.port p).lose l = some x → (∀ w, l ≠ .seen w) →
    x.mask ≠ 0 → (x.mask ≠ x.live ∨ (∃ w, l = .wave w) ∨ ∃ c, l = .comb c) →
    Answers (.lossOfLight p l) s fun t => (t.links.port p).live = x.mask ∧ (t.links.port p).st = .up ∧
      (t.links.port p).out = x.out ++ [.restripe x.mask] ∧
      (t.links.port p).sent = ({ x with live := x.mask }.say (.restripe x.mask)).sent ++
        x.unacked.map fun f => stripe (popcount 16 x.mask.toNat) (f.bytes x.txKey)) ∧
  (∀ s p w x, bit s.pkg.caps 2 = true → (s.links.port p).lose (.seen w) = some x → Answers (.lossOfLight p (.seen w)) s fun t =>
    t.links.port p = x ∧ x.out = (s.links.port p).out ++ [.dark w] ∧ x.live = (s.links.port p).live) ∧
  (∀ s p q, (s.links.port p).spareWait = some q → Answers (.spareLaserLock p) s fun t =>
    (t.links.port p).spare = some q ∧ (t.links.port p).spareWait = none) ∧
  (∀ s p w, (s.links.port p).lambdaWait = some w → Answers (.spareWavelengthLock p) s fun t =>
    (t.links.port p).lambda16 = some w ∧ (t.links.port p).lambdaWait = none) ∧
  (∀ s p m, s.receives p = true → Answers (.restripeMarker p m) s fun t =>
    (t.links.port p).rxLive = m ∧ (t.links.port p).live = (s.links.port p).live) ∧
  (∀ s p, s.receives p = true → (s.links.port p).unacked = [] → Answers (.keyRenewalRetraining p) s fun t =>
    (t.links.port p).txKey = freeKey s.fresh ∧ (t.links.port p).rxKey = freeKey (s.fresh + 4) ∧ (t.links.port p).nonce = 0 ∧
      (t.links.port p).rxNonce = 0 ∧ (t.links.port p).out = (s.links.port p).out ++ [.train])

/-- What port `p` makes of a flit that comes on the wavelengths that it takes to be live (R54, R60, R61). -/
def arrives (s : State) (p : Fin 12) (h : BitVec 128) (data : BitVec 2048) (crc tag : BitVec 64) : RxFlit :=
  (s.links.port p).read (stripe (popcount 16 (s.links.port p).rxLive.toNat) (flitParts h data crc tag))

/-- The link layer (R54, R60 to R63): byte j of a flit goes on live wavelength j mod W; acceptance in LSEQ order, acknowledgement, replay and credits. -/
def Obligations.LinkLayerEventsComplete : Prop :=
  (∀ w bs j, 0 < w → j < bs.length → ((stripe w bs).getD (j % w) []).getD (j / w) 0 = bs.getD j 0) ∧
  (∀ s p peer h data crc tag, s.receives p = true → arrives s p h data crc tag = .lost →
    Answers (.dataFlit p peer h data crc tag) s fun t =>
    t.links.inbox = s.links.inbox ∧ (t.links.port p).rxSeq = (s.links.port p).rxSeq ∧ (t.links.port p).gap = true) ∧
  (∀ s p peer h data crc tag f, s.receives p = true → arrives s p h data crc tag = .good f →
    f.lseq = (s.links.port p).rxSeq → s.links.aheadOfWindow peer f = false → exec (.dataFlit p peer h data crc tag) s =
      .next (((s.onPort p fun y => { y.ack f.lack with tagFails := 0 }).onPort p fun y => y.accept f.vc).resequence peer f)) ∧
  (∀ s p peer h data crc tag, s.receives p = true → Answers (.dataFlit p peer h data crc tag) s fun t =>
    ∀ k c, arrives s p h data crc tag = .other k c → t = match c with
      | some c => (s.onPort p fun y => { y.ack k with tagFails := 0 }).takeCtl p c
      | none => s.onPort p fun y => { y.ack k with tagFails := 0 }) ∧
  (∀ s p k, s.receives p = true → Answers (.idleFlit p k) s fun t =>
    (t.links.port p).unacked = ((s.links.port p).ack k).unacked ∧ (t.links.port p).rxSeq = (s.links.port p).rxSeq) ∧
  (∀ s p k, s.receives p = true → Answers (.acknowledgement p k) s fun t =>
    (t.links.port p).unacked = ((s.links.port p).ack k).unacked ∧ (t.links.port p).rxSeq = (s.links.port p).rxSeq) ∧
  (∀ s p v n, s.receives p = true → Answers (.creditReturn p v n) s fun t =>
    (t.links.port p).credits.get ⟨v.toNat, v.isLt⟩ = min 32 ((s.links.port p).credits.get ⟨v.toNat, v.isLt⟩ + n)) ∧
  (∀ s p, s.receives p = true → exec (.drainMarker p) s = .next s) ∧
  (∀ s p k, s.receives p = true → ((s.links.port p).ack k).unacked ≠ [] → ((s.links.port p).ack k).replays < 8 →
    Answers (.replayRequest p k) s fun t =>
      (t.links.port p).sent = (s.links.port p).sent ++ ((s.links.port p).ack k).unacked.map (s.links.port p).waves) ∧
  (∀ s p, s.receives p = true → (s.links.port p).unacked ≠ [] → (s.links.port p).replays < 8 →
    Answers (.replayTimeout p) s fun t =>
      (t.links.port p).sent = (s.links.port p).sent ++ (s.links.port p).unacked.map (s.links.port p).waves ∧
        (t.links.port p).replays = (s.links.port p).replays + 1) ∧
  (∀ s p, s.receives p = true → (s.links.port p).gap = true → Answers (.replayRequestRepeat p) s fun t =>
    (t.links.port p).out = (s.links.port p).out ++ [.replay ((s.links.port p).rxSeq - 1)]) ∧
  (∀ s p, s.receives p = true → Answers (.acknowledgementTimer p) s fun t =>
    (t.links.port p).ackOwed = 0 ∧ (t.links.port p).out = (s.links.port p).out ++ [.ack ((s.links.port p).rxSeq - 1)])

/-- Planes and membership (R66 to R70): drain, enable, and the writes that are refused while a plane is not drained. -/
def Obligations.PlaneEventsComplete : Prop :=
  (∀ s k, s.clockedAt 1 = true → s.links.planes.toList.all (fun x => x == .enabled) = true → exec (.planeDrain k) s = .next (s.drainPlane k)) ∧
  (∀ s k, s.clockedAt 1 = true → s.links.planes.get k = .enabled → exec (.planeDrainForce k) s =
    .next { s.drainPlane k with links := { (s.drainPlane k).links with leaving := true } }) ∧
  (∀ s k, s.clockedAt 1 = true → bit s.pkg.caps 2 = true → s.links.planes.get k ≠ .drained → Answers (.planeEnable k) s fun t =>
    t.links.planes = s.links.planes ∧ t.links.cfgErr = s.links.cfgErr ||| 4) ∧
  (∀ s k, s.clockedAt 1 = true → bit s.pkg.caps 2 = true → s.links.planes.get k = .drained → Answers (.planeEnable k) s fun t =>
    t.links.planes.get k = .training ∧ t.links.planeCommit.getLsbD k.val = false) ∧
  (∀ s k, s.clockedAt 1 = true → bit s.pkg.caps 2 = true → s.links.planes.get k = .drained → Answers (.planeEnableCommit k) s fun t =>
    t.links.planes.get k = .training ∧ t.links.planeCommit.getLsbD k.val = true) ∧
  (∀ s k, s.links.planes.get k = .draining → (∀ p ∈ planePorts k, (s.links.port p).unacked = []) →
    Answers (.planeDrained k) s fun t => t.links.planes.get k = .drained) ∧
  (∀ s k x, s.links.planes.get k = .training → s.opticsUp = true →
    x = (planePorts k).foldl (fun s p => ((s.onPort p Port.trained).newKeys p).floorBack p) (s.setPlane k .enabled) →
    exec (.planeEnabled k) s = .next
      ((if s.links.planeCommit.getLsbD k.val then ({ x with links := x.links.commit } : State) else x).routesLost.postEvent
        0 0x55 1 0 (leBytes 8 (k.val * 2 ^ 48)))) ∧
  (∀ s v, s.clockedAt 1 = true → bit s.pkg.caps 2 = true → s.links.planes.toList.all (fun x => x == .drained) = true → Answers (.membersetWrite v) s fun t =>
    t.links.memberSet = BitVec.ofNat 7 v.toNat) ∧
  (∀ s v, s.clockedAt 1 = true → bit s.pkg.caps 2 = true → s.links.planes.toList.all (fun x => x == .drained) = false → Answers (.membersetWrite v) s fun t =>
    t.links.memberSet = s.links.memberSet ∧ t.links.cfgErr = s.links.cfgErr ||| 2)

/-- Requests at their owner or consumer (R72, R75, R387, R389, R393): checked once, performed by sectors and answered, or
refused with the status of the first check that fails. -/
def Obligations.FabricRequestsComplete : Prop :=
  Serves .readRequest 0x01 ∧ Serves .writeRequest 0x03 ∧ Serves (fun p _ => .flagRequest p) 0x04 ∧ Serves .threePartyRequest 0x0B ∧
  Serves .delivery 0x0C ∧ Serves .reductionRead 0x0E ∧
  (∀ s i p op work s1 old, s.inboxAt 0x06 i = some p → aopOf p.aop = some op → s.requestCheck p = .ok work → s.requestBad p = none →
    (s.workOf p).any s.pieceRests = false → (s.dropInbox i).applyAmo { p with work := work } op = (s1, some old) →
    exec (.atomicRequest i) s = .next (s1.answerTo p p.src 0x07 stOk old)) ∧
  (∀ s i p op r ev, s.inboxAt 0x06 i = some p → aopOf p.aop = some op → s.requestCheck p = .error (r, ev) →
    (ev = true → s.requestBad p = none) → (s.workOf p).any s.pieceRests = false → exec (.atomicRequest i) s = .next ((s.dropInbox i).refuse p r ev)) ∧
  (∀ s i p op work, s.inboxAt 0x08 i = some p → aopOf p.aop = some op → s.requestCheck p = .ok work →
    s.requestBad p = none → (s.links.groupMembers p.group.toNat).contains p.src = true → s.links.stepOver p.group (s.links.stepOf p.src p.group) = false → Answers (.orderedAtomicRequest i) s fun t =>
      t.links.ordHeld = s.links.ordHeld ++
        [⟨p.group, s.links.stepOf p.src p.group, { p with checked := true, work := work }⟩] ∧ t.hbm = s.hbm)

/-- Answers to this package's forms (R383, R386 to R392): each ends, or brings nearer its end, the transaction whose tag it
carries. -/
def Obligations.FabricAnswersComplete : Prop :=
  (∀ s i p k, s.inboxAt 0x02 i = some p → s.links.answered p = some k → exec (.readResponse i) s =
    .next ((s.dropInbox i).endTrans k p.status.toNat (if p.status = 0 then 0 else p.src.toNat) 0 (k.value p))) ∧
  (∀ s i p k, s.inboxAt 0x07 i = some p → s.links.answered p = some k → exec (.atomicResponse i) s =
    .next ((s.dropInbox i).endTrans k p.status.toNat (if p.status = 0 then 0 else p.src.toNat) 0 (k.value p))) ∧
  (∀ s i p k, s.inboxAt 0x05 i = some p → (s.links.ssteps.any fun x => x.acks.contains p.rtag) = false →
    s.links.answered p = some k → exec (.writeAndFlagResponse i) s =
      .next ((s.dropInbox i).endTrans k p.status.toNat (if p.status = 0 then 0 else p.src.toNat) 0 (k.value p)).stepsOn) ∧
  (∀ s i p k, s.inboxAt 0x09 i = some p → s.links.fetchedOf p = some k →
    (s.dieAt (spDie p.router p.caddr.toNat)).frozen = false → Answers (.orderedFetchedValueWrite i) s fun t =>
    (t.dieAt (spDie k.die p.caddr.toNat)).sp =
      (s.dieAt (spDie k.die p.caddr.toNat)).sp.write (spOff p.caddr.toNat) (leBytes 8 p.operand.toNat)) ∧
  (∀ s i p k, s.inboxAt 0x0A i = some p → s.links.answered p = some k → p.status ≠ 0 → exec (.orderedAtomicStatus i) s =
    .next ((s.dropInbox i).endTrans k p.status.toNat p.src.toNat 0 (.s 0))) ∧
  (∀ s i p k, s.inboxAt 0x0A i = some p → s.links.answered p = some k → p.status = 0 → exec (.orderedAtomicStatus i) s =
    .next ((s.dropInbox i).ordAccepted k)) ∧
  (∀ s i p k c n, s.inboxAt 0x0D i = some p → s.links.answered p = some k → k.op = .rdel c n →
    exec (.threePartyStatus i) s = .next ((s.dropInbox i).endTrans k p.status.toNat
      (if p.status = 0 then 0 else (BitVec.ofNat 7 p.operand.toNat).toNat) 0 (.s 0))) ∧
  (∀ s i p k c n, s.inboxAt 0x0D i = some p → s.links.answered p = some k → k.op = .rdelg c n → p.status = 0 →
    exec (.threePartyStatus i) s =
      .next ((s.dropInbox i).stepTrans k { k with await := k.await.filter (· != p.src), reached := true })) ∧
  (∀ s i p k, s.inboxAt 0x0F i = some p → s.links.answered p = some k → p.status = 0 → exec (.reductionValue i) s =
    .next ((s.dropInbox i).stepTrans k
      { k with await := k.await.filter (· != p.src), values := k.values ++ [(p.src, p.bytes)] })) ∧
  (∀ s i p k, s.inboxAt 0x0F i = some p → s.links.answered p = some k → p.status ≠ 0 → exec (.reductionValue i) s =
    .next ((s.dropInbox i).memberFails k p.src p.status.toNat)) ∧
  (∀ s n k w, s.links.trans[n]? = some k → k.op = .ld w → k.late s.links.memberSet ≠ [] → fabricWait ≤ ((s.dieAt k.die).tick - k.sentAt).toNat →
    exec (.fabricTimeout n) s = .next (s.memberFails k (fabMember k.addr) stTimeout))

/-- Supersteps, streams and the waits of the fabric (R385, R394, R397, R398). -/
def Obligations.SuperstepAndStreamEventsComplete : Prop :=
  Told .superstepArrive opArrive ∧ Told .superstepReady opReady ∧ Told .superstepAbort opAbort ∧ Told .superstepDone opDone ∧
  (∀ s k x m, s.links.ssteps[k]? = some x → x.phase = 1 → fabricWait ≤ ((s.dieAt x.die).tick - x.since).toNat →
    (s.links.stepMembers x).find? (fun m => !s.links.holds x opArrive m) = some m →
    exec (.superstepTimeout k) s = .next (s.abortStep x stTimeout m.toNat)) ∧
  (∀ s i p, s.inboxAt 0x14 i = some p → streamMatches (s.streamAt p.router (BitVec.ofNat 4 p.taddr.toNat)).cfg p = true →
    exec (.streamRow i) s = .next (((s.dropInbox i).onStreamAt p.router (BitVec.ofNat 4 p.taddr.toNat) fun x =>
      { x with buf := x.buf ++ [BitVec.ofNat 2048 (leAt p.data 0 256)] }).feedSpop p.router (BitVec.ofNat 4 p.taddr.toNat))) ∧
  (∀ s i p, s.inboxAt 0x15 i = some p → streamMatches (s.streamAt p.router (BitVec.ofNat 4 p.taddr.toNat)).cfg p = true →
    Answers (.streamCredit i) s fun t => (t.streamAt p.router (BitVec.ofNat 4 p.taddr.toNat)).credits =
      min 32 ((s.streamAt p.router (BitVec.ofNat 4 p.taddr.toNat)).credits + 1)) ∧
  (∀ s c n t b x u, ((s.die.ctxAt c).blocked) = some (n, t, b) → fld (s.streamAt s.turn n).cfg 32 24 ≠ 0 →
    2000 * fld (s.streamAt s.turn n).cfg 32 24 < (s.die.tick - t).toNat → s.die.frozen = false →
    ((s.onCtxAt s.turn c fun y => { y with blocked := some (n, t, true) }).settled c).1.openNext c 0 [] = (x, .ok u) →
    exec (.streamtimeout s.turn c) s = .next u)

/-- Pens as they run (R223, R227, R228, R234, R238 to R240): one instruction of the hart's program, or what stands in its place. -/
def Obligations.PenEventsComplete : Prop :=
  (∀ s n e h w, s.penEnv n = some e → e.p.waiting = false → e.next = .retire h w → retireKind w = .plain → e.p.overBudget = none →
    exec (.penInstruction n) s = .next ((s.retirePen n e.p h w).penActed n)) ∧
  (∀ s n e h w, s.penEnv n = some e → e.p.waiting = false → e.next = .retire h w → retireKind w = .post → e.p.overBudget = none →
    exec (.obspost n) s = .next ((s.retirePen n e.p h w).penActed n)) ∧
  (∀ s n e h w, s.penEnv n = some e → e.p.waiting = false → e.next = .retire h w → retireKind w = .pop → e.p.overBudget = none →
    exec (.actpop n) s = .next ((s.retirePen n e.p h w).penActed n)) ∧
  (∀ s n e h, s.penEnv n = some e → e.p.waiting = false → e.next = .wfi h → e.p.acts = [] →
    exec (.wfi n) s = .next ((s.putPen n { e.p with waiting := true }).penActed n)) ∧
  (∀ s n e h, s.penEnv n = some e → e.p.waiting = false → e.next = .wfi h → e.p.acts ≠ [] → e.p.overBudget = none →
    exec (.wfi n) s = .next ((s.putPen n (e.p.retire h)).penActed n)) ∧
  (∀ s n e, s.penEnv n = some e → e.p.waiting = true → e.p.acts ≠ [] → e.p.overBudget = none →
    exec (.wfiWake n) s = .next ((s.putPen n (e.p.retire (e.p.hart.next 4))).penActed n)) ∧
  (∀ s n k e bs runs, s.penEnv n = some e → e.p.waiting = false → e.next = .copy k →
    (e.runs .rd (splitRuns [(e.p.desc.image + imageHead + 4096 * k, 4096)])).bind e.readRuns = .ok bs →
    e.runs .wr (splitRuns [(e.p.desc.pbase + 4096 * k, 4096)]) = .ok runs →
    exec (.copyOnWrite n k) s = .next (((s.penWrites (wrRuns bs runs)).putPen n
      { e.p with copied := e.p.copied ++ [k], hart := e.moveResv k e.p.hart }).penActed n)) ∧
  (∀ s n e h w, s.penEnv n = some e → e.p.waiting = false → e.next = .access h w →
    exec (.penAccessFault n) s =
      .next ((((s.penWrites w).putPen n ({ e.p with hart := h }.stageWrites w)).truncatePen n 4).penActed n)) ∧
  (∀ s n e, s.penEnv n = some e → e.retires = true → e.p.overBudget = some 1 →
    exec (.stepBudget n) s = .next ((s.truncatePen n 1).penActed n)) ∧
  (∀ s n e, s.penEnv n = some e → e.retires = true → e.p.overBudget = some 2 →
    exec (.episodeBudget n) s = .next ((s.truncatePen n 2).penActed n)) ∧
  (∀ s n p, s.pen? n = some p → s.wallDue p = true → s.penEnv n = none → exec (.wallBackstop n) s = .next (s.truncatePen n 3)) ∧
  (∀ s n p e, s.pen? n = some p → s.wallDue p = true → s.penEnv n = some e → e.p.overBudget = none →
    exec (.wallBackstop n) s = .next (s.truncatePen n 3)) ∧
  (∀ s n p k, s.pen? n = some p → s.task? p.owner = some k → p.over = false → (s.paddock.hartOf n).isSome = true →
    exec (.paddockHardwareError n) s = .next (s.hardwareError p k n)) ∧
  (∀ s h n p k r, s.pen? n = some p → s.paddock.harts[h]? = some r → s.task? p.owner = some k → s.pkg.padUp = true →
    servesPens h = true → h / 32 = p.desc.die.val → p.st = .running → s.paddock.hartOf n = none →
    Answers (.penHartSwitch h n) s fun t => ∃ x, t.paddock.harts[h]? = some x ∧ x.serving = some n ∧ x.task = p.owner ∧
      x.pmbase.toNat = p.desc.pbase % 2 ^ 48 ∧ x.pmsize.toNat = p.desc.psize % 2 ^ 33)

/-- The calls of the SBI base extension (R225): a0 is 0 and a1 the value; any other call answers SBI_ERR_NOT_SUPPORTED in a0. -/
def Obligations.SbiCallsComplete : Prop :=
  Calls .sbiGetSpecVersion .spec (fun _ => 0x02000000) ∧ Calls .sbiGetImplId .implId (fun _ => 0x41565452) ∧
  Calls .sbiGetImplVersion .implVersion (fun _ => Config.monitorVersion) ∧
  Calls .sbiProbeExtension .probe (fun h => if h.getX 10 = 0x10 then 1 else 0) ∧
  Calls .sbiGetMvendorid .vendor (fun _ => 0) ∧ Calls .sbiGetMarchid .arch (fun _ => 0) ∧ Calls .sbiGetMimpid .imp (fun _ => 1) ∧
  (∀ s n e h, s.penEnv n = some e → e.p.waiting = false → e.next = .sbi h → sbiCall h = .other →
    Answers (.sbiNotSupported n) s fun t => ∃ p, t.pen? n = some p ∧ p.hart.getX 10 = BitVec.ofInt 64 (-2))

/-- Queue entries as they are performed (R192 to R194, R200, R203, R206, R235, R333): an entry that nothing holds back has its effect and leaves. A
queued store writes the bytes of its value, of its row or of those that its mask names, at the addresses from its own on; every other
byte of the scratchpads and of device memory reads as before. -/
def Obligations.QueueEntriesComplete : Prop :=
  (∀ s d c q off e k w sg, Performable s d c q off e k → e.op = .ld w sg → exec (.queueEntryPerformed d c q off) s =
    .next (s.performLocal k d c e off)) ∧
  (∀ s d c q off e k w v, Performable s d c q off e k → e.op = .st w v → e.inAperture = false →
    exec (.queueEntryPerformed d c q off) s = .next (s.performLocal k d c e off)) ∧
  (∀ s d c q off e k r, Performable s d c q off e k → e.op = .srd r →
    exec (.queueEntryPerformed d c q off) s = .next (s.leave d c e (some (.syq, .s (s.readQueued k.lid d r))))) ∧
  (∀ s d c q e k v, Performable s d c q 0 e k → e.op = .swr 0x0030 v →
    exec (.polgenWrite d c q) s = .next ((s.onTask k.lid fun x =>
      if x.polgen.toNat < fld v 0 32 then { x with polgen := BitVec.ofNat 32 v.toNat } else x).leave d c e none)) ∧
  (∀ s d c q e k r v, Performable s d c q 0 e k → e.op = .swr r v → 0x0400 ≤ r → r < 0x1400 →
    exec (.windowDescriptorWrite d c q) s = .next ((s.writeQueued k.lid d r v).leave d c e none)) ∧
  (∀ s d c q e k r v, Performable s d c q 0 e k → e.op = .swr r v → 0x1580 ≤ r →
    exec (.streamcfgWrite d c q) s = .next ((s.writeQueued k.lid d r v).leave d c e none)) ∧
  (∀ s d c q e k w v, Performable s d c q 0 e k → e.op = .st w v → e.clearsErr = true →
    exec (.copyErrClear d c q) s = .next (s.performLocal k d c e 0)) ∧
  (∀ (e : Entry) j b, (∀ w v, e.op = .st w v → ((j, b) ∈ e.stores ↔ j < widBytes w ∧ b = BitVec.ofNat 8 (v.toNat / 256 ^ j))) ∧
    (∀ r, e.op = .strow r none → ((j, b) ∈ e.stores ↔ j < 256 ∧ b = (rowBytes r).getD j 0) ∧
      ((j, b) ∈ e.sideStores ↔ j < 32 ∧ b = (rowSide r).getD j 0)) ∧
    (∀ r m, e.op = .strow r (some m) →
      ((j, b) ∈ e.stores ↔ j < 256 ∧ b = (rowBytes r).getD j 0 ∧ byteSet m.data.toNat j = true) ∧
      ((j, b) ∈ e.sideStores ↔ j < 32 ∧ b = (rowSide r).getD j 0 ∧ byteSet m.side.toNat j = true))) ∧
  (∀ s d c q off e k x, QueuedStore s d c q off e k → spaceOf e.addr = .scratch x → (∀ r, e.op ≠ .strow r none) →
    Answers (.queueEntryPerformed d c q off) s fun t =>
      (∀ b ∈ pieceOf e off, (t.dieAt (spDie d x)).sp.read (spOff (x + b.1)) = b.2) ∧
      (∀ o a, (o = spDie d x → ∀ b ∈ pieceOf e off, spOff (x + b.1) ≠ a) → (t.dieAt o).sp.read a = (s.dieAt o).sp.read a) ∧
      (∀ b ∈ e.sideStores, (t.dieAt (spDie d x)).spSide.read (32 * spUnit x + b.1) = b.2) ∧
      (∀ o a, (o = spDie d x → ∀ b ∈ e.sideStores, 32 * spUnit x + b.1 ≠ a) →
        (t.dieAt o).spSide.read a = (s.dieAt o).spSide.read a) ∧ (∀ a, t.hbm.read a = s.hbm.read a)) ∧
  (∀ s d c q off e k x r, QueuedStore s d c q off e k → spaceOf e.addr = .scratch x → e.op = .strow r none →
    Answers (.queueEntryPerformed d c q off) s fun t =>
      (∀ o a, (t.dieAt o).sp.read a = if o = spDie d x ∧ 256 * spUnit x ≤ a ∧ a < 256 * spUnit x + 256 then
        (rowBytes r).getD (a - 256 * spUnit x) 0 else (s.dieAt o).sp.read a) ∧
      (∀ o a, (t.dieAt o).spSide.read a = if o = spDie d x ∧ 32 * spUnit x ≤ a ∧ a < 32 * spUnit x + 32 then
        (rowSide r).getD (a - 32 * spUnit x) 0 else (s.dieAt o).spSide.read a) ∧ (∀ a, t.hbm.read a = s.hbm.read a)) ∧
  (∀ s d c q off e k va, QueuedStore s d c q off e k → spaceOf e.addr = .device va → e.inAperture = false →
    Answers (.queueEntryPerformed d c q off) s fun t =>
      (∀ b ∈ pieceOf e off, ∀ x, s.page k d (va + b.1) = .ok x →
        (∀ z ∈ pieceOf e off, z.1 ≠ b.1 → ∀ y, s.page k d (va + z.1) = .ok y → y.phys (va + z.1) ≠ x.phys (va + b.1)) →
        t.hbm.read (x.phys (va + b.1)) = b.2) ∧
      (∀ a, (∀ b ∈ pieceOf e off, ∀ x, s.page k d (va + b.1) = .ok x → x.phys (va + b.1) ≠ a) →
        t.hbm.read a = s.hbm.read a) ∧
      (∀ o a, (t.dieAt o).sp.read a = (s.dieAt o).sp.read a ∧ (t.dieAt o).spSide.read a = (s.dieAt o).spSide.read a))

/-- The operations of fx.pen as they are performed (R229, R230, R241, R401): the pen changes, and the form ends with its
status. A pen that CREATE or RESET leaves runs from its image with empty mailboxes, one that HALT leaves is ENDED, SNAP writes its image and
READREC its record, and DESTROY leaves it FREE. -/
def Obligations.PenControlCompletes : Prop :=
  Controls .penCreate .create ∧ Controls .penReset .reset ∧ Controls .penHalt .halt ∧ Controls .penSnap .snap ∧
  Controls .penReadrec .readrec ∧ Controls .penDestroy .destroy ∧
  (∀ (s : State) k d op n a, op ≠ .create → (s.pen? n = none → s.penControl k d op n a = (s, stAbsent, 0)) ∧
    (∀ p, s.pen? n = some p → p.owner ≠ k.lid → s.penControl k d op n a = (s, stKey, 0))) ∧
  (∀ (s : State) k d n a va b m, devAddr a = some va → s.rangeOk k .rd va 64 = true → b = s.readVirt k.asid va 64 →
    descLegal b (descOf d b) = true → s.descOk k none (descOf d b) = true → s.paddock.freePen = some m →
    let p := s.startPen k k.lid (descOf d b) 0
    s.penControl k d .create n a = (s.putPen m p, stOk, m) ∧ (s.putPen m p).pen? m = some p ∧
    (∀ j, j ≠ m → (s.putPen m p).pen? j = s.pen? j) ∧
    p.st = .running ∧ p.owner = k.lid ∧ p.desc = descOf d b ∧ p.episode = 0 ∧ p.acts = [] ∧ p.obs = [] ∧ p.bound = none ∧
    p.instret = 0 ∧ p.hart = hartOf (s.readVirt k.asid ((descOf d b).image + 64) 4096)) ∧
  (∀ (s : State) k d n a p, s.pen? n = some p → p.owner = k.lid → s.descOk k (some n) p.desc = true →
    let q := s.startPen k p.owner p.desc (p.episode + 1)
    s.penControl k d .reset n a = (s.putPen n q, stOk, 0) ∧ (s.putPen n q).pen? n = some q ∧
    q.st = .running ∧ q.episode = p.episode + 1 ∧ q.acts = [] ∧ q.obs = [] ∧ q.desc = p.desc) ∧
  (∀ (s : State) k d n a p, s.pen? n = some p → p.owner = k.lid → p.st = .ended →
    s.penControl k d .halt n a = (s, stRefused, 0)) ∧
  (∀ (s : State) k d n a p, s.pen? n = some p → p.owner = k.lid → p.st ≠ .ended →
    let r := s.penControl k d .halt n a
    r.2 = (stOk, 0) ∧ ∃ q, r.1.pen? n = some q ∧ q.st = .ended ∧ q.episode = p.episode ∧ q.instret = p.instret ∧
      (p.endPosted = false → q.acts = [] ∧ q.endState = 2 ∧ q.endReason = 6 ∧
        q.discard = p.discard + BitVec.ofNat 32 p.acts.length) ∧
      (p.endPosted = true → q.acts = p.acts ∧ q.endState = p.endState ∧ q.endReason = p.endReason)) ∧
  (∀ (s : State) k d n a p, s.pen? n = some p → p.owner = k.lid → p.st ≠ .ended →
    s.penControl k d .snap n a = (s, stRefused, 0)) ∧
  (∀ (s : State) k d n a p va, s.pen? n = some p → p.owner = k.lid → p.st = .ended → devAddr a = some va →
    s.rangeOk k .wr va (imageHead + p.desc.psize) = true → s.penControl k d .snap n a =
      (s.writeVirt k.asid va (imageStart p.desc.psize ++ blockOf p.hart ++ s.penBytes k.asid p 0 p.desc.psize), stOk, 0)) ∧
  (∀ (s : State) k d n a p va, s.pen? n = some p → p.owner = k.lid → devAddr a = some va → s.rangeOk k .wr va 64 = true →
    s.penControl k d .readrec n a = (s.writeVirt k.asid va p.record, stOk, 0)) ∧
  (∀ (s : State) k d n a p, s.pen? n = some p → p.owner = k.lid →
    let r := s.penControl k d .destroy n a
    r.2 = (stOk, 0) ∧ r.1.pen? n = none ∧ ∀ j, j ≠ n → r.1.pen? j = s.pen? j)

/-- Tasks from dispatch to their end (R88, R102, R134, R138, R140 to R142, R146, R161, R270, R280). What a saved task's contexts hold (log 3),
what an ALIGN takes into account (log 15) and how a held fold goes on in a handler (log 17, 18) are the model's choices. -/
def Obligations.TaskEventsComplete : Prop :=
  (∀ s, s.pkg.power = true → 1 ≤ s.pkg.level.toNat → s.sched.want = true → exec .dispatchPass s = .next s.pass) ∧
  (∀ s, s.pkg.power = true → 1 ≤ s.pkg.level.toNat → 20000 ≤ ((s.dieAt 1).tick - s.sched.passAt).toNat →
    exec .dispatchPass s = .next s.pass) ∧
  (∀ s k x ps, (s.dieAt 1).frozen = false → s.sched.xfers.find? (fun x => x.lid == k && x.dirIn) = some x →
    s.xferRange x.fn (recFld x.record 2 0 48) (recFld x.record 3 0 40) = false →
    s.openChunks x (xferChunks (recFld x.record 3 0 40)) = .ok ps → exec (.sealedTransferIn k) s =
      .next ((ps.foldl (fun s p => s.writeVirt (s.asidOf x.fn) (recFld x.record 2 0 48 + p.1) p.2) s).endXfer x 0 0)) ∧
  (∀ s k x, (s.dieAt 1).frozen = false → s.sched.xfers.find? (fun x => x.lid == k && !x.dirIn) = some x →
    s.xferRange x.fn (recFld x.record 2 0 48) (recFld x.record 3 0 40) = false → exec (.sealedTransferOut k) s =
      .next (((xferChunks (recFld x.record 3 0 40)).foldl (fun s c => s.sealChunk x c.1 c.2.1 c.2.2) s).endXfer x 0 0)) ∧
  (∀ s d k c, s.foldTask d = some (k, c) → k.startedOn d = false → s.clockedAt d = true → (s.dieAt d).stopFrozen = false →
    (k.st == .resuming && (s.dieAt d).debt != 0) = false → d = k.refDie → k.startTick.toNat ≤ (s.dieAt d).tick.toNat → exec (.foldStart d) s =
      .next ((s.startDie k d).onTask k.lid fun x =>
        if k.startOn ||| BitVec.ofNat 3 (2 ^ d.val) == x.fold then
          { x with startOn := k.startOn ||| BitVec.ofNat 3 (2 ^ d.val), st := if x.heldCtxs.isEmpty then .running else .held,
                   restored := false, heldCtxs := [] }
        else { x with startOn := k.startOn ||| BitVec.ofNat 3 (2 ^ d.val) })) ∧
  (∀ s k d x c a, s.task? k = some x → (x.st == .held && x.agreed.isSome && s.foldHeld x && a.here.isEmpty) = false →
    x.agreed = some a → s.reaches k d = some (x, c, a, false) →
    x.allHere (a.here ++ [(d, false)]) = true → (a.here.any fun y => y.2) = false → exec (.agreedCount k d) s =
      .next ((s.stopOf d c).stopVictim x
        (((s.stopOf d c).heldOf x).filter fun p => ((s.dieAt p.1).ctxAt p.2).kind != CtxKind.timed))) ∧
  (∀ s k d x c a, s.reaches k d = some (x, c, a, true) → a.late = true → exec (.noPreemptOverrun k d) s =
    .next ((s.onCtxAt d c fun y => ((s.dieAt d).atNext y).noteGuards).deliver d c ⟨0x15, 0, 0⟩ (s.dieAt d).fcNow 2 0)) ∧
  (∀ s k x u w v, s.task? k = some x → s.savable x = true → u = s.finishFills x → u.task? k = some x → u.stopWaits x = false →
    u.listBad x = none → u.readyRows x = (w, true) → v = w.eachCtx x (fun s d c => s.saveBegin x d c) → v.saveShort x = none → Answers (.save k) s fun t =>
      (∃ y, t.task? k = some y ∧ y.st = .saved ∧ y.saved = x.ctxs.map fun p => v.keepCtx x p.1 p.2) ∧
      (∀ p ∈ x.ctxs, (t.dieAt p.1).ctxAt p.2 = Ctx.reset) ∧ t.sched.want = true) ∧
  (∀ s k x, s.task? k = some x → x.budget ≠ 0 → 2000 * x.budget ≤ ((s.dieAt 1).tick - x.dispAt).toNat →
    exec (.budgetExpiry k) s = .next (s.endTask x 3 0)) ∧
  (∀ s c n, s.clocked = true → s.ctx.grp = none → s.freeCycle = true → s.die.current = some c → 256 ≤ (s.die.ctxAt c).freeRun →
    s.nextReady c = some n → exec (.freeContextSwitch s.turn) s = .next (s.setCurrent (some n))) ∧
  (∀ s d c x n, ((s.dieAt d).ctxAt c).kind ≠ .none → ((s.dieAt d).ctxAt c).status = .exiting → s.quiet d c = true →
    s.task? ((s.dieAt d).ctxAt c).lid = some x →
    n = (if ((s.dieAt d).ctxAt c).kind ≠ .timed then 0
      else if ((s.dieAt d).ctxAt c).exitQuiet then ((s.dieAt d).ctxAt c).exitAt.getD 0
      else ((s.dieAt d).ctxAt c).fc (s.dieAt d).scy) →
    exec (.contextRetire d c) s = .next (((if ((s.dieAt d).ctxAt c).kind = .timed then
        s.onDieAt d fun y => (y.settle c (((s.dieAt d).ctxAt c).fc (s.dieAt d).scy)).1 else s).onCtxAt d c fun y =>
      { y with status := .retired, pend := [], retireFc := n }).finish x d c)) ∧
  (∀ s d x c n w, s.foldTask d = some (x, c) → ((s.dieAt d).ctxAt c).status = .aligning n w →
    s.alignsMet d ((s.dieAt d).ctxAt c) n = true → Answers (.alignRelease d) s fun t => ((t.dieAt d).ctxAt c).status = .run ∧
      ((t.dieAt d).ctxAt c).alignAt = ((s.dieAt d).ctxAt c).alignAt.filter fun a => decide (n < a.1)) ∧
  (∀ s d x c n w, s.foldTask d = some (x, c) → ((s.dieAt d).ctxAt c).status = .aligning n w → 2 ^ 20 ≤ w →
    exec (.alignmentTimeout d) s = .next ((s.onCtxAt d c fun y => { ((s.dieAt d).atNext y).noteGuards with status := .aligning n 0 }).deliver
      d c ⟨0x14, 0, 0⟩ (s.dieAt d).fcNow 2 0)) ∧
  (∀ s d c p v, ((s.dieAt d).ctxAt c).dueSreg (s.dieAt d).scy = some (p, 0x1804, v) → fld v 32 2 = 1 →
    exec (.stopctlResume d c) s =
      .next ((s.onCtxAt d c fun y => { y with pend := y.pend.erase p }).writeSup ((s.dieAt d).ctxAt c).lid d 0x1804 v)) ∧
  (∀ s d c p v, ((s.dieAt d).ctxAt c).dueSreg (s.dieAt d).scy = some (p, 0x1804, v) → fld v 32 2 = 2 →
    exec (.stopctlEnd d c) s =
      .next ((s.onCtxAt d c fun y => { y with pend := y.pend.erase p }).writeSup ((s.dieAt d).ctxAt c).lid d 0x1804 v)) ∧
  (∀ s d c p v, ((s.dieAt d).ctxAt c).dueSreg (s.dieAt d).scy = some (p, 0x0041, v) → Answers (.rmodeWrite d c) s fun t =>
    ((t.dieAt d).ctxAt c).rmode = BitVec.ofNat 3 v.toNat)

/-- Engines (R191, R193, R194, R212, R362, R366, R380): what is complete takes effect, and its token is set. A
fill's rows still to move, and a pin's pages, are decided at the completion (log 50), a copy's parts in an order named (log 31). -/
def Obligations.EngineEventsComplete : Prop :=
  (∀ s d k f x rows, (s.dieAt d).frozen = false → (s.dieAt d).fills[k]? = some f → f.start ≤ s.fcOf d f.ctx →
    ((s.dieAt d).fills.any fun y => !y.started && y.before f) = false → f.started = false → s.task? f.lid = some x →
    unmetReason x d f.cons = none → exec (.fillStart d k rows) s =
      .next (((s.onDieAt d Die.timedWrites).onDieAt d fun y => { y with fills := y.fills.map fun (z : Fill) =>
        if z.order = f.order then { z with started := true } else z }).transfers d f.order rows)) ∧
  (∀ s d k f x r rows, (s.dieAt d).frozen = false → (s.dieAt d).fills[k]? = some f → f.start ≤ s.fcOf d f.ctx →
    ((s.dieAt d).fills.any fun y => !y.started && y.before f) = false → f.started = false → s.task? f.lid = some x →
    unmetReason x d f.cons = some r → exec (.fillStart d k rows) s =
      .next ((((s.onDieAt d Die.timedWrites).onDieAt d fun y => y.dropFill f).setTok f.lid d f.prod .clear).defer d f.ctx
        ⟨0x12, r, BitVec.ofNat 64 f.issued, f.start, 2, 0⟩)) ∧
  (∀ s d k f, (s.dieAt d).frozen = false → (s.dieAt d).fills[k]? = some f → f.started = true → f.bound ≤ s.fcOf d f.ctx → exec (.fillCompletion d k) s =
    .next ((((s.onDieAt d Die.timedWrites).transfers d f.order f.left).onDieAt d fun x => x.dropFill f).setTok f.lid d f.prod .set)) ∧
  (∀ s d c n k j b t x, (s.dieAt d).timedCid = some c →
    ((s.dieAt d).ctxAt c).takeDue (s.dieAt d).scy Effect.isTable = some (⟨n, .table k j b t⟩, x) →
    exec (.tableLoadComplete d) s = .next (((s.onCtxAt d c fun _ => x).onDieAt d fun y =>
      { y with wall := y.wall.setTable k j b }).setTok x.lid d t .set)) ∧
  (∀ s d c n r m u t x, (s.dieAt d).timedCid = some c →
    ((s.dieAt d).ctxAt c).takeDue (s.dieAt d).scy Effect.isLive = some (⟨n, .live r m u t⟩, x) →
    exec (.solveComplete d) s = .next (((s.onCtxAt d c fun _ => x).onDieAt d fun y => y.setLive r m u).setTok x.lid d t .set)) ∧
  (∀ s d c n b l x k, (s.dieAt d).timedCid = some c →
    ((s.dieAt d).ctxAt c).takeDue (s.dieAt d).scy Effect.isPin = some (⟨n, .pin b l⟩, x) → s.task? x.lid = some k →
    s.pinResult k d b l = 0 → s.tablesBad k.asid b l = none → exec (.pinComplete d) s = .next ((s.onCtxAt d c fun _ =>
      { x with ports := x.ports.set (latIx .feq).val (.s 0) (latIx .feq).isLt }).onTask k.lid fun t => t.setDie d fun y =>
        { y with pinned := y.pinned ++ [(b, l)], pinMap := y.pinMap ++ (s.leaves k.asid 1024 b (b + l)).1.filterMap fun z => z })) ∧
  (∀ s d ch cp k m x u, (s.chan d ch).head = some cp → s.task? cp.lid = some k → s.tmpl k d cp = some m →
    (∀ n ∈ cp.blocks m, s.blockFail k d cp m n = none ∧ s.blockRests d cp m n = false) → (s.dieAt d).frozen = false →
    State.moveBlocks k d ch m (cp.blocks m) { cp with left := some (cp.blocks m) } s = (x, u) → x.blocks m = [] →
    (u.setHead d ch x).copyTrans d ch x = [] → exec (.copyComplete d ch []) s = .next ((u.setHead d ch x).copyOver d ch x)) ∧
  (∀ s d ch cp k, (s.chan d ch).head = some cp → s.task? cp.lid = some k → s.tmpl k d cp = none →
    (s.dieAt d).frozen = false → exec (.copyFailure d ch) s = .next (s.haltChan d ch cp 1 1)) ∧
  (∀ s d ch cp k m f, (s.chan d ch).head = some cp → s.task? cp.lid = some k → s.tmpl k d cp = some m →
    ((s.copyTrans d ch cp).any fun x => !x.await.isEmpty) = false → firstFailure (s.copyFails k d ch cp m) = some f →
    (s.dieAt d).frozen = false → exec (.copyFailure d ch) s = .next (s.haltChan d ch cp f.2.1 f.2.2))

/-- Objects (R110, R120, R128): a load that every check passes answers its handle, an unload its status. -/
def Obligations.ObjectLoadingCompletes : Prop :=
  (∀ s fn q x r h d, s.firmware = true → s.sealed fn = false → leAt q 0 1 = 0 →
    s.load fn (leAt q 1 1) (leAt q 8 8) (leAt q 16 8) = (x, r, h, d) →
    exec (.loadObject fn false q) s = .next (x.respondDoe fn (.vendor (objResponse r h d)))) ∧
  (∀ s fn h x r, s.firmware = true → s.sealed fn = false → s.unload fn h = (x, r) →
    exec (.unloadObject fn false h) s = .next (x.respondDoe fn (.vendor (objResponse r 0 0))))

/-! ### Registers, control, exceptions, the clock and frames -/

/-- R297: ports 0 to 31 are s0 to s31 and ports 32 to 63 are t0 to t31; a write to s0, c0 or m0 is discarded, so that a move there
changes nothing. R334: the source sy.rdtick, SRC 0x1D5, gives the die's TICK at the issue of its group. Any other register reads what was written. -/
def Obligations.RegistersReadAndWrite : Prop :=
  (∀ r : BitVec 5, decodeDst (BitVec.ofNat 9 r.toNat) = some (.s r) ∧ decodeDst (BitVec.ofNat 9 (32 + r.toNat)) = some (.t r)) ∧
  (∀ (s : State) h v, s.writeDst (.s 0) h v = s ∧ s.writeDst (.c 0) h v = s) ∧
  (∀ w v, Wall.writeM w 0 v = w ∧ Wall.readM w 0 = Mask.ones) ∧
  (∀ c : Ctx, c.readS 0 = 0 ∧ c.readC 0 = true) ∧
  (∀ (c : Ctx) r v, r ≠ 0 → c.rotNow.rsz ≤ 16 → (c.writeS r v).readS r = v) ∧
  (∀ (c : Ctx) r q v, c.physS q ≠ c.physS r → (c.writeS r v).readS q = c.readS q) ∧
  (∀ (c : Ctx) i v, i ≠ 0 → (c.writeC i v).readC i = v) ∧
  (∀ (c : Ctx) i j v, j ≠ i → (c.writeC i v).readC j = c.readC j) ∧
  (∀ (w : Wall) i j v, i ≠ 0 → (w.writeM i v).readM i = v ∧ (j ≠ i → (w.writeM i v).readM j = w.readM j)) ∧
  decodeSrc false 0x1D5 = some .rdtick ∧ (∀ s : State, s.readSrc .rdtick = some (.s s.group.tick, s)) ∧
  (∀ (d : Die) c slots nb ns nf na, (d.groupOf c slots nb ns nf na).tick = d.tick)

/-- R314: POS is v [5:0], LEN is min(v [12:6], 64) and v [63:13] is ignored; the field is W = min(LEN, 64 − POS) bits from POS. bext takes
it from a, zero-extended; bins puts the low bits of b there. -/
def Obligations.BitFieldsAreCutAtBit63 : Prop :=
  ∀ a b v : Word,
    let pos := v.toNat % 64
    let len := min (v.toNat / 64 % 128) 64
    let w := min len (64 - pos)
    (bext a v).toNat = (if w = 0 then 0 else a.toNat / 2 ^ pos % 2 ^ w) ∧
    (∀ i, i < 64 → (bins a b v).getLsbD i =
      if pos ≤ i ∧ i < pos + w then b.getLsbD (i - pos) else a.getLsbD i)

/-- R320: LC := (LC − 1) mod 2^64; ROFS := (ROFS + 1) mod RSZ unless RSZ is 0; taken to v while LC is not 0 then. Both new values govern
the groups after the loop group, so that the loop's own group reads the old ones. -/
def Obligations.LoopCountsDown : Prop :=
  (∀ c : Ctx, c.loopCount = c.rotNow.lc - 1 ∧
    c.loopOffset = if c.rotNow.rsz = 0 then c.rotNow.rofs else (c.rotNow.rofs + 1) % c.rotNow.rsz) ∧
  (∀ c : Ctx, c.rotNow.lc = 0 → c.loopCount = BitVec.allOnes 64 ∧ c.loopCount ≠ 0) ∧
  (Completes .brLoop 0x08A [] (fun a => a.st.ctx.delay = none ∧ (a.st.ctx.loopCount = 0 ∨ a.st.targetFaults a.word = [])) fun a =>
    let s1 := a.st.onCtx fun c =>
      { c with rot := { lc := c.loopCount, rofs := c.loopOffset, rsz := c.rot.rsz, rfile := c.rot.rfile } }
    if a.st.ctx.loopCount = 0 then s1.trace 0 a.word 0 else s1.branchTo a.word) ∧
  (∀ (s : State) x, s.ctx.grp.isSome = true → let t := s.onCtx fun c => { c with rot := x }
    t.readTask 0x08 = s.readTask 0x08 ∧ t.readTask 0x09 = s.readTask 0x09) ∧
  (∀ (d : Die) c slots nb ns nf na, (d.groupOf c slots nb ns nf na).rot = (d.ctxAt c).rot) ∧
  (∀ s g src, s.openGroup.takes g = false → exec (.brLoop g src) s = .next s.openGroup.finishSlot)

/-- Taking an exception (R267, R268, R270): the fault registers name the place; a fault of kind H enters a valid handler at ENTRY with
INH set and the context's pipelines in its snapshot, any other one holds the context for the system. A timed context stops its fold. -/
def Obligations.ExceptionsAreTaken : Prop :=
  (∀ (c : Ctx) code e, c.handler code = some e ↔
    fltKind code = .handler ∧ c.tvecValid = true ∧ c.inh = false ∧ c.tvec.toNat < c.codeLen ∧ e = c.base + c.tvec.toNat) ∧
  (∀ (s : State) d c f cnt q n e, ((s.dieAt d).ctxAt c).handler f.code = some e →
    let x := (s.dieAt d).ctxAt c
    let y := ((s.deliver d c f cnt q n).dieAt d).ctxAt c
    let z := x.takeUnderWay Effect.isSreg
    Interrupted x y f cnt ∧ y.inh = true ∧ y.bundle = e ∧ y.slot = 0 ∧ y.hc = 0 ∧ y.status = .run ∧ y.delay = none ∧
    y.pend = (z.pend.filter fun p => p.eff.isSreg) ∧
    y.snap = some { ports := x.ports, pend := z.pend.filter fun p => !p.eff.isSreg, reent := x.reent, delay := x.delay,
                    status := x.status, late := [] }) ∧
  (∀ (s : State) d c f cnt q n k, ((s.dieAt d).ctxAt c).handler f.code = none → s.task? ((s.dieAt d).ctxAt c).lid = some k →
    fltKind f.code ≠ .machine → (∀ z ∈ k.causes, fltKind z.code ≠ .machine) → ((s.dieAt d).ctxAt c).inh = false →
    k.agreed = none → k.st ≠ .saving → ((s.dieAt d).ctxAt c).status ≠ .retired →
    let x := (s.dieAt d).ctxAt c
    let y := ((s.deliver d c f cnt q n).dieAt d).ctxAt c
    Interrupted x y f cnt ∧ y.status = .held ∧ y.inh = false ∧ y.bundle = x.bundle ∧ y.slot = x.slot ∧
    ∃ k', (s.deliver d c f cnt q n).task? k.lid = some k' ∧ k'.st = .held) ∧
  (∀ (s : State) d c f cnt q n k, ((s.dieAt d).ctxAt c).kind = .timed → s.task? ((s.dieAt d).ctxAt c).lid = some k →
    k.stopCounts.any (fun x => x.1 == d) = false → ((s.dieAt d).ctxAt c).handler f.code ≠ none →
    ((s.deliver d c f cnt q n).dieAt d).stopFrozen = true)

/-- R336: sy.rfe, DST 0x1EA, ignores its value and ends the handler when its group has committed: INH 0, ports and operations of the
snapshot back, issue at EPC and SLOT with the guards in GUARDS; with INH 0 it is an illegal operand. sy.brk, DST 0x1EB, commits, writes
its value into FADDR and raises 0x31. -/
def Obligations.HandlersReturnAndBreakpointsTrap : Prop :=
  (∀ g src, (Instr.syRfe g src).parts = .trig g false src 0x1EA ∧ (Instr.syBrk g src).parts = .trig g false src 0x1EB) ∧
  (Traps .syRfe 0x1EA [] (fun a => a.st.ctx.inh = false) fun _ => ⟨0x07, 0, 0⟩) ∧
  (Completes .syRfe 0x1EA [] (fun a => a.st.ctx.inh = true) fun a => a.st.onGroup fun x => { x with rfe := true }) ∧
  (∀ (s : State) g n, s.ctx.grp = some g → g.rfe = true → g.trap = none → s.ctx.stepDue = false → s.ctx.snap = some n →
    s.die.stopFrozen = false →
    let x := s.ctx
    let z := { x.closeGroup g with stepDue := false }.takeUnderWay fun _ => true
    let y := (s.endGroup.dieAt s.turn).ctxAt s.die.issuing
    y.inh = false ∧ y.snap = none ∧ y.ports = n.ports ∧ y.pend = (z.pend.filter fun p => p.eff.isSreg) ++ n.pend ∧
    y.delay = n.delay ∧ y.bundle = z.epc ∧ y.slot = z.cswSlot ∧ y.reentry = true ∧ y.guards = x.guards) ∧
  (∀ (d : Die) c slots nb ns nf na, (d.ctxAt c).reentry = true →
    (d.groupOf c slots nb ns nf na).conds = (d.ctxAt c).guards) ∧
  (Raises .syBrk 0x1EB fun a => a.st.takeFault ⟨0x31, 0, a.word⟩ true) ∧
  (∀ (s : State) v e, s.ctx.handler 0x31 = some e → s.die.stopFrozen = false → s.group.rfe = false →
    (s.group.inside true = true ∨ s.group.stall = 0) →
    let y := ((s.takeFault ⟨0x31, 0, v⟩ true).dieAt s.turn).ctxAt s.die.issuing
    y.faddr = v ∧ y.fcode = 0x31 ∧ y.inh = true ∧ y.bundle = e)

/-- Precise faults of forms that read their operands (R269, R316, R318, R321, R326, R327, R329, R330, R332): the fault is taken at
the slot, which does not commit. -/
def Obligations.IllegalOperandsAndPrivilegesTrap : Prop :=
  (Traps .syBarArrive 0x0BB [] (fun a => 2 ≤ a.word.toNat) fun _ => ⟨0x07, 0, 0⟩) ∧
  (Traps .syBarWait 0x0BC [] (fun a => 2 ≤ a.word.toNat) fun _ => ⟨0x07, 0, 0⟩) ∧
  (Traps .syPhase 0x0BD [] (fun a => 64 ≤ a.word.toNat) fun _ => ⟨0x07, 0, 0⟩) ∧
  (Traps .syTokClr 0x0BA [] (fun a => 64 ≤ a.word.toNat) fun _ => ⟨0x07, 0, 0⟩) ∧
  (Traps .syFenceR 0x0B4 [.sya, .syb] (fun a => 4 ≤ a.word.toNat) fun _ => ⟨0x07, 0, 0⟩) ∧
  (Traps .syFenceW 0x0B5 [.sya, .syb] (fun a => 4 ≤ a.word.toNat) fun _ => ⟨0x07, 0, 0⟩) ∧
  (Traps .syFenceRw 0x0B6 [.sya, .syb] (fun a => 4 ≤ a.word.toNat) fun _ => ⟨0x07, 0, 0⟩) ∧
  (Traps .brYield 0x08C [] (fun a => a.word = 0 ∨ 4096 < a.word.toNat) fun _ => ⟨0x07, 0, 0⟩) ∧
  (Traps .brRotcfg 0x08B [] (fun a => 128 ≤ a.word.toNat ∨ fld a.word 0 5 ∉ [0, 4, 8, 16] ∨
    (fld a.word 5 2 = 0 ∧ fld a.word 0 5 ≠ 0)) fun _ => ⟨0x07, 0, 0⟩) ∧
  (Traps .brJmp 0x088 [] (fun a => a.st.ctx.codeLen ≤ a.word.toNat) fun _ => ⟨0x07, 0, 0⟩) ∧
  (Traps .sySrd 0x1E6 [] (fun a => (supReg a.word.toNat || fabricReg a.word.toNat) = true ∧ a.st.ctx.priv = false ∧
    a.st.ownArrcnt a.word.toNat = false) fun _ => ⟨0x04, 0, 0⟩) ∧
  (Traps .sySwr 0x1E7 [.sysri] (fun a => (supReg (a.op .sysri).toNat || fabricReg (a.op .sysri).toNat) = true ∧
    a.st.ctx.priv = false) fun _ => ⟨0x04, 0, 0⟩) ∧
  (Traps .sySrd 0x1E6 [] (fun a => supReg a.word.toNat = true ∧ a.st.ctx.priv = true ∧
    ∃ k, a.st.curTask = some k ∧ k.fn ≠ 0) fun _ => ⟨0x04, 0, 0⟩) ∧
  (Traps .sySwr 0x1E7 [.sysri] (fun a => supReg (a.op .sysri).toNat = true ∧ a.st.ctx.priv = true ∧
    ∃ k, a.st.curTask = some k ∧ k.fn ≠ 0) fun _ => ⟨0x04, 0, 0⟩) ∧
  (Traps .sySrd 0x1E6 [] (fun a => assignedReg a.word.toNat = false) fun _ => ⟨0x07, 0, 0⟩) ∧
  (∀ f ∈ aluForms, ∀ s g src v s1 ops s2, s.openGroup.takes g = true → legalMove src.kind .s = true →
    s.openGroup.srcFaults src = [] → s.openGroup.readSrc src = some (v, s1) → legalMove (kindOf v) .s = true →
    s1.takeLatches f.2.2 = (ops, s2) → ops.any (fun x => x.2.isNone) = true → ops.any latchMismatch = false →
    exec (f.1 g src) s = .next (s.openGroup.takeFault ⟨0x10, 0, 0⟩ false))

/-- The clock of a die (R17, R18): TICK counts every cycle, SCY the cycles in which the die is not frozen, so that their difference
counts the frozen cycles; a frozen cycle pays one cycle of debt, and no context issues in it. -/
def Obligations.ClocksCountUnfrozenCycles : Prop :=
  (∀ (d : Die) hold, (d.clock true hold).tick = d.tick + 1 ∧ (d.clock true hold).scy = d.scy ∧
    (d.clock true hold).debt = d.debt - 1 ∧
    (d.clock true hold).tick - (d.clock true hold).scy = d.tick - d.scy + 1) ∧
  (∀ (d : Die) hold, (d.clock false hold).tick = d.tick + 1 ∧ (d.clock false hold).scy = d.scy + 1 ∧
    (d.clock false hold).debt = d.debt ∧
    (d.clock false hold).tick - (d.clock false hold).scy = d.tick - d.scy) ∧
  (∀ (s : State), s.clocked = true → s.ctx.grp = none → s.agenda = [] → s.due = none → s.cycleStart.die.frozen = true →
    step s = .next (s.cycleStart.endCycle true false))

/-- Frame of the scalar forms of ia0, ia1 and im inside a group (R293, R313, R315): only operations in flight, the latches they name and
the queue ports that they or their latches' later writes read change; every other register and every byte of memory stays. -/
def Obligations.ScalarFormsFrame : Prop :=
  ∀ f ∈ aluForms, ∀ s g src a t, Reads s.openGroup g src f.2.1 f.2.2 a → NoStreams s.openGroup f.2.2 → MoreSlots s.openGroup →
    exec (f.1 g src) s = .next t →
    t = s.onCtx (fun c => { c with grp := t.ctx.grp, pend := t.ctx.pend, latches := t.ctx.latches, lsq := t.ctx.lsq,
                                   syq := t.ctx.syq, fxq := t.ctx.fxq, fxst := t.ctx.fxst }) ∧
    (∀ l, l ∉ f.2.2 → t.ctx.latch l = s.ctx.latch l) ∧ OtherPorts s t (Names s.openGroup src f.2.2) ∧ SameMemory s t

/-- Frame of plain moves inside a group (R293, R297): only the destination, the queue port read and the group change; a mask
register's trace record and a stream's packet are no register and no memory. A move that reads a stream takes a row from its buffer and
sends a credit (R397). -/
def Obligations.PlainMovesFrame : Prop :=
  (∀ s g h n dst t v s1, s.openGroup.takes g = true → legalMove (Src.stream n).kind dst.kind = true → holdLegal h dst = true →
    s.openGroup.srcFaults (.stream n) = [] → s.openGroup.readSrc (.stream n) = some (v, s1) →
    legalMove (kindOf v) dst.kind = true → s1.dstFaults dst v = [] → s1.dstWaits dst = false → MoreSlots s.openGroup →
    exec (.move g h (.stream n) dst) s = .next t →
    t = { s.onDie (fun d => { d with streams := t.die.streams, wall := { d.wall with t := t.die.wall.t } }) with
          links := { s.links with inbox := t.links.inbox, outbox := t.links.outbox } }.onCtx (fun c =>
        { c with grp := t.ctx.grp, w := t.ctx.w, latches := t.ctx.latches }) ∧
    (∀ m : BitVec 4, m ≠ n → dst ≠ .stream m →
      t.die.streams.get ⟨m.toNat, m.isLt⟩ = s.die.streams.get ⟨m.toNat, m.isLt⟩) ∧
    (∀ i : BitVec 2, dst ≠ .w i → t.ctx.w.get ⟨i.toNat, i.isLt⟩ = s.ctx.w.get ⟨i.toNat, i.isLt⟩) ∧
    (∀ l, dst ≠ .latch l → t.ctx.latch l = s.ctx.latch l) ∧
    (∀ i : Fin 32, (∀ r, dst = .t r → i.val ≠ s.ctx.physT r) → t.die.wall.t.get i = s.die.wall.t.get i) ∧ SameMemory s t) ∧
  (∀ s g h src dst t v s1, s.openGroup.takes g = true → legalMove src.kind dst.kind = true → holdLegal h dst = true →
    s.openGroup.srcFaults src = [] → s.openGroup.readSrc src = some (v, s1) →
    fits src v dst.kind = true → s1.dstFaults dst v = [] → s1.dstWaits dst = false → (∀ n, src ≠ .stream n) →
    MoreSlots s.openGroup →
    exec (.move g h src dst) s = .next t →
    OtherPorts s t (fun p => src = .queue p) ∧
    (match dst with
     | .s r => t = s.onCtx (fun c => { c with grp := t.ctx.grp, s := t.ctx.s, lsq := t.ctx.lsq, syq := t.ctx.syq,
                                              fxq := t.ctx.fxq, fxst := t.ctx.fxst }) ∧
         (∀ q, s.ctx.physS q ≠ s.ctx.physS r → t.ctx.readS q = s.ctx.readS q) ∧ SameMemory s t
     | .c i => t = s.onCtx (fun c => { c with grp := t.ctx.grp, c := t.ctx.c, lsq := t.ctx.lsq, syq := t.ctx.syq,
                                              fxq := t.ctx.fxq, fxst := t.ctx.fxst }) ∧
         (∀ j, j ≠ i → t.ctx.readC j = s.ctx.readC j) ∧ SameMemory s t
     | .w i => t = s.onCtx (fun c => { c with grp := t.ctx.grp, w := t.ctx.w, lsq := t.ctx.lsq, syq := t.ctx.syq,
                                              fxq := t.ctx.fxq, fxst := t.ctx.fxst }) ∧
         (∀ j : Fin 4, j.val ≠ i.toNat → t.ctx.w.get j = s.ctx.w.get j) ∧ SameMemory s t
     | .latch l => t = s.onCtx (fun c => { c with grp := t.ctx.grp, latches := t.ctx.latches, lsq := t.ctx.lsq,
                                                  syq := t.ctx.syq, fxq := t.ctx.fxq, fxst := t.ctx.fxst }) ∧
         (∀ k, k ≠ l → t.ctx.latch k = s.ctx.latch k) ∧ SameMemory s t
     | .vxm => t = s.onCtx (fun c => { c with grp := t.ctx.grp, pend := t.ctx.pend, lsq := t.ctx.lsq, syq := t.ctx.syq,
                                              fxq := t.ctx.fxq, fxst := t.ctx.fxst }) ∧ SameMemory s t
     | .vxrm => t = s.onCtx (fun c => { c with grp := t.ctx.grp, pend := t.ctx.pend, lsq := t.ctx.lsq, syq := t.ctx.syq,
                                               fxq := t.ctx.fxq, fxst := t.ctx.fxst }) ∧ SameMemory s t
     | .t r => t = (s.onCtx fun c => { c with grp := t.ctx.grp, lsq := t.ctx.lsq, syq := t.ctx.syq, fxq := t.ctx.fxq,
                                              fxst := t.ctx.fxst }).onDie (fun d =>
           { d with wall := { d.wall with t := t.die.wall.t } }) ∧
         (∀ i : Fin 32, i.val ≠ s.ctx.physT r → t.die.wall.t.get i = s.die.wall.t.get i) ∧ SameMemory s t
     | .m i => t.ctx = { s.ctx with grp := t.ctx.grp, lsq := t.ctx.lsq, syq := t.ctx.syq, fxq := t.ctx.fxq, fxst := t.ctx.fxst } ∧
         t.die.wall = { s.die.wall with m := t.die.wall.m } ∧
         (∀ j, j ≠ i → t.die.wall.readM j = s.die.wall.readM j) ∧ SameMemory s t
     | .stream _ => t.ctx = { s.ctx with grp := t.ctx.grp, lsq := t.ctx.lsq, syq := t.ctx.syq, fxq := t.ctx.fxq,
                                         fxst := t.ctx.fxst } ∧ t.die.wall = s.die.wall ∧ SameMemory s t))

/-- Frame of the loads inside a group (R322, R323): registers and every byte of memory stay; a place on ls.q and an entry are taken. -/
def Obligations.LoadsFrame : Prop :=
  ∀ f ∈ loadForms, ∀ s g src a t, Reads s.openGroup g src f.2.1 [] a → MoreSlots s.openGroup →
    a.st.accessFaults a.word f.2.2 (f.2.2 == 256) = [] → a.st.ctx.placesFull .lsq = false → a.st.ctx.queueFull .load = false →
    exec (f.1 g src) s = .next t →
    t.ctx = { s.ctx with grp := t.ctx.grp, entries := t.ctx.entries, seq := t.ctx.seq, lsq := t.ctx.lsq, syq := t.ctx.syq,
                         fxq := t.ctx.fxq, fxst := t.ctx.fxst } ∧
    (∀ p, p ≠ .lsq → src ≠ .queue p → t.ctx.results p = s.ctx.results p) ∧
    (∀ d, (t.dieAt d).wall = (s.dieAt d).wall) ∧ SameMemory s t

/-- A timed store (R182): it writes nothing at its count n and starts a store of exactly the bytes of its value, of its row with the side
lane, or of those that the mask in ls.m names, at the address in ls.a, which takes effect at n + 4; then every other byte of the
scratchpad and of its side lanes reads as before. A mask of 0 in every byte stores nothing (Table 11.7). -/
def Obligations.TimedStoresWriteTheirBytes : Prop :=
  (∀ f ∈ storeForms, ∀ s g src a x, Reads s.openGroup g src f.2.1 [.lsa] a →
    a.st.storeFaults (a.op .lsa) (widBytes f.2.2) false = [] → a.st.timedStore (a.op .lsa) = true →
    spaceOf (a.op .lsa) = .scratch x →
    exec (f.1 g src) s = .next (((a.st.traceMem (a.op .lsa) (widBytes f.2.2) 1).after 4
      (.store (storeBytes x (leBytes (widBytes f.2.2) a.word.toNat) fun _ => true) [])).finishSlot)) ∧
  (∀ s g src a x, Reads s.openGroup g src 0x09D [.lsa] a → a.st.storeFaults (a.op .lsa) 256 true = [] →
    a.st.timedStore (a.op .lsa) = true → spaceOf (a.op .lsa) = .scratch x →
    exec (.lsStrow g src) s = .next (((a.st.traceMem (a.op .lsa) 256 1).after 4
      (.store (storeBytes x (rowBytes (valRow a.v)) fun _ => true) (sideBytes x (rowSide (valRow a.v)) fun _ => true))).finishSlot)) ∧
  (∀ s g src a x, Reads s.openGroup g src 0x09E [.lsa, .lsm] a → rowEmpty a.maskRow = false →
    a.st.storeFaults (a.op .lsa) 256 true = [] → a.st.timedStore (a.op .lsa) = true → spaceOf (a.op .lsa) = .scratch x →
    exec (.lsStrowm g src) s = .next (((a.st.traceMem (a.op .lsa) 256 1).after 4
      (.store (storeBytes x (rowBytes (valRow a.v)) (byteSet a.maskRow.data.toNat))
        (sideBytes x (rowSide (valRow a.v)) (byteSet a.maskRow.side.toNat)))).finishSlot)) ∧
  (∀ s g src a, Reads s.openGroup g src 0x09E [.lsa, .lsm] a → rowEmpty a.maskRow = true →
    exec (.lsStrowm g src) s = .next a.st.finishSlot) ∧
  (∀ (d : Die) c x bs side keep keepSide a,
    let y := (d.applyEffect c (.store (storeBytes x bs keep) (sideBytes x side keepSide))).1
    y.sp.read a = (if spOff x ≤ a ∧ a < spOff x + bs.length ∧ keep (a - spOff x) = true then bs.getD (a - spOff x) 0
      else d.sp.read a) ∧
    y.spSide.read a = (if 32 * spUnit x ≤ a ∧ a < 32 * spUnit x + side.length ∧ keepSide (a - 32 * spUnit x) = true then
        side.getD (a - 32 * spUnit x) 0
      else d.spSide.read a) ∧ y.pstore = d.pstore)
end

