-- ==== Sys2Proof/Laws/Decode.lean ====
section
/-! SUPPORT. The fields of a move word, and the port numbers of sources and destinations, read back what was written. -/

namespace Sys2Proof

/-- The fields of a word are those that it was packed from (Table 12.2). -/
theorem moveFields_packFields (f : MoveFields) : moveFields (packFields f) = f := by
  obtain ⟨⟨i, c⟩, h, m, s, d⟩ := f
  have hs := s.isLt
  have hd := d.isLt
  have hc := c.isLt
  have bt : ∀ (b : Bool) (n : Nat), n % 2 = b.toNat → decide (n % 2 = 1) = b := by
    intro b n hn; cases b <;> simp at hn <;> simp [hn]
  have hi := i.toNat_le
  have hh := h.toNat_le
  have hm := m.toNat_le
  have e : (packFields ⟨⟨i, c⟩, h, m, s, d⟩).toNat =
      d.toNat + 2 ^ 9 * (s.toNat + 2 ^ 9 * (m.toNat + 2 * (h.toNat + 2 * (c.toNat + 8 * i.toNat)))) := by
    simp only [packFields, BitVec.toNat_ofNat]
    apply Nat.mod_eq_of_lt
    omega
  simp only [moveFields, e]
  congr 1
  · congr 1
    · exact bt _ _ (by omega)
    · apply BitVec.eq_of_toNat_eq
      simp only [BitVec.toNat_ofNat]
      omega
  · exact bt _ _ (by omega)
  · exact bt _ _ (by omega)
  · apply BitVec.eq_of_toNat_eq
    simp only [BitVec.toNat_ofNat]
    omega
  · apply BitVec.eq_of_toNat_eq
    simp only [BitVec.toNat_ofNat]
    omega

/-- A word is packed from its fields (Table 12.2). -/
theorem packFields_moveFields (w : BitVec 24) : packFields (moveFields w) = w := by
  have hw := w.isLt
  apply BitVec.eq_of_toNat_eq
  have hb : ∀ n : Nat, (decide (n % 2 = 1)).toNat = n % 2 := by
    intro n; rcases Nat.mod_two_eq_zero_or_one n with h | h <;> simp [h]
  simp only [packFields, moveFields, BitVec.toNat_ofNat, hb]
  omega

/-- The fields of the word of a move. -/
@[simp] theorem moveFields_packMove (g : Guard) (h : Bool) (src : Src) (p : BitVec 9) :
    moveFields (packMove g h src p) = ⟨g, h, src.isImm, src.code, p⟩ := moveFields_packFields _

/-- A source is read back from its L bit and port number (Table 12.4). -/
@[simp] theorem decodeSrc_code (x : Src) : decodeSrc x.isImm x.code = some x := by
  cases x with
  | imm v => rfl
  | s r => revert r; decide
  | t r => revert r; decide
  | lat p => cases p <;> rfl
  | queue p => cases p <;> rfl
  | stream n => revert n; decide
  | c i => revert i; decide
  | m i => revert i; decide
  | w i => revert i; decide
  | rdtick => rfl
  | lit => rfl

/-- A destination is read back from its port number (Tables 12.5 to 12.11). -/
@[simp] theorem decodeDst_code (x : Dst) : decodeDst x.code = some x := by
  cases x with
  | s r => revert r; decide
  | t r => revert r; decide
  | latch l => cases l <;> rfl
  | vxm => rfl
  | vxrm => rfl
  | stream n => revert n; decide
  | c i => revert i; decide
  | m i => revert i; decide
  | w i => revert i; decide

/-- The source of a port number, when there is one, has that number. -/
theorem code_decodeSrc (l : Bool) (p : BitVec 9) (x : Src) (h : decodeSrc l p = some x) : x.isImm = l ∧ x.code = p := by
  cases l with
  | true => simp [decodeSrc] at h; subst h; exact ⟨rfl, rfl⟩
  | false =>
    have key : ∀ p : BitVec 9, (match decodeSrc false p with
        | some y => decide (y.isImm = false ∧ y.code = p)
        | none => true) = true := by decide +kernel
    have hp := key p
    rw [h] at hp
    simpa using hp

/-- The destination of a port number, when there is one, has that number. -/
theorem code_decodeDst (p : BitVec 9) (x : Dst) (h : decodeDst p = some x) : x.code = p := by
  have key : ∀ p : BitVec 9, (match decodeDst p with | some y => decide (y.code = p) | none => true) = true := by
    decide +kernel
  have hp := key p
  rw [h] at hp
  simpa using hp

end Sys2Proof
end

