-- ==== Sys2Proof/Laws/Exec.lean ====
section
/-! SUPPORT. The parts and the meaning of each instruction as equations, so that no proof unfolds the two large matches. -/

namespace Sys2Proof

/-! ### Parts -/

@[simp] theorem Instr.parts_perstRelease : (Instr.perstRelease).parts = .event := rfl
@[simp] theorem Instr.parts_stageA : (Instr.stageA).parts = .event := rfl
@[simp] theorem Instr.parts_stageB : (Instr.stageB).parts = .event := rfl
@[simp] theorem Instr.parts_stageC : (Instr.stageC).parts = .event := rfl
@[simp] theorem Instr.parts_stageD (strap0 : Bool) (strap2 : Bool) : (Instr.stageD strap0 strap2).parts = .event := rfl
@[simp] theorem Instr.parts_stageE : (Instr.stageE).parts = .event := rfl
@[simp] theorem Instr.parts_stageFailure (code : BitVec 8) : (Instr.stageFailure code).parts = .event := rfl
@[simp] theorem Instr.parts_pfReset : (Instr.pfReset).parts = .event := rfl
@[simp] theorem Instr.parts_functionLevelReset (fn : BitVec 6) : (Instr.functionLevelReset fn).parts = .event := rfl
@[simp] theorem Instr.parts_thermalPowerOff : (Instr.thermalPowerOff).parts = .event := rfl
@[simp] theorem Instr.parts_clockMachineCheck (d : DieId) : (Instr.clockMachineCheck d).parts = .event := rfl
@[simp] theorem Instr.parts_controlParity (d : DieId) (c : CtxId) : (Instr.controlParity d c).parts = .event := rfl
@[simp] theorem Instr.parts_farLaneFrame (d : DieId) (l : BitVec 4) (fixed : Nat) (bad : Bool) : (Instr.farLaneFrame d l fixed bad).parts = .event := rfl
@[simp] theorem Instr.parts_farPathLost (b : Bool) : (Instr.farPathLost b).parts = .event := rfl
@[simp] theorem Instr.parts_countMessageSend (d : DieId) : (Instr.countMessageSend d).parts = .event := rfl
@[simp] theorem Instr.parts_countMessage (d : DieId) (crc : Bool) : (Instr.countMessage d crc).parts = .event := rfl
@[simp] theorem Instr.parts_countMessagesMissing (d : DieId) (o : DieId) : (Instr.countMessagesMissing d o).parts = .event := rfl
@[simp] theorem Instr.parts_freezeEventMessage (d : DieId) (crc : Bool) : (Instr.freezeEventMessage d crc).parts = .event := rfl
@[simp] theorem Instr.parts_stopEventMessage (d : DieId) (crc : Bool) : (Instr.stopEventMessage d crc).parts = .event := rfl
@[simp] theorem Instr.parts_freezeDebtPaid (d : DieId) : (Instr.freezeDebtPaid d).parts = .event := rfl
@[simp] theorem Instr.parts_scrubRead (d : DieId) (u : Nat) (new : List (Nat × Nat)) : (Instr.scrubRead d u new).parts = .event := rfl
@[simp] theorem Instr.parts_lossOfLight (p : Fin 12) (l : Light) : (Instr.lossOfLight p l).parts = .event := rfl
@[simp] theorem Instr.parts_spareLaserLock (p : Fin 12) : (Instr.spareLaserLock p).parts = .event := rfl
@[simp] theorem Instr.parts_spareWavelengthLock (p : Fin 12) : (Instr.spareWavelengthLock p).parts = .event := rfl
@[simp] theorem Instr.parts_dataFlit (p : Fin 12) (peer : BitVec 7) (h : BitVec 128) (data : BitVec 2048) (crc : BitVec 64) (tag : BitVec 64) : (Instr.dataFlit p peer h data crc tag).parts = .event := rfl
@[simp] theorem Instr.parts_idleFlit (p : Fin 12) (lack : BitVec 16) : (Instr.idleFlit p lack).parts = .event := rfl
@[simp] theorem Instr.parts_acknowledgement (p : Fin 12) (lack : BitVec 16) : (Instr.acknowledgement p lack).parts = .event := rfl
@[simp] theorem Instr.parts_restripeMarker (p : Fin 12) (mask : BitVec 16) : (Instr.restripeMarker p mask).parts = .event := rfl
@[simp] theorem Instr.parts_creditReturn (p : Fin 12) (vc : BitVec 3) (n : Nat) : (Instr.creditReturn p vc n).parts = .event := rfl
@[simp] theorem Instr.parts_drainMarker (p : Fin 12) : (Instr.drainMarker p).parts = .event := rfl
@[simp] theorem Instr.parts_replayRequest (p : Fin 12) (lack : BitVec 16) : (Instr.replayRequest p lack).parts = .event := rfl
@[simp] theorem Instr.parts_replayTimeout (p : Fin 12) : (Instr.replayTimeout p).parts = .event := rfl
@[simp] theorem Instr.parts_replayRequestRepeat (p : Fin 12) : (Instr.replayRequestRepeat p).parts = .event := rfl
@[simp] theorem Instr.parts_acknowledgementTimer (p : Fin 12) : (Instr.acknowledgementTimer p).parts = .event := rfl
@[simp] theorem Instr.parts_planeDrain (k : Fin 4) : (Instr.planeDrain k).parts = .event := rfl
@[simp] theorem Instr.parts_planeDrainForce (k : Fin 4) : (Instr.planeDrainForce k).parts = .event := rfl
@[simp] theorem Instr.parts_planeEnable (k : Fin 4) : (Instr.planeEnable k).parts = .event := rfl
@[simp] theorem Instr.parts_planeEnableCommit (k : Fin 4) : (Instr.planeEnableCommit k).parts = .event := rfl
@[simp] theorem Instr.parts_planeDrained (k : Fin 4) : (Instr.planeDrained k).parts = .event := rfl
@[simp] theorem Instr.parts_planeEnabled (k : Fin 4) : (Instr.planeEnabled k).parts = .event := rfl
@[simp] theorem Instr.parts_membersetWrite (v : Word) : (Instr.membersetWrite v).parts = .event := rfl
@[simp] theorem Instr.parts_readRequest (p : Nat) (k : List Nat) : (Instr.readRequest p k).parts = .event := rfl
@[simp] theorem Instr.parts_readResponse (p : Nat) : (Instr.readResponse p).parts = .event := rfl
@[simp] theorem Instr.parts_writeRequest (p : Nat) (k : List Nat) : (Instr.writeRequest p k).parts = .event := rfl
@[simp] theorem Instr.parts_flagRequest (p : Nat) : (Instr.flagRequest p).parts = .event := rfl
@[simp] theorem Instr.parts_writeAndFlagResponse (p : Nat) : (Instr.writeAndFlagResponse p).parts = .event := rfl
@[simp] theorem Instr.parts_atomicRequest (p : Nat) : (Instr.atomicRequest p).parts = .event := rfl
@[simp] theorem Instr.parts_atomicResponse (p : Nat) : (Instr.atomicResponse p).parts = .event := rfl
@[simp] theorem Instr.parts_orderedAtomicRequest (p : Nat) : (Instr.orderedAtomicRequest p).parts = .event := rfl
@[simp] theorem Instr.parts_orderedFetchedValueWrite (p : Nat) : (Instr.orderedFetchedValueWrite p).parts = .event := rfl
@[simp] theorem Instr.parts_orderedAtomicStatus (p : Nat) : (Instr.orderedAtomicStatus p).parts = .event := rfl
@[simp] theorem Instr.parts_threePartyRequest (p : Nat) (k : List Nat) : (Instr.threePartyRequest p k).parts = .event := rfl
@[simp] theorem Instr.parts_delivery (p : Nat) (k : List Nat) : (Instr.delivery p k).parts = .event := rfl
@[simp] theorem Instr.parts_threePartyStatus (p : Nat) : (Instr.threePartyStatus p).parts = .event := rfl
@[simp] theorem Instr.parts_reductionRead (p : Nat) (k : List Nat) : (Instr.reductionRead p k).parts = .event := rfl
@[simp] theorem Instr.parts_reductionValue (p : Nat) : (Instr.reductionValue p).parts = .event := rfl
@[simp] theorem Instr.parts_superstepArrive (p : Nat) : (Instr.superstepArrive p).parts = .event := rfl
@[simp] theorem Instr.parts_superstepReady (p : Nat) : (Instr.superstepReady p).parts = .event := rfl
@[simp] theorem Instr.parts_superstepAbort (p : Nat) : (Instr.superstepAbort p).parts = .event := rfl
@[simp] theorem Instr.parts_superstepDone (p : Nat) : (Instr.superstepDone p).parts = .event := rfl
@[simp] theorem Instr.parts_superstepTimeout (k : Nat) : (Instr.superstepTimeout k).parts = .event := rfl
@[simp] theorem Instr.parts_streamRow (p : Nat) : (Instr.streamRow p).parts = .event := rfl
@[simp] theorem Instr.parts_streamCredit (p : Nat) : (Instr.streamCredit p).parts = .event := rfl
@[simp] theorem Instr.parts_fabricTimeout (k : Nat) : (Instr.fabricTimeout k).parts = .event := rfl
@[simp] theorem Instr.parts_streamtimeout (d : DieId) (c : CtxId) : (Instr.streamtimeout d c).parts = .event := rfl
@[simp] theorem Instr.parts_stageWrite (fn : BitVec 6) (q : BitVec 10) (off : Nat) (bs : List Byte) : (Instr.stageWrite fn q off bs).parts = .event := rfl
@[simp] theorem Instr.parts_recordSubmit (fn : BitVec 6) (q : BitVec 10) (off : Nat) (bs : List Byte) : (Instr.recordSubmit fn q off bs).parts = .event := rfl
@[simp] theorem Instr.parts_flush (fn : BitVec 6) (q : BitVec 10) : (Instr.flush fn q).parts = .event := rfl
@[simp] theorem Instr.parts_qcfgWrite (fn : BitVec 6) (q : BitVec 10) (v : Word) : (Instr.qcfgWrite fn q v).parts = .event := rfl
@[simp] theorem Instr.parts_dmwinWrite (v : Word) : (Instr.dmwinWrite v).parts = .event := rfl
@[simp] theorem Instr.parts_bar4Read (off : Nat) (n : Nat) : (Instr.bar4Read off n).parts = .event := rfl
@[simp] theorem Instr.parts_bar4Write (off : Nat) (bs : List Byte) : (Instr.bar4Write off bs).parts = .event := rfl
@[simp] theorem Instr.parts_pwrlimWrite (v : Word) : (Instr.pwrlimWrite v).parts = .event := rfl
@[simp] theorem Instr.parts_lowpwrWrite (v : Word) : (Instr.lowpwrWrite v).parts = .event := rfl
@[simp] theorem Instr.parts_wake : (Instr.wake).parts = .event := rfl
@[simp] theorem Instr.parts_wakeHoldEnd : (Instr.wakeHoldEnd).parts = .event := rfl
@[simp] theorem Instr.parts_registerWrite (r : RegWrite) : (Instr.registerWrite r).parts = .event := rfl
@[simp] theorem Instr.parts_getVersion (fn : BitVec 6) : (Instr.getVersion fn).parts = .event := rfl
@[simp] theorem Instr.parts_getCapabilities (fn : BitVec 6) : (Instr.getCapabilities fn).parts = .event := rfl
@[simp] theorem Instr.parts_negotiateAlgorithms (fn : BitVec 6) (offered : List SpdmAlg) : (Instr.negotiateAlgorithms fn offered).parts = .event := rfl
@[simp] theorem Instr.parts_getDigests (fn : BitVec 6) : (Instr.getDigests fn).parts = .event := rfl
@[simp] theorem Instr.parts_getCertificate (fn : BitVec 6) (off : Nat) (len : Nat) : (Instr.getCertificate fn off len).parts = .event := rfl
@[simp] theorem Instr.parts_challenge (fn : BitVec 6) (nonce : List Byte) : (Instr.challenge fn nonce).parts = .event := rfl
@[simp] theorem Instr.parts_getMeasurements (fn : BitVec 6) (index : Nat) (sign : Bool) (nonce : List Byte) : (Instr.getMeasurements fn index sign nonce).parts = .event := rfl
@[simp] theorem Instr.parts_keyExchange (fn : BitVec 6) (req : List Byte) : (Instr.keyExchange fn req).parts = .event := rfl
@[simp] theorem Instr.parts_finish (fn : BitVec 6) (good : Bool) : (Instr.finish fn good).parts = .event := rfl
@[simp] theorem Instr.parts_heartbeat (fn : BitVec 6) : (Instr.heartbeat fn).parts = .event := rfl
@[simp] theorem Instr.parts_heartbeatFailure (fn : BitVec 6) : (Instr.heartbeatFailure fn).parts = .event := rfl
@[simp] theorem Instr.parts_keyUpdate (fn : BitVec 6) : (Instr.keyUpdate fn).parts = .event := rfl
@[simp] theorem Instr.parts_endSession (fn : BitVec 6) : (Instr.endSession fn).parts = .event := rfl
@[simp] theorem Instr.parts_ideKeyManagement (fn : BitVec 6) (stream : BitVec 3) : (Instr.ideKeyManagement fn stream).parts = .event := rfl
@[simp] theorem Instr.parts_ideStreamInsecure (fn : BitVec 6) (stream : BitVec 3) : (Instr.ideStreamInsecure fn stream).parts = .event := rfl
@[simp] theorem Instr.parts_lockInterface (fn : BitVec 6) : (Instr.lockInterface fn).parts = .event := rfl
@[simp] theorem Instr.parts_startInterface (fn : BitVec 6) : (Instr.startInterface fn).parts = .event := rfl
@[simp] theorem Instr.parts_stopInterface (fn : BitVec 6) : (Instr.stopInterface fn).parts = .event := rfl
@[simp] theorem Instr.parts_loadObject (fn : BitVec 6) (secured : Bool) (req : List Byte) : (Instr.loadObject fn secured req).parts = .event := rfl
@[simp] theorem Instr.parts_unloadObject (fn : BitVec 6) (secured : Bool) (handle : BitVec 32) : (Instr.unloadObject fn secured handle).parts = .event := rfl
@[simp] theorem Instr.parts_attestationLogRead (fn : BitVec 6) : (Instr.attestationLogRead fn).parts = .event := rfl
@[simp] theorem Instr.parts_dispatchPass : (Instr.dispatchPass).parts = .event := rfl
@[simp] theorem Instr.parts_sealedTransferIn (lid : BitVec 32) : (Instr.sealedTransferIn lid).parts = .event := rfl
@[simp] theorem Instr.parts_sealedTransferOut (lid : BitVec 32) : (Instr.sealedTransferOut lid).parts = .event := rfl
@[simp] theorem Instr.parts_foldStart (d : DieId) : (Instr.foldStart d).parts = .event := rfl
@[simp] theorem Instr.parts_agreedCount (lid : BitVec 32) (d : DieId) : (Instr.agreedCount lid d).parts = .event := rfl
@[simp] theorem Instr.parts_noPreemptOverrun (lid : BitVec 32) (d : DieId) : (Instr.noPreemptOverrun lid d).parts = .event := rfl
@[simp] theorem Instr.parts_save (lid : BitVec 32) : (Instr.save lid).parts = .event := rfl
@[simp] theorem Instr.parts_budgetExpiry (lid : BitVec 32) : (Instr.budgetExpiry lid).parts = .event := rfl
@[simp] theorem Instr.parts_governorSettlement (r : Readings) : (Instr.governorSettlement r).parts = .event := rfl
@[simp] theorem Instr.parts_freezeDebtRaise (d : DieId) : (Instr.freezeDebtRaise d).parts = .event := rfl
@[simp] theorem Instr.parts_freeContextSwitch (d : DieId) : (Instr.freeContextSwitch d).parts = .event := rfl
@[simp] theorem Instr.parts_contextRetire (d : DieId) (c : CtxId) : (Instr.contextRetire d c).parts = .event := rfl
@[simp] theorem Instr.parts_alignRelease (d : DieId) : (Instr.alignRelease d).parts = .event := rfl
@[simp] theorem Instr.parts_alignmentTimeout (d : DieId) : (Instr.alignmentTimeout d).parts = .event := rfl
@[simp] theorem Instr.parts_stopctlResume (d : DieId) (c : CtxId) : (Instr.stopctlResume d c).parts = .event := rfl
@[simp] theorem Instr.parts_stopctlEnd (d : DieId) (c : CtxId) : (Instr.stopctlEnd d c).parts = .event := rfl
@[simp] theorem Instr.parts_queueEntryPerformed (d : DieId) (c : CtxId) (seq : Nat) (off : Nat) : (Instr.queueEntryPerformed d c seq off).parts = .event := rfl
@[simp] theorem Instr.parts_fillStart (d : DieId) (k : Nat) (rows : List Nat) : (Instr.fillStart d k rows).parts = .event := rfl
@[simp] theorem Instr.parts_fillCompletion (d : DieId) (k : Nat) : (Instr.fillCompletion d k).parts = .event := rfl
@[simp] theorem Instr.parts_tableLoadComplete (d : DieId) : (Instr.tableLoadComplete d).parts = .event := rfl
@[simp] theorem Instr.parts_solveComplete (d : DieId) : (Instr.solveComplete d).parts = .event := rfl
@[simp] theorem Instr.parts_pinComplete (d : DieId) : (Instr.pinComplete d).parts = .event := rfl
@[simp] theorem Instr.parts_copyComplete (d : DieId) (ch : Fin 16) (blocks : List Nat) : (Instr.copyComplete d ch blocks).parts = .event := rfl
@[simp] theorem Instr.parts_copyFailure (d : DieId) (ch : Fin 16) : (Instr.copyFailure d ch).parts = .event := rfl
@[simp] theorem Instr.parts_copyErrClear (d : DieId) (c : CtxId) (seq : Nat) : (Instr.copyErrClear d c seq).parts = .event := rfl
@[simp] theorem Instr.parts_invalWrite (r : RegWrite) : (Instr.invalWrite r).parts = .event := rfl
@[simp] theorem Instr.parts_slotmapWrite (r : RegWrite) : (Instr.slotmapWrite r).parts = .event := rfl
@[simp] theorem Instr.parts_polgenWrite (d : DieId) (c : CtxId) (seq : Nat) : (Instr.polgenWrite d c seq).parts = .event := rfl
@[simp] theorem Instr.parts_rmodeWrite (d : DieId) (c : CtxId) : (Instr.rmodeWrite d c).parts = .event := rfl
@[simp] theorem Instr.parts_windowDescriptorWrite (d : DieId) (c : CtxId) (seq : Nat) : (Instr.windowDescriptorWrite d c seq).parts = .event := rfl
@[simp] theorem Instr.parts_streamcfgWrite (d : DieId) (c : CtxId) (seq : Nat) : (Instr.streamcfgWrite d c seq).parts = .event := rfl
@[simp] theorem Instr.parts_obspost (n : Nat) : (Instr.obspost n).parts = .event := rfl
@[simp] theorem Instr.parts_actpop (n : Nat) : (Instr.actpop n).parts = .event := rfl
@[simp] theorem Instr.parts_wfi (n : Nat) : (Instr.wfi n).parts = .event := rfl
@[simp] theorem Instr.parts_wfiWake (n : Nat) : (Instr.wfiWake n).parts = .event := rfl
@[simp] theorem Instr.parts_copyOnWrite (n : Nat) (page : Nat) : (Instr.copyOnWrite n page).parts = .event := rfl
@[simp] theorem Instr.parts_penAccessFault (n : Nat) : (Instr.penAccessFault n).parts = .event := rfl
@[simp] theorem Instr.parts_stepBudget (n : Nat) : (Instr.stepBudget n).parts = .event := rfl
@[simp] theorem Instr.parts_episodeBudget (n : Nat) : (Instr.episodeBudget n).parts = .event := rfl
@[simp] theorem Instr.parts_wallBackstop (n : Nat) : (Instr.wallBackstop n).parts = .event := rfl
@[simp] theorem Instr.parts_paddockHardwareError (n : Nat) : (Instr.paddockHardwareError n).parts = .event := rfl
@[simp] theorem Instr.parts_penCreate (d : DieId) (c : CtxId) (seq : Nat) : (Instr.penCreate d c seq).parts = .event := rfl
@[simp] theorem Instr.parts_penReset (d : DieId) (c : CtxId) (seq : Nat) : (Instr.penReset d c seq).parts = .event := rfl
@[simp] theorem Instr.parts_penHalt (d : DieId) (c : CtxId) (seq : Nat) : (Instr.penHalt d c seq).parts = .event := rfl
@[simp] theorem Instr.parts_penSnap (d : DieId) (c : CtxId) (seq : Nat) : (Instr.penSnap d c seq).parts = .event := rfl
@[simp] theorem Instr.parts_penReadrec (d : DieId) (c : CtxId) (seq : Nat) : (Instr.penReadrec d c seq).parts = .event := rfl
@[simp] theorem Instr.parts_penDestroy (d : DieId) (c : CtxId) (seq : Nat) : (Instr.penDestroy d c seq).parts = .event := rfl
@[simp] theorem Instr.parts_sbiGetSpecVersion (n : Nat) : (Instr.sbiGetSpecVersion n).parts = .event := rfl
@[simp] theorem Instr.parts_sbiGetImplId (n : Nat) : (Instr.sbiGetImplId n).parts = .event := rfl
@[simp] theorem Instr.parts_sbiGetImplVersion (n : Nat) : (Instr.sbiGetImplVersion n).parts = .event := rfl
@[simp] theorem Instr.parts_sbiProbeExtension (n : Nat) : (Instr.sbiProbeExtension n).parts = .event := rfl
@[simp] theorem Instr.parts_sbiGetMvendorid (n : Nat) : (Instr.sbiGetMvendorid n).parts = .event := rfl
@[simp] theorem Instr.parts_sbiGetMarchid (n : Nat) : (Instr.sbiGetMarchid n).parts = .event := rfl
@[simp] theorem Instr.parts_sbiGetMimpid (n : Nat) : (Instr.sbiGetMimpid n).parts = .event := rfl
@[simp] theorem Instr.parts_sbiNotSupported (n : Nat) : (Instr.sbiNotSupported n).parts = .event := rfl
@[simp] theorem Instr.parts_move (g : Guard) (h : Bool) (src : Src) (dst : Dst) : (Instr.move g h src dst).parts = .move g h src dst := rfl
@[simp] theorem Instr.parts_nop : (Instr.nop).parts = .nop := rfl
@[simp] theorem Instr.parts_ia0Add (g : Guard) (src : Src) : (Instr.ia0Add g src).parts = .trig g false src 0x048 := rfl
@[simp] theorem Instr.parts_ia0Sub (g : Guard) (src : Src) : (Instr.ia0Sub g src).parts = .trig g false src 0x049 := rfl
@[simp] theorem Instr.parts_ia0And (g : Guard) (src : Src) : (Instr.ia0And g src).parts = .trig g false src 0x04A := rfl
@[simp] theorem Instr.parts_ia0Or (g : Guard) (src : Src) : (Instr.ia0Or g src).parts = .trig g false src 0x04B := rfl
@[simp] theorem Instr.parts_ia0Xor (g : Guard) (src : Src) : (Instr.ia0Xor g src).parts = .trig g false src 0x04C := rfl
@[simp] theorem Instr.parts_ia0Andn (g : Guard) (src : Src) : (Instr.ia0Andn g src).parts = .trig g false src 0x04D := rfl
@[simp] theorem Instr.parts_ia0Orn (g : Guard) (src : Src) : (Instr.ia0Orn g src).parts = .trig g false src 0x04E := rfl
@[simp] theorem Instr.parts_ia0Shl (g : Guard) (src : Src) : (Instr.ia0Shl g src).parts = .trig g false src 0x04F := rfl
@[simp] theorem Instr.parts_ia0Shr (g : Guard) (src : Src) : (Instr.ia0Shr g src).parts = .trig g false src 0x050 := rfl
@[simp] theorem Instr.parts_ia0Sar (g : Guard) (src : Src) : (Instr.ia0Sar g src).parts = .trig g false src 0x051 := rfl
@[simp] theorem Instr.parts_ia0Rol (g : Guard) (src : Src) : (Instr.ia0Rol g src).parts = .trig g false src 0x052 := rfl
@[simp] theorem Instr.parts_ia0Ror (g : Guard) (src : Src) : (Instr.ia0Ror g src).parts = .trig g false src 0x053 := rfl
@[simp] theorem Instr.parts_ia0Min (g : Guard) (src : Src) : (Instr.ia0Min g src).parts = .trig g false src 0x054 := rfl
@[simp] theorem Instr.parts_ia0Max (g : Guard) (src : Src) : (Instr.ia0Max g src).parts = .trig g false src 0x055 := rfl
@[simp] theorem Instr.parts_ia0Minu (g : Guard) (src : Src) : (Instr.ia0Minu g src).parts = .trig g false src 0x056 := rfl
@[simp] theorem Instr.parts_ia0Maxu (g : Guard) (src : Src) : (Instr.ia0Maxu g src).parts = .trig g false src 0x057 := rfl
@[simp] theorem Instr.parts_ia0Clz (g : Guard) (src : Src) : (Instr.ia0Clz g src).parts = .trig g false src 0x058 := rfl
@[simp] theorem Instr.parts_ia0Ctz (g : Guard) (src : Src) : (Instr.ia0Ctz g src).parts = .trig g false src 0x059 := rfl
@[simp] theorem Instr.parts_ia0Popc (g : Guard) (src : Src) : (Instr.ia0Popc g src).parts = .trig g false src 0x05A := rfl
@[simp] theorem Instr.parts_ia0Sext8 (g : Guard) (src : Src) : (Instr.ia0Sext8 g src).parts = .trig g false src 0x05B := rfl
@[simp] theorem Instr.parts_ia0Sext16 (g : Guard) (src : Src) : (Instr.ia0Sext16 g src).parts = .trig g false src 0x05C := rfl
@[simp] theorem Instr.parts_ia0Sext32 (g : Guard) (src : Src) : (Instr.ia0Sext32 g src).parts = .trig g false src 0x05D := rfl
@[simp] theorem Instr.parts_ia0Zext32 (g : Guard) (src : Src) : (Instr.ia0Zext32 g src).parts = .trig g false src 0x05E := rfl
@[simp] theorem Instr.parts_ia0Bext (g : Guard) (src : Src) : (Instr.ia0Bext g src).parts = .trig g false src 0x05F := rfl
@[simp] theorem Instr.parts_ia0Bins (g : Guard) (src : Src) : (Instr.ia0Bins g src).parts = .trig g false src 0x060 := rfl
@[simp] theorem Instr.parts_ia0Ceq (g : Guard) (src : Src) : (Instr.ia0Ceq g src).parts = .trig g false src 0x061 := rfl
@[simp] theorem Instr.parts_ia0Cne (g : Guard) (src : Src) : (Instr.ia0Cne g src).parts = .trig g false src 0x062 := rfl
@[simp] theorem Instr.parts_ia0Clt (g : Guard) (src : Src) : (Instr.ia0Clt g src).parts = .trig g false src 0x063 := rfl
@[simp] theorem Instr.parts_ia0Cltu (g : Guard) (src : Src) : (Instr.ia0Cltu g src).parts = .trig g false src 0x064 := rfl
@[simp] theorem Instr.parts_ia0Cle (g : Guard) (src : Src) : (Instr.ia0Cle g src).parts = .trig g false src 0x065 := rfl
@[simp] theorem Instr.parts_ia0Cleu (g : Guard) (src : Src) : (Instr.ia0Cleu g src).parts = .trig g false src 0x066 := rfl
@[simp] theorem Instr.parts_imMul (g : Guard) (src : Src) : (Instr.imMul g src).parts = .trig g false src 0x068 := rfl
@[simp] theorem Instr.parts_imMulhu (g : Guard) (src : Src) : (Instr.imMulhu g src).parts = .trig g false src 0x069 := rfl
@[simp] theorem Instr.parts_imMulhsu (g : Guard) (src : Src) : (Instr.imMulhsu g src).parts = .trig g false src 0x06A := rfl
@[simp] theorem Instr.parts_imDiv (g : Guard) (src : Src) : (Instr.imDiv g src).parts = .trig g false src 0x06B := rfl
@[simp] theorem Instr.parts_imDivu (g : Guard) (src : Src) : (Instr.imDivu g src).parts = .trig g false src 0x06C := rfl
@[simp] theorem Instr.parts_ia1Add (g : Guard) (src : Src) : (Instr.ia1Add g src).parts = .trig g false src 0x070 := rfl
@[simp] theorem Instr.parts_ia1Sub (g : Guard) (src : Src) : (Instr.ia1Sub g src).parts = .trig g false src 0x071 := rfl
@[simp] theorem Instr.parts_ia1And (g : Guard) (src : Src) : (Instr.ia1And g src).parts = .trig g false src 0x072 := rfl
@[simp] theorem Instr.parts_ia1Or (g : Guard) (src : Src) : (Instr.ia1Or g src).parts = .trig g false src 0x073 := rfl
@[simp] theorem Instr.parts_ia1Xor (g : Guard) (src : Src) : (Instr.ia1Xor g src).parts = .trig g false src 0x074 := rfl
@[simp] theorem Instr.parts_ia1Andn (g : Guard) (src : Src) : (Instr.ia1Andn g src).parts = .trig g false src 0x075 := rfl
@[simp] theorem Instr.parts_ia1Shl (g : Guard) (src : Src) : (Instr.ia1Shl g src).parts = .trig g false src 0x076 := rfl
@[simp] theorem Instr.parts_ia1Shr (g : Guard) (src : Src) : (Instr.ia1Shr g src).parts = .trig g false src 0x077 := rfl
@[simp] theorem Instr.parts_ia1Sar (g : Guard) (src : Src) : (Instr.ia1Sar g src).parts = .trig g false src 0x078 := rfl
@[simp] theorem Instr.parts_ia1Ceq (g : Guard) (src : Src) : (Instr.ia1Ceq g src).parts = .trig g false src 0x079 := rfl
@[simp] theorem Instr.parts_ia1Clt (g : Guard) (src : Src) : (Instr.ia1Clt g src).parts = .trig g false src 0x07A := rfl
@[simp] theorem Instr.parts_ia1Cltu (g : Guard) (src : Src) : (Instr.ia1Cltu g src).parts = .trig g false src 0x07B := rfl
@[simp] theorem Instr.parts_brJmp (g : Guard) (src : Src) : (Instr.brJmp g src).parts = .trig g false src 0x088 := rfl
@[simp] theorem Instr.parts_brCall (g : Guard) (src : Src) : (Instr.brCall g src).parts = .trig g false src 0x089 := rfl
@[simp] theorem Instr.parts_brLoop (g : Guard) (src : Src) : (Instr.brLoop g src).parts = .trig g false src 0x08A := rfl
@[simp] theorem Instr.parts_brRotcfg (g : Guard) (src : Src) : (Instr.brRotcfg g src).parts = .trig g false src 0x08B := rfl
@[simp] theorem Instr.parts_brYield (g : Guard) (src : Src) : (Instr.brYield g src).parts = .trig g false src 0x08C := rfl
@[simp] theorem Instr.parts_brAlign (g : Guard) (src : Src) : (Instr.brAlign g src).parts = .trig g false src 0x08D := rfl
@[simp] theorem Instr.parts_brExit (g : Guard) (src : Src) : (Instr.brExit g src).parts = .trig g false src 0x08E := rfl
@[simp] theorem Instr.parts_brExitAbandon (g : Guard) (src : Src) : (Instr.brExitAbandon g src).parts = .trig g false src 0x08F := rfl
@[simp] theorem Instr.parts_brTrap (g : Guard) (src : Src) : (Instr.brTrap g src).parts = .trig g false src 0x090 := rfl
@[simp] theorem Instr.parts_lsLdb (g : Guard) (src : Src) : (Instr.lsLdb g src).parts = .trig g false src 0x091 := rfl
@[simp] theorem Instr.parts_lsLdbu (g : Guard) (src : Src) : (Instr.lsLdbu g src).parts = .trig g false src 0x092 := rfl
@[simp] theorem Instr.parts_lsLdh (g : Guard) (src : Src) : (Instr.lsLdh g src).parts = .trig g false src 0x093 := rfl
@[simp] theorem Instr.parts_lsLdhu (g : Guard) (src : Src) : (Instr.lsLdhu g src).parts = .trig g false src 0x094 := rfl
@[simp] theorem Instr.parts_lsLdw (g : Guard) (src : Src) : (Instr.lsLdw g src).parts = .trig g false src 0x095 := rfl
@[simp] theorem Instr.parts_lsLdwu (g : Guard) (src : Src) : (Instr.lsLdwu g src).parts = .trig g false src 0x096 := rfl
@[simp] theorem Instr.parts_lsLdd (g : Guard) (src : Src) : (Instr.lsLdd g src).parts = .trig g false src 0x097 := rfl
@[simp] theorem Instr.parts_lsStb (g : Guard) (src : Src) : (Instr.lsStb g src).parts = .trig g false src 0x098 := rfl
@[simp] theorem Instr.parts_lsSth (g : Guard) (src : Src) : (Instr.lsSth g src).parts = .trig g false src 0x099 := rfl
@[simp] theorem Instr.parts_lsStw (g : Guard) (src : Src) : (Instr.lsStw g src).parts = .trig g false src 0x09A := rfl
@[simp] theorem Instr.parts_lsStd (g : Guard) (src : Src) : (Instr.lsStd g src).parts = .trig g false src 0x09B := rfl
@[simp] theorem Instr.parts_lsLdrow (g : Guard) (src : Src) : (Instr.lsLdrow g src).parts = .trig g false src 0x09C := rfl
@[simp] theorem Instr.parts_lsStrow (g : Guard) (src : Src) : (Instr.lsStrow g src).parts = .trig g false src 0x09D := rfl
@[simp] theorem Instr.parts_lsStrowm (g : Guard) (src : Src) : (Instr.lsStrowm g src).parts = .trig g false src 0x09E := rfl
@[simp] theorem Instr.parts_lsQmark (g : Guard) (src : Src) : (Instr.lsQmark g src).parts = .trig g false src 0x09F := rfl
@[simp] theorem Instr.parts_syAmoAddW (g : Guard) (src : Src) : (Instr.syAmoAddW g src).parts = .trig g false src 0x0A0 := rfl
@[simp] theorem Instr.parts_syAmoAddD (g : Guard) (src : Src) : (Instr.syAmoAddD g src).parts = .trig g false src 0x0A1 := rfl
@[simp] theorem Instr.parts_syAmoAndW (g : Guard) (src : Src) : (Instr.syAmoAndW g src).parts = .trig g false src 0x0A2 := rfl
@[simp] theorem Instr.parts_syAmoAndD (g : Guard) (src : Src) : (Instr.syAmoAndD g src).parts = .trig g false src 0x0A3 := rfl
@[simp] theorem Instr.parts_syAmoOrW (g : Guard) (src : Src) : (Instr.syAmoOrW g src).parts = .trig g false src 0x0A4 := rfl
@[simp] theorem Instr.parts_syAmoOrD (g : Guard) (src : Src) : (Instr.syAmoOrD g src).parts = .trig g false src 0x0A5 := rfl
@[simp] theorem Instr.parts_syAmoXorW (g : Guard) (src : Src) : (Instr.syAmoXorW g src).parts = .trig g false src 0x0A6 := rfl
@[simp] theorem Instr.parts_syAmoXorD (g : Guard) (src : Src) : (Instr.syAmoXorD g src).parts = .trig g false src 0x0A7 := rfl
@[simp] theorem Instr.parts_syAmoMinW (g : Guard) (src : Src) : (Instr.syAmoMinW g src).parts = .trig g false src 0x0A8 := rfl
@[simp] theorem Instr.parts_syAmoMinD (g : Guard) (src : Src) : (Instr.syAmoMinD g src).parts = .trig g false src 0x0A9 := rfl
@[simp] theorem Instr.parts_syAmoMaxW (g : Guard) (src : Src) : (Instr.syAmoMaxW g src).parts = .trig g false src 0x0AA := rfl
@[simp] theorem Instr.parts_syAmoMaxD (g : Guard) (src : Src) : (Instr.syAmoMaxD g src).parts = .trig g false src 0x0AB := rfl
@[simp] theorem Instr.parts_syAmoMinuW (g : Guard) (src : Src) : (Instr.syAmoMinuW g src).parts = .trig g false src 0x0AC := rfl
@[simp] theorem Instr.parts_syAmoMinuD (g : Guard) (src : Src) : (Instr.syAmoMinuD g src).parts = .trig g false src 0x0AD := rfl
@[simp] theorem Instr.parts_syAmoMaxuW (g : Guard) (src : Src) : (Instr.syAmoMaxuW g src).parts = .trig g false src 0x0AE := rfl
@[simp] theorem Instr.parts_syAmoMaxuD (g : Guard) (src : Src) : (Instr.syAmoMaxuD g src).parts = .trig g false src 0x0AF := rfl
@[simp] theorem Instr.parts_syAmoSwapW (g : Guard) (src : Src) : (Instr.syAmoSwapW g src).parts = .trig g false src 0x0B0 := rfl
@[simp] theorem Instr.parts_syAmoSwapD (g : Guard) (src : Src) : (Instr.syAmoSwapD g src).parts = .trig g false src 0x0B1 := rfl
@[simp] theorem Instr.parts_syAmoCasW (g : Guard) (src : Src) : (Instr.syAmoCasW g src).parts = .trig g false src 0x0B2 := rfl
@[simp] theorem Instr.parts_syAmoCasD (g : Guard) (src : Src) : (Instr.syAmoCasD g src).parts = .trig g false src 0x0B3 := rfl
@[simp] theorem Instr.parts_syFenceR (g : Guard) (src : Src) : (Instr.syFenceR g src).parts = .trig g false src 0x0B4 := rfl
@[simp] theorem Instr.parts_syFenceW (g : Guard) (src : Src) : (Instr.syFenceW g src).parts = .trig g false src 0x0B5 := rfl
@[simp] theorem Instr.parts_syFenceRw (g : Guard) (src : Src) : (Instr.syFenceRw g src).parts = .trig g false src 0x0B6 := rfl
@[simp] theorem Instr.parts_syTokWait (g : Guard) (src : Src) : (Instr.syTokWait g src).parts = .trig g false src 0x0B7 := rfl
@[simp] theorem Instr.parts_syTokTest (g : Guard) (src : Src) : (Instr.syTokTest g src).parts = .trig g false src 0x0B8 := rfl
@[simp] theorem Instr.parts_syTokId (g : Guard) (src : Src) : (Instr.syTokId g src).parts = .trig g false src 0x0B9 := rfl
@[simp] theorem Instr.parts_syTokClr (g : Guard) (src : Src) : (Instr.syTokClr g src).parts = .trig g false src 0x0BA := rfl
@[simp] theorem Instr.parts_syBarArrive (g : Guard) (src : Src) : (Instr.syBarArrive g src).parts = .trig g false src 0x0BB := rfl
@[simp] theorem Instr.parts_syBarWait (g : Guard) (src : Src) : (Instr.syBarWait g src).parts = .trig g false src 0x0BC := rfl
@[simp] theorem Instr.parts_syPhase (g : Guard) (src : Src) : (Instr.syPhase g src).parts = .trig g false src 0x0BD := rfl
@[simp] theorem Instr.parts_fxRldW (g : Guard) (h : Bool) (src : Src) : (Instr.fxRldW g h src).parts = .trig g h src 0x0D8 := rfl
@[simp] theorem Instr.parts_fxRldD (g : Guard) (h : Bool) (src : Src) : (Instr.fxRldD g h src).parts = .trig g h src 0x0D9 := rfl
@[simp] theorem Instr.parts_fxRldrow (g : Guard) (h : Bool) (src : Src) : (Instr.fxRldrow g h src).parts = .trig g h src 0x0DA := rfl
@[simp] theorem Instr.parts_fxRstW (g : Guard) (h : Bool) (src : Src) : (Instr.fxRstW g h src).parts = .trig g h src 0x0DB := rfl
@[simp] theorem Instr.parts_fxRstD (g : Guard) (h : Bool) (src : Src) : (Instr.fxRstD g h src).parts = .trig g h src 0x0DC := rfl
@[simp] theorem Instr.parts_fxRstrow (g : Guard) (h : Bool) (src : Src) : (Instr.fxRstrow g h src).parts = .trig g h src 0x0DD := rfl
@[simp] theorem Instr.parts_fxRamoAdd (g : Guard) (h : Bool) (src : Src) : (Instr.fxRamoAdd g h src).parts = .trig g h src 0x0DE := rfl
@[simp] theorem Instr.parts_fxRamoAnd (g : Guard) (h : Bool) (src : Src) : (Instr.fxRamoAnd g h src).parts = .trig g h src 0x0DF := rfl
@[simp] theorem Instr.parts_fxRamoOr (g : Guard) (h : Bool) (src : Src) : (Instr.fxRamoOr g h src).parts = .trig g h src 0x0E0 := rfl
@[simp] theorem Instr.parts_fxRamoXor (g : Guard) (h : Bool) (src : Src) : (Instr.fxRamoXor g h src).parts = .trig g h src 0x0E1 := rfl
@[simp] theorem Instr.parts_fxRamoMin (g : Guard) (h : Bool) (src : Src) : (Instr.fxRamoMin g h src).parts = .trig g h src 0x0E2 := rfl
@[simp] theorem Instr.parts_fxRamoMax (g : Guard) (h : Bool) (src : Src) : (Instr.fxRamoMax g h src).parts = .trig g h src 0x0E3 := rfl
@[simp] theorem Instr.parts_fxRamoSwap (g : Guard) (h : Bool) (src : Src) : (Instr.fxRamoSwap g h src).parts = .trig g h src 0x0E4 := rfl
@[simp] theorem Instr.parts_fxRamoCas (g : Guard) (h : Bool) (src : Src) : (Instr.fxRamoCas g h src).parts = .trig g h src 0x0E5 := rfl
@[simp] theorem Instr.parts_fxRamoAddOrd (g : Guard) (h : Bool) (src : Src) : (Instr.fxRamoAddOrd g h src).parts = .trig g h src 0x0E6 := rfl
@[simp] theorem Instr.parts_fxRamoAndOrd (g : Guard) (h : Bool) (src : Src) : (Instr.fxRamoAndOrd g h src).parts = .trig g h src 0x0E7 := rfl
@[simp] theorem Instr.parts_fxRamoOrOrd (g : Guard) (h : Bool) (src : Src) : (Instr.fxRamoOrOrd g h src).parts = .trig g h src 0x0E8 := rfl
@[simp] theorem Instr.parts_fxRamoXorOrd (g : Guard) (h : Bool) (src : Src) : (Instr.fxRamoXorOrd g h src).parts = .trig g h src 0x0E9 := rfl
@[simp] theorem Instr.parts_fxRamoMinOrd (g : Guard) (h : Bool) (src : Src) : (Instr.fxRamoMinOrd g h src).parts = .trig g h src 0x0EA := rfl
@[simp] theorem Instr.parts_fxRamoMaxOrd (g : Guard) (h : Bool) (src : Src) : (Instr.fxRamoMaxOrd g h src).parts = .trig g h src 0x0EB := rfl
@[simp] theorem Instr.parts_fxRamoSwapOrd (g : Guard) (h : Bool) (src : Src) : (Instr.fxRamoSwapOrd g h src).parts = .trig g h src 0x0EC := rfl
@[simp] theorem Instr.parts_fxRamoCasOrd (g : Guard) (h : Bool) (src : Src) : (Instr.fxRamoCasOrd g h src).parts = .trig g h src 0x0ED := rfl
@[simp] theorem Instr.parts_fxRdel (g : Guard) (h : Bool) (src : Src) : (Instr.fxRdel g h src).parts = .trig g h src 0x0EE := rfl
@[simp] theorem Instr.parts_fxRdelg (g : Guard) (h : Bool) (src : Src) : (Instr.fxRdelg g h src).parts = .trig g h src 0x0EF := rfl
@[simp] theorem Instr.parts_fxMlrAddF32 (g : Guard) (h : Bool) (src : Src) : (Instr.fxMlrAddF32 g h src).parts = .trig g h src 0x0F0 := rfl
@[simp] theorem Instr.parts_fxMlrAddBf16 (g : Guard) (h : Bool) (src : Src) : (Instr.fxMlrAddBf16 g h src).parts = .trig g h src 0x0F1 := rfl
@[simp] theorem Instr.parts_fxMlrMaxF32 (g : Guard) (h : Bool) (src : Src) : (Instr.fxMlrMaxF32 g h src).parts = .trig g h src 0x0F2 := rfl
@[simp] theorem Instr.parts_fxMlrMaxBf16 (g : Guard) (h : Bool) (src : Src) : (Instr.fxMlrMaxBf16 g h src).parts = .trig g h src 0x0F3 := rfl
@[simp] theorem Instr.parts_fxMlrMinF32 (g : Guard) (h : Bool) (src : Src) : (Instr.fxMlrMinF32 g h src).parts = .trig g h src 0x0F4 := rfl
@[simp] theorem Instr.parts_fxMlrMinBf16 (g : Guard) (h : Bool) (src : Src) : (Instr.fxMlrMinBf16 g h src).parts = .trig g h src 0x0F5 := rfl
@[simp] theorem Instr.parts_fxMlrAddI32 (g : Guard) (h : Bool) (src : Src) : (Instr.fxMlrAddI32 g h src).parts = .trig g h src 0x0F6 := rfl
@[simp] theorem Instr.parts_fxMlrAddI64 (g : Guard) (h : Bool) (src : Src) : (Instr.fxMlrAddI64 g h src).parts = .trig g h src 0x0F7 := rfl
@[simp] theorem Instr.parts_fxFlag (g : Guard) (h : Bool) (src : Src) : (Instr.fxFlag g h src).parts = .trig g h src 0x0F8 := rfl
@[simp] theorem Instr.parts_fxSstep (g : Guard) (h : Bool) (src : Src) : (Instr.fxSstep g h src).parts = .trig g h src 0x0F9 := rfl
@[simp] theorem Instr.parts_fxSpush (g : Guard) (src : Src) : (Instr.fxSpush g src).parts = .trig g false src 0x0FA := rfl
@[simp] theorem Instr.parts_fxSpop (g : Guard) (src : Src) : (Instr.fxSpop g src).parts = .trig g false src 0x0FB := rfl
@[simp] theorem Instr.parts_fxMbsend (g : Guard) (h : Bool) (src : Src) : (Instr.fxMbsend g h src).parts = .trig g h src 0x0FC := rfl
@[simp] theorem Instr.parts_fxMbrecv (g : Guard) (h : Bool) (src : Src) : (Instr.fxMbrecv g h src).parts = .trig g h src 0x0FD := rfl
@[simp] theorem Instr.parts_fxMbpeek (g : Guard) (h : Bool) (src : Src) : (Instr.fxMbpeek g h src).parts = .trig g h src 0x0FE := rfl
@[simp] theorem Instr.parts_fxPen (g : Guard) (h : Bool) (src : Src) : (Instr.fxPen g h src).parts = .trig g h src 0x0FF := rfl
@[simp] theorem Instr.parts_vxFaddF32 (g : Guard) (src : Src) : (Instr.vxFaddF32 g src).parts = .trig g false src 0x104 := rfl
@[simp] theorem Instr.parts_vxFsubF32 (g : Guard) (src : Src) : (Instr.vxFsubF32 g src).parts = .trig g false src 0x105 := rfl
@[simp] theorem Instr.parts_vxFmulF32 (g : Guard) (src : Src) : (Instr.vxFmulF32 g src).parts = .trig g false src 0x106 := rfl
@[simp] theorem Instr.parts_vxFmaF32 (g : Guard) (src : Src) : (Instr.vxFmaF32 g src).parts = .trig g false src 0x107 := rfl
@[simp] theorem Instr.parts_vxFmsF32 (g : Guard) (src : Src) : (Instr.vxFmsF32 g src).parts = .trig g false src 0x108 := rfl
@[simp] theorem Instr.parts_vxFnmaF32 (g : Guard) (src : Src) : (Instr.vxFnmaF32 g src).parts = .trig g false src 0x109 := rfl
@[simp] theorem Instr.parts_vxFnmsF32 (g : Guard) (src : Src) : (Instr.vxFnmsF32 g src).parts = .trig g false src 0x10A := rfl
@[simp] theorem Instr.parts_vxFminF32 (g : Guard) (src : Src) : (Instr.vxFminF32 g src).parts = .trig g false src 0x10B := rfl
@[simp] theorem Instr.parts_vxFmaxF32 (g : Guard) (src : Src) : (Instr.vxFmaxF32 g src).parts = .trig g false src 0x10C := rfl
@[simp] theorem Instr.parts_vxFminNumF32 (g : Guard) (src : Src) : (Instr.vxFminNumF32 g src).parts = .trig g false src 0x10D := rfl
@[simp] theorem Instr.parts_vxFmaxNumF32 (g : Guard) (src : Src) : (Instr.vxFmaxNumF32 g src).parts = .trig g false src 0x10E := rfl
@[simp] theorem Instr.parts_vxFcmpEqF32 (g : Guard) (src : Src) : (Instr.vxFcmpEqF32 g src).parts = .trig g false src 0x10F := rfl
@[simp] theorem Instr.parts_vxFcmpLtF32 (g : Guard) (src : Src) : (Instr.vxFcmpLtF32 g src).parts = .trig g false src 0x110 := rfl
@[simp] theorem Instr.parts_vxFcmpLeF32 (g : Guard) (src : Src) : (Instr.vxFcmpLeF32 g src).parts = .trig g false src 0x111 := rfl
@[simp] theorem Instr.parts_vxFcmpUnF32 (g : Guard) (src : Src) : (Instr.vxFcmpUnF32 g src).parts = .trig g false src 0x112 := rfl
@[simp] theorem Instr.parts_vxFaddBf16 (g : Guard) (src : Src) : (Instr.vxFaddBf16 g src).parts = .trig g false src 0x113 := rfl
@[simp] theorem Instr.parts_vxFsubBf16 (g : Guard) (src : Src) : (Instr.vxFsubBf16 g src).parts = .trig g false src 0x114 := rfl
@[simp] theorem Instr.parts_vxFmulBf16 (g : Guard) (src : Src) : (Instr.vxFmulBf16 g src).parts = .trig g false src 0x115 := rfl
@[simp] theorem Instr.parts_vxFmaBf16 (g : Guard) (src : Src) : (Instr.vxFmaBf16 g src).parts = .trig g false src 0x116 := rfl
@[simp] theorem Instr.parts_vxFmsBf16 (g : Guard) (src : Src) : (Instr.vxFmsBf16 g src).parts = .trig g false src 0x117 := rfl
@[simp] theorem Instr.parts_vxFnmaBf16 (g : Guard) (src : Src) : (Instr.vxFnmaBf16 g src).parts = .trig g false src 0x118 := rfl
@[simp] theorem Instr.parts_vxFnmsBf16 (g : Guard) (src : Src) : (Instr.vxFnmsBf16 g src).parts = .trig g false src 0x119 := rfl
@[simp] theorem Instr.parts_vxFminBf16 (g : Guard) (src : Src) : (Instr.vxFminBf16 g src).parts = .trig g false src 0x11A := rfl
@[simp] theorem Instr.parts_vxFmaxBf16 (g : Guard) (src : Src) : (Instr.vxFmaxBf16 g src).parts = .trig g false src 0x11B := rfl
@[simp] theorem Instr.parts_vxFaddF16 (g : Guard) (src : Src) : (Instr.vxFaddF16 g src).parts = .trig g false src 0x11C := rfl
@[simp] theorem Instr.parts_vxFmulF16 (g : Guard) (src : Src) : (Instr.vxFmulF16 g src).parts = .trig g false src 0x11D := rfl
@[simp] theorem Instr.parts_vxFmaF16 (g : Guard) (src : Src) : (Instr.vxFmaF16 g src).parts = .trig g false src 0x11E := rfl
@[simp] theorem Instr.parts_vxFmaxF16 (g : Guard) (src : Src) : (Instr.vxFmaxF16 g src).parts = .trig g false src 0x11F := rfl
@[simp] theorem Instr.parts_vxFmulE4m3 (g : Guard) (src : Src) : (Instr.vxFmulE4m3 g src).parts = .trig g false src 0x120 := rfl
@[simp] theorem Instr.parts_vxFmulE5m2 (g : Guard) (src : Src) : (Instr.vxFmulE5m2 g src).parts = .trig g false src 0x121 := rfl
@[simp] theorem Instr.parts_vxFmulE2m1 (g : Guard) (src : Src) : (Instr.vxFmulE2m1 g src).parts = .trig g false src 0x122 := rfl
@[simp] theorem Instr.parts_vxIaddI32 (g : Guard) (src : Src) : (Instr.vxIaddI32 g src).parts = .trig g false src 0x123 := rfl
@[simp] theorem Instr.parts_vxIsubI32 (g : Guard) (src : Src) : (Instr.vxIsubI32 g src).parts = .trig g false src 0x124 := rfl
@[simp] theorem Instr.parts_vxIaddSI32 (g : Guard) (src : Src) : (Instr.vxIaddSI32 g src).parts = .trig g false src 0x125 := rfl
@[simp] theorem Instr.parts_vxIsubSI32 (g : Guard) (src : Src) : (Instr.vxIsubSI32 g src).parts = .trig g false src 0x126 := rfl
@[simp] theorem Instr.parts_vxImulI32 (g : Guard) (src : Src) : (Instr.vxImulI32 g src).parts = .trig g false src 0x127 := rfl
@[simp] theorem Instr.parts_vxImadI32 (g : Guard) (src : Src) : (Instr.vxImadI32 g src).parts = .trig g false src 0x128 := rfl
@[simp] theorem Instr.parts_vxIminI32 (g : Guard) (src : Src) : (Instr.vxIminI32 g src).parts = .trig g false src 0x129 := rfl
@[simp] theorem Instr.parts_vxImaxI32 (g : Guard) (src : Src) : (Instr.vxImaxI32 g src).parts = .trig g false src 0x12A := rfl
@[simp] theorem Instr.parts_vxIminuI32 (g : Guard) (src : Src) : (Instr.vxIminuI32 g src).parts = .trig g false src 0x12B := rfl
@[simp] theorem Instr.parts_vxImaxuI32 (g : Guard) (src : Src) : (Instr.vxImaxuI32 g src).parts = .trig g false src 0x12C := rfl
@[simp] theorem Instr.parts_vxIcmpEqI32 (g : Guard) (src : Src) : (Instr.vxIcmpEqI32 g src).parts = .trig g false src 0x12D := rfl
@[simp] theorem Instr.parts_vxIcmpLtI32 (g : Guard) (src : Src) : (Instr.vxIcmpLtI32 g src).parts = .trig g false src 0x12E := rfl
@[simp] theorem Instr.parts_vxIcmpLtuI32 (g : Guard) (src : Src) : (Instr.vxIcmpLtuI32 g src).parts = .trig g false src 0x12F := rfl
@[simp] theorem Instr.parts_vxShlI32 (g : Guard) (src : Src) : (Instr.vxShlI32 g src).parts = .trig g false src 0x130 := rfl
@[simp] theorem Instr.parts_vxShrI32 (g : Guard) (src : Src) : (Instr.vxShrI32 g src).parts = .trig g false src 0x131 := rfl
@[simp] theorem Instr.parts_vxSarI32 (g : Guard) (src : Src) : (Instr.vxSarI32 g src).parts = .trig g false src 0x132 := rfl
@[simp] theorem Instr.parts_vxPopcI32 (g : Guard) (src : Src) : (Instr.vxPopcI32 g src).parts = .trig g false src 0x133 := rfl
@[simp] theorem Instr.parts_vxClzI32 (g : Guard) (src : Src) : (Instr.vxClzI32 g src).parts = .trig g false src 0x134 := rfl
@[simp] theorem Instr.parts_vxIaddI16 (g : Guard) (src : Src) : (Instr.vxIaddI16 g src).parts = .trig g false src 0x135 := rfl
@[simp] theorem Instr.parts_vxIaddI8 (g : Guard) (src : Src) : (Instr.vxIaddI8 g src).parts = .trig g false src 0x136 := rfl
@[simp] theorem Instr.parts_vxIaddSI8 (g : Guard) (src : Src) : (Instr.vxIaddSI8 g src).parts = .trig g false src 0x137 := rfl
@[simp] theorem Instr.parts_vxAnd (g : Guard) (src : Src) : (Instr.vxAnd g src).parts = .trig g false src 0x138 := rfl
@[simp] theorem Instr.parts_vxOr (g : Guard) (src : Src) : (Instr.vxOr g src).parts = .trig g false src 0x139 := rfl
@[simp] theorem Instr.parts_vxXor (g : Guard) (src : Src) : (Instr.vxXor g src).parts = .trig g false src 0x13A := rfl
@[simp] theorem Instr.parts_vxAndn (g : Guard) (src : Src) : (Instr.vxAndn g src).parts = .trig g false src 0x13B := rfl
@[simp] theorem Instr.parts_vxLut3 (g : Guard) (src : Src) : (Instr.vxLut3 g src).parts = .trig g false src 0x13C := rfl
@[simp] theorem Instr.parts_vxSel (g : Guard) (src : Src) : (Instr.vxSel g src).parts = .trig g false src 0x13D := rfl
@[simp] theorem Instr.parts_vxRot (g : Guard) (src : Src) : (Instr.vxRot g src).parts = .trig g false src 0x13E := rfl
@[simp] theorem Instr.parts_vxFsh (g : Guard) (src : Src) : (Instr.vxFsh g src).parts = .trig g false src 0x13F := rfl
@[simp] theorem Instr.parts_vxCvtF32Bf16 (g : Guard) (src : Src) : (Instr.vxCvtF32Bf16 g src).parts = .trig g false src 0x148 := rfl
@[simp] theorem Instr.parts_vxCvtF32F16 (g : Guard) (src : Src) : (Instr.vxCvtF32F16 g src).parts = .trig g false src 0x149 := rfl
@[simp] theorem Instr.parts_vxCvtBf16F32 (g : Guard) (src : Src) : (Instr.vxCvtBf16F32 g src).parts = .trig g false src 0x14A := rfl
@[simp] theorem Instr.parts_vxCvtF16F32 (g : Guard) (src : Src) : (Instr.vxCvtF16F32 g src).parts = .trig g false src 0x14B := rfl
@[simp] theorem Instr.parts_vxCvtF32E4m3Sat (g : Guard) (src : Src) : (Instr.vxCvtF32E4m3Sat g src).parts = .trig g false src 0x14C := rfl
@[simp] theorem Instr.parts_vxCvtF32E4m3Nan (g : Guard) (src : Src) : (Instr.vxCvtF32E4m3Nan g src).parts = .trig g false src 0x14D := rfl
@[simp] theorem Instr.parts_vxCvtF32E5m2Sat (g : Guard) (src : Src) : (Instr.vxCvtF32E5m2Sat g src).parts = .trig g false src 0x14E := rfl
@[simp] theorem Instr.parts_vxCvtF32E5m2Inf (g : Guard) (src : Src) : (Instr.vxCvtF32E5m2Inf g src).parts = .trig g false src 0x14F := rfl
@[simp] theorem Instr.parts_vxCvtF32E2m1 (g : Guard) (src : Src) : (Instr.vxCvtF32E2m1 g src).parts = .trig g false src 0x150 := rfl
@[simp] theorem Instr.parts_vxCvtBf16E4m3Sat (g : Guard) (src : Src) : (Instr.vxCvtBf16E4m3Sat g src).parts = .trig g false src 0x151 := rfl
@[simp] theorem Instr.parts_vxCvtBf16E5m2Sat (g : Guard) (src : Src) : (Instr.vxCvtBf16E5m2Sat g src).parts = .trig g false src 0x152 := rfl
@[simp] theorem Instr.parts_vxCvtE4m3F32 (g : Guard) (src : Src) : (Instr.vxCvtE4m3F32 g src).parts = .trig g false src 0x153 := rfl
@[simp] theorem Instr.parts_vxCvtE5m2F32 (g : Guard) (src : Src) : (Instr.vxCvtE5m2F32 g src).parts = .trig g false src 0x154 := rfl
@[simp] theorem Instr.parts_vxCvtE2m1F32 (g : Guard) (src : Src) : (Instr.vxCvtE2m1F32 g src).parts = .trig g false src 0x155 := rfl
@[simp] theorem Instr.parts_vxCvtE4m3Bf16 (g : Guard) (src : Src) : (Instr.vxCvtE4m3Bf16 g src).parts = .trig g false src 0x156 := rfl
@[simp] theorem Instr.parts_vxCvtF32I32 (g : Guard) (src : Src) : (Instr.vxCvtF32I32 g src).parts = .trig g false src 0x157 := rfl
@[simp] theorem Instr.parts_vxCvtI32F32 (g : Guard) (src : Src) : (Instr.vxCvtI32F32 g src).parts = .trig g false src 0x158 := rfl
@[simp] theorem Instr.parts_vxCvtI8F32 (g : Guard) (src : Src) : (Instr.vxCvtI8F32 g src).parts = .trig g false src 0x159 := rfl
@[simp] theorem Instr.parts_vxCvtF32I8 (g : Guard) (src : Src) : (Instr.vxCvtF32I8 g src).parts = .trig g false src 0x15A := rfl
@[simp] theorem Instr.parts_vxCvtI4I8 (g : Guard) (src : Src) : (Instr.vxCvtI4I8 g src).parts = .trig g false src 0x15B := rfl
@[simp] theorem Instr.parts_vxCvtI32I8S (g : Guard) (src : Src) : (Instr.vxCvtI32I8S g src).parts = .trig g false src 0x15C := rfl
@[simp] theorem Instr.parts_vxCvtF32E4m3SatAmax (g : Guard) (src : Src) : (Instr.vxCvtF32E4m3SatAmax g src).parts = .trig g false src 0x15D := rfl
@[simp] theorem Instr.parts_vxCvtF32E5m2SatAmax (g : Guard) (src : Src) : (Instr.vxCvtF32E5m2SatAmax g src).parts = .trig g false src 0x15E := rfl
@[simp] theorem Instr.parts_vxCvtF32Bf16Amax (g : Guard) (src : Src) : (Instr.vxCvtF32Bf16Amax g src).parts = .trig g false src 0x15F := rfl
@[simp] theorem Instr.parts_vxCvtSrF32E4m3Sat (g : Guard) (src : Src) : (Instr.vxCvtSrF32E4m3Sat g src).parts = .trig g false src 0x160 := rfl
@[simp] theorem Instr.parts_vxCvtSrF32E5m2Sat (g : Guard) (src : Src) : (Instr.vxCvtSrF32E5m2Sat g src).parts = .trig g false src 0x161 := rfl
@[simp] theorem Instr.parts_vxCvtSrF32Bf16 (g : Guard) (src : Src) : (Instr.vxCvtSrF32Bf16 g src).parts = .trig g false src 0x162 := rfl
@[simp] theorem Instr.parts_vxRcpF32 (g : Guard) (src : Src) : (Instr.vxRcpF32 g src).parts = .trig g false src 0x163 := rfl
@[simp] theorem Instr.parts_vxRsqrtF32 (g : Guard) (src : Src) : (Instr.vxRsqrtF32 g src).parts = .trig g false src 0x164 := rfl
@[simp] theorem Instr.parts_vxSqrtF32 (g : Guard) (src : Src) : (Instr.vxSqrtF32 g src).parts = .trig g false src 0x165 := rfl
@[simp] theorem Instr.parts_vxExp2F32 (g : Guard) (src : Src) : (Instr.vxExp2F32 g src).parts = .trig g false src 0x166 := rfl
@[simp] theorem Instr.parts_vxLog2F32 (g : Guard) (src : Src) : (Instr.vxLog2F32 g src).parts = .trig g false src 0x167 := rfl
@[simp] theorem Instr.parts_vxRsumF32 (g : Guard) (src : Src) : (Instr.vxRsumF32 g src).parts = .trig g false src 0x168 := rfl
@[simp] theorem Instr.parts_vxRsumBf16 (g : Guard) (src : Src) : (Instr.vxRsumBf16 g src).parts = .trig g false src 0x169 := rfl
@[simp] theorem Instr.parts_vxRmaxF32 (g : Guard) (src : Src) : (Instr.vxRmaxF32 g src).parts = .trig g false src 0x16A := rfl
@[simp] theorem Instr.parts_vxRmaxBf16 (g : Guard) (src : Src) : (Instr.vxRmaxBf16 g src).parts = .trig g false src 0x16B := rfl
@[simp] theorem Instr.parts_vxRminF32 (g : Guard) (src : Src) : (Instr.vxRminF32 g src).parts = .trig g false src 0x16C := rfl
@[simp] theorem Instr.parts_vxRminBf16 (g : Guard) (src : Src) : (Instr.vxRminBf16 g src).parts = .trig g false src 0x16D := rfl
@[simp] theorem Instr.parts_vxRsumI32 (g : Guard) (src : Src) : (Instr.vxRsumI32 g src).parts = .trig g false src 0x16E := rfl
@[simp] theorem Instr.parts_vxRsumI8 (g : Guard) (src : Src) : (Instr.vxRsumI8 g src).parts = .trig g false src 0x16F := rfl
@[simp] theorem Instr.parts_vxBscaleE4m3 (g : Guard) (src : Src) : (Instr.vxBscaleE4m3 g src).parts = .trig g false src 0x170 := rfl
@[simp] theorem Instr.parts_vxBscaleE5m2 (g : Guard) (src : Src) : (Instr.vxBscaleE5m2 g src).parts = .trig g false src 0x171 := rfl
@[simp] theorem Instr.parts_vxBscaleE2m1 (g : Guard) (src : Src) : (Instr.vxBscaleE2m1 g src).parts = .trig g false src 0x172 := rfl
@[simp] theorem Instr.parts_vxBquantE4m3 (g : Guard) (src : Src) : (Instr.vxBquantE4m3 g src).parts = .trig g false src 0x173 := rfl
@[simp] theorem Instr.parts_vxBquantE5m2 (g : Guard) (src : Src) : (Instr.vxBquantE5m2 g src).parts = .trig g false src 0x174 := rfl
@[simp] theorem Instr.parts_vxBquantE2m1 (g : Guard) (src : Src) : (Instr.vxBquantE2m1 g src).parts = .trig g false src 0x175 := rfl
@[simp] theorem Instr.parts_scScanAddF32 (g : Guard) (src : Src) : (Instr.scScanAddF32 g src).parts = .trig g false src 0x176 := rfl
@[simp] theorem Instr.parts_scScanAddI32 (g : Guard) (src : Src) : (Instr.scScanAddI32 g src).parts = .trig g false src 0x177 := rfl
@[simp] theorem Instr.parts_scScanMaxF32 (g : Guard) (src : Src) : (Instr.scScanMaxF32 g src).parts = .trig g false src 0x178 := rfl
@[simp] theorem Instr.parts_scScanMinF32 (g : Guard) (src : Src) : (Instr.scScanMinF32 g src).parts = .trig g false src 0x179 := rfl
@[simp] theorem Instr.parts_scXscanAddF32 (g : Guard) (src : Src) : (Instr.scXscanAddF32 g src).parts = .trig g false src 0x17A := rfl
@[simp] theorem Instr.parts_scXscanAddI32 (g : Guard) (src : Src) : (Instr.scXscanAddI32 g src).parts = .trig g false src 0x17B := rfl
@[simp] theorem Instr.parts_scXscanMaxF32 (g : Guard) (src : Src) : (Instr.scXscanMaxF32 g src).parts = .trig g false src 0x17C := rfl
@[simp] theorem Instr.parts_scXredAddF32 (g : Guard) (src : Src) : (Instr.scXredAddF32 g src).parts = .trig g false src 0x17D := rfl
@[simp] theorem Instr.parts_scXredAddI32 (g : Guard) (src : Src) : (Instr.scXredAddI32 g src).parts = .trig g false src 0x17E := rfl
@[simp] theorem Instr.parts_scXredMaxF32 (g : Guard) (src : Src) : (Instr.scXredMaxF32 g src).parts = .trig g false src 0x17F := rfl
@[simp] theorem Instr.parts_mxPushE4m3 (g : Guard) (src : Src) : (Instr.mxPushE4m3 g src).parts = .trig g false src 0x188 := rfl
@[simp] theorem Instr.parts_mxPushE5m2 (g : Guard) (src : Src) : (Instr.mxPushE5m2 g src).parts = .trig g false src 0x189 := rfl
@[simp] theorem Instr.parts_mxPushE2m1 (g : Guard) (src : Src) : (Instr.mxPushE2m1 g src).parts = .trig g false src 0x18A := rfl
@[simp] theorem Instr.parts_mxPushBf16 (g : Guard) (src : Src) : (Instr.mxPushBf16 g src).parts = .trig g false src 0x18B := rfl
@[simp] theorem Instr.parts_mxPushF16 (g : Guard) (src : Src) : (Instr.mxPushF16 g src).parts = .trig g false src 0x18C := rfl
@[simp] theorem Instr.parts_mxPushI8 (g : Guard) (src : Src) : (Instr.mxPushI8 g src).parts = .trig g false src 0x18D := rfl
@[simp] theorem Instr.parts_mxPushSp (g : Guard) (src : Src) : (Instr.mxPushSp g src).parts = .trig g false src 0x18E := rfl
@[simp] theorem Instr.parts_mxPushIx (g : Guard) (src : Src) : (Instr.mxPushIx g src).parts = .trig g false src 0x18F := rfl
@[simp] theorem Instr.parts_mxSwap (g : Guard) (src : Src) : (Instr.mxSwap g src).parts = .trig g false src 0x190 := rfl
@[simp] theorem Instr.parts_mxAccE4m3 (g : Guard) (src : Src) : (Instr.mxAccE4m3 g src).parts = .trig g false src 0x191 := rfl
@[simp] theorem Instr.parts_mxAccE5m2 (g : Guard) (src : Src) : (Instr.mxAccE5m2 g src).parts = .trig g false src 0x192 := rfl
@[simp] theorem Instr.parts_mxAccE2m1 (g : Guard) (src : Src) : (Instr.mxAccE2m1 g src).parts = .trig g false src 0x193 := rfl
@[simp] theorem Instr.parts_mxAccBf16 (g : Guard) (src : Src) : (Instr.mxAccBf16 g src).parts = .trig g false src 0x194 := rfl
@[simp] theorem Instr.parts_mxAccF16 (g : Guard) (src : Src) : (Instr.mxAccF16 g src).parts = .trig g false src 0x195 := rfl
@[simp] theorem Instr.parts_mxAccI8 (g : Guard) (src : Src) : (Instr.mxAccI8 g src).parts = .trig g false src 0x196 := rfl
@[simp] theorem Instr.parts_mxAccSp (g : Guard) (src : Src) : (Instr.mxAccSp g src).parts = .trig g false src 0x197 := rfl
@[simp] theorem Instr.parts_mxDrain4 (g : Guard) (src : Src) : (Instr.mxDrain4 g src).parts = .trig g false src 0x198 := rfl
@[simp] theorem Instr.parts_mxDrain8Bf16 (g : Guard) (src : Src) : (Instr.mxDrain8Bf16 g src).parts = .trig g false src 0x199 := rfl
@[simp] theorem Instr.parts_mxDrainE4m3 (g : Guard) (src : Src) : (Instr.mxDrainE4m3 g src).parts = .trig g false src 0x19A := rfl
@[simp] theorem Instr.parts_mxZero (g : Guard) (src : Src) : (Instr.mxZero g src).parts = .trig g false src 0x19B := rfl
@[simp] theorem Instr.parts_ag0Set (g : Guard) (r : BitVec 5) : (Instr.ag0Set g r).parts = .agSet g r 0x1A0 := rfl
@[simp] theorem Instr.parts_ag0Rd (g : Guard) (src : Src) : (Instr.ag0Rd g src).parts = .trig g false src 0x1A1 := rfl
@[simp] theorem Instr.parts_ag0Step (g : Guard) (src : Src) : (Instr.ag0Step g src).parts = .trig g false src 0x1A2 := rfl
@[simp] theorem Instr.parts_ag1Set (g : Guard) (r : BitVec 5) : (Instr.ag1Set g r).parts = .agSet g r 0x1A3 := rfl
@[simp] theorem Instr.parts_ag1Rd (g : Guard) (src : Src) : (Instr.ag1Rd g src).parts = .trig g false src 0x1A4 := rfl
@[simp] theorem Instr.parts_ag1Step (g : Guard) (src : Src) : (Instr.ag1Step g src).parts = .trig g false src 0x1A5 := rfl
@[simp] theorem Instr.parts_ag2Set (g : Guard) (r : BitVec 5) : (Instr.ag2Set g r).parts = .agSet g r 0x1A6 := rfl
@[simp] theorem Instr.parts_ag2Wr (g : Guard) (src : Src) : (Instr.ag2Wr g src).parts = .trig g false src 0x1A7 := rfl
@[simp] theorem Instr.parts_ag2Step (g : Guard) (src : Src) : (Instr.ag2Step g src).parts = .trig g false src 0x1A8 := rfl
@[simp] theorem Instr.parts_ag3Set (g : Guard) (r : BitVec 5) : (Instr.ag3Set g r).parts = .agSet g r 0x1A9 := rfl
@[simp] theorem Instr.parts_ag3Wr (g : Guard) (src : Src) : (Instr.ag3Wr g src).parts = .trig g false src 0x1AA := rfl
@[simp] theorem Instr.parts_ag3Step (g : Guard) (src : Src) : (Instr.ag3Step g src).parts = .trig g false src 0x1AB := rfl
@[simp] theorem Instr.parts_nwLdroute (g : Guard) (src : Src) : (Instr.nwLdroute g src).parts = .trig g false src 0x1B0 := rfl
@[simp] theorem Instr.parts_nwLdpat (g : Guard) (src : Src) : (Instr.nwLdpat g src).parts = .trig g false src 0x1B1 := rfl
@[simp] theorem Instr.parts_nwLdplane (g : Guard) (src : Src) : (Instr.nwLdplane g src).parts = .trig g false src 0x1B2 := rfl
@[simp] theorem Instr.parts_nwSolve (g : Guard) (src : Src) : (Instr.nwSolve g src).parts = .trig g false src 0x1B3 := rfl
@[simp] theorem Instr.parts_nwFarclr (g : Guard) (src : Src) : (Instr.nwFarclr g src).parts = .trig g false src 0x1B4 := rfl
@[simp] theorem Instr.parts_nwFarstat (g : Guard) (src : Src) : (Instr.nwFarstat g src).parts = .trig g false src 0x1B5 := rfl
@[simp] theorem Instr.parts_feFill (g : Guard) (src : Src) : (Instr.feFill g src).parts = .trig g false src 0x1E0 := rfl
@[simp] theorem Instr.parts_feSpill (g : Guard) (src : Src) : (Instr.feSpill g src).parts = .trig g false src 0x1E1 := rfl
@[simp] theorem Instr.parts_feBfill (g : Guard) (src : Src) : (Instr.feBfill g src).parts = .trig g false src 0x1E2 := rfl
@[simp] theorem Instr.parts_feGfill (g : Guard) (src : Src) : (Instr.feGfill g src).parts = .trig g false src 0x1E3 := rfl
@[simp] theorem Instr.parts_feSspill (g : Guard) (src : Src) : (Instr.feSspill g src).parts = .trig g false src 0x1E4 := rfl
@[simp] theorem Instr.parts_fePin (g : Guard) (src : Src) : (Instr.fePin g src).parts = .trig g false src 0x1E5 := rfl
@[simp] theorem Instr.parts_sySrd (g : Guard) (src : Src) : (Instr.sySrd g src).parts = .trig g false src 0x1E6 := rfl
@[simp] theorem Instr.parts_sySwr (g : Guard) (src : Src) : (Instr.sySwr g src).parts = .trig g false src 0x1E7 := rfl
@[simp] theorem Instr.parts_syClaim (g : Guard) (src : Src) : (Instr.syClaim g src).parts = .trig g false src 0x1E8 := rfl
@[simp] theorem Instr.parts_syPublish (g : Guard) (src : Src) : (Instr.syPublish g src).parts = .trig g false src 0x1E9 := rfl
@[simp] theorem Instr.parts_syRfe (g : Guard) (src : Src) : (Instr.syRfe g src).parts = .trig g false src 0x1EA := rfl
@[simp] theorem Instr.parts_syBrk (g : Guard) (src : Src) : (Instr.syBrk g src).parts = .trig g false src 0x1EB := rfl
@[simp] theorem Instr.parts_keyRenewalRetraining (p : Fin 12) : (Instr.keyRenewalRetraining p).parts = .event := rfl
@[simp] theorem Instr.parts_hbmRefreshScrub (pa : Nat) (bad : List Nat) : (Instr.hbmRefreshScrub pa bad).parts = .event := rfl
@[simp] theorem Instr.parts_penHartSwitch (h : Nat) (n : Nat) : (Instr.penHartSwitch h n).parts = .event := rfl
@[simp] theorem Instr.parts_penInstruction (n : Nat) : (Instr.penInstruction n).parts = .event := rfl

/-! ### Meanings -/

namespace Machine

theorem exec_perstRelease (s : State) : exec (.perstRelease) s = execPerstRelease s := rfl
theorem exec_stageA (s : State) : exec (.stageA) s = execStageA s := rfl
theorem exec_stageB (s : State) : exec (.stageB) s = execStageB s := rfl
theorem exec_stageC (s : State) : exec (.stageC) s = execStageC s := rfl
theorem exec_stageD (strap0 : Bool) (strap2 : Bool) (s : State) : exec (.stageD strap0 strap2) s = execStageD strap0 strap2 s := rfl
theorem exec_stageE (s : State) : exec (.stageE) s = execStageE s := rfl
theorem exec_stageFailure (code : BitVec 8) (s : State) : exec (.stageFailure code) s = execStageFailure code s := rfl
theorem exec_pfReset (s : State) : exec (.pfReset) s = execPfReset s := rfl
theorem exec_functionLevelReset (fn : BitVec 6) (s : State) : exec (.functionLevelReset fn) s = execFunctionLevelReset fn s := rfl
theorem exec_thermalPowerOff (s : State) : exec (.thermalPowerOff) s = execThermalPowerOff s := rfl
theorem exec_clockMachineCheck (d : DieId) (s : State) : exec (.clockMachineCheck d) s = execClockMachineCheck d s := rfl
theorem exec_controlParity (d : DieId) (c : CtxId) (s : State) : exec (.controlParity d c) s = execControlParity d c s := rfl
theorem exec_farLaneFrame (d : DieId) (l : BitVec 4) (fixed : Nat) (bad : Bool) (s : State) : exec (.farLaneFrame d l fixed bad) s = execFarLaneFrame d l fixed bad s := rfl
theorem exec_farPathLost (b : Bool) (s : State) : exec (.farPathLost b) s = execFarPathLost b s := rfl
theorem exec_countMessageSend (d : DieId) (s : State) : exec (.countMessageSend d) s = execCountMessageSend d s := rfl
theorem exec_countMessage (d : DieId) (crc : Bool) (s : State) : exec (.countMessage d crc) s = execCountMessage d crc s := rfl
theorem exec_countMessagesMissing (d : DieId) (o : DieId) (s : State) : exec (.countMessagesMissing d o) s = execCountMessagesMissing d o s := rfl
theorem exec_freezeEventMessage (d : DieId) (crc : Bool) (s : State) : exec (.freezeEventMessage d crc) s = execFreezeEventMessage d crc s := rfl
theorem exec_stopEventMessage (d : DieId) (crc : Bool) (s : State) : exec (.stopEventMessage d crc) s = execStopEventMessage d crc s := rfl
theorem exec_freezeDebtPaid (d : DieId) (s : State) : exec (.freezeDebtPaid d) s = execFreezeDebtPaid d s := rfl
theorem exec_scrubRead (d : DieId) (u : Nat) (new : List (Nat × Nat)) (s : State) : exec (.scrubRead d u new) s = execScrubRead d u new s := rfl
theorem exec_lossOfLight (p : Fin 12) (l : Light) (s : State) : exec (.lossOfLight p l) s = execLossOfLight p l s := rfl
theorem exec_spareLaserLock (p : Fin 12) (s : State) : exec (.spareLaserLock p) s = execSpareLaserLock p s := rfl
theorem exec_spareWavelengthLock (p : Fin 12) (s : State) : exec (.spareWavelengthLock p) s = execSpareWavelengthLock p s := rfl
theorem exec_dataFlit (p : Fin 12) (peer : BitVec 7) (h : BitVec 128) (data : BitVec 2048) (crc : BitVec 64) (tag : BitVec 64) (s : State) : exec (.dataFlit p peer h data crc tag) s = execDataFlit p peer h data crc tag s := rfl
theorem exec_idleFlit (p : Fin 12) (lack : BitVec 16) (s : State) : exec (.idleFlit p lack) s = execIdleFlit p lack s := rfl
theorem exec_acknowledgement (p : Fin 12) (lack : BitVec 16) (s : State) : exec (.acknowledgement p lack) s = execAcknowledgement p lack s := rfl
theorem exec_restripeMarker (p : Fin 12) (mask : BitVec 16) (s : State) : exec (.restripeMarker p mask) s = execRestripeMarker p mask s := rfl
theorem exec_creditReturn (p : Fin 12) (vc : BitVec 3) (n : Nat) (s : State) : exec (.creditReturn p vc n) s = execCreditReturn p vc n s := rfl
theorem exec_drainMarker (p : Fin 12) (s : State) : exec (.drainMarker p) s = execDrainMarker p s := rfl
theorem exec_replayRequest (p : Fin 12) (lack : BitVec 16) (s : State) : exec (.replayRequest p lack) s = execReplayRequest p lack s := rfl
theorem exec_replayTimeout (p : Fin 12) (s : State) : exec (.replayTimeout p) s = execReplayTimeout p s := rfl
theorem exec_replayRequestRepeat (p : Fin 12) (s : State) : exec (.replayRequestRepeat p) s = execReplayRequestRepeat p s := rfl
theorem exec_acknowledgementTimer (p : Fin 12) (s : State) : exec (.acknowledgementTimer p) s = execAcknowledgementTimer p s := rfl
theorem exec_planeDrain (k : Fin 4) (s : State) : exec (.planeDrain k) s = execPlaneDrain k s := rfl
theorem exec_planeDrainForce (k : Fin 4) (s : State) : exec (.planeDrainForce k) s = execPlaneDrainForce k s := rfl
theorem exec_planeEnable (k : Fin 4) (s : State) : exec (.planeEnable k) s = execPlaneEnable k s := rfl
theorem exec_planeEnableCommit (k : Fin 4) (s : State) : exec (.planeEnableCommit k) s = execPlaneEnableCommit k s := rfl
theorem exec_planeDrained (k : Fin 4) (s : State) : exec (.planeDrained k) s = execPlaneDrained k s := rfl
theorem exec_planeEnabled (k : Fin 4) (s : State) : exec (.planeEnabled k) s = execPlaneEnabled k s := rfl
theorem exec_membersetWrite (v : Word) (s : State) : exec (.membersetWrite v) s = execMembersetWrite v s := rfl
theorem exec_readRequest (p : Nat) (k : List Nat) (s : State) : exec (.readRequest p k) s = execReadRequest p k s := rfl
theorem exec_readResponse (p : Nat) (s : State) : exec (.readResponse p) s = execReadResponse p s := rfl
theorem exec_writeRequest (p : Nat) (k : List Nat) (s : State) : exec (.writeRequest p k) s = execWriteRequest p k s := rfl
theorem exec_flagRequest (p : Nat) (s : State) : exec (.flagRequest p) s = execFlagRequest p s := rfl
theorem exec_writeAndFlagResponse (p : Nat) (s : State) : exec (.writeAndFlagResponse p) s = execWriteAndFlagResponse p s := rfl
theorem exec_atomicRequest (p : Nat) (s : State) : exec (.atomicRequest p) s = execAtomicRequest p s := rfl
theorem exec_atomicResponse (p : Nat) (s : State) : exec (.atomicResponse p) s = execAtomicResponse p s := rfl
theorem exec_orderedAtomicRequest (p : Nat) (s : State) : exec (.orderedAtomicRequest p) s = execOrderedAtomicRequest p s := rfl
theorem exec_orderedFetchedValueWrite (p : Nat) (s : State) : exec (.orderedFetchedValueWrite p) s = execOrderedFetchedValueWrite p s := rfl
theorem exec_orderedAtomicStatus (p : Nat) (s : State) : exec (.orderedAtomicStatus p) s = execOrderedAtomicStatus p s := rfl
theorem exec_threePartyRequest (p : Nat) (k : List Nat) (s : State) : exec (.threePartyRequest p k) s = execThreePartyRequest p k s := rfl
theorem exec_delivery (p : Nat) (k : List Nat) (s : State) : exec (.delivery p k) s = execDelivery p k s := rfl
theorem exec_threePartyStatus (p : Nat) (s : State) : exec (.threePartyStatus p) s = execThreePartyStatus p s := rfl
theorem exec_reductionRead (p : Nat) (k : List Nat) (s : State) : exec (.reductionRead p k) s = execReductionRead p k s := rfl
theorem exec_reductionValue (p : Nat) (s : State) : exec (.reductionValue p) s = execReductionValue p s := rfl
theorem exec_superstepArrive (p : Nat) (s : State) : exec (.superstepArrive p) s = execSuperstepArrive p s := rfl
theorem exec_superstepReady (p : Nat) (s : State) : exec (.superstepReady p) s = execSuperstepReady p s := rfl
theorem exec_superstepAbort (p : Nat) (s : State) : exec (.superstepAbort p) s = execSuperstepAbort p s := rfl
theorem exec_superstepDone (p : Nat) (s : State) : exec (.superstepDone p) s = execSuperstepDone p s := rfl
theorem exec_superstepTimeout (k : Nat) (s : State) : exec (.superstepTimeout k) s = execSuperstepTimeout k s := rfl
theorem exec_streamRow (p : Nat) (s : State) : exec (.streamRow p) s = execStreamRow p s := rfl
theorem exec_streamCredit (p : Nat) (s : State) : exec (.streamCredit p) s = execStreamCredit p s := rfl
theorem exec_fabricTimeout (k : Nat) (s : State) : exec (.fabricTimeout k) s = execFabricTimeout k s := rfl
theorem exec_streamtimeout (d : DieId) (c : CtxId) (s : State) : exec (.streamtimeout d c) s = execStreamtimeout d c s := rfl
theorem exec_stageWrite (fn : BitVec 6) (q : BitVec 10) (off : Nat) (bs : List Byte) (s : State) : exec (.stageWrite fn q off bs) s = execStageWrite fn q off bs s := rfl
theorem exec_recordSubmit (fn : BitVec 6) (q : BitVec 10) (off : Nat) (bs : List Byte) (s : State) : exec (.recordSubmit fn q off bs) s = execRecordSubmit fn q off bs s := rfl
theorem exec_flush (fn : BitVec 6) (q : BitVec 10) (s : State) : exec (.flush fn q) s = execFlush fn q s := rfl
theorem exec_qcfgWrite (fn : BitVec 6) (q : BitVec 10) (v : Word) (s : State) : exec (.qcfgWrite fn q v) s = execQcfgWrite fn q v s := rfl
theorem exec_dmwinWrite (v : Word) (s : State) : exec (.dmwinWrite v) s = execDmwinWrite v s := rfl
theorem exec_bar4Read (off : Nat) (n : Nat) (s : State) : exec (.bar4Read off n) s = execBar4Read off n s := rfl
theorem exec_bar4Write (off : Nat) (bs : List Byte) (s : State) : exec (.bar4Write off bs) s = execBar4Write off bs s := rfl
theorem exec_pwrlimWrite (v : Word) (s : State) : exec (.pwrlimWrite v) s = execPwrlimWrite v s := rfl
theorem exec_lowpwrWrite (v : Word) (s : State) : exec (.lowpwrWrite v) s = execLowpwrWrite v s := rfl
theorem exec_wake (s : State) : exec (.wake) s = execWake s := rfl
theorem exec_wakeHoldEnd (s : State) : exec (.wakeHoldEnd) s = execWakeHoldEnd s := rfl
theorem exec_registerWrite (r : RegWrite) (s : State) : exec (.registerWrite r) s = execRegisterWrite r s := rfl
theorem exec_getVersion (fn : BitVec 6) (s : State) : exec (.getVersion fn) s = execGetVersion fn s := rfl
theorem exec_getCapabilities (fn : BitVec 6) (s : State) : exec (.getCapabilities fn) s = execGetCapabilities fn s := rfl
theorem exec_negotiateAlgorithms (fn : BitVec 6) (offered : List SpdmAlg) (s : State) : exec (.negotiateAlgorithms fn offered) s = execNegotiateAlgorithms fn offered s := rfl
theorem exec_getDigests (fn : BitVec 6) (s : State) : exec (.getDigests fn) s = execGetDigests fn s := rfl
theorem exec_getCertificate (fn : BitVec 6) (off : Nat) (len : Nat) (s : State) : exec (.getCertificate fn off len) s = execGetCertificate fn off len s := rfl
theorem exec_challenge (fn : BitVec 6) (nonce : List Byte) (s : State) : exec (.challenge fn nonce) s = execChallenge fn nonce s := rfl
theorem exec_getMeasurements (fn : BitVec 6) (index : Nat) (sign : Bool) (nonce : List Byte) (s : State) : exec (.getMeasurements fn index sign nonce) s = execGetMeasurements fn index sign nonce s := rfl
theorem exec_keyExchange (fn : BitVec 6) (req : List Byte) (s : State) : exec (.keyExchange fn req) s = execKeyExchange fn req s := rfl
theorem exec_finish (fn : BitVec 6) (good : Bool) (s : State) : exec (.finish fn good) s = execFinish fn good s := rfl
theorem exec_heartbeat (fn : BitVec 6) (s : State) : exec (.heartbeat fn) s = execHeartbeat fn s := rfl
theorem exec_heartbeatFailure (fn : BitVec 6) (s : State) : exec (.heartbeatFailure fn) s = execHeartbeatFailure fn s := rfl
theorem exec_keyUpdate (fn : BitVec 6) (s : State) : exec (.keyUpdate fn) s = execKeyUpdate fn s := rfl
theorem exec_endSession (fn : BitVec 6) (s : State) : exec (.endSession fn) s = execEndSession fn s := rfl
theorem exec_ideKeyManagement (fn : BitVec 6) (stream : BitVec 3) (s : State) : exec (.ideKeyManagement fn stream) s = execIdeKeyManagement fn stream s := rfl
theorem exec_ideStreamInsecure (fn : BitVec 6) (stream : BitVec 3) (s : State) : exec (.ideStreamInsecure fn stream) s = execIdeStreamInsecure fn stream s := rfl
theorem exec_lockInterface (fn : BitVec 6) (s : State) : exec (.lockInterface fn) s = execLockInterface fn s := rfl
theorem exec_startInterface (fn : BitVec 6) (s : State) : exec (.startInterface fn) s = execStartInterface fn s := rfl
theorem exec_stopInterface (fn : BitVec 6) (s : State) : exec (.stopInterface fn) s = execStopInterface fn s := rfl
theorem exec_loadObject (fn : BitVec 6) (secured : Bool) (req : List Byte) (s : State) : exec (.loadObject fn secured req) s = execLoadObject fn secured req s := rfl
theorem exec_unloadObject (fn : BitVec 6) (secured : Bool) (handle : BitVec 32) (s : State) : exec (.unloadObject fn secured handle) s = execUnloadObject fn secured handle s := rfl
theorem exec_attestationLogRead (fn : BitVec 6) (s : State) : exec (.attestationLogRead fn) s = execAttestationLogRead fn s := rfl
theorem exec_dispatchPass (s : State) : exec (.dispatchPass) s = execDispatchPass s := rfl
theorem exec_sealedTransferIn (lid : BitVec 32) (s : State) : exec (.sealedTransferIn lid) s = execSealedTransferIn lid s := rfl
theorem exec_sealedTransferOut (lid : BitVec 32) (s : State) : exec (.sealedTransferOut lid) s = execSealedTransferOut lid s := rfl
theorem exec_foldStart (d : DieId) (s : State) : exec (.foldStart d) s = execFoldStart d s := rfl
theorem exec_agreedCount (lid : BitVec 32) (d : DieId) (s : State) : exec (.agreedCount lid d) s = execAgreedCount lid d s := rfl
theorem exec_noPreemptOverrun (lid : BitVec 32) (d : DieId) (s : State) : exec (.noPreemptOverrun lid d) s = execNoPreemptOverrun lid d s := rfl
theorem exec_save (lid : BitVec 32) (s : State) : exec (.save lid) s = execSave lid s := rfl
theorem exec_budgetExpiry (lid : BitVec 32) (s : State) : exec (.budgetExpiry lid) s = execBudgetExpiry lid s := rfl
theorem exec_governorSettlement (r : Readings) (s : State) : exec (.governorSettlement r) s = execGovernorSettlement r s := rfl
theorem exec_freezeDebtRaise (d : DieId) (s : State) : exec (.freezeDebtRaise d) s = execFreezeDebtRaise d s := rfl
theorem exec_freeContextSwitch (d : DieId) (s : State) : exec (.freeContextSwitch d) s = execFreeContextSwitch d s := rfl
theorem exec_contextRetire (d : DieId) (c : CtxId) (s : State) : exec (.contextRetire d c) s = execContextRetire d c s := rfl
theorem exec_alignRelease (d : DieId) (s : State) : exec (.alignRelease d) s = execAlignRelease d s := rfl
theorem exec_alignmentTimeout (d : DieId) (s : State) : exec (.alignmentTimeout d) s = execAlignmentTimeout d s := rfl
theorem exec_stopctlResume (d : DieId) (c : CtxId) (s : State) : exec (.stopctlResume d c) s = execStopctlResume d c s := rfl
theorem exec_stopctlEnd (d : DieId) (c : CtxId) (s : State) : exec (.stopctlEnd d c) s = execStopctlEnd d c s := rfl
theorem exec_queueEntryPerformed (d : DieId) (c : CtxId) (seq : Nat) (off : Nat) (s : State) : exec (.queueEntryPerformed d c seq off) s = execQueueEntryPerformed d c seq off s := rfl
theorem exec_fillStart (d : DieId) (k : Nat) (rows : List Nat) (s : State) : exec (.fillStart d k rows) s = execFillStart d k rows s := rfl
theorem exec_fillCompletion (d : DieId) (k : Nat) (s : State) : exec (.fillCompletion d k) s = execFillCompletion d k s := rfl
theorem exec_tableLoadComplete (d : DieId) (s : State) : exec (.tableLoadComplete d) s = execTableLoadComplete d s := rfl
theorem exec_solveComplete (d : DieId) (s : State) : exec (.solveComplete d) s = execSolveComplete d s := rfl
theorem exec_pinComplete (d : DieId) (s : State) : exec (.pinComplete d) s = execPinComplete d s := rfl
theorem exec_copyComplete (d : DieId) (ch : Fin 16) (blocks : List Nat) (s : State) : exec (.copyComplete d ch blocks) s = execCopyComplete d ch blocks s := rfl
theorem exec_copyFailure (d : DieId) (ch : Fin 16) (s : State) : exec (.copyFailure d ch) s = execCopyFailure d ch s := rfl
theorem exec_copyErrClear (d : DieId) (c : CtxId) (seq : Nat) (s : State) : exec (.copyErrClear d c seq) s = execCopyErrClear d c seq s := rfl
theorem exec_invalWrite (r : RegWrite) (s : State) : exec (.invalWrite r) s = execInvalWrite r s := rfl
theorem exec_slotmapWrite (r : RegWrite) (s : State) : exec (.slotmapWrite r) s = execSlotmapWrite r s := rfl
theorem exec_polgenWrite (d : DieId) (c : CtxId) (seq : Nat) (s : State) : exec (.polgenWrite d c seq) s = execPolgenWrite d c seq s := rfl
theorem exec_rmodeWrite (d : DieId) (c : CtxId) (s : State) : exec (.rmodeWrite d c) s = execRmodeWrite d c s := rfl
theorem exec_windowDescriptorWrite (d : DieId) (c : CtxId) (seq : Nat) (s : State) : exec (.windowDescriptorWrite d c seq) s = execWindowDescriptorWrite d c seq s := rfl
theorem exec_streamcfgWrite (d : DieId) (c : CtxId) (seq : Nat) (s : State) : exec (.streamcfgWrite d c seq) s = execStreamcfgWrite d c seq s := rfl
theorem exec_obspost (n : Nat) (s : State) : exec (.obspost n) s = execObspost n s := rfl
theorem exec_actpop (n : Nat) (s : State) : exec (.actpop n) s = execActpop n s := rfl
theorem exec_wfi (n : Nat) (s : State) : exec (.wfi n) s = execWfi n s := rfl
theorem exec_wfiWake (n : Nat) (s : State) : exec (.wfiWake n) s = execWfiWake n s := rfl
theorem exec_copyOnWrite (n : Nat) (page : Nat) (s : State) : exec (.copyOnWrite n page) s = execCopyOnWrite n page s := rfl
theorem exec_penAccessFault (n : Nat) (s : State) : exec (.penAccessFault n) s = execPenAccessFault n s := rfl
theorem exec_stepBudget (n : Nat) (s : State) : exec (.stepBudget n) s = execStepBudget n s := rfl
theorem exec_episodeBudget (n : Nat) (s : State) : exec (.episodeBudget n) s = execEpisodeBudget n s := rfl
theorem exec_wallBackstop (n : Nat) (s : State) : exec (.wallBackstop n) s = execWallBackstop n s := rfl
theorem exec_paddockHardwareError (n : Nat) (s : State) : exec (.paddockHardwareError n) s = execPaddockHardwareError n s := rfl
theorem exec_penCreate (d : DieId) (c : CtxId) (seq : Nat) (s : State) : exec (.penCreate d c seq) s = execPenCreate d c seq s := rfl
theorem exec_penReset (d : DieId) (c : CtxId) (seq : Nat) (s : State) : exec (.penReset d c seq) s = execPenReset d c seq s := rfl
theorem exec_penHalt (d : DieId) (c : CtxId) (seq : Nat) (s : State) : exec (.penHalt d c seq) s = execPenHalt d c seq s := rfl
theorem exec_penSnap (d : DieId) (c : CtxId) (seq : Nat) (s : State) : exec (.penSnap d c seq) s = execPenSnap d c seq s := rfl
theorem exec_penReadrec (d : DieId) (c : CtxId) (seq : Nat) (s : State) : exec (.penReadrec d c seq) s = execPenReadrec d c seq s := rfl
theorem exec_penDestroy (d : DieId) (c : CtxId) (seq : Nat) (s : State) : exec (.penDestroy d c seq) s = execPenDestroy d c seq s := rfl
theorem exec_sbiGetSpecVersion (n : Nat) (s : State) : exec (.sbiGetSpecVersion n) s = execSbiGetSpecVersion n s := rfl
theorem exec_sbiGetImplId (n : Nat) (s : State) : exec (.sbiGetImplId n) s = execSbiGetImplId n s := rfl
theorem exec_sbiGetImplVersion (n : Nat) (s : State) : exec (.sbiGetImplVersion n) s = execSbiGetImplVersion n s := rfl
theorem exec_sbiProbeExtension (n : Nat) (s : State) : exec (.sbiProbeExtension n) s = execSbiProbeExtension n s := rfl
theorem exec_sbiGetMvendorid (n : Nat) (s : State) : exec (.sbiGetMvendorid n) s = execSbiGetMvendorid n s := rfl
theorem exec_sbiGetMarchid (n : Nat) (s : State) : exec (.sbiGetMarchid n) s = execSbiGetMarchid n s := rfl
theorem exec_sbiGetMimpid (n : Nat) (s : State) : exec (.sbiGetMimpid n) s = execSbiGetMimpid n s := rfl
theorem exec_sbiNotSupported (n : Nat) (s : State) : exec (.sbiNotSupported n) s = execSbiNotSupported n s := rfl
theorem exec_move (g : Guard) (h : Bool) (src : Src) (dst : Dst) (s : State) : exec (.move g h src dst) s = execMove g h src dst s := rfl
theorem exec_nop (s : State) : exec (.nop) s = execNop s := rfl
theorem exec_ia0Add (g : Guard) (src : Src) (s : State) : exec (.ia0Add g src) s = execIa0Add g src s := rfl
theorem exec_ia0Sub (g : Guard) (src : Src) (s : State) : exec (.ia0Sub g src) s = execIa0Sub g src s := rfl
theorem exec_ia0And (g : Guard) (src : Src) (s : State) : exec (.ia0And g src) s = execIa0And g src s := rfl
theorem exec_ia0Or (g : Guard) (src : Src) (s : State) : exec (.ia0Or g src) s = execIa0Or g src s := rfl
theorem exec_ia0Xor (g : Guard) (src : Src) (s : State) : exec (.ia0Xor g src) s = execIa0Xor g src s := rfl
theorem exec_ia0Andn (g : Guard) (src : Src) (s : State) : exec (.ia0Andn g src) s = execIa0Andn g src s := rfl
theorem exec_ia0Orn (g : Guard) (src : Src) (s : State) : exec (.ia0Orn g src) s = execIa0Orn g src s := rfl
theorem exec_ia0Shl (g : Guard) (src : Src) (s : State) : exec (.ia0Shl g src) s = execIa0Shl g src s := rfl
theorem exec_ia0Shr (g : Guard) (src : Src) (s : State) : exec (.ia0Shr g src) s = execIa0Shr g src s := rfl
theorem exec_ia0Sar (g : Guard) (src : Src) (s : State) : exec (.ia0Sar g src) s = execIa0Sar g src s := rfl
theorem exec_ia0Rol (g : Guard) (src : Src) (s : State) : exec (.ia0Rol g src) s = execIa0Rol g src s := rfl
theorem exec_ia0Ror (g : Guard) (src : Src) (s : State) : exec (.ia0Ror g src) s = execIa0Ror g src s := rfl
theorem exec_ia0Min (g : Guard) (src : Src) (s : State) : exec (.ia0Min g src) s = execIa0Min g src s := rfl
theorem exec_ia0Max (g : Guard) (src : Src) (s : State) : exec (.ia0Max g src) s = execIa0Max g src s := rfl
theorem exec_ia0Minu (g : Guard) (src : Src) (s : State) : exec (.ia0Minu g src) s = execIa0Minu g src s := rfl
theorem exec_ia0Maxu (g : Guard) (src : Src) (s : State) : exec (.ia0Maxu g src) s = execIa0Maxu g src s := rfl
theorem exec_ia0Clz (g : Guard) (src : Src) (s : State) : exec (.ia0Clz g src) s = execIa0Clz g src s := rfl
theorem exec_ia0Ctz (g : Guard) (src : Src) (s : State) : exec (.ia0Ctz g src) s = execIa0Ctz g src s := rfl
theorem exec_ia0Popc (g : Guard) (src : Src) (s : State) : exec (.ia0Popc g src) s = execIa0Popc g src s := rfl
theorem exec_ia0Sext8 (g : Guard) (src : Src) (s : State) : exec (.ia0Sext8 g src) s = execIa0Sext8 g src s := rfl
theorem exec_ia0Sext16 (g : Guard) (src : Src) (s : State) : exec (.ia0Sext16 g src) s = execIa0Sext16 g src s := rfl
theorem exec_ia0Sext32 (g : Guard) (src : Src) (s : State) : exec (.ia0Sext32 g src) s = execIa0Sext32 g src s := rfl
theorem exec_ia0Zext32 (g : Guard) (src : Src) (s : State) : exec (.ia0Zext32 g src) s = execIa0Zext32 g src s := rfl
theorem exec_ia0Bext (g : Guard) (src : Src) (s : State) : exec (.ia0Bext g src) s = execIa0Bext g src s := rfl
theorem exec_ia0Bins (g : Guard) (src : Src) (s : State) : exec (.ia0Bins g src) s = execIa0Bins g src s := rfl
theorem exec_ia0Ceq (g : Guard) (src : Src) (s : State) : exec (.ia0Ceq g src) s = execIa0Ceq g src s := rfl
theorem exec_ia0Cne (g : Guard) (src : Src) (s : State) : exec (.ia0Cne g src) s = execIa0Cne g src s := rfl
theorem exec_ia0Clt (g : Guard) (src : Src) (s : State) : exec (.ia0Clt g src) s = execIa0Clt g src s := rfl
theorem exec_ia0Cltu (g : Guard) (src : Src) (s : State) : exec (.ia0Cltu g src) s = execIa0Cltu g src s := rfl
theorem exec_ia0Cle (g : Guard) (src : Src) (s : State) : exec (.ia0Cle g src) s = execIa0Cle g src s := rfl
theorem exec_ia0Cleu (g : Guard) (src : Src) (s : State) : exec (.ia0Cleu g src) s = execIa0Cleu g src s := rfl
theorem exec_imMul (g : Guard) (src : Src) (s : State) : exec (.imMul g src) s = execImMul g src s := rfl
theorem exec_imMulhu (g : Guard) (src : Src) (s : State) : exec (.imMulhu g src) s = execImMulhu g src s := rfl
theorem exec_imMulhsu (g : Guard) (src : Src) (s : State) : exec (.imMulhsu g src) s = execImMulhsu g src s := rfl
theorem exec_imDiv (g : Guard) (src : Src) (s : State) : exec (.imDiv g src) s = execImDiv g src s := rfl
theorem exec_imDivu (g : Guard) (src : Src) (s : State) : exec (.imDivu g src) s = execImDivu g src s := rfl
theorem exec_ia1Add (g : Guard) (src : Src) (s : State) : exec (.ia1Add g src) s = execIa1Add g src s := rfl
theorem exec_ia1Sub (g : Guard) (src : Src) (s : State) : exec (.ia1Sub g src) s = execIa1Sub g src s := rfl
theorem exec_ia1And (g : Guard) (src : Src) (s : State) : exec (.ia1And g src) s = execIa1And g src s := rfl
theorem exec_ia1Or (g : Guard) (src : Src) (s : State) : exec (.ia1Or g src) s = execIa1Or g src s := rfl
theorem exec_ia1Xor (g : Guard) (src : Src) (s : State) : exec (.ia1Xor g src) s = execIa1Xor g src s := rfl
theorem exec_ia1Andn (g : Guard) (src : Src) (s : State) : exec (.ia1Andn g src) s = execIa1Andn g src s := rfl
theorem exec_ia1Shl (g : Guard) (src : Src) (s : State) : exec (.ia1Shl g src) s = execIa1Shl g src s := rfl
theorem exec_ia1Shr (g : Guard) (src : Src) (s : State) : exec (.ia1Shr g src) s = execIa1Shr g src s := rfl
theorem exec_ia1Sar (g : Guard) (src : Src) (s : State) : exec (.ia1Sar g src) s = execIa1Sar g src s := rfl
theorem exec_ia1Ceq (g : Guard) (src : Src) (s : State) : exec (.ia1Ceq g src) s = execIa1Ceq g src s := rfl
theorem exec_ia1Clt (g : Guard) (src : Src) (s : State) : exec (.ia1Clt g src) s = execIa1Clt g src s := rfl
theorem exec_ia1Cltu (g : Guard) (src : Src) (s : State) : exec (.ia1Cltu g src) s = execIa1Cltu g src s := rfl
theorem exec_brJmp (g : Guard) (src : Src) (s : State) : exec (.brJmp g src) s = execBrJmp g src s := rfl
theorem exec_brCall (g : Guard) (src : Src) (s : State) : exec (.brCall g src) s = execBrCall g src s := rfl
theorem exec_brLoop (g : Guard) (src : Src) (s : State) : exec (.brLoop g src) s = execBrLoop g src s := rfl
theorem exec_brRotcfg (g : Guard) (src : Src) (s : State) : exec (.brRotcfg g src) s = execBrRotcfg g src s := rfl
theorem exec_brYield (g : Guard) (src : Src) (s : State) : exec (.brYield g src) s = execBrYield g src s := rfl
theorem exec_brAlign (g : Guard) (src : Src) (s : State) : exec (.brAlign g src) s = execBrAlign g src s := rfl
theorem exec_brExit (g : Guard) (src : Src) (s : State) : exec (.brExit g src) s = execBrExit g src s := rfl
theorem exec_brExitAbandon (g : Guard) (src : Src) (s : State) : exec (.brExitAbandon g src) s = execBrExitAbandon g src s := rfl
theorem exec_brTrap (g : Guard) (src : Src) (s : State) : exec (.brTrap g src) s = execBrTrap g src s := rfl
theorem exec_lsLdb (g : Guard) (src : Src) (s : State) : exec (.lsLdb g src) s = execLsLdb g src s := rfl
theorem exec_lsLdbu (g : Guard) (src : Src) (s : State) : exec (.lsLdbu g src) s = execLsLdbu g src s := rfl
theorem exec_lsLdh (g : Guard) (src : Src) (s : State) : exec (.lsLdh g src) s = execLsLdh g src s := rfl
theorem exec_lsLdhu (g : Guard) (src : Src) (s : State) : exec (.lsLdhu g src) s = execLsLdhu g src s := rfl
theorem exec_lsLdw (g : Guard) (src : Src) (s : State) : exec (.lsLdw g src) s = execLsLdw g src s := rfl
theorem exec_lsLdwu (g : Guard) (src : Src) (s : State) : exec (.lsLdwu g src) s = execLsLdwu g src s := rfl
theorem exec_lsLdd (g : Guard) (src : Src) (s : State) : exec (.lsLdd g src) s = execLsLdd g src s := rfl
theorem exec_lsStb (g : Guard) (src : Src) (s : State) : exec (.lsStb g src) s = execLsStb g src s := rfl
theorem exec_lsSth (g : Guard) (src : Src) (s : State) : exec (.lsSth g src) s = execLsSth g src s := rfl
theorem exec_lsStw (g : Guard) (src : Src) (s : State) : exec (.lsStw g src) s = execLsStw g src s := rfl
theorem exec_lsStd (g : Guard) (src : Src) (s : State) : exec (.lsStd g src) s = execLsStd g src s := rfl
theorem exec_lsLdrow (g : Guard) (src : Src) (s : State) : exec (.lsLdrow g src) s = execLsLdrow g src s := rfl
theorem exec_lsStrow (g : Guard) (src : Src) (s : State) : exec (.lsStrow g src) s = execLsStrow g src s := rfl
theorem exec_lsStrowm (g : Guard) (src : Src) (s : State) : exec (.lsStrowm g src) s = execLsStrowm g src s := rfl
theorem exec_lsQmark (g : Guard) (src : Src) (s : State) : exec (.lsQmark g src) s = execLsQmark g src s := rfl
theorem exec_syAmoAddW (g : Guard) (src : Src) (s : State) : exec (.syAmoAddW g src) s = execSyAmoAddW g src s := rfl
theorem exec_syAmoAddD (g : Guard) (src : Src) (s : State) : exec (.syAmoAddD g src) s = execSyAmoAddD g src s := rfl
theorem exec_syAmoAndW (g : Guard) (src : Src) (s : State) : exec (.syAmoAndW g src) s = execSyAmoAndW g src s := rfl
theorem exec_syAmoAndD (g : Guard) (src : Src) (s : State) : exec (.syAmoAndD g src) s = execSyAmoAndD g src s := rfl
theorem exec_syAmoOrW (g : Guard) (src : Src) (s : State) : exec (.syAmoOrW g src) s = execSyAmoOrW g src s := rfl
theorem exec_syAmoOrD (g : Guard) (src : Src) (s : State) : exec (.syAmoOrD g src) s = execSyAmoOrD g src s := rfl
theorem exec_syAmoXorW (g : Guard) (src : Src) (s : State) : exec (.syAmoXorW g src) s = execSyAmoXorW g src s := rfl
theorem exec_syAmoXorD (g : Guard) (src : Src) (s : State) : exec (.syAmoXorD g src) s = execSyAmoXorD g src s := rfl
theorem exec_syAmoMinW (g : Guard) (src : Src) (s : State) : exec (.syAmoMinW g src) s = execSyAmoMinW g src s := rfl
theorem exec_syAmoMinD (g : Guard) (src : Src) (s : State) : exec (.syAmoMinD g src) s = execSyAmoMinD g src s := rfl
theorem exec_syAmoMaxW (g : Guard) (src : Src) (s : State) : exec (.syAmoMaxW g src) s = execSyAmoMaxW g src s := rfl
theorem exec_syAmoMaxD (g : Guard) (src : Src) (s : State) : exec (.syAmoMaxD g src) s = execSyAmoMaxD g src s := rfl
theorem exec_syAmoMinuW (g : Guard) (src : Src) (s : State) : exec (.syAmoMinuW g src) s = execSyAmoMinuW g src s := rfl
theorem exec_syAmoMinuD (g : Guard) (src : Src) (s : State) : exec (.syAmoMinuD g src) s = execSyAmoMinuD g src s := rfl
theorem exec_syAmoMaxuW (g : Guard) (src : Src) (s : State) : exec (.syAmoMaxuW g src) s = execSyAmoMaxuW g src s := rfl
theorem exec_syAmoMaxuD (g : Guard) (src : Src) (s : State) : exec (.syAmoMaxuD g src) s = execSyAmoMaxuD g src s := rfl
theorem exec_syAmoSwapW (g : Guard) (src : Src) (s : State) : exec (.syAmoSwapW g src) s = execSyAmoSwapW g src s := rfl
theorem exec_syAmoSwapD (g : Guard) (src : Src) (s : State) : exec (.syAmoSwapD g src) s = execSyAmoSwapD g src s := rfl
theorem exec_syAmoCasW (g : Guard) (src : Src) (s : State) : exec (.syAmoCasW g src) s = execSyAmoCasW g src s := rfl
theorem exec_syAmoCasD (g : Guard) (src : Src) (s : State) : exec (.syAmoCasD g src) s = execSyAmoCasD g src s := rfl
theorem exec_syFenceR (g : Guard) (src : Src) (s : State) : exec (.syFenceR g src) s = execSyFenceR g src s := rfl
theorem exec_syFenceW (g : Guard) (src : Src) (s : State) : exec (.syFenceW g src) s = execSyFenceW g src s := rfl
theorem exec_syFenceRw (g : Guard) (src : Src) (s : State) : exec (.syFenceRw g src) s = execSyFenceRw g src s := rfl
theorem exec_syTokWait (g : Guard) (src : Src) (s : State) : exec (.syTokWait g src) s = execSyTokWait g src s := rfl
theorem exec_syTokTest (g : Guard) (src : Src) (s : State) : exec (.syTokTest g src) s = execSyTokTest g src s := rfl
theorem exec_syTokId (g : Guard) (src : Src) (s : State) : exec (.syTokId g src) s = execSyTokId g src s := rfl
theorem exec_syTokClr (g : Guard) (src : Src) (s : State) : exec (.syTokClr g src) s = execSyTokClr g src s := rfl
theorem exec_syBarArrive (g : Guard) (src : Src) (s : State) : exec (.syBarArrive g src) s = execSyBarArrive g src s := rfl
theorem exec_syBarWait (g : Guard) (src : Src) (s : State) : exec (.syBarWait g src) s = execSyBarWait g src s := rfl
theorem exec_syPhase (g : Guard) (src : Src) (s : State) : exec (.syPhase g src) s = execSyPhase g src s := rfl
theorem exec_fxRldW (g : Guard) (h : Bool) (src : Src) (s : State) : exec (.fxRldW g h src) s = execFxRldW g h src s := rfl
theorem exec_fxRldD (g : Guard) (h : Bool) (src : Src) (s : State) : exec (.fxRldD g h src) s = execFxRldD g h src s := rfl
theorem exec_fxRldrow (g : Guard) (h : Bool) (src : Src) (s : State) : exec (.fxRldrow g h src) s = execFxRldrow g h src s := rfl
theorem exec_fxRstW (g : Guard) (h : Bool) (src : Src) (s : State) : exec (.fxRstW g h src) s = execFxRstW g h src s := rfl
theorem exec_fxRstD (g : Guard) (h : Bool) (src : Src) (s : State) : exec (.fxRstD g h src) s = execFxRstD g h src s := rfl
theorem exec_fxRstrow (g : Guard) (h : Bool) (src : Src) (s : State) : exec (.fxRstrow g h src) s = execFxRstrow g h src s := rfl
theorem exec_fxRamoAdd (g : Guard) (h : Bool) (src : Src) (s : State) : exec (.fxRamoAdd g h src) s = execFxRamoAdd g h src s := rfl
theorem exec_fxRamoAnd (g : Guard) (h : Bool) (src : Src) (s : State) : exec (.fxRamoAnd g h src) s = execFxRamoAnd g h src s := rfl
theorem exec_fxRamoOr (g : Guard) (h : Bool) (src : Src) (s : State) : exec (.fxRamoOr g h src) s = execFxRamoOr g h src s := rfl
theorem exec_fxRamoXor (g : Guard) (h : Bool) (src : Src) (s : State) : exec (.fxRamoXor g h src) s = execFxRamoXor g h src s := rfl
theorem exec_fxRamoMin (g : Guard) (h : Bool) (src : Src) (s : State) : exec (.fxRamoMin g h src) s = execFxRamoMin g h src s := rfl
theorem exec_fxRamoMax (g : Guard) (h : Bool) (src : Src) (s : State) : exec (.fxRamoMax g h src) s = execFxRamoMax g h src s := rfl
theorem exec_fxRamoSwap (g : Guard) (h : Bool) (src : Src) (s : State) : exec (.fxRamoSwap g h src) s = execFxRamoSwap g h src s := rfl
theorem exec_fxRamoCas (g : Guard) (h : Bool) (src : Src) (s : State) : exec (.fxRamoCas g h src) s = execFxRamoCas g h src s := rfl
theorem exec_fxRamoAddOrd (g : Guard) (h : Bool) (src : Src) (s : State) : exec (.fxRamoAddOrd g h src) s = execFxRamoAddOrd g h src s := rfl
theorem exec_fxRamoAndOrd (g : Guard) (h : Bool) (src : Src) (s : State) : exec (.fxRamoAndOrd g h src) s = execFxRamoAndOrd g h src s := rfl
theorem exec_fxRamoOrOrd (g : Guard) (h : Bool) (src : Src) (s : State) : exec (.fxRamoOrOrd g h src) s = execFxRamoOrOrd g h src s := rfl
theorem exec_fxRamoXorOrd (g : Guard) (h : Bool) (src : Src) (s : State) : exec (.fxRamoXorOrd g h src) s = execFxRamoXorOrd g h src s := rfl
theorem exec_fxRamoMinOrd (g : Guard) (h : Bool) (src : Src) (s : State) : exec (.fxRamoMinOrd g h src) s = execFxRamoMinOrd g h src s := rfl
theorem exec_fxRamoMaxOrd (g : Guard) (h : Bool) (src : Src) (s : State) : exec (.fxRamoMaxOrd g h src) s = execFxRamoMaxOrd g h src s := rfl
theorem exec_fxRamoSwapOrd (g : Guard) (h : Bool) (src : Src) (s : State) : exec (.fxRamoSwapOrd g h src) s = execFxRamoSwapOrd g h src s := rfl
theorem exec_fxRamoCasOrd (g : Guard) (h : Bool) (src : Src) (s : State) : exec (.fxRamoCasOrd g h src) s = execFxRamoCasOrd g h src s := rfl
theorem exec_fxRdel (g : Guard) (h : Bool) (src : Src) (s : State) : exec (.fxRdel g h src) s = execFxRdel g h src s := rfl
theorem exec_fxRdelg (g : Guard) (h : Bool) (src : Src) (s : State) : exec (.fxRdelg g h src) s = execFxRdelg g h src s := rfl
theorem exec_fxMlrAddF32 (g : Guard) (h : Bool) (src : Src) (s : State) : exec (.fxMlrAddF32 g h src) s = execFxMlrAddF32 g h src s := rfl
theorem exec_fxMlrAddBf16 (g : Guard) (h : Bool) (src : Src) (s : State) : exec (.fxMlrAddBf16 g h src) s = execFxMlrAddBf16 g h src s := rfl
theorem exec_fxMlrMaxF32 (g : Guard) (h : Bool) (src : Src) (s : State) : exec (.fxMlrMaxF32 g h src) s = execFxMlrMaxF32 g h src s := rfl
theorem exec_fxMlrMaxBf16 (g : Guard) (h : Bool) (src : Src) (s : State) : exec (.fxMlrMaxBf16 g h src) s = execFxMlrMaxBf16 g h src s := rfl
theorem exec_fxMlrMinF32 (g : Guard) (h : Bool) (src : Src) (s : State) : exec (.fxMlrMinF32 g h src) s = execFxMlrMinF32 g h src s := rfl
theorem exec_fxMlrMinBf16 (g : Guard) (h : Bool) (src : Src) (s : State) : exec (.fxMlrMinBf16 g h src) s = execFxMlrMinBf16 g h src s := rfl
theorem exec_fxMlrAddI32 (g : Guard) (h : Bool) (src : Src) (s : State) : exec (.fxMlrAddI32 g h src) s = execFxMlrAddI32 g h src s := rfl
theorem exec_fxMlrAddI64 (g : Guard) (h : Bool) (src : Src) (s : State) : exec (.fxMlrAddI64 g h src) s = execFxMlrAddI64 g h src s := rfl
theorem exec_fxFlag (g : Guard) (h : Bool) (src : Src) (s : State) : exec (.fxFlag g h src) s = execFxFlag g h src s := rfl
theorem exec_fxSstep (g : Guard) (h : Bool) (src : Src) (s : State) : exec (.fxSstep g h src) s = execFxSstep g h src s := rfl
theorem exec_fxSpush (g : Guard) (src : Src) (s : State) : exec (.fxSpush g src) s = execFxSpush g src s := rfl
theorem exec_fxSpop (g : Guard) (src : Src) (s : State) : exec (.fxSpop g src) s = execFxSpop g src s := rfl
theorem exec_fxMbsend (g : Guard) (h : Bool) (src : Src) (s : State) : exec (.fxMbsend g h src) s = execFxMbsend g h src s := rfl
theorem exec_fxMbrecv (g : Guard) (h : Bool) (src : Src) (s : State) : exec (.fxMbrecv g h src) s = execFxMbrecv g h src s := rfl
theorem exec_fxMbpeek (g : Guard) (h : Bool) (src : Src) (s : State) : exec (.fxMbpeek g h src) s = execFxMbpeek g h src s := rfl
theorem exec_fxPen (g : Guard) (h : Bool) (src : Src) (s : State) : exec (.fxPen g h src) s = execFxPen g h src s := rfl
theorem exec_vxFaddF32 (g : Guard) (src : Src) (s : State) : exec (.vxFaddF32 g src) s = execVxFaddF32 g src s := rfl
theorem exec_vxFsubF32 (g : Guard) (src : Src) (s : State) : exec (.vxFsubF32 g src) s = execVxFsubF32 g src s := rfl
theorem exec_vxFmulF32 (g : Guard) (src : Src) (s : State) : exec (.vxFmulF32 g src) s = execVxFmulF32 g src s := rfl
theorem exec_vxFmaF32 (g : Guard) (src : Src) (s : State) : exec (.vxFmaF32 g src) s = execVxFmaF32 g src s := rfl
theorem exec_vxFmsF32 (g : Guard) (src : Src) (s : State) : exec (.vxFmsF32 g src) s = execVxFmsF32 g src s := rfl
theorem exec_vxFnmaF32 (g : Guard) (src : Src) (s : State) : exec (.vxFnmaF32 g src) s = execVxFnmaF32 g src s := rfl
theorem exec_vxFnmsF32 (g : Guard) (src : Src) (s : State) : exec (.vxFnmsF32 g src) s = execVxFnmsF32 g src s := rfl
theorem exec_vxFminF32 (g : Guard) (src : Src) (s : State) : exec (.vxFminF32 g src) s = execVxFminF32 g src s := rfl
theorem exec_vxFmaxF32 (g : Guard) (src : Src) (s : State) : exec (.vxFmaxF32 g src) s = execVxFmaxF32 g src s := rfl
theorem exec_vxFminNumF32 (g : Guard) (src : Src) (s : State) : exec (.vxFminNumF32 g src) s = execVxFminNumF32 g src s := rfl
theorem exec_vxFmaxNumF32 (g : Guard) (src : Src) (s : State) : exec (.vxFmaxNumF32 g src) s = execVxFmaxNumF32 g src s := rfl
theorem exec_vxFcmpEqF32 (g : Guard) (src : Src) (s : State) : exec (.vxFcmpEqF32 g src) s = execVxFcmpEqF32 g src s := rfl
theorem exec_vxFcmpLtF32 (g : Guard) (src : Src) (s : State) : exec (.vxFcmpLtF32 g src) s = execVxFcmpLtF32 g src s := rfl
theorem exec_vxFcmpLeF32 (g : Guard) (src : Src) (s : State) : exec (.vxFcmpLeF32 g src) s = execVxFcmpLeF32 g src s := rfl
theorem exec_vxFcmpUnF32 (g : Guard) (src : Src) (s : State) : exec (.vxFcmpUnF32 g src) s = execVxFcmpUnF32 g src s := rfl
theorem exec_vxFaddBf16 (g : Guard) (src : Src) (s : State) : exec (.vxFaddBf16 g src) s = execVxFaddBf16 g src s := rfl
theorem exec_vxFsubBf16 (g : Guard) (src : Src) (s : State) : exec (.vxFsubBf16 g src) s = execVxFsubBf16 g src s := rfl
theorem exec_vxFmulBf16 (g : Guard) (src : Src) (s : State) : exec (.vxFmulBf16 g src) s = execVxFmulBf16 g src s := rfl
theorem exec_vxFmaBf16 (g : Guard) (src : Src) (s : State) : exec (.vxFmaBf16 g src) s = execVxFmaBf16 g src s := rfl
theorem exec_vxFmsBf16 (g : Guard) (src : Src) (s : State) : exec (.vxFmsBf16 g src) s = execVxFmsBf16 g src s := rfl
theorem exec_vxFnmaBf16 (g : Guard) (src : Src) (s : State) : exec (.vxFnmaBf16 g src) s = execVxFnmaBf16 g src s := rfl
theorem exec_vxFnmsBf16 (g : Guard) (src : Src) (s : State) : exec (.vxFnmsBf16 g src) s = execVxFnmsBf16 g src s := rfl
theorem exec_vxFminBf16 (g : Guard) (src : Src) (s : State) : exec (.vxFminBf16 g src) s = execVxFminBf16 g src s := rfl
theorem exec_vxFmaxBf16 (g : Guard) (src : Src) (s : State) : exec (.vxFmaxBf16 g src) s = execVxFmaxBf16 g src s := rfl
theorem exec_vxFaddF16 (g : Guard) (src : Src) (s : State) : exec (.vxFaddF16 g src) s = execVxFaddF16 g src s := rfl
theorem exec_vxFmulF16 (g : Guard) (src : Src) (s : State) : exec (.vxFmulF16 g src) s = execVxFmulF16 g src s := rfl
theorem exec_vxFmaF16 (g : Guard) (src : Src) (s : State) : exec (.vxFmaF16 g src) s = execVxFmaF16 g src s := rfl
theorem exec_vxFmaxF16 (g : Guard) (src : Src) (s : State) : exec (.vxFmaxF16 g src) s = execVxFmaxF16 g src s := rfl
theorem exec_vxFmulE4m3 (g : Guard) (src : Src) (s : State) : exec (.vxFmulE4m3 g src) s = execVxFmulE4m3 g src s := rfl
theorem exec_vxFmulE5m2 (g : Guard) (src : Src) (s : State) : exec (.vxFmulE5m2 g src) s = execVxFmulE5m2 g src s := rfl
theorem exec_vxFmulE2m1 (g : Guard) (src : Src) (s : State) : exec (.vxFmulE2m1 g src) s = execVxFmulE2m1 g src s := rfl
theorem exec_vxIaddI32 (g : Guard) (src : Src) (s : State) : exec (.vxIaddI32 g src) s = execVxIaddI32 g src s := rfl
theorem exec_vxIsubI32 (g : Guard) (src : Src) (s : State) : exec (.vxIsubI32 g src) s = execVxIsubI32 g src s := rfl
theorem exec_vxIaddSI32 (g : Guard) (src : Src) (s : State) : exec (.vxIaddSI32 g src) s = execVxIaddSI32 g src s := rfl
theorem exec_vxIsubSI32 (g : Guard) (src : Src) (s : State) : exec (.vxIsubSI32 g src) s = execVxIsubSI32 g src s := rfl
theorem exec_vxImulI32 (g : Guard) (src : Src) (s : State) : exec (.vxImulI32 g src) s = execVxImulI32 g src s := rfl
theorem exec_vxImadI32 (g : Guard) (src : Src) (s : State) : exec (.vxImadI32 g src) s = execVxImadI32 g src s := rfl
theorem exec_vxIminI32 (g : Guard) (src : Src) (s : State) : exec (.vxIminI32 g src) s = execVxIminI32 g src s := rfl
theorem exec_vxImaxI32 (g : Guard) (src : Src) (s : State) : exec (.vxImaxI32 g src) s = execVxImaxI32 g src s := rfl
theorem exec_vxIminuI32 (g : Guard) (src : Src) (s : State) : exec (.vxIminuI32 g src) s = execVxIminuI32 g src s := rfl
theorem exec_vxImaxuI32 (g : Guard) (src : Src) (s : State) : exec (.vxImaxuI32 g src) s = execVxImaxuI32 g src s := rfl
theorem exec_vxIcmpEqI32 (g : Guard) (src : Src) (s : State) : exec (.vxIcmpEqI32 g src) s = execVxIcmpEqI32 g src s := rfl
theorem exec_vxIcmpLtI32 (g : Guard) (src : Src) (s : State) : exec (.vxIcmpLtI32 g src) s = execVxIcmpLtI32 g src s := rfl
theorem exec_vxIcmpLtuI32 (g : Guard) (src : Src) (s : State) : exec (.vxIcmpLtuI32 g src) s = execVxIcmpLtuI32 g src s := rfl
theorem exec_vxShlI32 (g : Guard) (src : Src) (s : State) : exec (.vxShlI32 g src) s = execVxShlI32 g src s := rfl
theorem exec_vxShrI32 (g : Guard) (src : Src) (s : State) : exec (.vxShrI32 g src) s = execVxShrI32 g src s := rfl
theorem exec_vxSarI32 (g : Guard) (src : Src) (s : State) : exec (.vxSarI32 g src) s = execVxSarI32 g src s := rfl
theorem exec_vxPopcI32 (g : Guard) (src : Src) (s : State) : exec (.vxPopcI32 g src) s = execVxPopcI32 g src s := rfl
theorem exec_vxClzI32 (g : Guard) (src : Src) (s : State) : exec (.vxClzI32 g src) s = execVxClzI32 g src s := rfl
theorem exec_vxIaddI16 (g : Guard) (src : Src) (s : State) : exec (.vxIaddI16 g src) s = execVxIaddI16 g src s := rfl
theorem exec_vxIaddI8 (g : Guard) (src : Src) (s : State) : exec (.vxIaddI8 g src) s = execVxIaddI8 g src s := rfl
theorem exec_vxIaddSI8 (g : Guard) (src : Src) (s : State) : exec (.vxIaddSI8 g src) s = execVxIaddSI8 g src s := rfl
theorem exec_vxAnd (g : Guard) (src : Src) (s : State) : exec (.vxAnd g src) s = execVxAnd g src s := rfl
theorem exec_vxOr (g : Guard) (src : Src) (s : State) : exec (.vxOr g src) s = execVxOr g src s := rfl
theorem exec_vxXor (g : Guard) (src : Src) (s : State) : exec (.vxXor g src) s = execVxXor g src s := rfl
theorem exec_vxAndn (g : Guard) (src : Src) (s : State) : exec (.vxAndn g src) s = execVxAndn g src s := rfl
theorem exec_vxLut3 (g : Guard) (src : Src) (s : State) : exec (.vxLut3 g src) s = execVxLut3 g src s := rfl
theorem exec_vxSel (g : Guard) (src : Src) (s : State) : exec (.vxSel g src) s = execVxSel g src s := rfl
theorem exec_vxRot (g : Guard) (src : Src) (s : State) : exec (.vxRot g src) s = execVxRot g src s := rfl
theorem exec_vxFsh (g : Guard) (src : Src) (s : State) : exec (.vxFsh g src) s = execVxFsh g src s := rfl
theorem exec_vxCvtF32Bf16 (g : Guard) (src : Src) (s : State) : exec (.vxCvtF32Bf16 g src) s = execVxCvtF32Bf16 g src s := rfl
theorem exec_vxCvtF32F16 (g : Guard) (src : Src) (s : State) : exec (.vxCvtF32F16 g src) s = execVxCvtF32F16 g src s := rfl
theorem exec_vxCvtBf16F32 (g : Guard) (src : Src) (s : State) : exec (.vxCvtBf16F32 g src) s = execVxCvtBf16F32 g src s := rfl
theorem exec_vxCvtF16F32 (g : Guard) (src : Src) (s : State) : exec (.vxCvtF16F32 g src) s = execVxCvtF16F32 g src s := rfl
theorem exec_vxCvtF32E4m3Sat (g : Guard) (src : Src) (s : State) : exec (.vxCvtF32E4m3Sat g src) s = execVxCvtF32E4m3Sat g src s := rfl
theorem exec_vxCvtF32E4m3Nan (g : Guard) (src : Src) (s : State) : exec (.vxCvtF32E4m3Nan g src) s = execVxCvtF32E4m3Nan g src s := rfl
theorem exec_vxCvtF32E5m2Sat (g : Guard) (src : Src) (s : State) : exec (.vxCvtF32E5m2Sat g src) s = execVxCvtF32E5m2Sat g src s := rfl
theorem exec_vxCvtF32E5m2Inf (g : Guard) (src : Src) (s : State) : exec (.vxCvtF32E5m2Inf g src) s = execVxCvtF32E5m2Inf g src s := rfl
theorem exec_vxCvtF32E2m1 (g : Guard) (src : Src) (s : State) : exec (.vxCvtF32E2m1 g src) s = execVxCvtF32E2m1 g src s := rfl
theorem exec_vxCvtBf16E4m3Sat (g : Guard) (src : Src) (s : State) : exec (.vxCvtBf16E4m3Sat g src) s = execVxCvtBf16E4m3Sat g src s := rfl
theorem exec_vxCvtBf16E5m2Sat (g : Guard) (src : Src) (s : State) : exec (.vxCvtBf16E5m2Sat g src) s = execVxCvtBf16E5m2Sat g src s := rfl
theorem exec_vxCvtE4m3F32 (g : Guard) (src : Src) (s : State) : exec (.vxCvtE4m3F32 g src) s = execVxCvtE4m3F32 g src s := rfl
theorem exec_vxCvtE5m2F32 (g : Guard) (src : Src) (s : State) : exec (.vxCvtE5m2F32 g src) s = execVxCvtE5m2F32 g src s := rfl
theorem exec_vxCvtE2m1F32 (g : Guard) (src : Src) (s : State) : exec (.vxCvtE2m1F32 g src) s = execVxCvtE2m1F32 g src s := rfl
theorem exec_vxCvtE4m3Bf16 (g : Guard) (src : Src) (s : State) : exec (.vxCvtE4m3Bf16 g src) s = execVxCvtE4m3Bf16 g src s := rfl
theorem exec_vxCvtF32I32 (g : Guard) (src : Src) (s : State) : exec (.vxCvtF32I32 g src) s = execVxCvtF32I32 g src s := rfl
theorem exec_vxCvtI32F32 (g : Guard) (src : Src) (s : State) : exec (.vxCvtI32F32 g src) s = execVxCvtI32F32 g src s := rfl
theorem exec_vxCvtI8F32 (g : Guard) (src : Src) (s : State) : exec (.vxCvtI8F32 g src) s = execVxCvtI8F32 g src s := rfl
theorem exec_vxCvtF32I8 (g : Guard) (src : Src) (s : State) : exec (.vxCvtF32I8 g src) s = execVxCvtF32I8 g src s := rfl
theorem exec_vxCvtI4I8 (g : Guard) (src : Src) (s : State) : exec (.vxCvtI4I8 g src) s = execVxCvtI4I8 g src s := rfl
theorem exec_vxCvtI32I8S (g : Guard) (src : Src) (s : State) : exec (.vxCvtI32I8S g src) s = execVxCvtI32I8S g src s := rfl
theorem exec_vxCvtF32E4m3SatAmax (g : Guard) (src : Src) (s : State) : exec (.vxCvtF32E4m3SatAmax g src) s = execVxCvtF32E4m3SatAmax g src s := rfl
theorem exec_vxCvtF32E5m2SatAmax (g : Guard) (src : Src) (s : State) : exec (.vxCvtF32E5m2SatAmax g src) s = execVxCvtF32E5m2SatAmax g src s := rfl
theorem exec_vxCvtF32Bf16Amax (g : Guard) (src : Src) (s : State) : exec (.vxCvtF32Bf16Amax g src) s = execVxCvtF32Bf16Amax g src s := rfl
theorem exec_vxCvtSrF32E4m3Sat (g : Guard) (src : Src) (s : State) : exec (.vxCvtSrF32E4m3Sat g src) s = execVxCvtSrF32E4m3Sat g src s := rfl
theorem exec_vxCvtSrF32E5m2Sat (g : Guard) (src : Src) (s : State) : exec (.vxCvtSrF32E5m2Sat g src) s = execVxCvtSrF32E5m2Sat g src s := rfl
theorem exec_vxCvtSrF32Bf16 (g : Guard) (src : Src) (s : State) : exec (.vxCvtSrF32Bf16 g src) s = execVxCvtSrF32Bf16 g src s := rfl
theorem exec_vxRcpF32 (g : Guard) (src : Src) (s : State) : exec (.vxRcpF32 g src) s = execVxRcpF32 g src s := rfl
theorem exec_vxRsqrtF32 (g : Guard) (src : Src) (s : State) : exec (.vxRsqrtF32 g src) s = execVxRsqrtF32 g src s := rfl
theorem exec_vxSqrtF32 (g : Guard) (src : Src) (s : State) : exec (.vxSqrtF32 g src) s = execVxSqrtF32 g src s := rfl
theorem exec_vxExp2F32 (g : Guard) (src : Src) (s : State) : exec (.vxExp2F32 g src) s = execVxExp2F32 g src s := rfl
theorem exec_vxLog2F32 (g : Guard) (src : Src) (s : State) : exec (.vxLog2F32 g src) s = execVxLog2F32 g src s := rfl
theorem exec_vxRsumF32 (g : Guard) (src : Src) (s : State) : exec (.vxRsumF32 g src) s = execVxRsumF32 g src s := rfl
theorem exec_vxRsumBf16 (g : Guard) (src : Src) (s : State) : exec (.vxRsumBf16 g src) s = execVxRsumBf16 g src s := rfl
theorem exec_vxRmaxF32 (g : Guard) (src : Src) (s : State) : exec (.vxRmaxF32 g src) s = execVxRmaxF32 g src s := rfl
theorem exec_vxRmaxBf16 (g : Guard) (src : Src) (s : State) : exec (.vxRmaxBf16 g src) s = execVxRmaxBf16 g src s := rfl
theorem exec_vxRminF32 (g : Guard) (src : Src) (s : State) : exec (.vxRminF32 g src) s = execVxRminF32 g src s := rfl
theorem exec_vxRminBf16 (g : Guard) (src : Src) (s : State) : exec (.vxRminBf16 g src) s = execVxRminBf16 g src s := rfl
theorem exec_vxRsumI32 (g : Guard) (src : Src) (s : State) : exec (.vxRsumI32 g src) s = execVxRsumI32 g src s := rfl
theorem exec_vxRsumI8 (g : Guard) (src : Src) (s : State) : exec (.vxRsumI8 g src) s = execVxRsumI8 g src s := rfl
theorem exec_vxBscaleE4m3 (g : Guard) (src : Src) (s : State) : exec (.vxBscaleE4m3 g src) s = execVxBscaleE4m3 g src s := rfl
theorem exec_vxBscaleE5m2 (g : Guard) (src : Src) (s : State) : exec (.vxBscaleE5m2 g src) s = execVxBscaleE5m2 g src s := rfl
theorem exec_vxBscaleE2m1 (g : Guard) (src : Src) (s : State) : exec (.vxBscaleE2m1 g src) s = execVxBscaleE2m1 g src s := rfl
theorem exec_vxBquantE4m3 (g : Guard) (src : Src) (s : State) : exec (.vxBquantE4m3 g src) s = execVxBquantE4m3 g src s := rfl
theorem exec_vxBquantE5m2 (g : Guard) (src : Src) (s : State) : exec (.vxBquantE5m2 g src) s = execVxBquantE5m2 g src s := rfl
theorem exec_vxBquantE2m1 (g : Guard) (src : Src) (s : State) : exec (.vxBquantE2m1 g src) s = execVxBquantE2m1 g src s := rfl
theorem exec_scScanAddF32 (g : Guard) (src : Src) (s : State) : exec (.scScanAddF32 g src) s = execScScanAddF32 g src s := rfl
theorem exec_scScanAddI32 (g : Guard) (src : Src) (s : State) : exec (.scScanAddI32 g src) s = execScScanAddI32 g src s := rfl
theorem exec_scScanMaxF32 (g : Guard) (src : Src) (s : State) : exec (.scScanMaxF32 g src) s = execScScanMaxF32 g src s := rfl
theorem exec_scScanMinF32 (g : Guard) (src : Src) (s : State) : exec (.scScanMinF32 g src) s = execScScanMinF32 g src s := rfl
theorem exec_scXscanAddF32 (g : Guard) (src : Src) (s : State) : exec (.scXscanAddF32 g src) s = execScXscanAddF32 g src s := rfl
theorem exec_scXscanAddI32 (g : Guard) (src : Src) (s : State) : exec (.scXscanAddI32 g src) s = execScXscanAddI32 g src s := rfl
theorem exec_scXscanMaxF32 (g : Guard) (src : Src) (s : State) : exec (.scXscanMaxF32 g src) s = execScXscanMaxF32 g src s := rfl
theorem exec_scXredAddF32 (g : Guard) (src : Src) (s : State) : exec (.scXredAddF32 g src) s = execScXredAddF32 g src s := rfl
theorem exec_scXredAddI32 (g : Guard) (src : Src) (s : State) : exec (.scXredAddI32 g src) s = execScXredAddI32 g src s := rfl
theorem exec_scXredMaxF32 (g : Guard) (src : Src) (s : State) : exec (.scXredMaxF32 g src) s = execScXredMaxF32 g src s := rfl
theorem exec_mxPushE4m3 (g : Guard) (src : Src) (s : State) : exec (.mxPushE4m3 g src) s = execMxPushE4m3 g src s := rfl
theorem exec_mxPushE5m2 (g : Guard) (src : Src) (s : State) : exec (.mxPushE5m2 g src) s = execMxPushE5m2 g src s := rfl
theorem exec_mxPushE2m1 (g : Guard) (src : Src) (s : State) : exec (.mxPushE2m1 g src) s = execMxPushE2m1 g src s := rfl
theorem exec_mxPushBf16 (g : Guard) (src : Src) (s : State) : exec (.mxPushBf16 g src) s = execMxPushBf16 g src s := rfl
theorem exec_mxPushF16 (g : Guard) (src : Src) (s : State) : exec (.mxPushF16 g src) s = execMxPushF16 g src s := rfl
theorem exec_mxPushI8 (g : Guard) (src : Src) (s : State) : exec (.mxPushI8 g src) s = execMxPushI8 g src s := rfl
theorem exec_mxPushSp (g : Guard) (src : Src) (s : State) : exec (.mxPushSp g src) s = execMxPushSp g src s := rfl
theorem exec_mxPushIx (g : Guard) (src : Src) (s : State) : exec (.mxPushIx g src) s = execMxPushIx g src s := rfl
theorem exec_mxSwap (g : Guard) (src : Src) (s : State) : exec (.mxSwap g src) s = execMxSwap g src s := rfl
theorem exec_mxAccE4m3 (g : Guard) (src : Src) (s : State) : exec (.mxAccE4m3 g src) s = execMxAccE4m3 g src s := rfl
theorem exec_mxAccE5m2 (g : Guard) (src : Src) (s : State) : exec (.mxAccE5m2 g src) s = execMxAccE5m2 g src s := rfl
theorem exec_mxAccE2m1 (g : Guard) (src : Src) (s : State) : exec (.mxAccE2m1 g src) s = execMxAccE2m1 g src s := rfl
theorem exec_mxAccBf16 (g : Guard) (src : Src) (s : State) : exec (.mxAccBf16 g src) s = execMxAccBf16 g src s := rfl
theorem exec_mxAccF16 (g : Guard) (src : Src) (s : State) : exec (.mxAccF16 g src) s = execMxAccF16 g src s := rfl
theorem exec_mxAccI8 (g : Guard) (src : Src) (s : State) : exec (.mxAccI8 g src) s = execMxAccI8 g src s := rfl
theorem exec_mxAccSp (g : Guard) (src : Src) (s : State) : exec (.mxAccSp g src) s = execMxAccSp g src s := rfl
theorem exec_mxDrain4 (g : Guard) (src : Src) (s : State) : exec (.mxDrain4 g src) s = execMxDrain4 g src s := rfl
theorem exec_mxDrain8Bf16 (g : Guard) (src : Src) (s : State) : exec (.mxDrain8Bf16 g src) s = execMxDrain8Bf16 g src s := rfl
theorem exec_mxDrainE4m3 (g : Guard) (src : Src) (s : State) : exec (.mxDrainE4m3 g src) s = execMxDrainE4m3 g src s := rfl
theorem exec_mxZero (g : Guard) (src : Src) (s : State) : exec (.mxZero g src) s = execMxZero g src s := rfl
theorem exec_ag0Set (g : Guard) (r : BitVec 5) (s : State) : exec (.ag0Set g r) s = execAg0Set g r s := rfl
theorem exec_ag0Rd (g : Guard) (src : Src) (s : State) : exec (.ag0Rd g src) s = execAg0Rd g src s := rfl
theorem exec_ag0Step (g : Guard) (src : Src) (s : State) : exec (.ag0Step g src) s = execAg0Step g src s := rfl
theorem exec_ag1Set (g : Guard) (r : BitVec 5) (s : State) : exec (.ag1Set g r) s = execAg1Set g r s := rfl
theorem exec_ag1Rd (g : Guard) (src : Src) (s : State) : exec (.ag1Rd g src) s = execAg1Rd g src s := rfl
theorem exec_ag1Step (g : Guard) (src : Src) (s : State) : exec (.ag1Step g src) s = execAg1Step g src s := rfl
theorem exec_ag2Set (g : Guard) (r : BitVec 5) (s : State) : exec (.ag2Set g r) s = execAg2Set g r s := rfl
theorem exec_ag2Wr (g : Guard) (src : Src) (s : State) : exec (.ag2Wr g src) s = execAg2Wr g src s := rfl
theorem exec_ag2Step (g : Guard) (src : Src) (s : State) : exec (.ag2Step g src) s = execAg2Step g src s := rfl
theorem exec_ag3Set (g : Guard) (r : BitVec 5) (s : State) : exec (.ag3Set g r) s = execAg3Set g r s := rfl
theorem exec_ag3Wr (g : Guard) (src : Src) (s : State) : exec (.ag3Wr g src) s = execAg3Wr g src s := rfl
theorem exec_ag3Step (g : Guard) (src : Src) (s : State) : exec (.ag3Step g src) s = execAg3Step g src s := rfl
theorem exec_nwLdroute (g : Guard) (src : Src) (s : State) : exec (.nwLdroute g src) s = execNwLdroute g src s := rfl
theorem exec_nwLdpat (g : Guard) (src : Src) (s : State) : exec (.nwLdpat g src) s = execNwLdpat g src s := rfl
theorem exec_nwLdplane (g : Guard) (src : Src) (s : State) : exec (.nwLdplane g src) s = execNwLdplane g src s := rfl
theorem exec_nwSolve (g : Guard) (src : Src) (s : State) : exec (.nwSolve g src) s = execNwSolve g src s := rfl
theorem exec_nwFarclr (g : Guard) (src : Src) (s : State) : exec (.nwFarclr g src) s = execNwFarclr g src s := rfl
theorem exec_nwFarstat (g : Guard) (src : Src) (s : State) : exec (.nwFarstat g src) s = execNwFarstat g src s := rfl
theorem exec_feFill (g : Guard) (src : Src) (s : State) : exec (.feFill g src) s = execFeFill g src s := rfl
theorem exec_feSpill (g : Guard) (src : Src) (s : State) : exec (.feSpill g src) s = execFeSpill g src s := rfl
theorem exec_feBfill (g : Guard) (src : Src) (s : State) : exec (.feBfill g src) s = execFeBfill g src s := rfl
theorem exec_feGfill (g : Guard) (src : Src) (s : State) : exec (.feGfill g src) s = execFeGfill g src s := rfl
theorem exec_feSspill (g : Guard) (src : Src) (s : State) : exec (.feSspill g src) s = execFeSspill g src s := rfl
theorem exec_fePin (g : Guard) (src : Src) (s : State) : exec (.fePin g src) s = execFePin g src s := rfl
theorem exec_sySrd (g : Guard) (src : Src) (s : State) : exec (.sySrd g src) s = execSySrd g src s := rfl
theorem exec_sySwr (g : Guard) (src : Src) (s : State) : exec (.sySwr g src) s = execSySwr g src s := rfl
theorem exec_syClaim (g : Guard) (src : Src) (s : State) : exec (.syClaim g src) s = execSyClaim g src s := rfl
theorem exec_syPublish (g : Guard) (src : Src) (s : State) : exec (.syPublish g src) s = execSyPublish g src s := rfl
theorem exec_syRfe (g : Guard) (src : Src) (s : State) : exec (.syRfe g src) s = execSyRfe g src s := rfl
theorem exec_syBrk (g : Guard) (src : Src) (s : State) : exec (.syBrk g src) s = execSyBrk g src s := rfl
theorem exec_keyRenewalRetraining (p : Fin 12) (s : State) : exec (.keyRenewalRetraining p) s = execKeyRenewalRetraining p s := rfl
theorem exec_hbmRefreshScrub (pa : Nat) (bad : List Nat) (s : State) : exec (.hbmRefreshScrub pa bad) s = execHbmRefreshScrub pa bad s := rfl
theorem exec_penHartSwitch (h : Nat) (n : Nat) (s : State) : exec (.penHartSwitch h n) s = execPenHartSwitch h n s := rfl
theorem exec_penInstruction (n : Nat) (s : State) : exec (.penInstruction n) s = execPenInstruction n s := rfl

end Machine

end Sys2Proof
end

