-- ==== Sys2Proof/Laws/State.lean ====
section
/-! SUPPORT. What each update of the state leaves unchanged: one lemma per field per update, true by `rfl`. -/

namespace Sys2Proof.Machine

/-! ### One die of the state -/

@[simp] theorem State.dieAt_putDieAt (s : State) (d : DieId) (x : Die) : (s.putDieAt d x).dieAt d = x :=
  Vector.getElem_set_self d.isLt

@[simp] theorem State.dieAt_putDieAt_ne (s : State) {d e : DieId} (x : Die) (h : e ≠ d) :
    (s.putDieAt d x).dieAt e = s.dieAt e :=
  Vector.getElem_set_ne d.isLt e.isLt fun he => h (Fin.ext he.symm)

@[simp] theorem State.dieAt_onDieAt (s : State) (d : DieId) (f : Die → Die) : (s.onDieAt d f).dieAt d = f (s.dieAt d) :=
  State.dieAt_putDieAt s d _

@[simp] theorem State.dieAt_onDieAt_ne (s : State) {d e : DieId} (f : Die → Die) (h : e ≠ d) :
    (s.onDieAt d f).dieAt e = s.dieAt e :=
  State.dieAt_putDieAt_ne s _ h

@[simp] theorem State.die_onDie (s : State) (f : Die → Die) : (s.onDie f).die = f s.die := State.dieAt_onDieAt s s.turn f

@[simp] theorem Die.ctxAt_onCtxAt (d : Die) (c : CtxId) (f : Ctx → Ctx) : (d.onCtxAt c f).ctxAt c = f (d.ctxAt c) :=
  Vector.getElem_set_self c.isLt

@[simp] theorem Die.ctxAt_onCtxAt_ne (d : Die) {c e : CtxId} (f : Ctx → Ctx) (h : e ≠ c) :
    (d.onCtxAt c f).ctxAt e = d.ctxAt e :=
  Vector.getElem_set_ne c.isLt e.isLt fun he => h (Fin.ext he.symm)

@[simp] theorem Die.onCtxAt_id (d : Die) (c : CtxId) (f : Ctx → Ctx) : (d.onCtxAt c f).id = d.id := rfl
@[simp] theorem Die.onCtxAt_heldReset (d : Die) (c : CtxId) (f : Ctx → Ctx) : (d.onCtxAt c f).heldReset = d.heldReset := rfl
@[simp] theorem Die.onCtxAt_outOfService (d : Die) (c : CtxId) (f : Ctx → Ctx) : (d.onCtxAt c f).outOfService = d.outOfService := rfl
@[simp] theorem Die.onCtxAt_tick (d : Die) (c : CtxId) (f : Ctx → Ctx) : (d.onCtxAt c f).tick = d.tick := rfl
@[simp] theorem Die.onCtxAt_scy (d : Die) (c : CtxId) (f : Ctx → Ctx) : (d.onCtxAt c f).scy = d.scy := rfl
@[simp] theorem Die.onCtxAt_debt (d : Die) (c : CtxId) (f : Ctx → Ctx) : (d.onCtxAt c f).debt = d.debt := rfl
@[simp] theorem Die.onCtxAt_debtNow (d : Die) (c : CtxId) (f : Ctx → Ctx) : (d.onCtxAt c f).debtNow = d.debtNow := rfl
@[simp] theorem Die.onCtxAt_stopFrozen (d : Die) (c : CtxId) (f : Ctx → Ctx) : (d.onCtxAt c f).stopFrozen = d.stopFrozen := rfl
@[simp] theorem Die.onCtxAt_stopHand (d : Die) (c : CtxId) (f : Ctx → Ctx) : (d.onCtxAt c f).stopHand = d.stopHand := rfl
@[simp] theorem Die.onCtxAt_stopDue (d : Die) (c : CtxId) (f : Ctx → Ctx) : (d.onCtxAt c f).stopDue = d.stopDue := rfl
@[simp] theorem Die.onCtxAt_sp (d : Die) (c : CtxId) (f : Ctx → Ctx) : (d.onCtxAt c f).sp = d.sp := rfl
@[simp] theorem Die.onCtxAt_spSide (d : Die) (c : CtxId) (f : Ctx → Ctx) : (d.onCtxAt c f).spSide = d.spSide := rfl
@[simp] theorem Die.onCtxAt_spEcc (d : Die) (c : CtxId) (f : Ctx → Ctx) : (d.onCtxAt c f).spEcc = d.spEcc := rfl
@[simp] theorem Die.onCtxAt_pstore (d : Die) (c : CtxId) (f : Ctx → Ctx) : (d.onCtxAt c f).pstore = d.pstore := rfl
@[simp] theorem Die.onCtxAt_wall (d : Die) (c : CtxId) (f : Ctx → Ctx) : (d.onCtxAt c f).wall = d.wall := rfl
@[simp] theorem Die.onCtxAt_issuing (d : Die) (c : CtxId) (f : Ctx → Ctx) : (d.onCtxAt c f).issuing = d.issuing := rfl
@[simp] theorem Die.onCtxAt_current (d : Die) (c : CtxId) (f : Ctx → Ctx) : (d.onCtxAt c f).current = d.current := rfl
@[simp] theorem Die.onCtxAt_rx (d : Die) (c : CtxId) (f : Ctx → Ctx) : (d.onCtxAt c f).rx = d.rx := rfl
@[simp] theorem Die.onCtxAt_flight (d : Die) (c : CtxId) (f : Ctx → Ctx) : (d.onCtxAt c f).flight = d.flight := rfl
@[simp] theorem Die.onCtxAt_inbox (d : Die) (c : CtxId) (f : Ctx → Ctx) : (d.onCtxAt c f).inbox = d.inbox := rfl
@[simp] theorem Die.onCtxAt_msgQueue (d : Die) (c : CtxId) (f : Ctx → Ctx) : (d.onCtxAt c f).msgQueue = d.msgQueue := rfl
@[simp] theorem Die.onCtxAt_sentTick (d : Die) (c : CtxId) (f : Ctx → Ctx) : (d.onCtxAt c f).sentTick = d.sentTick := rfl
@[simp] theorem Die.onCtxAt_countOwed (d : Die) (c : CtxId) (f : Ctx → Ctx) : (d.onCtxAt c f).countOwed = d.countOwed := rfl
@[simp] theorem Die.onCtxAt_partners (d : Die) (c : CtxId) (f : Ctx → Ctx) : (d.onCtxAt c f).partners = d.partners := rfl
@[simp] theorem Die.onCtxAt_eseq (d : Die) (c : CtxId) (f : Ctx → Ctx) : (d.onCtxAt c f).eseq = d.eseq := rfl
@[simp] theorem Die.onCtxAt_fills (d : Die) (c : CtxId) (f : Ctx → Ctx) : (d.onCtxAt c f).fills = d.fills := rfl
@[simp] theorem Die.onCtxAt_fillOrder (d : Die) (c : CtxId) (f : Ctx → Ctx) : (d.onCtxAt c f).fillOrder = d.fillOrder := rfl
@[simp] theorem Die.onCtxAt_committed (d : Die) (c : CtxId) (f : Ctx → Ctx) : (d.onCtxAt c f).committed = d.committed := rfl
@[simp] theorem Die.onCtxAt_chans (d : Die) (c : CtxId) (f : Ctx → Ctx) : (d.onCtxAt c f).chans = d.chans := rfl
@[simp] theorem Die.onCtxAt_streams (d : Die) (c : CtxId) (f : Ctx → Ctx) : (d.onCtxAt c f).streams = d.streams := rfl
@[simp] theorem Die.onCtxAt_tlb (d : Die) (c : CtxId) (f : Ctx → Ctx) : (d.onCtxAt c f).tlb = d.tlb := rfl
@[simp] theorem Die.onCtxAt_savelist (d : Die) (c : CtxId) (f : Ctx → Ctx) : (d.onCtxAt c f).savelist = d.savelist := rfl
@[simp] theorem Die.onCtxAt_dbgCtl (d : Die) (c : CtxId) (f : Ctx → Ctx) : (d.onCtxAt c f).dbgCtl = d.dbgCtl := rfl
@[simp] theorem Die.onCtxAt_dbgBp (d : Die) (c : CtxId) (f : Ctx → Ctx) : (d.onCtxAt c f).dbgBp = d.dbgBp := rfl
@[simp] theorem Die.onCtxAt_trcCtl (d : Die) (c : CtxId) (f : Ctx → Ctx) : (d.onCtxAt c f).trcCtl = d.trcCtl := rfl
@[simp] theorem Die.onCtxAt_trcTrig (d : Die) (c : CtxId) (f : Ctx → Ctx) : (d.onCtxAt c f).trcTrig = d.trcTrig := rfl
@[simp] theorem Die.onCtxAt_trcIdx (d : Die) (c : CtxId) (f : Ctx → Ctx) : (d.onCtxAt c f).trcIdx = d.trcIdx := rfl
@[simp] theorem Die.onCtxAt_trcPost (d : Die) (c : CtxId) (f : Ctx → Ctx) : (d.onCtxAt c f).trcPost = d.trcPost := rfl
@[simp] theorem Die.onCtxAt_trcBuf (d : Die) (c : CtxId) (f : Ctx → Ctx) : (d.onCtxAt c f).trcBuf = d.trcBuf := rfl

@[simp] theorem State.ctx_onCtx (s : State) (f : Ctx → Ctx) : (s.onCtx f).ctx = f s.ctx := by
  simp [State.ctx, State.onCtx]

@[simp] theorem State.dieAt_onCtx_ne (s : State) {e : DieId} (f : Ctx → Ctx) (h : e ≠ s.turn) :
    (s.onCtx f).dieAt e = s.dieAt e :=
  State.dieAt_onDieAt_ne s _ h

/-! ### Fields of the state -/

@[simp] theorem State.putDieAt_pkg (s : State) (d : DieId) (x : Die) : (s.putDieAt d x).pkg = s.pkg := rfl
@[simp] theorem State.putDieAt_links (s : State) (d : DieId) (x : Die) : (s.putDieAt d x).links = s.links := rfl
@[simp] theorem State.putDieAt_hbm (s : State) (d : DieId) (x : Die) : (s.putDieAt d x).hbm = s.hbm := rfl
@[simp] theorem State.putDieAt_hbmEcc (s : State) (d : DieId) (x : Die) : (s.putDieAt d x).hbmEcc = s.hbmEcc := rfl
@[simp] theorem State.putDieAt_host (s : State) (d : DieId) (x : Die) : (s.putDieAt d x).host = s.host := rfl
@[simp] theorem State.putDieAt_sched (s : State) (d : DieId) (x : Die) : (s.putDieAt d x).sched = s.sched := rfl
@[simp] theorem State.putDieAt_paddock (s : State) (d : DieId) (x : Die) : (s.putDieAt d x).paddock = s.paddock := rfl
@[simp] theorem State.putDieAt_agenda (s : State) (d : DieId) (x : Die) : (s.putDieAt d x).agenda = s.agenda := rfl
@[simp] theorem State.putDieAt_turn (s : State) (d : DieId) (x : Die) : (s.putDieAt d x).turn = s.turn := rfl
@[simp] theorem State.putDieAt_order (s : State) (d : DieId) (x : Die) : (s.putDieAt d x).order = s.order := rfl
@[simp] theorem State.putDieAt_fresh (s : State) (d : DieId) (x : Die) : (s.putDieAt d x).fresh = s.fresh := rfl
@[simp] theorem State.onDieAt_pkg (s : State) (d : DieId) (f : Die → Die) : (s.onDieAt d f).pkg = s.pkg := rfl
@[simp] theorem State.onDieAt_links (s : State) (d : DieId) (f : Die → Die) : (s.onDieAt d f).links = s.links := rfl
@[simp] theorem State.onDieAt_hbm (s : State) (d : DieId) (f : Die → Die) : (s.onDieAt d f).hbm = s.hbm := rfl
@[simp] theorem State.onDieAt_hbmEcc (s : State) (d : DieId) (f : Die → Die) : (s.onDieAt d f).hbmEcc = s.hbmEcc := rfl
@[simp] theorem State.onDieAt_host (s : State) (d : DieId) (f : Die → Die) : (s.onDieAt d f).host = s.host := rfl
@[simp] theorem State.onDieAt_sched (s : State) (d : DieId) (f : Die → Die) : (s.onDieAt d f).sched = s.sched := rfl
@[simp] theorem State.onDieAt_paddock (s : State) (d : DieId) (f : Die → Die) : (s.onDieAt d f).paddock = s.paddock := rfl
@[simp] theorem State.onDieAt_agenda (s : State) (d : DieId) (f : Die → Die) : (s.onDieAt d f).agenda = s.agenda := rfl
@[simp] theorem State.onDieAt_turn (s : State) (d : DieId) (f : Die → Die) : (s.onDieAt d f).turn = s.turn := rfl
@[simp] theorem State.onDieAt_order (s : State) (d : DieId) (f : Die → Die) : (s.onDieAt d f).order = s.order := rfl
@[simp] theorem State.onDieAt_fresh (s : State) (d : DieId) (f : Die → Die) : (s.onDieAt d f).fresh = s.fresh := rfl
@[simp] theorem State.onDie_pkg (s : State) (f : Die → Die) : (s.onDie f).pkg = s.pkg := rfl
@[simp] theorem State.onDie_links (s : State) (f : Die → Die) : (s.onDie f).links = s.links := rfl
@[simp] theorem State.onDie_hbm (s : State) (f : Die → Die) : (s.onDie f).hbm = s.hbm := rfl
@[simp] theorem State.onDie_hbmEcc (s : State) (f : Die → Die) : (s.onDie f).hbmEcc = s.hbmEcc := rfl
@[simp] theorem State.onDie_host (s : State) (f : Die → Die) : (s.onDie f).host = s.host := rfl
@[simp] theorem State.onDie_sched (s : State) (f : Die → Die) : (s.onDie f).sched = s.sched := rfl
@[simp] theorem State.onDie_paddock (s : State) (f : Die → Die) : (s.onDie f).paddock = s.paddock := rfl
@[simp] theorem State.onDie_agenda (s : State) (f : Die → Die) : (s.onDie f).agenda = s.agenda := rfl
@[simp] theorem State.onDie_turn (s : State) (f : Die → Die) : (s.onDie f).turn = s.turn := rfl
@[simp] theorem State.onDie_order (s : State) (f : Die → Die) : (s.onDie f).order = s.order := rfl
@[simp] theorem State.onDie_fresh (s : State) (f : Die → Die) : (s.onDie f).fresh = s.fresh := rfl
@[simp] theorem State.onCtx_pkg (s : State) (f : Ctx → Ctx) : (s.onCtx f).pkg = s.pkg := rfl
@[simp] theorem State.onCtx_links (s : State) (f : Ctx → Ctx) : (s.onCtx f).links = s.links := rfl
@[simp] theorem State.onCtx_hbm (s : State) (f : Ctx → Ctx) : (s.onCtx f).hbm = s.hbm := rfl
@[simp] theorem State.onCtx_hbmEcc (s : State) (f : Ctx → Ctx) : (s.onCtx f).hbmEcc = s.hbmEcc := rfl
@[simp] theorem State.onCtx_host (s : State) (f : Ctx → Ctx) : (s.onCtx f).host = s.host := rfl
@[simp] theorem State.onCtx_sched (s : State) (f : Ctx → Ctx) : (s.onCtx f).sched = s.sched := rfl
@[simp] theorem State.onCtx_paddock (s : State) (f : Ctx → Ctx) : (s.onCtx f).paddock = s.paddock := rfl
@[simp] theorem State.onCtx_agenda (s : State) (f : Ctx → Ctx) : (s.onCtx f).agenda = s.agenda := rfl
@[simp] theorem State.onCtx_turn (s : State) (f : Ctx → Ctx) : (s.onCtx f).turn = s.turn := rfl
@[simp] theorem State.onCtx_order (s : State) (f : Ctx → Ctx) : (s.onCtx f).order = s.order := rfl
@[simp] theorem State.onCtx_fresh (s : State) (f : Ctx → Ctx) : (s.onCtx f).fresh = s.fresh := rfl
@[simp] theorem State.onCtxAt_pkg (s : State) (d : DieId) (c : CtxId) (f : Ctx → Ctx) : (s.onCtxAt d c f).pkg = s.pkg := rfl
@[simp] theorem State.onCtxAt_links (s : State) (d : DieId) (c : CtxId) (f : Ctx → Ctx) : (s.onCtxAt d c f).links = s.links := rfl
@[simp] theorem State.onCtxAt_hbm (s : State) (d : DieId) (c : CtxId) (f : Ctx → Ctx) : (s.onCtxAt d c f).hbm = s.hbm := rfl
@[simp] theorem State.onCtxAt_hbmEcc (s : State) (d : DieId) (c : CtxId) (f : Ctx → Ctx) : (s.onCtxAt d c f).hbmEcc = s.hbmEcc := rfl
@[simp] theorem State.onCtxAt_host (s : State) (d : DieId) (c : CtxId) (f : Ctx → Ctx) : (s.onCtxAt d c f).host = s.host := rfl
@[simp] theorem State.onCtxAt_sched (s : State) (d : DieId) (c : CtxId) (f : Ctx → Ctx) : (s.onCtxAt d c f).sched = s.sched := rfl
@[simp] theorem State.onCtxAt_paddock (s : State) (d : DieId) (c : CtxId) (f : Ctx → Ctx) : (s.onCtxAt d c f).paddock = s.paddock := rfl
@[simp] theorem State.onCtxAt_agenda (s : State) (d : DieId) (c : CtxId) (f : Ctx → Ctx) : (s.onCtxAt d c f).agenda = s.agenda := rfl
@[simp] theorem State.onCtxAt_turn (s : State) (d : DieId) (c : CtxId) (f : Ctx → Ctx) : (s.onCtxAt d c f).turn = s.turn := rfl
@[simp] theorem State.onCtxAt_order (s : State) (d : DieId) (c : CtxId) (f : Ctx → Ctx) : (s.onCtxAt d c f).order = s.order := rfl
@[simp] theorem State.onCtxAt_fresh (s : State) (d : DieId) (c : CtxId) (f : Ctx → Ctx) : (s.onCtxAt d c f).fresh = s.fresh := rfl
@[simp] theorem State.onGroup_pkg (s : State) (f : GroupCtx → GroupCtx) : (s.onGroup f).pkg = s.pkg := rfl
@[simp] theorem State.onGroup_links (s : State) (f : GroupCtx → GroupCtx) : (s.onGroup f).links = s.links := rfl
@[simp] theorem State.onGroup_hbm (s : State) (f : GroupCtx → GroupCtx) : (s.onGroup f).hbm = s.hbm := rfl
@[simp] theorem State.onGroup_hbmEcc (s : State) (f : GroupCtx → GroupCtx) : (s.onGroup f).hbmEcc = s.hbmEcc := rfl
@[simp] theorem State.onGroup_host (s : State) (f : GroupCtx → GroupCtx) : (s.onGroup f).host = s.host := rfl
@[simp] theorem State.onGroup_sched (s : State) (f : GroupCtx → GroupCtx) : (s.onGroup f).sched = s.sched := rfl
@[simp] theorem State.onGroup_paddock (s : State) (f : GroupCtx → GroupCtx) : (s.onGroup f).paddock = s.paddock := rfl
@[simp] theorem State.onGroup_agenda (s : State) (f : GroupCtx → GroupCtx) : (s.onGroup f).agenda = s.agenda := rfl
@[simp] theorem State.onGroup_turn (s : State) (f : GroupCtx → GroupCtx) : (s.onGroup f).turn = s.turn := rfl
@[simp] theorem State.onGroup_order (s : State) (f : GroupCtx → GroupCtx) : (s.onGroup f).order = s.order := rfl
@[simp] theorem State.onGroup_fresh (s : State) (f : GroupCtx → GroupCtx) : (s.onGroup f).fresh = s.fresh := rfl
@[simp] theorem State.after_pkg (s : State) (l : Nat) (e : Effect) : (s.after l e).pkg = s.pkg := rfl
@[simp] theorem State.after_links (s : State) (l : Nat) (e : Effect) : (s.after l e).links = s.links := rfl
@[simp] theorem State.after_hbm (s : State) (l : Nat) (e : Effect) : (s.after l e).hbm = s.hbm := rfl
@[simp] theorem State.after_hbmEcc (s : State) (l : Nat) (e : Effect) : (s.after l e).hbmEcc = s.hbmEcc := rfl
@[simp] theorem State.after_host (s : State) (l : Nat) (e : Effect) : (s.after l e).host = s.host := rfl
@[simp] theorem State.after_sched (s : State) (l : Nat) (e : Effect) : (s.after l e).sched = s.sched := rfl
@[simp] theorem State.after_paddock (s : State) (l : Nat) (e : Effect) : (s.after l e).paddock = s.paddock := rfl
@[simp] theorem State.after_agenda (s : State) (l : Nat) (e : Effect) : (s.after l e).agenda = s.agenda := rfl
@[simp] theorem State.after_turn (s : State) (l : Nat) (e : Effect) : (s.after l e).turn = s.turn := rfl
@[simp] theorem State.after_order (s : State) (l : Nat) (e : Effect) : (s.after l e).order = s.order := rfl
@[simp] theorem State.after_fresh (s : State) (l : Nat) (e : Effect) : (s.after l e).fresh = s.fresh := rfl

@[simp] theorem State.onTask_pkg (s : State) (l : BitVec 32) (f : Task → Task) : (s.onTask l f).pkg = s.pkg := rfl
@[simp] theorem State.onTask_links (s : State) (l : BitVec 32) (f : Task → Task) : (s.onTask l f).links = s.links := rfl
@[simp] theorem State.onTask_dies (s : State) (l : BitVec 32) (f : Task → Task) : (s.onTask l f).dies = s.dies := rfl
@[simp] theorem State.onTask_hbm (s : State) (l : BitVec 32) (f : Task → Task) : (s.onTask l f).hbm = s.hbm := rfl
@[simp] theorem State.onTask_hbmEcc (s : State) (l : BitVec 32) (f : Task → Task) : (s.onTask l f).hbmEcc = s.hbmEcc := rfl
@[simp] theorem State.onTask_host (s : State) (l : BitVec 32) (f : Task → Task) : (s.onTask l f).host = s.host := rfl
@[simp] theorem State.onTask_paddock (s : State) (l : BitVec 32) (f : Task → Task) : (s.onTask l f).paddock = s.paddock := rfl
@[simp] theorem State.onTask_agenda (s : State) (l : BitVec 32) (f : Task → Task) : (s.onTask l f).agenda = s.agenda := rfl
@[simp] theorem State.onTask_turn (s : State) (l : BitVec 32) (f : Task → Task) : (s.onTask l f).turn = s.turn := rfl
@[simp] theorem State.onTask_order (s : State) (l : BitVec 32) (f : Task → Task) : (s.onTask l f).order = s.order := rfl
@[simp] theorem State.onTask_fresh (s : State) (l : BitVec 32) (f : Task → Task) : (s.onTask l f).fresh = s.fresh := rfl
@[simp] theorem State.onTask_dieAt (s : State) (l : BitVec 32) (f : Task → Task) (d : DieId) : (s.onTask l f).dieAt d = s.dieAt d := rfl
@[simp] theorem State.onTask_ctx (s : State) (l : BitVec 32) (f : Task → Task) : (s.onTask l f).ctx = s.ctx := rfl

/-! ### Fields of the issuing die -/

@[simp] theorem State.die_onCtx_id (s : State) (f : Ctx → Ctx) : (s.onCtx f).die.id = s.die.id := by
  simp [State.onCtx]
@[simp] theorem State.die_onCtx_heldReset (s : State) (f : Ctx → Ctx) : (s.onCtx f).die.heldReset = s.die.heldReset := by
  simp [State.onCtx]
@[simp] theorem State.die_onCtx_outOfService (s : State) (f : Ctx → Ctx) : (s.onCtx f).die.outOfService = s.die.outOfService := by
  simp [State.onCtx]
@[simp] theorem State.die_onCtx_tick (s : State) (f : Ctx → Ctx) : (s.onCtx f).die.tick = s.die.tick := by
  simp [State.onCtx]
@[simp] theorem State.die_onCtx_scy (s : State) (f : Ctx → Ctx) : (s.onCtx f).die.scy = s.die.scy := by
  simp [State.onCtx]
@[simp] theorem State.die_onCtx_debt (s : State) (f : Ctx → Ctx) : (s.onCtx f).die.debt = s.die.debt := by
  simp [State.onCtx]
@[simp] theorem State.die_onCtx_debtNow (s : State) (f : Ctx → Ctx) : (s.onCtx f).die.debtNow = s.die.debtNow := by
  simp [State.onCtx]
@[simp] theorem State.die_onCtx_stopFrozen (s : State) (f : Ctx → Ctx) : (s.onCtx f).die.stopFrozen = s.die.stopFrozen := by
  simp [State.onCtx]
@[simp] theorem State.die_onCtx_stopHand (s : State) (f : Ctx → Ctx) : (s.onCtx f).die.stopHand = s.die.stopHand := by
  simp [State.onCtx]
@[simp] theorem State.die_onCtx_stopDue (s : State) (f : Ctx → Ctx) : (s.onCtx f).die.stopDue = s.die.stopDue := by
  simp [State.onCtx]
@[simp] theorem State.die_onCtx_sp (s : State) (f : Ctx → Ctx) : (s.onCtx f).die.sp = s.die.sp := by
  simp [State.onCtx]
@[simp] theorem State.die_onCtx_spSide (s : State) (f : Ctx → Ctx) : (s.onCtx f).die.spSide = s.die.spSide := by
  simp [State.onCtx]
@[simp] theorem State.die_onCtx_spEcc (s : State) (f : Ctx → Ctx) : (s.onCtx f).die.spEcc = s.die.spEcc := by
  simp [State.onCtx]
@[simp] theorem State.die_onCtx_pstore (s : State) (f : Ctx → Ctx) : (s.onCtx f).die.pstore = s.die.pstore := by
  simp [State.onCtx]
@[simp] theorem State.die_onCtx_wall (s : State) (f : Ctx → Ctx) : (s.onCtx f).die.wall = s.die.wall := by
  simp [State.onCtx]
@[simp] theorem State.die_onCtx_issuing (s : State) (f : Ctx → Ctx) : (s.onCtx f).die.issuing = s.die.issuing := by
  simp [State.onCtx]
@[simp] theorem State.die_onCtx_current (s : State) (f : Ctx → Ctx) : (s.onCtx f).die.current = s.die.current := by
  simp [State.onCtx]
@[simp] theorem State.die_onCtx_rx (s : State) (f : Ctx → Ctx) : (s.onCtx f).die.rx = s.die.rx := by
  simp [State.onCtx]
@[simp] theorem State.die_onCtx_flight (s : State) (f : Ctx → Ctx) : (s.onCtx f).die.flight = s.die.flight := by
  simp [State.onCtx]
@[simp] theorem State.die_onCtx_inbox (s : State) (f : Ctx → Ctx) : (s.onCtx f).die.inbox = s.die.inbox := by
  simp [State.onCtx]
@[simp] theorem State.die_onCtx_msgQueue (s : State) (f : Ctx → Ctx) : (s.onCtx f).die.msgQueue = s.die.msgQueue := by
  simp [State.onCtx]
@[simp] theorem State.die_onCtx_sentTick (s : State) (f : Ctx → Ctx) : (s.onCtx f).die.sentTick = s.die.sentTick := by
  simp [State.onCtx]
@[simp] theorem State.die_onCtx_countOwed (s : State) (f : Ctx → Ctx) : (s.onCtx f).die.countOwed = s.die.countOwed := by
  simp [State.onCtx]
@[simp] theorem State.die_onCtx_partners (s : State) (f : Ctx → Ctx) : (s.onCtx f).die.partners = s.die.partners := by
  simp [State.onCtx]
@[simp] theorem State.die_onCtx_eseq (s : State) (f : Ctx → Ctx) : (s.onCtx f).die.eseq = s.die.eseq := by
  simp [State.onCtx]
@[simp] theorem State.die_onCtx_fills (s : State) (f : Ctx → Ctx) : (s.onCtx f).die.fills = s.die.fills := by
  simp [State.onCtx]
@[simp] theorem State.die_onCtx_fillOrder (s : State) (f : Ctx → Ctx) : (s.onCtx f).die.fillOrder = s.die.fillOrder := by
  simp [State.onCtx]
@[simp] theorem State.die_onCtx_committed (s : State) (f : Ctx → Ctx) : (s.onCtx f).die.committed = s.die.committed := by
  simp [State.onCtx]
@[simp] theorem State.die_onCtx_chans (s : State) (f : Ctx → Ctx) : (s.onCtx f).die.chans = s.die.chans := by
  simp [State.onCtx]
@[simp] theorem State.die_onCtx_streams (s : State) (f : Ctx → Ctx) : (s.onCtx f).die.streams = s.die.streams := by
  simp [State.onCtx]
@[simp] theorem State.die_onCtx_tlb (s : State) (f : Ctx → Ctx) : (s.onCtx f).die.tlb = s.die.tlb := by
  simp [State.onCtx]
@[simp] theorem State.die_onCtx_savelist (s : State) (f : Ctx → Ctx) : (s.onCtx f).die.savelist = s.die.savelist := by
  simp [State.onCtx]
@[simp] theorem State.die_onCtx_dbgCtl (s : State) (f : Ctx → Ctx) : (s.onCtx f).die.dbgCtl = s.die.dbgCtl := by
  simp [State.onCtx]
@[simp] theorem State.die_onCtx_dbgBp (s : State) (f : Ctx → Ctx) : (s.onCtx f).die.dbgBp = s.die.dbgBp := by
  simp [State.onCtx]
@[simp] theorem State.die_onCtx_trcCtl (s : State) (f : Ctx → Ctx) : (s.onCtx f).die.trcCtl = s.die.trcCtl := by
  simp [State.onCtx]
@[simp] theorem State.die_onCtx_trcTrig (s : State) (f : Ctx → Ctx) : (s.onCtx f).die.trcTrig = s.die.trcTrig := by
  simp [State.onCtx]
@[simp] theorem State.die_onCtx_trcIdx (s : State) (f : Ctx → Ctx) : (s.onCtx f).die.trcIdx = s.die.trcIdx := by
  simp [State.onCtx]
@[simp] theorem State.die_onCtx_trcPost (s : State) (f : Ctx → Ctx) : (s.onCtx f).die.trcPost = s.die.trcPost := by
  simp [State.onCtx]
@[simp] theorem State.die_onCtx_trcBuf (s : State) (f : Ctx → Ctx) : (s.onCtx f).die.trcBuf = s.die.trcBuf := by
  simp [State.onCtx]

/-! ### Fields of a context -/

@[simp] theorem Ctx.setLatch_kind (c : Ctx) (l : Latch) (v : Option Latched) : (c.setLatch l v).kind = c.kind := rfl
@[simp] theorem Ctx.setLatch_lid (c : Ctx) (l : Latch) (v : Option Latched) : (c.setLatch l v).lid = c.lid := rfl
@[simp] theorem Ctx.setLatch_status (c : Ctx) (l : Latch) (v : Option Latched) : (c.setLatch l v).status = c.status := rfl
@[simp] theorem Ctx.setLatch_s (c : Ctx) (l : Latch) (v : Option Latched) : (c.setLatch l v).s = c.s := rfl
@[simp] theorem Ctx.setLatch_c (c : Ctx) (l : Latch) (v : Option Latched) : (c.setLatch l v).c = c.c := rfl
@[simp] theorem Ctx.setLatch_w (c : Ctx) (l : Latch) (v : Option Latched) : (c.setLatch l v).w = c.w := rfl
@[simp] theorem Ctx.setLatch_vxm (c : Ctx) (l : Latch) (v : Option Latched) : (c.setLatch l v).vxm = c.vxm := rfl
@[simp] theorem Ctx.setLatch_ports (c : Ctx) (l : Latch) (v : Option Latched) : (c.setLatch l v).ports = c.ports := rfl
@[simp] theorem Ctx.setLatch_lsq (c : Ctx) (l : Latch) (v : Option Latched) : (c.setLatch l v).lsq = c.lsq := rfl
@[simp] theorem Ctx.setLatch_syq (c : Ctx) (l : Latch) (v : Option Latched) : (c.setLatch l v).syq = c.syq := rfl
@[simp] theorem Ctx.setLatch_fxq (c : Ctx) (l : Latch) (v : Option Latched) : (c.setLatch l v).fxq = c.fxq := rfl
@[simp] theorem Ctx.setLatch_fxst (c : Ctx) (l : Latch) (v : Option Latched) : (c.setLatch l v).fxst = c.fxst := rfl
@[simp] theorem Ctx.setLatch_entries (c : Ctx) (l : Latch) (v : Option Latched) : (c.setLatch l v).entries = c.entries := rfl
@[simp] theorem Ctx.setLatch_marks (c : Ctx) (l : Latch) (v : Option Latched) : (c.setLatch l v).marks = c.marks := rfl
@[simp] theorem Ctx.setLatch_fences (c : Ctx) (l : Latch) (v : Option Latched) : (c.setLatch l v).fences = c.fences := rfl
@[simp] theorem Ctx.setLatch_holds (c : Ctx) (l : Latch) (v : Option Latched) : (c.setLatch l v).holds = c.holds := rfl
@[simp] theorem Ctx.setLatch_seq (c : Ctx) (l : Latch) (v : Option Latched) : (c.setLatch l v).seq = c.seq := rfl
@[simp] theorem Ctx.setLatch_pend (c : Ctx) (l : Latch) (v : Option Latched) : (c.setLatch l v).pend = c.pend := rfl
@[simp] theorem Ctx.setLatch_snap (c : Ctx) (l : Latch) (v : Option Latched) : (c.setLatch l v).snap = c.snap := rfl
@[simp] theorem Ctx.setLatch_far (c : Ctx) (l : Latch) (v : Option Latched) : (c.setLatch l v).far = c.far := rfl
@[simp] theorem Ctx.setLatch_grp (c : Ctx) (l : Latch) (v : Option Latched) : (c.setLatch l v).grp = c.grp := rfl
@[simp] theorem Ctx.setLatch_bundle (c : Ctx) (l : Latch) (v : Option Latched) : (c.setLatch l v).bundle = c.bundle := rfl
@[simp] theorem Ctx.setLatch_slot (c : Ctx) (l : Latch) (v : Option Latched) : (c.setLatch l v).slot = c.slot := rfl
@[simp] theorem Ctx.setLatch_base (c : Ctx) (l : Latch) (v : Option Latched) : (c.setLatch l v).base = c.base := rfl
@[simp] theorem Ctx.setLatch_codeLen (c : Ctx) (l : Latch) (v : Option Latched) : (c.setLatch l v).codeLen = c.codeLen := rfl
@[simp] theorem Ctx.setLatch_delay (c : Ctx) (l : Latch) (v : Option Latched) : (c.setLatch l v).delay = c.delay := rfl
@[simp] theorem Ctx.setLatch_rot (c : Ctx) (l : Latch) (v : Option Latched) : (c.setLatch l v).rot = c.rot := rfl
@[simp] theorem Ctx.setLatch_ic (c : Ctx) (l : Latch) (v : Option Latched) : (c.setLatch l v).ic = c.ic := rfl
@[simp] theorem Ctx.setLatch_origin (c : Ctx) (l : Latch) (v : Option Latched) : (c.setLatch l v).origin = c.origin := rfl
@[simp] theorem Ctx.setLatch_hc (c : Ctx) (l : Latch) (v : Option Latched) : (c.setLatch l v).hc = c.hc := rfl
@[simp] theorem Ctx.setLatch_startScy (c : Ctx) (l : Latch) (v : Option Latched) : (c.setLatch l v).startScy = c.startScy := rfl
@[simp] theorem Ctx.setLatch_priv (c : Ctx) (l : Latch) (v : Option Latched) : (c.setLatch l v).priv = c.priv := rfl
@[simp] theorem Ctx.setLatch_inh (c : Ctx) (l : Latch) (v : Option Latched) : (c.setLatch l v).inh = c.inh := rfl
@[simp] theorem Ctx.setLatch_fcode (c : Ctx) (l : Latch) (v : Option Latched) : (c.setLatch l v).fcode = c.fcode := rfl
@[simp] theorem Ctx.setLatch_reason (c : Ctx) (l : Latch) (v : Option Latched) : (c.setLatch l v).reason = c.reason := rfl
@[simp] theorem Ctx.setLatch_cswSlot (c : Ctx) (l : Latch) (v : Option Latched) : (c.setLatch l v).cswSlot = c.cswSlot := rfl
@[simp] theorem Ctx.setLatch_guards (c : Ctx) (l : Latch) (v : Option Latched) : (c.setLatch l v).guards = c.guards := rfl
@[simp] theorem Ctx.setLatch_reentry (c : Ctx) (l : Latch) (v : Option Latched) : (c.setLatch l v).reentry = c.reentry := rfl
@[simp] theorem Ctx.setLatch_reent (c : Ctx) (l : Latch) (v : Option Latched) : (c.setLatch l v).reent = c.reent := rfl
@[simp] theorem Ctx.setLatch_status0 (c : Ctx) (l : Latch) (v : Option Latched) : (c.setLatch l v).status0 = c.status0 := rfl
@[simp] theorem Ctx.setLatch_alignAt (c : Ctx) (l : Latch) (v : Option Latched) : (c.setLatch l v).alignAt = c.alignAt := rfl
@[simp] theorem Ctx.setLatch_exitAt (c : Ctx) (l : Latch) (v : Option Latched) : (c.setLatch l v).exitAt = c.exitAt := rfl
@[simp] theorem Ctx.setLatch_exitQuiet (c : Ctx) (l : Latch) (v : Option Latched) : (c.setLatch l v).exitQuiet = c.exitQuiet := rfl
@[simp] theorem Ctx.setLatch_retireFc (c : Ctx) (l : Latch) (v : Option Latched) : (c.setLatch l v).retireFc = c.retireFc := rfl
@[simp] theorem Ctx.setLatch_epc (c : Ctx) (l : Latch) (v : Option Latched) : (c.setLatch l v).epc = c.epc := rfl
@[simp] theorem Ctx.setLatch_tvec (c : Ctx) (l : Latch) (v : Option Latched) : (c.setLatch l v).tvec = c.tvec := rfl
@[simp] theorem Ctx.setLatch_tvecValid (c : Ctx) (l : Latch) (v : Option Latched) : (c.setLatch l v).tvecValid = c.tvecValid := rfl
@[simp] theorem Ctx.setLatch_faddr (c : Ctx) (l : Latch) (v : Option Latched) : (c.setLatch l v).faddr = c.faddr := rfl
@[simp] theorem Ctx.setLatch_fcnt (c : Ctx) (l : Latch) (v : Option Latched) : (c.setLatch l v).fcnt = c.fcnt := rfl
@[simp] theorem Ctx.setLatch_fflags (c : Ctx) (l : Latch) (v : Option Latched) : (c.setLatch l v).fflags = c.fflags := rfl
@[simp] theorem Ctx.setLatch_rmode (c : Ctx) (l : Latch) (v : Option Latched) : (c.setLatch l v).rmode = c.rmode := rfl
@[simp] theorem Ctx.setLatch_amax (c : Ctx) (l : Latch) (v : Option Latched) : (c.setLatch l v).amax = c.amax := rfl
@[simp] theorem Ctx.setLatch_rngKey (c : Ctx) (l : Latch) (v : Option Latched) : (c.setLatch l v).rngKey = c.rngKey := rfl
@[simp] theorem Ctx.setLatch_rngCtr (c : Ctx) (l : Latch) (v : Option Latched) : (c.setLatch l v).rngCtr = c.rngCtr := rfl
@[simp] theorem Ctx.setLatch_shape (c : Ctx) (l : Latch) (v : Option Latched) : (c.setLatch l v).shape = c.shape := rfl
@[simp] theorem Ctx.setLatch_padShape (c : Ctx) (l : Latch) (v : Option Latched) : (c.setLatch l v).padShape = c.padShape := rfl
@[simp] theorem Ctx.setLatch_numProf (c : Ctx) (l : Latch) (v : Option Latched) : (c.setLatch l v).numProf = c.numProf := rfl
@[simp] theorem Ctx.setLatch_epoch0 (c : Ctx) (l : Latch) (v : Option Latched) : (c.setLatch l v).epoch0 = c.epoch0 := rfl
@[simp] theorem Ctx.setLatch_epoch1 (c : Ctx) (l : Latch) (v : Option Latched) : (c.setLatch l v).epoch1 = c.epoch1 := rfl
@[simp] theorem Ctx.setLatch_arriving (c : Ctx) (l : Latch) (v : Option Latched) : (c.setLatch l v).arriving = c.arriving := rfl
@[simp] theorem Ctx.setLatch_ordSeq (c : Ctx) (l : Latch) (v : Option Latched) : (c.setLatch l v).ordSeq = c.ordSeq := rfl
@[simp] theorem Ctx.setLatch_freeRun (c : Ctx) (l : Latch) (v : Option Latched) : (c.setLatch l v).freeRun = c.freeRun := rfl
@[simp] theorem Ctx.setLatch_discards (c : Ctx) (l : Latch) (v : Option Latched) : (c.setLatch l v).discards = c.discards := rfl
@[simp] theorem Ctx.setLatch_abandoned (c : Ctx) (l : Latch) (v : Option Latched) : (c.setLatch l v).abandoned = c.abandoned := rfl
@[simp] theorem Ctx.setLatch_deferred (c : Ctx) (l : Latch) (v : Option Latched) : (c.setLatch l v).deferred = c.deferred := rfl
@[simp] theorem Ctx.setLatch_secondary (c : Ctx) (l : Latch) (v : Option Latched) : (c.setLatch l v).secondary = c.secondary := rfl
@[simp] theorem Ctx.setLatch_dbgSkip (c : Ctx) (l : Latch) (v : Option Latched) : (c.setLatch l v).dbgSkip = c.dbgSkip := rfl
@[simp] theorem Ctx.setLatch_stepDue (c : Ctx) (l : Latch) (v : Option Latched) : (c.setLatch l v).stepDue = c.stepDue := rfl
@[simp] theorem Ctx.setLatch_blocked (c : Ctx) (l : Latch) (v : Option Latched) : (c.setLatch l v).blocked = c.blocked := rfl
@[simp] theorem Ctx.setLatch_wake (c : Ctx) (l : Latch) (v : Option Latched) : (c.setLatch l v).wake = c.wake := rfl
@[simp] theorem Ctx.after_kind (c : Ctx) (n : Nat) (e : Effect) : (c.after n e).kind = c.kind := rfl
@[simp] theorem Ctx.after_lid (c : Ctx) (n : Nat) (e : Effect) : (c.after n e).lid = c.lid := rfl
@[simp] theorem Ctx.after_status (c : Ctx) (n : Nat) (e : Effect) : (c.after n e).status = c.status := rfl
@[simp] theorem Ctx.after_s (c : Ctx) (n : Nat) (e : Effect) : (c.after n e).s = c.s := rfl
@[simp] theorem Ctx.after_c (c : Ctx) (n : Nat) (e : Effect) : (c.after n e).c = c.c := rfl
@[simp] theorem Ctx.after_w (c : Ctx) (n : Nat) (e : Effect) : (c.after n e).w = c.w := rfl
@[simp] theorem Ctx.after_latches (c : Ctx) (n : Nat) (e : Effect) : (c.after n e).latches = c.latches := rfl
@[simp] theorem Ctx.after_vxm (c : Ctx) (n : Nat) (e : Effect) : (c.after n e).vxm = c.vxm := rfl
@[simp] theorem Ctx.after_ports (c : Ctx) (n : Nat) (e : Effect) : (c.after n e).ports = c.ports := rfl
@[simp] theorem Ctx.after_lsq (c : Ctx) (n : Nat) (e : Effect) : (c.after n e).lsq = c.lsq := rfl
@[simp] theorem Ctx.after_syq (c : Ctx) (n : Nat) (e : Effect) : (c.after n e).syq = c.syq := rfl
@[simp] theorem Ctx.after_fxq (c : Ctx) (n : Nat) (e : Effect) : (c.after n e).fxq = c.fxq := rfl
@[simp] theorem Ctx.after_fxst (c : Ctx) (n : Nat) (e : Effect) : (c.after n e).fxst = c.fxst := rfl
@[simp] theorem Ctx.after_entries (c : Ctx) (n : Nat) (e : Effect) : (c.after n e).entries = c.entries := rfl
@[simp] theorem Ctx.after_marks (c : Ctx) (n : Nat) (e : Effect) : (c.after n e).marks = c.marks := rfl
@[simp] theorem Ctx.after_fences (c : Ctx) (n : Nat) (e : Effect) : (c.after n e).fences = c.fences := rfl
@[simp] theorem Ctx.after_holds (c : Ctx) (n : Nat) (e : Effect) : (c.after n e).holds = c.holds := rfl
@[simp] theorem Ctx.after_seq (c : Ctx) (n : Nat) (e : Effect) : (c.after n e).seq = c.seq := rfl
@[simp] theorem Ctx.after_snap (c : Ctx) (n : Nat) (e : Effect) : (c.after n e).snap = c.snap := rfl
@[simp] theorem Ctx.after_far (c : Ctx) (n : Nat) (e : Effect) : (c.after n e).far = c.far := rfl
@[simp] theorem Ctx.after_grp (c : Ctx) (n : Nat) (e : Effect) : (c.after n e).grp = c.grp := rfl
@[simp] theorem Ctx.after_bundle (c : Ctx) (n : Nat) (e : Effect) : (c.after n e).bundle = c.bundle := rfl
@[simp] theorem Ctx.after_slot (c : Ctx) (n : Nat) (e : Effect) : (c.after n e).slot = c.slot := rfl
@[simp] theorem Ctx.after_base (c : Ctx) (n : Nat) (e : Effect) : (c.after n e).base = c.base := rfl
@[simp] theorem Ctx.after_codeLen (c : Ctx) (n : Nat) (e : Effect) : (c.after n e).codeLen = c.codeLen := rfl
@[simp] theorem Ctx.after_delay (c : Ctx) (n : Nat) (e : Effect) : (c.after n e).delay = c.delay := rfl
@[simp] theorem Ctx.after_rot (c : Ctx) (n : Nat) (e : Effect) : (c.after n e).rot = c.rot := rfl
@[simp] theorem Ctx.after_ic (c : Ctx) (n : Nat) (e : Effect) : (c.after n e).ic = c.ic := rfl
@[simp] theorem Ctx.after_origin (c : Ctx) (n : Nat) (e : Effect) : (c.after n e).origin = c.origin := rfl
@[simp] theorem Ctx.after_hc (c : Ctx) (n : Nat) (e : Effect) : (c.after n e).hc = c.hc := rfl
@[simp] theorem Ctx.after_startScy (c : Ctx) (n : Nat) (e : Effect) : (c.after n e).startScy = c.startScy := rfl
@[simp] theorem Ctx.after_priv (c : Ctx) (n : Nat) (e : Effect) : (c.after n e).priv = c.priv := rfl
@[simp] theorem Ctx.after_inh (c : Ctx) (n : Nat) (e : Effect) : (c.after n e).inh = c.inh := rfl
@[simp] theorem Ctx.after_fcode (c : Ctx) (n : Nat) (e : Effect) : (c.after n e).fcode = c.fcode := rfl
@[simp] theorem Ctx.after_reason (c : Ctx) (n : Nat) (e : Effect) : (c.after n e).reason = c.reason := rfl
@[simp] theorem Ctx.after_cswSlot (c : Ctx) (n : Nat) (e : Effect) : (c.after n e).cswSlot = c.cswSlot := rfl
@[simp] theorem Ctx.after_guards (c : Ctx) (n : Nat) (e : Effect) : (c.after n e).guards = c.guards := rfl
@[simp] theorem Ctx.after_reentry (c : Ctx) (n : Nat) (e : Effect) : (c.after n e).reentry = c.reentry := rfl
@[simp] theorem Ctx.after_reent (c : Ctx) (n : Nat) (e : Effect) : (c.after n e).reent = c.reent := rfl
@[simp] theorem Ctx.after_status0 (c : Ctx) (n : Nat) (e : Effect) : (c.after n e).status0 = c.status0 := rfl
@[simp] theorem Ctx.after_alignAt (c : Ctx) (n : Nat) (e : Effect) : (c.after n e).alignAt = c.alignAt := rfl
@[simp] theorem Ctx.after_exitAt (c : Ctx) (n : Nat) (e : Effect) : (c.after n e).exitAt = c.exitAt := rfl
@[simp] theorem Ctx.after_exitQuiet (c : Ctx) (n : Nat) (e : Effect) : (c.after n e).exitQuiet = c.exitQuiet := rfl
@[simp] theorem Ctx.after_retireFc (c : Ctx) (n : Nat) (e : Effect) : (c.after n e).retireFc = c.retireFc := rfl
@[simp] theorem Ctx.after_epc (c : Ctx) (n : Nat) (e : Effect) : (c.after n e).epc = c.epc := rfl
@[simp] theorem Ctx.after_tvec (c : Ctx) (n : Nat) (e : Effect) : (c.after n e).tvec = c.tvec := rfl
@[simp] theorem Ctx.after_tvecValid (c : Ctx) (n : Nat) (e : Effect) : (c.after n e).tvecValid = c.tvecValid := rfl
@[simp] theorem Ctx.after_faddr (c : Ctx) (n : Nat) (e : Effect) : (c.after n e).faddr = c.faddr := rfl
@[simp] theorem Ctx.after_fcnt (c : Ctx) (n : Nat) (e : Effect) : (c.after n e).fcnt = c.fcnt := rfl
@[simp] theorem Ctx.after_fflags (c : Ctx) (n : Nat) (e : Effect) : (c.after n e).fflags = c.fflags := rfl
@[simp] theorem Ctx.after_rmode (c : Ctx) (n : Nat) (e : Effect) : (c.after n e).rmode = c.rmode := rfl
@[simp] theorem Ctx.after_amax (c : Ctx) (n : Nat) (e : Effect) : (c.after n e).amax = c.amax := rfl
@[simp] theorem Ctx.after_rngKey (c : Ctx) (n : Nat) (e : Effect) : (c.after n e).rngKey = c.rngKey := rfl
@[simp] theorem Ctx.after_rngCtr (c : Ctx) (n : Nat) (e : Effect) : (c.after n e).rngCtr = c.rngCtr := rfl
@[simp] theorem Ctx.after_shape (c : Ctx) (n : Nat) (e : Effect) : (c.after n e).shape = c.shape := rfl
@[simp] theorem Ctx.after_padShape (c : Ctx) (n : Nat) (e : Effect) : (c.after n e).padShape = c.padShape := rfl
@[simp] theorem Ctx.after_numProf (c : Ctx) (n : Nat) (e : Effect) : (c.after n e).numProf = c.numProf := rfl
@[simp] theorem Ctx.after_epoch0 (c : Ctx) (n : Nat) (e : Effect) : (c.after n e).epoch0 = c.epoch0 := rfl
@[simp] theorem Ctx.after_epoch1 (c : Ctx) (n : Nat) (e : Effect) : (c.after n e).epoch1 = c.epoch1 := rfl
@[simp] theorem Ctx.after_arriving (c : Ctx) (n : Nat) (e : Effect) : (c.after n e).arriving = c.arriving := rfl
@[simp] theorem Ctx.after_ordSeq (c : Ctx) (n : Nat) (e : Effect) : (c.after n e).ordSeq = c.ordSeq := rfl
@[simp] theorem Ctx.after_freeRun (c : Ctx) (n : Nat) (e : Effect) : (c.after n e).freeRun = c.freeRun := rfl
@[simp] theorem Ctx.after_discards (c : Ctx) (n : Nat) (e : Effect) : (c.after n e).discards = c.discards := rfl
@[simp] theorem Ctx.after_abandoned (c : Ctx) (n : Nat) (e : Effect) : (c.after n e).abandoned = c.abandoned := rfl
@[simp] theorem Ctx.after_deferred (c : Ctx) (n : Nat) (e : Effect) : (c.after n e).deferred = c.deferred := rfl
@[simp] theorem Ctx.after_secondary (c : Ctx) (n : Nat) (e : Effect) : (c.after n e).secondary = c.secondary := rfl
@[simp] theorem Ctx.after_dbgSkip (c : Ctx) (n : Nat) (e : Effect) : (c.after n e).dbgSkip = c.dbgSkip := rfl
@[simp] theorem Ctx.after_stepDue (c : Ctx) (n : Nat) (e : Effect) : (c.after n e).stepDue = c.stepDue := rfl
@[simp] theorem Ctx.after_blocked (c : Ctx) (n : Nat) (e : Effect) : (c.after n e).blocked = c.blocked := rfl
@[simp] theorem Ctx.after_wake (c : Ctx) (n : Nat) (e : Effect) : (c.after n e).wake = c.wake := rfl

end Sys2Proof.Machine
end

