-- ==== Sys2Proof/Laws/Mem.lean ====
section
/-! SUPPORT. Memory: a read after a write, and the canonical form, which every memory operation keeps. -/

namespace Sys2Proof.Machine

/-! ### A read after a write -/

/-- Dropping cells by their address leaves the others' values. -/
theorem Mem.lookup_filter (p : Nat → Bool) (m : Mem) (b : Nat) :
    (m.filter fun c => p c.1).lookup b = if p b then m.lookup b else none := by
  induction m with
  | nil => simp
  | cons c l ih =>
    obtain ⟨k, v⟩ := c
    by_cases hb : b = k
    · subst hb; by_cases hp : p b <;> simp [hp, ih]
    · have hk : (b == k) = false := by simp [hb]
      by_cases hp : p k <;> simp [hp, List.lookup_cons, hk, ih]

/-- The cells of a run of bytes hold its bytes. -/
theorem Mem.lookup_cells (bs : List Byte) : ∀ a b : Nat,
    ((Mem.cells a bs).lookup b).getD 0 = if a ≤ b ∧ b < a + bs.length then bs.getD (b - a) 0 else 0 := by
  induction bs with
  | nil => intro a b; simp only [Mem.cells, List.lookup_nil, List.length_nil]; split <;> simp
  | cons x xs ih =>
    intro a b
    have hx := ih (a + 1) b
    by_cases hb : b = a
    · subst hb
      by_cases h0 : x = 0
      · have : ¬(b + 1 ≤ b ∧ b < b + 1 + xs.length) := by omega
        simp only [Mem.cells, h0, if_true, hx, if_neg this]; simp
      · rw [Mem.cells, if_neg h0]; simp
    · have hk : (b == a) = false := by simp [hb]
      have h1 : ((Mem.cells a (x :: xs)).lookup b).getD 0 = ((Mem.cells (a + 1) xs).lookup b).getD 0 := by
        by_cases h0 : x = 0
        · rw [Mem.cells, if_pos h0]
        · rw [Mem.cells, if_neg h0, List.lookup_cons, hk]
      rw [h1, hx]
      by_cases h : a + 1 ≤ b ∧ b < a + 1 + xs.length
      · have h' : a ≤ b ∧ b < a + (x :: xs).length := by simp only [List.length_cons]; omega
        rw [if_pos h, if_pos h']
        obtain ⟨k, rfl⟩ : ∃ k, b = a + (k + 1) := ⟨b - a - 1, by omega⟩
        have e1 : a + (k + 1) - (a + 1) = k := by omega
        have e2 : a + (k + 1) - a = k + 1 := by omega
        rw [e1, e2]; simp
      · have h' : ¬(a ≤ b ∧ b < a + (x :: xs).length) := by simp only [List.length_cons]; omega
        rw [if_neg h, if_neg h']

/-- An address outside a run of bytes has no cell in it. -/
theorem Mem.lookup_cells_none (bs : List Byte) : ∀ a b : Nat, ¬(a ≤ b ∧ b < a + bs.length) →
    (Mem.cells a bs).lookup b = none := by
  induction bs with
  | nil => intro a b _; rfl
  | cons x xs ih =>
    intro a b h
    simp only [List.length_cons] at h
    have hk : (b == a) = false := by simp only [beq_eq_false_iff_ne]; omega
    have h1 := ih (a + 1) b (by omega)
    by_cases h0 : x = 0
    · rw [Mem.cells, if_pos h0, h1]
    · rw [Mem.cells, if_neg h0, List.lookup_cons, hk, h1]

/-- A read after a write gives the bytes written there and what stood everywhere else. -/
theorem Mem.read_write (m : Mem) (a : Nat) (bs : List Byte) (b : Nat) :
    (m.write a bs).read b = if a ≤ b ∧ b < a + bs.length then bs.getD (b - a) 0 else m.read b := by
  unfold Mem.read Mem.write
  rw [List.lookup_append, List.lookup_append, Mem.lookup_filter (fun k => decide (k < a)),
    Mem.lookup_filter (fun k => decide (a + bs.length ≤ k))]
  by_cases h : a ≤ b ∧ b < a + bs.length
  · have h1 : ¬ b < a := by omega
    have h2 : ¬ a + bs.length ≤ b := by omega
    simp only [h1, h2, decide_false, Bool.false_eq_true, if_false, Option.none_or, Option.or_none, if_pos h]
    rw [Mem.lookup_cells, if_pos h]
  · rw [if_neg h, Mem.lookup_cells_none bs a b h]
    by_cases h1 : b < a
    · have h2 : ¬ a + bs.length ≤ b := by omega
      simp [h1, h2]
    · have h2 : a + bs.length ≤ b := by omega
      simp [h1, h2]

/-- A write leaves every address outside its bytes alone. -/
theorem Mem.read_write_outside (m : Mem) (a : Nat) (bs : List Byte) {b : Nat} (h : ¬(a ≤ b ∧ b < a + bs.length)) :
    (m.write a bs).read b = m.read b := by rw [Mem.read_write, if_neg h]

/-! ### The canonical form -/

/-- The canonical form as a statement: addresses rise, and no cell holds 0. -/
theorem Mem.wf_iff (m : Mem) : Mem.wf m = true ↔ m.Pairwise (fun c d => c.1 < d.1) ∧ ∀ c ∈ m, c.2 ≠ 0 := by
  induction m with
  | nil => simp [Mem.wf]
  | cons c l ih =>
    cases l with
    | nil => simp [Mem.wf]
    | cons d l =>
      simp only [Mem.wf, Bool.and_eq_true, bne_iff_ne, decide_eq_true_eq, ih]
      constructor
      · rintro ⟨⟨h1, h2⟩, h3, h4⟩
        refine ⟨List.pairwise_cons.2 ⟨?_, h3⟩, ?_⟩
        · intro x hx
          rcases List.mem_cons.1 hx with rfl | hx
          · exact h2
          · exact lt_trans h2 ((List.pairwise_cons.1 h3).1 x hx)
        · intro x hx
          rcases List.mem_cons.1 hx with rfl | hx
          · exact h1
          · exact h4 x hx
      · rintro ⟨h1, h2⟩
        have h := List.pairwise_cons.1 h1
        exact ⟨⟨h2 c (by simp), h.1 d (by simp)⟩, h.2, fun x hx => h2 x (List.mem_cons_of_mem _ hx)⟩

/-- The cells of a run of bytes are canonical and lie in the run. -/
theorem Mem.cells_wf (bs : List Byte) : ∀ a : Nat,
    (Mem.cells a bs).Pairwise (fun c d => c.1 < d.1) ∧
      ∀ c ∈ Mem.cells a bs, c.2 ≠ 0 ∧ a ≤ c.1 ∧ c.1 < a + bs.length := by
  induction bs with
  | nil => intro a; simp [Mem.cells]
  | cons x xs ih =>
    intro a
    obtain ⟨h1, h2⟩ := ih (a + 1)
    have h3 : ∀ c ∈ Mem.cells (a + 1) xs, c.2 ≠ 0 ∧ a ≤ c.1 ∧ c.1 < a + (x :: xs).length := by
      intro c hc
      have := h2 c hc
      simp only [List.length_cons]
      exact ⟨this.1, by omega, by omega⟩
    by_cases h0 : x = 0
    · simp only [Mem.cells, h0, if_true]; rw [h0] at h3; exact ⟨h1, h3⟩
    · simp only [Mem.cells, h0, if_false]
      refine ⟨List.pairwise_cons.2 ⟨fun c hc => ?_, h1⟩, ?_⟩
      · have := (h2 c hc).2.1; show a < c.1; omega
      · intro c hc
        rcases List.mem_cons.1 hc with rfl | hc
        · exact ⟨h0, by simp, by simp⟩
        · exact h3 c hc

/-- A write keeps the canonical form. -/
theorem Mem.wf_write {m : Mem} (h : Mem.wf m = true) (a : Nat) (bs : List Byte) : Mem.wf (m.write a bs) = true := by
  rw [Mem.wf_iff] at h ⊢
  obtain ⟨hp, hz⟩ := h
  obtain ⟨cp, cz⟩ := Mem.cells_wf bs a
  unfold Mem.write
  refine ⟨?_, ?_⟩
  · rw [List.pairwise_append, List.pairwise_append]
    refine ⟨⟨hp.filter _, cp, ?_⟩, hp.filter _, ?_⟩
    · intro c hc d hd
      have h1 : c.1 < a := by simpa using (List.mem_filter.1 hc).2
      have := (cz d hd).2.1
      show c.1 < d.1; omega
    · intro c hc d hd
      have h2 : a + bs.length ≤ d.1 := by simpa using (List.mem_filter.1 hd).2
      show c.1 < d.1
      rcases List.mem_append.1 hc with hc | hc
      · have h1 : c.1 < a := by simpa using (List.mem_filter.1 hc).2
        omega
      · have := (cz c hc).2.2; omega
  · intro c hc
    rcases List.mem_append.1 hc with hc | hc
    · rcases List.mem_append.1 hc with hc | hc
      · exact hz c (List.mem_filter.1 hc).1
      · exact (cz c hc).1
    · exact hz c (List.mem_filter.1 hc).1

/-- Scattered writes keep the canonical form. -/
theorem Mem.wf_writeEach (l : List (Nat × Byte)) : ∀ {m : Mem}, Mem.wf m = true → Mem.wf (m.writeEach l) = true := by
  induction l with
  | nil => exact fun h => h
  | cons c l ih => exact fun h => ih (Mem.wf_write h c.1 [c.2])

/-! ### Operations of a die and of the package -/

/-- Writing a row keeps the memories of a die canonical. -/
theorem Die.memOk_writeRow {d : Die} (h : d.memOk = true) (u : Nat) (r : Row) : (d.writeRow u r).memOk = true := by
  simp only [Die.memOk, Bool.and_eq_true] at h ⊢
  exact ⟨⟨Mem.wf_write h.1.1 _ _, Mem.wf_write h.1.2 _ _⟩, h.2⟩

/-- Writing rows keeps the memories of a die canonical. -/
theorem Die.memOk_writeRows (l : List (Nat × Row)) : ∀ {d : Die}, d.memOk = true → (d.writeRows l).memOk = true := by
  induction l with
  | nil => exact fun h => h
  | cons c l ih => exact fun h => ih (Die.memOk_writeRow h c.1 c.2)

/-- Writing bytes and side-lane bytes keeps the memories of a die canonical. -/
theorem Die.memOk_writeBytes {d : Die} (h : d.memOk = true) (bytes side : List (Nat × Byte)) :
    (d.writeBytes bytes side).memOk = true := by
  simp only [Die.memOk, Bool.and_eq_true] at h ⊢
  exact ⟨⟨Mem.wf_writeEach _ h.1.1, Mem.wf_writeEach _ h.1.2⟩, h.2⟩

/-- Clearing row units keeps the memories of a die canonical. -/
theorem Die.memOk_zeroUnits {d : Die} (h : d.memOk = true) (u n : Nat) : (d.zeroUnits u n).memOk = true := by
  simp only [Die.memOk, Bool.and_eq_true] at h ⊢
  exact ⟨⟨Mem.wf_write h.1.1 _ _, Mem.wf_write h.1.2 _ _⟩, h.2⟩

/-- The canonical form of the package, die by die. -/
theorem State.memOk_iff (s : State) : s.memOk = true ↔
    (∀ d, (s.dieAt d).memOk = true) ∧ Mem.wf s.hbm = true ∧ Mem.wf s.host.mem = true := by
  simp only [State.memOk, allDies, List.all_cons, List.all_nil, Bool.and_true, Bool.and_eq_true]
  constructor
  · rintro ⟨⟨⟨h0, h1, h2⟩, h3⟩, h4⟩
    refine ⟨fun d => ?_, h3, h4⟩
    fin_cases d <;> assumption
  · rintro ⟨h, h3, h4⟩
    exact ⟨⟨⟨h 0, h 1, h 2⟩, h3⟩, h4⟩

/-- A change of one die that keeps its memories canonical keeps the package's. -/
theorem State.memOk_onDieAt {s : State} (h : s.memOk = true) (d : DieId) {f : Die → Die}
    (hf : (s.dieAt d).memOk = true → (f (s.dieAt d)).memOk = true) : (s.onDieAt d f).memOk = true := by
  rw [State.memOk_iff] at h ⊢
  refine ⟨fun e => ?_, h.2⟩
  by_cases he : e = d
  · subst he; rw [State.dieAt_onDieAt]; exact hf (h.1 e)
  · rw [State.dieAt_onDieAt_ne s f he]; exact h.1 e

/-- A change of contexts and registers of a die keeps its memories. -/
theorem Die.memOk_onCtxAt (d : Die) (c : CtxId) (f : Ctx → Ctx) : (d.onCtxAt c f).memOk = d.memOk := rfl

/-- A change of a context keeps every memory. -/
theorem State.memOk_onCtxAt {s : State} (h : s.memOk = true) (d : DieId) (c : CtxId) (f : Ctx → Ctx) :
    (s.onCtxAt d c f).memOk = true := State.memOk_onDieAt h d id

/-- A change of the issuing context keeps every memory. -/
theorem State.memOk_onCtx {s : State} (h : s.memOk = true) (f : Ctx → Ctx) : (s.onCtx f).memOk = true :=
  State.memOk_onDieAt h s.turn id

/-- A change of a task keeps every memory. -/
theorem State.memOk_onTask (s : State) (l : BitVec 32) (f : Task → Task) : (s.onTask l f).memOk = s.memOk := rfl

/-- A write of device memory keeps the canonical form. -/
theorem State.memOk_hbmPut {s : State} (h : s.memOk = true) (pa : Nat) (bs : List Byte) : (s.hbmPut pa bs).memOk = true := by
  rw [State.memOk_iff] at h ⊢
  exact ⟨h.1, Mem.wf_write h.2.1 _ _, h.2.2⟩

/-- A write through the page tables keeps the canonical form. -/
theorem State.memOk_writeVirt {s : State} (h : s.memOk = true) (asid : BitVec 8) (va : Nat) (bs : List Byte) :
    (s.writeVirt asid va bs).memOk = true := by
  unfold State.writeVirt
  generalize pagePieces va bs.length = l
  induction l generalizing s with
  | nil => exact h
  | cons x l ih =>
    rw [List.foldl_cons]
    split
    · exact ih (State.memOk_hbmPut h _ _)
    · exact ih h

/-- The memories of the package after reset are canonical. -/
theorem State.reset_memOk : State.reset.memOk = true := by
  rw [State.memOk_iff]
  refine ⟨fun d => ?_, rfl, rfl⟩
  fin_cases d <;> rfl

end Sys2Proof.Machine
end

