-- ==== Sys2Proof/Laws/PerInstr.lean ====
section
/-! SUPPORT. Per instruction: the word of a move has the fields of its guard, hold bit, source and port (Table 12.2), and an event
has no word. -/

namespace Sys2Proof.Laws.Fields

/-- The word of an instruction has the fields that its syntax gives it; an event has none. -/
def Statement (i : Instr) : Prop :=
  match i.parts with
  | .event => encode i = none
  | .nop => encode i = some nopWord
  | .move g h src dst => ∃ w, encode i = some w ∧ moveFields w = ⟨g, h, src.isImm, src.code, dst.code⟩
  | .trig g h src p => ∃ w, encode i = some w ∧ moveFields w = ⟨g, h, src.isImm, src.code, p⟩
  | .agSet g r p => ∃ w, encode i = some w ∧ moveFields w = ⟨g, false, false, (Src.s r).code, p⟩

/-- It holds of every instruction. -/
theorem of_parts (i : Instr) : Statement i := by
  unfold Statement encode
  generalize i.parts = p
  cases p <;> simp [Src.isImm]

theorem perstRelease : Statement (.perstRelease) := of_parts _
theorem stageA : Statement (.stageA) := of_parts _
theorem stageB : Statement (.stageB) := of_parts _
theorem stageC : Statement (.stageC) := of_parts _
theorem stageD (strap0 : Bool) (strap2 : Bool) : Statement (.stageD strap0 strap2) := of_parts _
theorem stageE : Statement (.stageE) := of_parts _
theorem stageFailure (code : BitVec 8) : Statement (.stageFailure code) := of_parts _
theorem pfReset : Statement (.pfReset) := of_parts _
theorem functionLevelReset (fn : BitVec 6) : Statement (.functionLevelReset fn) := of_parts _
theorem thermalPowerOff : Statement (.thermalPowerOff) := of_parts _
theorem clockMachineCheck (d : DieId) : Statement (.clockMachineCheck d) := of_parts _
theorem controlParity (d : DieId) (c : CtxId) : Statement (.controlParity d c) := of_parts _
theorem farLaneFrame (d : DieId) (l : BitVec 4) (fixed : Nat) (bad : Bool) : Statement (.farLaneFrame d l fixed bad) := of_parts _
theorem farPathLost (b : Bool) : Statement (.farPathLost b) := of_parts _
theorem countMessageSend (d : DieId) : Statement (.countMessageSend d) := of_parts _
theorem countMessage (d : DieId) (crc : Bool) : Statement (.countMessage d crc) := of_parts _
theorem countMessagesMissing (d : DieId) (o : DieId) : Statement (.countMessagesMissing d o) := of_parts _
theorem freezeEventMessage (d : DieId) (crc : Bool) : Statement (.freezeEventMessage d crc) := of_parts _
theorem stopEventMessage (d : DieId) (crc : Bool) : Statement (.stopEventMessage d crc) := of_parts _
theorem freezeDebtPaid (d : DieId) : Statement (.freezeDebtPaid d) := of_parts _
theorem scrubRead (d : DieId) (u : Nat) (new : List (Nat × Nat)) : Statement (.scrubRead d u new) := of_parts _
theorem lossOfLight (p : Fin 12) (l : Light) : Statement (.lossOfLight p l) := of_parts _
theorem spareLaserLock (p : Fin 12) : Statement (.spareLaserLock p) := of_parts _
theorem spareWavelengthLock (p : Fin 12) : Statement (.spareWavelengthLock p) := of_parts _
theorem dataFlit (p : Fin 12) (peer : BitVec 7) (h : BitVec 128) (data : BitVec 2048) (crc : BitVec 64) (tag : BitVec 64) : Statement (.dataFlit p peer h data crc tag) := of_parts _
theorem idleFlit (p : Fin 12) (lack : BitVec 16) : Statement (.idleFlit p lack) := of_parts _
theorem acknowledgement (p : Fin 12) (lack : BitVec 16) : Statement (.acknowledgement p lack) := of_parts _
theorem restripeMarker (p : Fin 12) (mask : BitVec 16) : Statement (.restripeMarker p mask) := of_parts _
theorem creditReturn (p : Fin 12) (vc : BitVec 3) (n : Nat) : Statement (.creditReturn p vc n) := of_parts _
theorem drainMarker (p : Fin 12) : Statement (.drainMarker p) := of_parts _
theorem replayRequest (p : Fin 12) (lack : BitVec 16) : Statement (.replayRequest p lack) := of_parts _
theorem replayTimeout (p : Fin 12) : Statement (.replayTimeout p) := of_parts _
theorem replayRequestRepeat (p : Fin 12) : Statement (.replayRequestRepeat p) := of_parts _
theorem acknowledgementTimer (p : Fin 12) : Statement (.acknowledgementTimer p) := of_parts _
theorem planeDrain (k : Fin 4) : Statement (.planeDrain k) := of_parts _
theorem planeDrainForce (k : Fin 4) : Statement (.planeDrainForce k) := of_parts _
theorem planeEnable (k : Fin 4) : Statement (.planeEnable k) := of_parts _
theorem planeEnableCommit (k : Fin 4) : Statement (.planeEnableCommit k) := of_parts _
theorem planeDrained (k : Fin 4) : Statement (.planeDrained k) := of_parts _
theorem planeEnabled (k : Fin 4) : Statement (.planeEnabled k) := of_parts _
theorem membersetWrite (v : Word) : Statement (.membersetWrite v) := of_parts _
theorem readRequest (p : Nat) (k : List Nat) : Statement (.readRequest p k) := of_parts _
theorem readResponse (p : Nat) : Statement (.readResponse p) := of_parts _
theorem writeRequest (p : Nat) (k : List Nat) : Statement (.writeRequest p k) := of_parts _
theorem flagRequest (p : Nat) : Statement (.flagRequest p) := of_parts _
theorem writeAndFlagResponse (p : Nat) : Statement (.writeAndFlagResponse p) := of_parts _
theorem atomicRequest (p : Nat) : Statement (.atomicRequest p) := of_parts _
theorem atomicResponse (p : Nat) : Statement (.atomicResponse p) := of_parts _
theorem orderedAtomicRequest (p : Nat) : Statement (.orderedAtomicRequest p) := of_parts _
theorem orderedFetchedValueWrite (p : Nat) : Statement (.orderedFetchedValueWrite p) := of_parts _
theorem orderedAtomicStatus (p : Nat) : Statement (.orderedAtomicStatus p) := of_parts _
theorem threePartyRequest (p : Nat) (k : List Nat) : Statement (.threePartyRequest p k) := of_parts _
theorem delivery (p : Nat) (k : List Nat) : Statement (.delivery p k) := of_parts _
theorem threePartyStatus (p : Nat) : Statement (.threePartyStatus p) := of_parts _
theorem reductionRead (p : Nat) (k : List Nat) : Statement (.reductionRead p k) := of_parts _
theorem reductionValue (p : Nat) : Statement (.reductionValue p) := of_parts _
theorem superstepArrive (p : Nat) : Statement (.superstepArrive p) := of_parts _
theorem superstepReady (p : Nat) : Statement (.superstepReady p) := of_parts _
theorem superstepAbort (p : Nat) : Statement (.superstepAbort p) := of_parts _
theorem superstepDone (p : Nat) : Statement (.superstepDone p) := of_parts _
theorem superstepTimeout (k : Nat) : Statement (.superstepTimeout k) := of_parts _
theorem streamRow (p : Nat) : Statement (.streamRow p) := of_parts _
theorem streamCredit (p : Nat) : Statement (.streamCredit p) := of_parts _
theorem fabricTimeout (k : Nat) : Statement (.fabricTimeout k) := of_parts _
theorem streamtimeout (d : DieId) (c : CtxId) : Statement (.streamtimeout d c) := of_parts _
theorem stageWrite (fn : BitVec 6) (q : BitVec 10) (off : Nat) (bs : List Byte) : Statement (.stageWrite fn q off bs) := of_parts _
theorem recordSubmit (fn : BitVec 6) (q : BitVec 10) (off : Nat) (bs : List Byte) : Statement (.recordSubmit fn q off bs) := of_parts _
theorem flush (fn : BitVec 6) (q : BitVec 10) : Statement (.flush fn q) := of_parts _
theorem qcfgWrite (fn : BitVec 6) (q : BitVec 10) (v : Word) : Statement (.qcfgWrite fn q v) := of_parts _
theorem dmwinWrite (v : Word) : Statement (.dmwinWrite v) := of_parts _
theorem bar4Read (off : Nat) (n : Nat) : Statement (.bar4Read off n) := of_parts _
theorem bar4Write (off : Nat) (bs : List Byte) : Statement (.bar4Write off bs) := of_parts _
theorem pwrlimWrite (v : Word) : Statement (.pwrlimWrite v) := of_parts _
theorem lowpwrWrite (v : Word) : Statement (.lowpwrWrite v) := of_parts _
theorem wake : Statement (.wake) := of_parts _
theorem wakeHoldEnd : Statement (.wakeHoldEnd) := of_parts _
theorem registerWrite (r : RegWrite) : Statement (.registerWrite r) := of_parts _
theorem getVersion (fn : BitVec 6) : Statement (.getVersion fn) := of_parts _
theorem getCapabilities (fn : BitVec 6) : Statement (.getCapabilities fn) := of_parts _
theorem negotiateAlgorithms (fn : BitVec 6) (offered : List SpdmAlg) : Statement (.negotiateAlgorithms fn offered) := of_parts _
theorem getDigests (fn : BitVec 6) : Statement (.getDigests fn) := of_parts _
theorem getCertificate (fn : BitVec 6) (off : Nat) (len : Nat) : Statement (.getCertificate fn off len) := of_parts _
theorem challenge (fn : BitVec 6) (nonce : List Byte) : Statement (.challenge fn nonce) := of_parts _
theorem getMeasurements (fn : BitVec 6) (index : Nat) (sign : Bool) (nonce : List Byte) : Statement (.getMeasurements fn index sign nonce) := of_parts _
theorem keyExchange (fn : BitVec 6) (req : List Byte) : Statement (.keyExchange fn req) := of_parts _
theorem finish (fn : BitVec 6) (good : Bool) : Statement (.finish fn good) := of_parts _
theorem heartbeat (fn : BitVec 6) : Statement (.heartbeat fn) := of_parts _
theorem heartbeatFailure (fn : BitVec 6) : Statement (.heartbeatFailure fn) := of_parts _
theorem keyUpdate (fn : BitVec 6) : Statement (.keyUpdate fn) := of_parts _
theorem endSession (fn : BitVec 6) : Statement (.endSession fn) := of_parts _
theorem ideKeyManagement (fn : BitVec 6) (stream : BitVec 3) : Statement (.ideKeyManagement fn stream) := of_parts _
theorem ideStreamInsecure (fn : BitVec 6) (stream : BitVec 3) : Statement (.ideStreamInsecure fn stream) := of_parts _
theorem lockInterface (fn : BitVec 6) : Statement (.lockInterface fn) := of_parts _
theorem startInterface (fn : BitVec 6) : Statement (.startInterface fn) := of_parts _
theorem stopInterface (fn : BitVec 6) : Statement (.stopInterface fn) := of_parts _
theorem loadObject (fn : BitVec 6) (secured : Bool) (req : List Byte) : Statement (.loadObject fn secured req) := of_parts _
theorem unloadObject (fn : BitVec 6) (secured : Bool) (handle : BitVec 32) : Statement (.unloadObject fn secured handle) := of_parts _
theorem attestationLogRead (fn : BitVec 6) : Statement (.attestationLogRead fn) := of_parts _
theorem dispatchPass : Statement (.dispatchPass) := of_parts _
theorem sealedTransferIn (lid : BitVec 32) : Statement (.sealedTransferIn lid) := of_parts _
theorem sealedTransferOut (lid : BitVec 32) : Statement (.sealedTransferOut lid) := of_parts _
theorem foldStart (d : DieId) : Statement (.foldStart d) := of_parts _
theorem agreedCount (lid : BitVec 32) (d : DieId) : Statement (.agreedCount lid d) := of_parts _
theorem noPreemptOverrun (lid : BitVec 32) (d : DieId) : Statement (.noPreemptOverrun lid d) := of_parts _
theorem save (lid : BitVec 32) : Statement (.save lid) := of_parts _
theorem budgetExpiry (lid : BitVec 32) : Statement (.budgetExpiry lid) := of_parts _
theorem governorSettlement (r : Readings) : Statement (.governorSettlement r) := of_parts _
theorem freezeDebtRaise (d : DieId) : Statement (.freezeDebtRaise d) := of_parts _
theorem freeContextSwitch (d : DieId) : Statement (.freeContextSwitch d) := of_parts _
theorem contextRetire (d : DieId) (c : CtxId) : Statement (.contextRetire d c) := of_parts _
theorem alignRelease (d : DieId) : Statement (.alignRelease d) := of_parts _
theorem alignmentTimeout (d : DieId) : Statement (.alignmentTimeout d) := of_parts _
theorem stopctlResume (d : DieId) (c : CtxId) : Statement (.stopctlResume d c) := of_parts _
theorem stopctlEnd (d : DieId) (c : CtxId) : Statement (.stopctlEnd d c) := of_parts _
theorem queueEntryPerformed (d : DieId) (c : CtxId) (seq : Nat) (off : Nat) : Statement (.queueEntryPerformed d c seq off) := of_parts _
theorem fillStart (d : DieId) (k : Nat) (rows : List Nat) : Statement (.fillStart d k rows) := of_parts _
theorem fillCompletion (d : DieId) (k : Nat) : Statement (.fillCompletion d k) := of_parts _
theorem tableLoadComplete (d : DieId) : Statement (.tableLoadComplete d) := of_parts _
theorem solveComplete (d : DieId) : Statement (.solveComplete d) := of_parts _
theorem pinComplete (d : DieId) : Statement (.pinComplete d) := of_parts _
theorem copyComplete (d : DieId) (ch : Fin 16) (blocks : List Nat) : Statement (.copyComplete d ch blocks) := of_parts _
theorem copyFailure (d : DieId) (ch : Fin 16) : Statement (.copyFailure d ch) := of_parts _
theorem copyErrClear (d : DieId) (c : CtxId) (seq : Nat) : Statement (.copyErrClear d c seq) := of_parts _
theorem invalWrite (r : RegWrite) : Statement (.invalWrite r) := of_parts _
theorem slotmapWrite (r : RegWrite) : Statement (.slotmapWrite r) := of_parts _
theorem polgenWrite (d : DieId) (c : CtxId) (seq : Nat) : Statement (.polgenWrite d c seq) := of_parts _
theorem rmodeWrite (d : DieId) (c : CtxId) : Statement (.rmodeWrite d c) := of_parts _
theorem windowDescriptorWrite (d : DieId) (c : CtxId) (seq : Nat) : Statement (.windowDescriptorWrite d c seq) := of_parts _
theorem streamcfgWrite (d : DieId) (c : CtxId) (seq : Nat) : Statement (.streamcfgWrite d c seq) := of_parts _
theorem obspost (n : Nat) : Statement (.obspost n) := of_parts _
theorem actpop (n : Nat) : Statement (.actpop n) := of_parts _
theorem wfi (n : Nat) : Statement (.wfi n) := of_parts _
theorem wfiWake (n : Nat) : Statement (.wfiWake n) := of_parts _
theorem copyOnWrite (n : Nat) (page : Nat) : Statement (.copyOnWrite n page) := of_parts _
theorem penAccessFault (n : Nat) : Statement (.penAccessFault n) := of_parts _
theorem stepBudget (n : Nat) : Statement (.stepBudget n) := of_parts _
theorem episodeBudget (n : Nat) : Statement (.episodeBudget n) := of_parts _
theorem wallBackstop (n : Nat) : Statement (.wallBackstop n) := of_parts _
theorem paddockHardwareError (n : Nat) : Statement (.paddockHardwareError n) := of_parts _
theorem penCreate (d : DieId) (c : CtxId) (seq : Nat) : Statement (.penCreate d c seq) := of_parts _
theorem penReset (d : DieId) (c : CtxId) (seq : Nat) : Statement (.penReset d c seq) := of_parts _
theorem penHalt (d : DieId) (c : CtxId) (seq : Nat) : Statement (.penHalt d c seq) := of_parts _
theorem penSnap (d : DieId) (c : CtxId) (seq : Nat) : Statement (.penSnap d c seq) := of_parts _
theorem penReadrec (d : DieId) (c : CtxId) (seq : Nat) : Statement (.penReadrec d c seq) := of_parts _
theorem penDestroy (d : DieId) (c : CtxId) (seq : Nat) : Statement (.penDestroy d c seq) := of_parts _
theorem sbiGetSpecVersion (n : Nat) : Statement (.sbiGetSpecVersion n) := of_parts _
theorem sbiGetImplId (n : Nat) : Statement (.sbiGetImplId n) := of_parts _
theorem sbiGetImplVersion (n : Nat) : Statement (.sbiGetImplVersion n) := of_parts _
theorem sbiProbeExtension (n : Nat) : Statement (.sbiProbeExtension n) := of_parts _
theorem sbiGetMvendorid (n : Nat) : Statement (.sbiGetMvendorid n) := of_parts _
theorem sbiGetMarchid (n : Nat) : Statement (.sbiGetMarchid n) := of_parts _
theorem sbiGetMimpid (n : Nat) : Statement (.sbiGetMimpid n) := of_parts _
theorem sbiNotSupported (n : Nat) : Statement (.sbiNotSupported n) := of_parts _
theorem move (g : Guard) (h : Bool) (src : Src) (dst : Dst) : Statement (.move g h src dst) := of_parts _
theorem nop : Statement (.nop) := of_parts _
theorem ia0Add (g : Guard) (src : Src) : Statement (.ia0Add g src) := of_parts _
theorem ia0Sub (g : Guard) (src : Src) : Statement (.ia0Sub g src) := of_parts _
theorem ia0And (g : Guard) (src : Src) : Statement (.ia0And g src) := of_parts _
theorem ia0Or (g : Guard) (src : Src) : Statement (.ia0Or g src) := of_parts _
theorem ia0Xor (g : Guard) (src : Src) : Statement (.ia0Xor g src) := of_parts _
theorem ia0Andn (g : Guard) (src : Src) : Statement (.ia0Andn g src) := of_parts _
theorem ia0Orn (g : Guard) (src : Src) : Statement (.ia0Orn g src) := of_parts _
theorem ia0Shl (g : Guard) (src : Src) : Statement (.ia0Shl g src) := of_parts _
theorem ia0Shr (g : Guard) (src : Src) : Statement (.ia0Shr g src) := of_parts _
theorem ia0Sar (g : Guard) (src : Src) : Statement (.ia0Sar g src) := of_parts _
theorem ia0Rol (g : Guard) (src : Src) : Statement (.ia0Rol g src) := of_parts _
theorem ia0Ror (g : Guard) (src : Src) : Statement (.ia0Ror g src) := of_parts _
theorem ia0Min (g : Guard) (src : Src) : Statement (.ia0Min g src) := of_parts _
theorem ia0Max (g : Guard) (src : Src) : Statement (.ia0Max g src) := of_parts _
theorem ia0Minu (g : Guard) (src : Src) : Statement (.ia0Minu g src) := of_parts _
theorem ia0Maxu (g : Guard) (src : Src) : Statement (.ia0Maxu g src) := of_parts _
theorem ia0Clz (g : Guard) (src : Src) : Statement (.ia0Clz g src) := of_parts _
theorem ia0Ctz (g : Guard) (src : Src) : Statement (.ia0Ctz g src) := of_parts _
theorem ia0Popc (g : Guard) (src : Src) : Statement (.ia0Popc g src) := of_parts _
theorem ia0Sext8 (g : Guard) (src : Src) : Statement (.ia0Sext8 g src) := of_parts _
theorem ia0Sext16 (g : Guard) (src : Src) : Statement (.ia0Sext16 g src) := of_parts _
theorem ia0Sext32 (g : Guard) (src : Src) : Statement (.ia0Sext32 g src) := of_parts _
theorem ia0Zext32 (g : Guard) (src : Src) : Statement (.ia0Zext32 g src) := of_parts _
theorem ia0Bext (g : Guard) (src : Src) : Statement (.ia0Bext g src) := of_parts _
theorem ia0Bins (g : Guard) (src : Src) : Statement (.ia0Bins g src) := of_parts _
theorem ia0Ceq (g : Guard) (src : Src) : Statement (.ia0Ceq g src) := of_parts _
theorem ia0Cne (g : Guard) (src : Src) : Statement (.ia0Cne g src) := of_parts _
theorem ia0Clt (g : Guard) (src : Src) : Statement (.ia0Clt g src) := of_parts _
theorem ia0Cltu (g : Guard) (src : Src) : Statement (.ia0Cltu g src) := of_parts _
theorem ia0Cle (g : Guard) (src : Src) : Statement (.ia0Cle g src) := of_parts _
theorem ia0Cleu (g : Guard) (src : Src) : Statement (.ia0Cleu g src) := of_parts _
theorem imMul (g : Guard) (src : Src) : Statement (.imMul g src) := of_parts _
theorem imMulhu (g : Guard) (src : Src) : Statement (.imMulhu g src) := of_parts _
theorem imMulhsu (g : Guard) (src : Src) : Statement (.imMulhsu g src) := of_parts _
theorem imDiv (g : Guard) (src : Src) : Statement (.imDiv g src) := of_parts _
theorem imDivu (g : Guard) (src : Src) : Statement (.imDivu g src) := of_parts _
theorem ia1Add (g : Guard) (src : Src) : Statement (.ia1Add g src) := of_parts _
theorem ia1Sub (g : Guard) (src : Src) : Statement (.ia1Sub g src) := of_parts _
theorem ia1And (g : Guard) (src : Src) : Statement (.ia1And g src) := of_parts _
theorem ia1Or (g : Guard) (src : Src) : Statement (.ia1Or g src) := of_parts _
theorem ia1Xor (g : Guard) (src : Src) : Statement (.ia1Xor g src) := of_parts _
theorem ia1Andn (g : Guard) (src : Src) : Statement (.ia1Andn g src) := of_parts _
theorem ia1Shl (g : Guard) (src : Src) : Statement (.ia1Shl g src) := of_parts _
theorem ia1Shr (g : Guard) (src : Src) : Statement (.ia1Shr g src) := of_parts _
theorem ia1Sar (g : Guard) (src : Src) : Statement (.ia1Sar g src) := of_parts _
theorem ia1Ceq (g : Guard) (src : Src) : Statement (.ia1Ceq g src) := of_parts _
theorem ia1Clt (g : Guard) (src : Src) : Statement (.ia1Clt g src) := of_parts _
theorem ia1Cltu (g : Guard) (src : Src) : Statement (.ia1Cltu g src) := of_parts _
theorem brJmp (g : Guard) (src : Src) : Statement (.brJmp g src) := of_parts _
theorem brCall (g : Guard) (src : Src) : Statement (.brCall g src) := of_parts _
theorem brLoop (g : Guard) (src : Src) : Statement (.brLoop g src) := of_parts _
theorem brRotcfg (g : Guard) (src : Src) : Statement (.brRotcfg g src) := of_parts _
theorem brYield (g : Guard) (src : Src) : Statement (.brYield g src) := of_parts _
theorem brAlign (g : Guard) (src : Src) : Statement (.brAlign g src) := of_parts _
theorem brExit (g : Guard) (src : Src) : Statement (.brExit g src) := of_parts _
theorem brExitAbandon (g : Guard) (src : Src) : Statement (.brExitAbandon g src) := of_parts _
theorem brTrap (g : Guard) (src : Src) : Statement (.brTrap g src) := of_parts _
theorem lsLdb (g : Guard) (src : Src) : Statement (.lsLdb g src) := of_parts _
theorem lsLdbu (g : Guard) (src : Src) : Statement (.lsLdbu g src) := of_parts _
theorem lsLdh (g : Guard) (src : Src) : Statement (.lsLdh g src) := of_parts _
theorem lsLdhu (g : Guard) (src : Src) : Statement (.lsLdhu g src) := of_parts _
theorem lsLdw (g : Guard) (src : Src) : Statement (.lsLdw g src) := of_parts _
theorem lsLdwu (g : Guard) (src : Src) : Statement (.lsLdwu g src) := of_parts _
theorem lsLdd (g : Guard) (src : Src) : Statement (.lsLdd g src) := of_parts _
theorem lsStb (g : Guard) (src : Src) : Statement (.lsStb g src) := of_parts _
theorem lsSth (g : Guard) (src : Src) : Statement (.lsSth g src) := of_parts _
theorem lsStw (g : Guard) (src : Src) : Statement (.lsStw g src) := of_parts _
theorem lsStd (g : Guard) (src : Src) : Statement (.lsStd g src) := of_parts _
theorem lsLdrow (g : Guard) (src : Src) : Statement (.lsLdrow g src) := of_parts _
theorem lsStrow (g : Guard) (src : Src) : Statement (.lsStrow g src) := of_parts _
theorem lsStrowm (g : Guard) (src : Src) : Statement (.lsStrowm g src) := of_parts _
theorem lsQmark (g : Guard) (src : Src) : Statement (.lsQmark g src) := of_parts _
theorem syAmoAddW (g : Guard) (src : Src) : Statement (.syAmoAddW g src) := of_parts _
theorem syAmoAddD (g : Guard) (src : Src) : Statement (.syAmoAddD g src) := of_parts _
theorem syAmoAndW (g : Guard) (src : Src) : Statement (.syAmoAndW g src) := of_parts _
theorem syAmoAndD (g : Guard) (src : Src) : Statement (.syAmoAndD g src) := of_parts _
theorem syAmoOrW (g : Guard) (src : Src) : Statement (.syAmoOrW g src) := of_parts _
theorem syAmoOrD (g : Guard) (src : Src) : Statement (.syAmoOrD g src) := of_parts _
theorem syAmoXorW (g : Guard) (src : Src) : Statement (.syAmoXorW g src) := of_parts _
theorem syAmoXorD (g : Guard) (src : Src) : Statement (.syAmoXorD g src) := of_parts _
theorem syAmoMinW (g : Guard) (src : Src) : Statement (.syAmoMinW g src) := of_parts _
theorem syAmoMinD (g : Guard) (src : Src) : Statement (.syAmoMinD g src) := of_parts _
theorem syAmoMaxW (g : Guard) (src : Src) : Statement (.syAmoMaxW g src) := of_parts _
theorem syAmoMaxD (g : Guard) (src : Src) : Statement (.syAmoMaxD g src) := of_parts _
theorem syAmoMinuW (g : Guard) (src : Src) : Statement (.syAmoMinuW g src) := of_parts _
theorem syAmoMinuD (g : Guard) (src : Src) : Statement (.syAmoMinuD g src) := of_parts _
theorem syAmoMaxuW (g : Guard) (src : Src) : Statement (.syAmoMaxuW g src) := of_parts _
theorem syAmoMaxuD (g : Guard) (src : Src) : Statement (.syAmoMaxuD g src) := of_parts _
theorem syAmoSwapW (g : Guard) (src : Src) : Statement (.syAmoSwapW g src) := of_parts _
theorem syAmoSwapD (g : Guard) (src : Src) : Statement (.syAmoSwapD g src) := of_parts _
theorem syAmoCasW (g : Guard) (src : Src) : Statement (.syAmoCasW g src) := of_parts _
theorem syAmoCasD (g : Guard) (src : Src) : Statement (.syAmoCasD g src) := of_parts _
theorem syFenceR (g : Guard) (src : Src) : Statement (.syFenceR g src) := of_parts _
theorem syFenceW (g : Guard) (src : Src) : Statement (.syFenceW g src) := of_parts _
theorem syFenceRw (g : Guard) (src : Src) : Statement (.syFenceRw g src) := of_parts _
theorem syTokWait (g : Guard) (src : Src) : Statement (.syTokWait g src) := of_parts _
theorem syTokTest (g : Guard) (src : Src) : Statement (.syTokTest g src) := of_parts _
theorem syTokId (g : Guard) (src : Src) : Statement (.syTokId g src) := of_parts _
theorem syTokClr (g : Guard) (src : Src) : Statement (.syTokClr g src) := of_parts _
theorem syBarArrive (g : Guard) (src : Src) : Statement (.syBarArrive g src) := of_parts _
theorem syBarWait (g : Guard) (src : Src) : Statement (.syBarWait g src) := of_parts _
theorem syPhase (g : Guard) (src : Src) : Statement (.syPhase g src) := of_parts _
theorem fxRldW (g : Guard) (h : Bool) (src : Src) : Statement (.fxRldW g h src) := of_parts _
theorem fxRldD (g : Guard) (h : Bool) (src : Src) : Statement (.fxRldD g h src) := of_parts _
theorem fxRldrow (g : Guard) (h : Bool) (src : Src) : Statement (.fxRldrow g h src) := of_parts _
theorem fxRstW (g : Guard) (h : Bool) (src : Src) : Statement (.fxRstW g h src) := of_parts _
theorem fxRstD (g : Guard) (h : Bool) (src : Src) : Statement (.fxRstD g h src) := of_parts _
theorem fxRstrow (g : Guard) (h : Bool) (src : Src) : Statement (.fxRstrow g h src) := of_parts _
theorem fxRamoAdd (g : Guard) (h : Bool) (src : Src) : Statement (.fxRamoAdd g h src) := of_parts _
theorem fxRamoAnd (g : Guard) (h : Bool) (src : Src) : Statement (.fxRamoAnd g h src) := of_parts _
theorem fxRamoOr (g : Guard) (h : Bool) (src : Src) : Statement (.fxRamoOr g h src) := of_parts _
theorem fxRamoXor (g : Guard) (h : Bool) (src : Src) : Statement (.fxRamoXor g h src) := of_parts _
theorem fxRamoMin (g : Guard) (h : Bool) (src : Src) : Statement (.fxRamoMin g h src) := of_parts _
theorem fxRamoMax (g : Guard) (h : Bool) (src : Src) : Statement (.fxRamoMax g h src) := of_parts _
theorem fxRamoSwap (g : Guard) (h : Bool) (src : Src) : Statement (.fxRamoSwap g h src) := of_parts _
theorem fxRamoCas (g : Guard) (h : Bool) (src : Src) : Statement (.fxRamoCas g h src) := of_parts _
theorem fxRamoAddOrd (g : Guard) (h : Bool) (src : Src) : Statement (.fxRamoAddOrd g h src) := of_parts _
theorem fxRamoAndOrd (g : Guard) (h : Bool) (src : Src) : Statement (.fxRamoAndOrd g h src) := of_parts _
theorem fxRamoOrOrd (g : Guard) (h : Bool) (src : Src) : Statement (.fxRamoOrOrd g h src) := of_parts _
theorem fxRamoXorOrd (g : Guard) (h : Bool) (src : Src) : Statement (.fxRamoXorOrd g h src) := of_parts _
theorem fxRamoMinOrd (g : Guard) (h : Bool) (src : Src) : Statement (.fxRamoMinOrd g h src) := of_parts _
theorem fxRamoMaxOrd (g : Guard) (h : Bool) (src : Src) : Statement (.fxRamoMaxOrd g h src) := of_parts _
theorem fxRamoSwapOrd (g : Guard) (h : Bool) (src : Src) : Statement (.fxRamoSwapOrd g h src) := of_parts _
theorem fxRamoCasOrd (g : Guard) (h : Bool) (src : Src) : Statement (.fxRamoCasOrd g h src) := of_parts _
theorem fxRdel (g : Guard) (h : Bool) (src : Src) : Statement (.fxRdel g h src) := of_parts _
theorem fxRdelg (g : Guard) (h : Bool) (src : Src) : Statement (.fxRdelg g h src) := of_parts _
theorem fxMlrAddF32 (g : Guard) (h : Bool) (src : Src) : Statement (.fxMlrAddF32 g h src) := of_parts _
theorem fxMlrAddBf16 (g : Guard) (h : Bool) (src : Src) : Statement (.fxMlrAddBf16 g h src) := of_parts _
theorem fxMlrMaxF32 (g : Guard) (h : Bool) (src : Src) : Statement (.fxMlrMaxF32 g h src) := of_parts _
theorem fxMlrMaxBf16 (g : Guard) (h : Bool) (src : Src) : Statement (.fxMlrMaxBf16 g h src) := of_parts _
theorem fxMlrMinF32 (g : Guard) (h : Bool) (src : Src) : Statement (.fxMlrMinF32 g h src) := of_parts _
theorem fxMlrMinBf16 (g : Guard) (h : Bool) (src : Src) : Statement (.fxMlrMinBf16 g h src) := of_parts _
theorem fxMlrAddI32 (g : Guard) (h : Bool) (src : Src) : Statement (.fxMlrAddI32 g h src) := of_parts _
theorem fxMlrAddI64 (g : Guard) (h : Bool) (src : Src) : Statement (.fxMlrAddI64 g h src) := of_parts _
theorem fxFlag (g : Guard) (h : Bool) (src : Src) : Statement (.fxFlag g h src) := of_parts _
theorem fxSstep (g : Guard) (h : Bool) (src : Src) : Statement (.fxSstep g h src) := of_parts _
theorem fxSpush (g : Guard) (src : Src) : Statement (.fxSpush g src) := of_parts _
theorem fxSpop (g : Guard) (src : Src) : Statement (.fxSpop g src) := of_parts _
theorem fxMbsend (g : Guard) (h : Bool) (src : Src) : Statement (.fxMbsend g h src) := of_parts _
theorem fxMbrecv (g : Guard) (h : Bool) (src : Src) : Statement (.fxMbrecv g h src) := of_parts _
theorem fxMbpeek (g : Guard) (h : Bool) (src : Src) : Statement (.fxMbpeek g h src) := of_parts _
theorem fxPen (g : Guard) (h : Bool) (src : Src) : Statement (.fxPen g h src) := of_parts _
theorem vxFaddF32 (g : Guard) (src : Src) : Statement (.vxFaddF32 g src) := of_parts _
theorem vxFsubF32 (g : Guard) (src : Src) : Statement (.vxFsubF32 g src) := of_parts _
theorem vxFmulF32 (g : Guard) (src : Src) : Statement (.vxFmulF32 g src) := of_parts _
theorem vxFmaF32 (g : Guard) (src : Src) : Statement (.vxFmaF32 g src) := of_parts _
theorem vxFmsF32 (g : Guard) (src : Src) : Statement (.vxFmsF32 g src) := of_parts _
theorem vxFnmaF32 (g : Guard) (src : Src) : Statement (.vxFnmaF32 g src) := of_parts _
theorem vxFnmsF32 (g : Guard) (src : Src) : Statement (.vxFnmsF32 g src) := of_parts _
theorem vxFminF32 (g : Guard) (src : Src) : Statement (.vxFminF32 g src) := of_parts _
theorem vxFmaxF32 (g : Guard) (src : Src) : Statement (.vxFmaxF32 g src) := of_parts _
theorem vxFminNumF32 (g : Guard) (src : Src) : Statement (.vxFminNumF32 g src) := of_parts _
theorem vxFmaxNumF32 (g : Guard) (src : Src) : Statement (.vxFmaxNumF32 g src) := of_parts _
theorem vxFcmpEqF32 (g : Guard) (src : Src) : Statement (.vxFcmpEqF32 g src) := of_parts _
theorem vxFcmpLtF32 (g : Guard) (src : Src) : Statement (.vxFcmpLtF32 g src) := of_parts _
theorem vxFcmpLeF32 (g : Guard) (src : Src) : Statement (.vxFcmpLeF32 g src) := of_parts _
theorem vxFcmpUnF32 (g : Guard) (src : Src) : Statement (.vxFcmpUnF32 g src) := of_parts _
theorem vxFaddBf16 (g : Guard) (src : Src) : Statement (.vxFaddBf16 g src) := of_parts _
theorem vxFsubBf16 (g : Guard) (src : Src) : Statement (.vxFsubBf16 g src) := of_parts _
theorem vxFmulBf16 (g : Guard) (src : Src) : Statement (.vxFmulBf16 g src) := of_parts _
theorem vxFmaBf16 (g : Guard) (src : Src) : Statement (.vxFmaBf16 g src) := of_parts _
theorem vxFmsBf16 (g : Guard) (src : Src) : Statement (.vxFmsBf16 g src) := of_parts _
theorem vxFnmaBf16 (g : Guard) (src : Src) : Statement (.vxFnmaBf16 g src) := of_parts _
theorem vxFnmsBf16 (g : Guard) (src : Src) : Statement (.vxFnmsBf16 g src) := of_parts _
theorem vxFminBf16 (g : Guard) (src : Src) : Statement (.vxFminBf16 g src) := of_parts _
theorem vxFmaxBf16 (g : Guard) (src : Src) : Statement (.vxFmaxBf16 g src) := of_parts _
theorem vxFaddF16 (g : Guard) (src : Src) : Statement (.vxFaddF16 g src) := of_parts _
theorem vxFmulF16 (g : Guard) (src : Src) : Statement (.vxFmulF16 g src) := of_parts _
theorem vxFmaF16 (g : Guard) (src : Src) : Statement (.vxFmaF16 g src) := of_parts _
theorem vxFmaxF16 (g : Guard) (src : Src) : Statement (.vxFmaxF16 g src) := of_parts _
theorem vxFmulE4m3 (g : Guard) (src : Src) : Statement (.vxFmulE4m3 g src) := of_parts _
theorem vxFmulE5m2 (g : Guard) (src : Src) : Statement (.vxFmulE5m2 g src) := of_parts _
theorem vxFmulE2m1 (g : Guard) (src : Src) : Statement (.vxFmulE2m1 g src) := of_parts _
theorem vxIaddI32 (g : Guard) (src : Src) : Statement (.vxIaddI32 g src) := of_parts _
theorem vxIsubI32 (g : Guard) (src : Src) : Statement (.vxIsubI32 g src) := of_parts _
theorem vxIaddSI32 (g : Guard) (src : Src) : Statement (.vxIaddSI32 g src) := of_parts _
theorem vxIsubSI32 (g : Guard) (src : Src) : Statement (.vxIsubSI32 g src) := of_parts _
theorem vxImulI32 (g : Guard) (src : Src) : Statement (.vxImulI32 g src) := of_parts _
theorem vxImadI32 (g : Guard) (src : Src) : Statement (.vxImadI32 g src) := of_parts _
theorem vxIminI32 (g : Guard) (src : Src) : Statement (.vxIminI32 g src) := of_parts _
theorem vxImaxI32 (g : Guard) (src : Src) : Statement (.vxImaxI32 g src) := of_parts _
theorem vxIminuI32 (g : Guard) (src : Src) : Statement (.vxIminuI32 g src) := of_parts _
theorem vxImaxuI32 (g : Guard) (src : Src) : Statement (.vxImaxuI32 g src) := of_parts _
theorem vxIcmpEqI32 (g : Guard) (src : Src) : Statement (.vxIcmpEqI32 g src) := of_parts _
theorem vxIcmpLtI32 (g : Guard) (src : Src) : Statement (.vxIcmpLtI32 g src) := of_parts _
theorem vxIcmpLtuI32 (g : Guard) (src : Src) : Statement (.vxIcmpLtuI32 g src) := of_parts _
theorem vxShlI32 (g : Guard) (src : Src) : Statement (.vxShlI32 g src) := of_parts _
theorem vxShrI32 (g : Guard) (src : Src) : Statement (.vxShrI32 g src) := of_parts _
theorem vxSarI32 (g : Guard) (src : Src) : Statement (.vxSarI32 g src) := of_parts _
theorem vxPopcI32 (g : Guard) (src : Src) : Statement (.vxPopcI32 g src) := of_parts _
theorem vxClzI32 (g : Guard) (src : Src) : Statement (.vxClzI32 g src) := of_parts _
theorem vxIaddI16 (g : Guard) (src : Src) : Statement (.vxIaddI16 g src) := of_parts _
theorem vxIaddI8 (g : Guard) (src : Src) : Statement (.vxIaddI8 g src) := of_parts _
theorem vxIaddSI8 (g : Guard) (src : Src) : Statement (.vxIaddSI8 g src) := of_parts _
theorem vxAnd (g : Guard) (src : Src) : Statement (.vxAnd g src) := of_parts _
theorem vxOr (g : Guard) (src : Src) : Statement (.vxOr g src) := of_parts _
theorem vxXor (g : Guard) (src : Src) : Statement (.vxXor g src) := of_parts _
theorem vxAndn (g : Guard) (src : Src) : Statement (.vxAndn g src) := of_parts _
theorem vxLut3 (g : Guard) (src : Src) : Statement (.vxLut3 g src) := of_parts _
theorem vxSel (g : Guard) (src : Src) : Statement (.vxSel g src) := of_parts _
theorem vxRot (g : Guard) (src : Src) : Statement (.vxRot g src) := of_parts _
theorem vxFsh (g : Guard) (src : Src) : Statement (.vxFsh g src) := of_parts _
theorem vxCvtF32Bf16 (g : Guard) (src : Src) : Statement (.vxCvtF32Bf16 g src) := of_parts _
theorem vxCvtF32F16 (g : Guard) (src : Src) : Statement (.vxCvtF32F16 g src) := of_parts _
theorem vxCvtBf16F32 (g : Guard) (src : Src) : Statement (.vxCvtBf16F32 g src) := of_parts _
theorem vxCvtF16F32 (g : Guard) (src : Src) : Statement (.vxCvtF16F32 g src) := of_parts _
theorem vxCvtF32E4m3Sat (g : Guard) (src : Src) : Statement (.vxCvtF32E4m3Sat g src) := of_parts _
theorem vxCvtF32E4m3Nan (g : Guard) (src : Src) : Statement (.vxCvtF32E4m3Nan g src) := of_parts _
theorem vxCvtF32E5m2Sat (g : Guard) (src : Src) : Statement (.vxCvtF32E5m2Sat g src) := of_parts _
theorem vxCvtF32E5m2Inf (g : Guard) (src : Src) : Statement (.vxCvtF32E5m2Inf g src) := of_parts _
theorem vxCvtF32E2m1 (g : Guard) (src : Src) : Statement (.vxCvtF32E2m1 g src) := of_parts _
theorem vxCvtBf16E4m3Sat (g : Guard) (src : Src) : Statement (.vxCvtBf16E4m3Sat g src) := of_parts _
theorem vxCvtBf16E5m2Sat (g : Guard) (src : Src) : Statement (.vxCvtBf16E5m2Sat g src) := of_parts _
theorem vxCvtE4m3F32 (g : Guard) (src : Src) : Statement (.vxCvtE4m3F32 g src) := of_parts _
theorem vxCvtE5m2F32 (g : Guard) (src : Src) : Statement (.vxCvtE5m2F32 g src) := of_parts _
theorem vxCvtE2m1F32 (g : Guard) (src : Src) : Statement (.vxCvtE2m1F32 g src) := of_parts _
theorem vxCvtE4m3Bf16 (g : Guard) (src : Src) : Statement (.vxCvtE4m3Bf16 g src) := of_parts _
theorem vxCvtF32I32 (g : Guard) (src : Src) : Statement (.vxCvtF32I32 g src) := of_parts _
theorem vxCvtI32F32 (g : Guard) (src : Src) : Statement (.vxCvtI32F32 g src) := of_parts _
theorem vxCvtI8F32 (g : Guard) (src : Src) : Statement (.vxCvtI8F32 g src) := of_parts _
theorem vxCvtF32I8 (g : Guard) (src : Src) : Statement (.vxCvtF32I8 g src) := of_parts _
theorem vxCvtI4I8 (g : Guard) (src : Src) : Statement (.vxCvtI4I8 g src) := of_parts _
theorem vxCvtI32I8S (g : Guard) (src : Src) : Statement (.vxCvtI32I8S g src) := of_parts _
theorem vxCvtF32E4m3SatAmax (g : Guard) (src : Src) : Statement (.vxCvtF32E4m3SatAmax g src) := of_parts _
theorem vxCvtF32E5m2SatAmax (g : Guard) (src : Src) : Statement (.vxCvtF32E5m2SatAmax g src) := of_parts _
theorem vxCvtF32Bf16Amax (g : Guard) (src : Src) : Statement (.vxCvtF32Bf16Amax g src) := of_parts _
theorem vxCvtSrF32E4m3Sat (g : Guard) (src : Src) : Statement (.vxCvtSrF32E4m3Sat g src) := of_parts _
theorem vxCvtSrF32E5m2Sat (g : Guard) (src : Src) : Statement (.vxCvtSrF32E5m2Sat g src) := of_parts _
theorem vxCvtSrF32Bf16 (g : Guard) (src : Src) : Statement (.vxCvtSrF32Bf16 g src) := of_parts _
theorem vxRcpF32 (g : Guard) (src : Src) : Statement (.vxRcpF32 g src) := of_parts _
theorem vxRsqrtF32 (g : Guard) (src : Src) : Statement (.vxRsqrtF32 g src) := of_parts _
theorem vxSqrtF32 (g : Guard) (src : Src) : Statement (.vxSqrtF32 g src) := of_parts _
theorem vxExp2F32 (g : Guard) (src : Src) : Statement (.vxExp2F32 g src) := of_parts _
theorem vxLog2F32 (g : Guard) (src : Src) : Statement (.vxLog2F32 g src) := of_parts _
theorem vxRsumF32 (g : Guard) (src : Src) : Statement (.vxRsumF32 g src) := of_parts _
theorem vxRsumBf16 (g : Guard) (src : Src) : Statement (.vxRsumBf16 g src) := of_parts _
theorem vxRmaxF32 (g : Guard) (src : Src) : Statement (.vxRmaxF32 g src) := of_parts _
theorem vxRmaxBf16 (g : Guard) (src : Src) : Statement (.vxRmaxBf16 g src) := of_parts _
theorem vxRminF32 (g : Guard) (src : Src) : Statement (.vxRminF32 g src) := of_parts _
theorem vxRminBf16 (g : Guard) (src : Src) : Statement (.vxRminBf16 g src) := of_parts _
theorem vxRsumI32 (g : Guard) (src : Src) : Statement (.vxRsumI32 g src) := of_parts _
theorem vxRsumI8 (g : Guard) (src : Src) : Statement (.vxRsumI8 g src) := of_parts _
theorem vxBscaleE4m3 (g : Guard) (src : Src) : Statement (.vxBscaleE4m3 g src) := of_parts _
theorem vxBscaleE5m2 (g : Guard) (src : Src) : Statement (.vxBscaleE5m2 g src) := of_parts _
theorem vxBscaleE2m1 (g : Guard) (src : Src) : Statement (.vxBscaleE2m1 g src) := of_parts _
theorem vxBquantE4m3 (g : Guard) (src : Src) : Statement (.vxBquantE4m3 g src) := of_parts _
theorem vxBquantE5m2 (g : Guard) (src : Src) : Statement (.vxBquantE5m2 g src) := of_parts _
theorem vxBquantE2m1 (g : Guard) (src : Src) : Statement (.vxBquantE2m1 g src) := of_parts _
theorem scScanAddF32 (g : Guard) (src : Src) : Statement (.scScanAddF32 g src) := of_parts _
theorem scScanAddI32 (g : Guard) (src : Src) : Statement (.scScanAddI32 g src) := of_parts _
theorem scScanMaxF32 (g : Guard) (src : Src) : Statement (.scScanMaxF32 g src) := of_parts _
theorem scScanMinF32 (g : Guard) (src : Src) : Statement (.scScanMinF32 g src) := of_parts _
theorem scXscanAddF32 (g : Guard) (src : Src) : Statement (.scXscanAddF32 g src) := of_parts _
theorem scXscanAddI32 (g : Guard) (src : Src) : Statement (.scXscanAddI32 g src) := of_parts _
theorem scXscanMaxF32 (g : Guard) (src : Src) : Statement (.scXscanMaxF32 g src) := of_parts _
theorem scXredAddF32 (g : Guard) (src : Src) : Statement (.scXredAddF32 g src) := of_parts _
theorem scXredAddI32 (g : Guard) (src : Src) : Statement (.scXredAddI32 g src) := of_parts _
theorem scXredMaxF32 (g : Guard) (src : Src) : Statement (.scXredMaxF32 g src) := of_parts _
theorem mxPushE4m3 (g : Guard) (src : Src) : Statement (.mxPushE4m3 g src) := of_parts _
theorem mxPushE5m2 (g : Guard) (src : Src) : Statement (.mxPushE5m2 g src) := of_parts _
theorem mxPushE2m1 (g : Guard) (src : Src) : Statement (.mxPushE2m1 g src) := of_parts _
theorem mxPushBf16 (g : Guard) (src : Src) : Statement (.mxPushBf16 g src) := of_parts _
theorem mxPushF16 (g : Guard) (src : Src) : Statement (.mxPushF16 g src) := of_parts _
theorem mxPushI8 (g : Guard) (src : Src) : Statement (.mxPushI8 g src) := of_parts _
theorem mxPushSp (g : Guard) (src : Src) : Statement (.mxPushSp g src) := of_parts _
theorem mxPushIx (g : Guard) (src : Src) : Statement (.mxPushIx g src) := of_parts _
theorem mxSwap (g : Guard) (src : Src) : Statement (.mxSwap g src) := of_parts _
theorem mxAccE4m3 (g : Guard) (src : Src) : Statement (.mxAccE4m3 g src) := of_parts _
theorem mxAccE5m2 (g : Guard) (src : Src) : Statement (.mxAccE5m2 g src) := of_parts _
theorem mxAccE2m1 (g : Guard) (src : Src) : Statement (.mxAccE2m1 g src) := of_parts _
theorem mxAccBf16 (g : Guard) (src : Src) : Statement (.mxAccBf16 g src) := of_parts _
theorem mxAccF16 (g : Guard) (src : Src) : Statement (.mxAccF16 g src) := of_parts _
theorem mxAccI8 (g : Guard) (src : Src) : Statement (.mxAccI8 g src) := of_parts _
theorem mxAccSp (g : Guard) (src : Src) : Statement (.mxAccSp g src) := of_parts _
theorem mxDrain4 (g : Guard) (src : Src) : Statement (.mxDrain4 g src) := of_parts _
theorem mxDrain8Bf16 (g : Guard) (src : Src) : Statement (.mxDrain8Bf16 g src) := of_parts _
theorem mxDrainE4m3 (g : Guard) (src : Src) : Statement (.mxDrainE4m3 g src) := of_parts _
theorem mxZero (g : Guard) (src : Src) : Statement (.mxZero g src) := of_parts _
theorem ag0Set (g : Guard) (r : BitVec 5) : Statement (.ag0Set g r) := of_parts _
theorem ag0Rd (g : Guard) (src : Src) : Statement (.ag0Rd g src) := of_parts _
theorem ag0Step (g : Guard) (src : Src) : Statement (.ag0Step g src) := of_parts _
theorem ag1Set (g : Guard) (r : BitVec 5) : Statement (.ag1Set g r) := of_parts _
theorem ag1Rd (g : Guard) (src : Src) : Statement (.ag1Rd g src) := of_parts _
theorem ag1Step (g : Guard) (src : Src) : Statement (.ag1Step g src) := of_parts _
theorem ag2Set (g : Guard) (r : BitVec 5) : Statement (.ag2Set g r) := of_parts _
theorem ag2Wr (g : Guard) (src : Src) : Statement (.ag2Wr g src) := of_parts _
theorem ag2Step (g : Guard) (src : Src) : Statement (.ag2Step g src) := of_parts _
theorem ag3Set (g : Guard) (r : BitVec 5) : Statement (.ag3Set g r) := of_parts _
theorem ag3Wr (g : Guard) (src : Src) : Statement (.ag3Wr g src) := of_parts _
theorem ag3Step (g : Guard) (src : Src) : Statement (.ag3Step g src) := of_parts _
theorem nwLdroute (g : Guard) (src : Src) : Statement (.nwLdroute g src) := of_parts _
theorem nwLdpat (g : Guard) (src : Src) : Statement (.nwLdpat g src) := of_parts _
theorem nwLdplane (g : Guard) (src : Src) : Statement (.nwLdplane g src) := of_parts _
theorem nwSolve (g : Guard) (src : Src) : Statement (.nwSolve g src) := of_parts _
theorem nwFarclr (g : Guard) (src : Src) : Statement (.nwFarclr g src) := of_parts _
theorem nwFarstat (g : Guard) (src : Src) : Statement (.nwFarstat g src) := of_parts _
theorem feFill (g : Guard) (src : Src) : Statement (.feFill g src) := of_parts _
theorem feSpill (g : Guard) (src : Src) : Statement (.feSpill g src) := of_parts _
theorem feBfill (g : Guard) (src : Src) : Statement (.feBfill g src) := of_parts _
theorem feGfill (g : Guard) (src : Src) : Statement (.feGfill g src) := of_parts _
theorem feSspill (g : Guard) (src : Src) : Statement (.feSspill g src) := of_parts _
theorem fePin (g : Guard) (src : Src) : Statement (.fePin g src) := of_parts _
theorem sySrd (g : Guard) (src : Src) : Statement (.sySrd g src) := of_parts _
theorem sySwr (g : Guard) (src : Src) : Statement (.sySwr g src) := of_parts _
theorem syClaim (g : Guard) (src : Src) : Statement (.syClaim g src) := of_parts _
theorem syPublish (g : Guard) (src : Src) : Statement (.syPublish g src) := of_parts _
theorem syRfe (g : Guard) (src : Src) : Statement (.syRfe g src) := of_parts _
theorem syBrk (g : Guard) (src : Src) : Statement (.syBrk g src) := of_parts _
theorem keyRenewalRetraining (p : Fin 12) : Statement (.keyRenewalRetraining p) := of_parts _
theorem hbmRefreshScrub (pa : Nat) (bad : List Nat) : Statement (.hbmRefreshScrub pa bad) := of_parts _
theorem penHartSwitch (h : Nat) (n : Nat) : Statement (.penHartSwitch h n) := of_parts _
theorem penInstruction (n : Nat) : Statement (.penInstruction n) := of_parts _

end Sys2Proof.Laws.Fields
end

