-- ==== Sys2Proof/Laws/Run.lean ====
section
/-! SUPPORT. Everything a slot can do: `runTrigTo` and `runMove` pass a slot whose guard is off, wait, take the lowest fault of
their checks, or act on what they read. -/

namespace Sys2Proof.Machine

/-- No fault is the lowest of an empty list only. -/
theorem lowestFlt_eq_none (l : List Flt) : lowestFlt l = none ↔ l = [] := by
  cases l with
  | nil => simp [lowestFlt]
  | cons f l =>
    simp only [lowestFlt, List.cons_ne_nil, iff_false]
    split
    · simp
    · split <;> simp

/-- The lowest fault is one of the list, and none of the list has a lower code. -/
theorem lowestFlt_spec (l : List Flt) (f : Flt) (h : lowestFlt l = some f) : f ∈ l ∧ ∀ x ∈ l, f.code.toNat ≤ x.code.toNat := by
  induction l generalizing f with
  | nil => simp [lowestFlt] at h
  | cons g l ih =>
    simp only [lowestFlt] at h
    split at h
    · rename_i hn
      rw [lowestFlt_eq_none] at hn
      subst hn; cases h; simp
    · rename_i k hk
      obtain ⟨h1, h2⟩ := ih k hk
      split at h
      · rename_i hlt
        cases h
        refine ⟨List.mem_cons_of_mem _ h1, fun x hx => ?_⟩
        rcases List.mem_cons.1 hx with rfl | hx
        · exact le_of_lt hlt
        · exact h2 x hx
      · rename_i hlt
        cases h
        refine ⟨by simp, fun x hx => ?_⟩
        rcases List.mem_cons.1 hx with rfl | hx
        · exact le_refl _
        · exact le_trans (not_lt.1 hlt) (h2 x hx)

/-- A fault of a list whose codes are all equal is its first. -/
theorem lowestFlt_single (f : Flt) : lowestFlt [f] = some f := rfl

/-- The values that a trigger finds are named by the latches it needs, in order. -/
theorem State.takeLatches_keys (need : List Latch) : ∀ s : State, (s.takeLatches need).1.map (·.1) = need := by
  induction need with
  | nil => intro s; rfl
  | cons l ls ih =>
    intro s
    simp only [State.takeLatches]
    split <;> simp [ih]

/-- A latch that a trigger needs and finds full has a value among its operands. -/
theorem Args.op?_isSome (a : Args) (l : Latch) (hm : l ∈ a.ops.map (·.1)) (hf : a.ops.all (fun x => x.2.isSome) = true) :
    ∃ v, a.op? l = some v := by
  obtain ⟨st, v, ops⟩ := a
  simp only [Args.op?] at *
  induction ops with
  | nil => simp at hm
  | cons x xs ih =>
    obtain ⟨k, y⟩ := x
    simp only [List.all_cons, Bool.and_eq_true] at hf
    by_cases hk : l = k
    · subst hk
      obtain ⟨w, hw⟩ := Option.isSome_iff_exists.1 hf.1
      exact ⟨w, by simp [hw]⟩
    · have hb : (l == k) = false := by simpa using hk
      rw [List.lookup_cons, hb]
      exact ih (by simpa [hk] using hm) hf.2

/-- The faults that a full latch's value raises are those of its scalar value. -/
theorem Args.ifOp_full (a : Args) (l : Latch) (f : Word → List Flt) (hm : l ∈ a.ops.map (·.1))
    (hf : a.ops.all (fun x => x.2.isSome) = true) : a.ifOp l f = f (a.op l) := by
  obtain ⟨v, hv⟩ := a.op?_isSome l hm hf
  simp [Args.ifOp, Args.op, hv]

/-- The faults that a trigger checks before it reads its latches: its ports' kinds, and what its context kind may touch. -/
def earlyFlts (s : State) (src : Src) (port : BitVec 9) : List Flt :=
  (if legalMove src.kind (trigKind port) then [] else [fltPort]) ++
    (if trigDenied s.ctx.timedNow port then [fltKindCtx] else []) ++ s.srcFaults src

/-- All faults of a trigger that has read its source: value kind, empty latches, values that a latch does not take, and its own. -/
def slotFlts (s : State) (src : Src) (port : BitVec 9) (chk : Args → List Flt) (a : Args) : List Flt :=
  earlyFlts s src port ++ (if legalMove (kindOf a.v) (trigKind port) then [] else [fltOperand]) ++
    (if a.ops.any (fun x => x.2.isNone) then [fltMissed] else []) ++
    (if a.ops.any latchMismatch then [fltOperand] else []) ++ chk a

variable {g : Guard} {src : Src} {port : BitVec 9} {need : List Latch} {chk : Args → List Flt} {waits : Args → Bool}
  {act : Args → State} {s : State}

/-- A trigger that a false guard turns off is passed (R292). -/
theorem runTrigTo_off (h : s.openGroup.takes g = false) : runTrigTo g src port need chk waits act s = s.openGroup.finishSlot := by
  simp [runTrigTo, h]

/-- A trigger that has read its source: its lowest fault, a wait, or its effect (R145, R271). -/
theorem runTrigTo_read {v : Value} {s1 : State} (hg : s.openGroup.takes g = true) (hr : s.openGroup.readSrc src = some (v, s1)) :
    runTrigTo g src port need chk waits act s =
      let a : Args := ⟨(s1.takeLatches need).2, v, (s1.takeLatches need).1⟩
      match lowestFlt (slotFlts s.openGroup src port chk a) with
      | some f => s.openGroup.takeFault f false
      | none => if waits a then s.openGroup.waitCycle else act a := by
  simp only [runTrigTo, hg, hr, slotFlts, earlyFlts, Bool.not_true, Bool.false_eq_true, if_false] <;> rfl

/-- A trigger whose operands and checks are in order acts. -/
theorem runTrigTo_acts {v : Value} {s1 s2 : State} {ops : List (Latch × Option Value)} (hg : s.openGroup.takes g = true)
    (hk : legalMove src.kind (trigKind port) = true) (hd : trigDenied s.openGroup.ctx.timedNow port = false)
    (hs : s.openGroup.srcFaults src = []) (hr : s.openGroup.readSrc src = some (v, s1))
    (hl : s1.takeLatches need = (ops, s2)) (hv : legalMove (kindOf v) (trigKind port) = true)
    (hf : ops.all (fun x => x.2.isSome) = true) (hx : ops.any latchMismatch = false) (hc : chk ⟨s2, v, ops⟩ = []) (hw : waits ⟨s2, v, ops⟩ = false) :
    runTrigTo g src port need chk waits act s = act ⟨s2, v, ops⟩ := by
  have hn : (ops.any fun x => x.2.isNone) = false := by
    rw [List.any_eq_false]
    intro x hx
    have := List.all_eq_true.1 hf x hx
    cases hx2 : x.2 <;> simp_all
  have hf2 : slotFlts s.openGroup src port chk ⟨s2, v, ops⟩ = [] := by
    simp [slotFlts, earlyFlts, hk, hd, hs, hv, hn, hx, hc]
  rw [runTrigTo_read hg hr]
  simp [hl, hf2, lowestFlt, hw]

/-- A trigger whose operands are in order and whose own checks name one fault first takes it. -/
theorem runTrigTo_faults {v : Value} {s1 s2 : State} {ops : List (Latch × Option Value)} {f : Flt}
    (hg : s.openGroup.takes g = true)
    (hk : legalMove src.kind (trigKind port) = true) (hd : trigDenied s.openGroup.ctx.timedNow port = false)
    (hs : s.openGroup.srcFaults src = []) (hr : s.openGroup.readSrc src = some (v, s1))
    (hl : s1.takeLatches need = (ops, s2)) (hv : legalMove (kindOf v) (trigKind port) = true)
    (hf : ops.all (fun x => x.2.isSome) = true) (hx : ops.any latchMismatch = false) (hc : lowestFlt (chk ⟨s2, v, ops⟩) = some f) :
    runTrigTo g src port need chk waits act s = s.openGroup.takeFault f false := by
  have hn : (ops.any fun x => x.2.isNone) = false := by
    rw [List.any_eq_false]
    intro x hx
    have := List.all_eq_true.1 hf x hx
    cases hx2 : x.2 <;> simp_all
  have hf2 : slotFlts s.openGroup src port chk ⟨s2, v, ops⟩ = chk ⟨s2, v, ops⟩ := by
    simp [slotFlts, earlyFlts, hk, hd, hs, hv, hn, hx]
  rw [runTrigTo_read hg hr]
  simp [hl, hf2, hc]

/-- What `runTrigTo` can do, whatever it meets. -/
theorem runTrigTo_cases :
    runTrigTo g src port need chk waits act s = s.openGroup.finishSlot ∨
    runTrigTo g src port need chk waits act s = s.openGroup.waitCycle ∨
    (∃ f, runTrigTo g src port need chk waits act s = s.openGroup.takeFault f false) ∨
    (∃ v s1, s.openGroup.takes g = true ∧ s.openGroup.readSrc src = some (v, s1) ∧
      slotFlts s.openGroup src port chk ⟨(s1.takeLatches need).2, v, (s1.takeLatches need).1⟩ = [] ∧
      waits ⟨(s1.takeLatches need).2, v, (s1.takeLatches need).1⟩ = false ∧
      runTrigTo g src port need chk waits act s = act ⟨(s1.takeLatches need).2, v, (s1.takeLatches need).1⟩) := by
  cases hg : s.openGroup.takes g with
  | false => exact .inl (runTrigTo_off hg)
  | true =>
    right
    cases hr : s.openGroup.readSrc src with
    | none =>
      have : runTrigTo g src port need chk waits act s =
          match lowestFlt (earlyFlts s.openGroup src port) with
          | some f => s.openGroup.takeFault f false
          | none => s.openGroup.waitCycle := by
        simp only [runTrigTo, hg, hr, earlyFlts]; rfl
      rw [this]
      cases lowestFlt (earlyFlts s.openGroup src port) with
      | none => exact .inl rfl
      | some f => exact .inr (.inl ⟨f, rfl⟩)
    | some p =>
      obtain ⟨v, s1⟩ := p
      rw [runTrigTo_read hg hr]
      cases hl : lowestFlt (slotFlts s.openGroup src port chk ⟨(s1.takeLatches need).2, v, (s1.takeLatches need).1⟩) with
      | some f => exact .inr (.inl ⟨f, by simp [hl]⟩)
      | none =>
        cases hw : waits ⟨(s1.takeLatches need).2, v, (s1.takeLatches need).1⟩ with
        | true => exact .inl (by simp [hl, hw])
        | false =>
          exact .inr (.inr ⟨v, s1, rfl, rfl, (lowestFlt_eq_none _).1 hl, hw, by simp [hl, hw]⟩)

/-- A move whose operands and checks are in order writes its destination (R292, R293). -/
theorem runMove_acts {h : Bool} {dst : Dst} {v : Value} {s1 : State} (hg : s.openGroup.takes g = true)
    (hk : legalMove src.kind dst.kind = true) (hh : holdLegal h dst = true)
    (hs : s.openGroup.srcFaults src = []) (hr : s.openGroup.readSrc src = some (v, s1))
    (hv : fits src v dst.kind = true) (hd : s1.dstFaults dst v = []) (hw : s1.dstWaits dst = false) :
    runMove g h src dst s = (s1.writeDst dst h v).finishSlot := by
  simp [runMove, hg, hk, hh, hs, hr, hv, hd, hw, lowestFlt]

/-- A move that a false guard turns off is passed (R292). -/
theorem runMove_off {h : Bool} {dst : Dst} (hg : s.openGroup.takes g = false) :
    runMove g h src dst s = s.openGroup.finishSlot := by
  simp [runMove, hg]

/-- Inside a group that goes on, the end of a slot drops it and takes the literal of the next slot's bundle (R287). -/
theorem State.finishSlot_more {x y : Slot} {l : List Slot} (h : s.group.left = x :: y :: l) :
    s.finishSlot = s.onGroup fun g => { g with left := y :: l, lit := s.die.litOf y.bundle } := by
  simp [State.finishSlot, h]

end Sys2Proof.Machine
end

