-- ==== Sys2Proof/Tests/Slice0.lean ====
section
/-! SUPPORT. Tests: well-formedness, words of the specification, and for every statement with hypotheses a state and operands that
meet them all. Expected values are the specification's own words and tables. -/

namespace Sys2Proof.Tests

open Sys2Proof.Machine Sys2Proof.Claims

set_option Elab.async false

/-! ### Well-formedness (R292, R293, R295, R358) -/

theorem test_wf_kinds : (Instr.move ⟨false, 0⟩ false (.m 1) (.s 3)).wf = false := by decide
theorem test_wf_hold : (Instr.move ⟨false, 0⟩ true (.imm 1) (.s 3)).wf = false := by decide
theorem test_wf_nop : (Instr.move ⟨false, 0⟩ false (.imm 0) (.s 0)).wf = false := by decide
theorem test_wf_trigger : (Instr.lsStrow ⟨false, 0⟩ (.s 4)).wf = false := by decide
theorem test_wf_pair : (Instr.ag0Set ⟨false, 0⟩ 3).wf = false := by decide
theorem test_wf_holds : (Instr.move ⟨true, 2⟩ true (.s 4) (.latch .ia0a)).wf = true := by decide

/-! ### Words (Tables 12.2 to 12.12, 13.5, 14.10, 15.6, 16.3): I [23], C [22:20], H [19], L [18], SRC [17:9], DST [8:0] -/

/-- A word from its fields. -/
def word (i c h l src dst : Nat) : BitVec 24 := BitVec.ofNat 24 (((((i * 8 + c) * 2 + h) * 2 + l) * 512 + src) * 512 + dst)

theorem test_word_nop : decodeMove (word 0 0 0 1 0 0) = .ok .nop := by rfl
theorem test_word_move : decodeMove (word 1 3 1 0 4 0x040) = .ok (.move ⟨true, 3⟩ true (.s 4) (.latch .ia0a)) := by rfl
theorem test_word_ia : decodeMove (word 0 0 0 1 16 0x048) = .ok (.ia0Add ⟨false, 0⟩ (.imm 16)) := by rfl
theorem test_word_im : decodeMove (word 1 7 0 0 31 0x06C) = .ok (.imDivu ⟨true, 7⟩ (.s 31)) := by rfl
theorem test_word_br : decodeMove (word 0 0 0 1 1 0x08A) = .ok (.brLoop ⟨false, 0⟩ (.imm 1)) := by rfl
theorem test_word_ls : decodeMove (word 0 0 0 0 1 0x097) = .ok (.lsLdd ⟨false, 0⟩ (.s 1)) := by rfl
theorem test_word_sy : decodeMove (word 0 2 0 0 0x080 0x0B3) = .ok (.syAmoCasD ⟨false, 2⟩ (.queue .lsq)) := by rfl
theorem test_word_system : decodeMove (word 0 0 0 0 3 0x1E7) = .ok (.sySwr ⟨false, 0⟩ (.s 3)) := by rfl
theorem test_word_vx : decodeMove (word 0 0 0 0 0x025 0x104) = .ok (.vxFaddF32 ⟨false, 0⟩ (.t 5)) := by rfl
theorem test_word_sc : decodeMove (word 0 1 0 0 0x03F 0x17F) = .ok (.scXredMaxF32 ⟨false, 1⟩ (.t 31)) := by rfl
theorem test_word_mx : decodeMove (word 0 0 0 0 0x1D6 0x188) = .ok (.mxPushE4m3 ⟨false, 0⟩ .lit) := by rfl
theorem test_word_ag : decodeMove (word 0 0 0 0 6 0x1A9) = .ok (.ag3Set ⟨false, 0⟩ 6) := by rfl
theorem test_word_nw : decodeMove (word 0 0 0 0 2 0x1B0) = .ok (.nwLdroute ⟨false, 0⟩ (.s 2)) := by rfl
theorem test_word_fe : decodeMove (word 0 0 0 0 2 0x1E0) = .ok (.feFill ⟨false, 0⟩ (.s 2)) := by rfl
theorem test_word_fx : decodeMove (word 0 0 1 0 6 0x0DC) = .ok (.fxRstD ⟨false, 0⟩ true (.s 6)) := by rfl
theorem test_word_hold : decodeMove (word 0 0 1 0 6 0x048) = .error .holdBit := by rfl
theorem test_word_source : decodeMove (word 0 0 0 0 0x1FF 0x048) = .error .sourcePort := by rfl

/-! ### States for the witnesses -/

/-- A task of function 0 with rows 0 to 4,095 of every die, its pages and its contexts. -/
def task (timed : Bool) (fold : BitVec 3) (ctxs : List (DieId × CtxId)) : Task :=
  { lid := 1, fn := 0, obj := 0, handle := 0, entry := 0, record := List.replicate 64 0, fold := fold, timed := timed, freeCtx := 1
    prio := 0, det := false, supv := true, redsvc := false, asid := 0, kslot := 0, budget := 5, ctxs := ctxs, st := .running
    dies := .replicate 3
      { tokens := .replicate 64 .clear, bounds := [(0, 1048576)], owned := [(0, 1048576)], pinned := [(0, 1048576)], pinMap := []
        phase := 0, tokIds := [], solves := [] }
    polgen := 0, startTick := 0, refDie := 0, primary := none, agreed := none, dispAt := 0, noVictim := false, heldCtxs := []
    restored := false, saved := [], discards := 0, startOn := fold, stopCounts := [], causes := [], reported := false
    bound1 := false }

/-- Every scalar latch at 0, the tile latches at zero tiles. -/
def full : Vector (Option Latched) 22 :=
  #v[some ⟨.s 0, false⟩, some ⟨.s 0, false⟩, some ⟨.s 0, false⟩, some ⟨.s 0, false⟩, some ⟨.s 0, false⟩, some ⟨.w ⟨1, 0⟩, false⟩,
     some ⟨.s 0, false⟩, some ⟨.s 0, false⟩, some ⟨.s 0, false⟩, some ⟨.s 0, false⟩, some ⟨.s 0, false⟩, some ⟨.s 0, false⟩,
     some ⟨.t Tile.zero, false⟩, some ⟨.t Tile.zero, false⟩, some ⟨.t Tile.zero, false⟩, none,
     some ⟨.s 0, false⟩, some ⟨.s 0, false⟩, some ⟨.s 0, false⟩, some ⟨.s 0, false⟩, some ⟨.s 0, false⟩, some ⟨.s 0, false⟩]

/-- A group at a late count, with another slot after the current one. -/
def late : GroupCtx :=
  { count := 70000, conds := 1, g0 := 0, g1 := 0, sr := 0, lit := none, left := [⟨0, 0, 0⟩, ⟨0, 1, nopWord⟩], taken := []
    popped := [], rows := [], nextBundle := 1, nextSlot := 0, trap := none, branched := false, nowFlags := 0, nowAmax := []
    rfe := false, hold := false, tick := 0, rot := ⟨2, 0, 0, 0⟩, rng := 0, yield := none, stall := 0, align := false, exit := false }

/-- A context of launch 1 whose group is open; scalar register 2 holds `v`. -/
def ctx (k : CtxKind) (v : Word) (l : List (Latch × Value)) : Ctx :=
  { Ctx.reset with
    kind := k, lid := 1, codeLen := 8, priv := true, rot := ⟨2, 0, 0, 0⟩, s := (Vector.replicate 32 0).set 2 v
    grp := some late, latches := l.foldl (fun x y => x.set (latchIx y.1).val (some ⟨y.2, false⟩) (latchIx y.1).isLt) full }

/-- The package at level 3 with every unit; die 0 runs that context and, where the task is a fold, the others stand beside it. -/
def ready (k : CtxKind) (v : Word) (l : List (Latch × Value)) : State :=
  { State.reset with
    pkg := { Package.reset with power := true, stage := 5, level := 3, dieUp := 7, optUp := true, padUp := true, caps := 0x02010007 }
    dies := #v[{ Die.reset 0 with ctxs := (Vector.replicate 4 Ctx.reset).set 0 (ctx k v l) }, Die.reset 1, Die.reset 2]
    sched := { State.reset.sched with tasks := [task (k == .timed) 1 [(0, 0)]] } }

/-- The same for the timed context of a fold of dies 0 and 1, with die 1's context beside it. -/
def folded (v : Word) (l : List (Latch × Value)) : State :=
  let s := ready .timed v l
  { s with
    dies := s.dies.set 1 { Die.reset 1 with ctxs := (Vector.replicate 4 Ctx.reset).set 0 { ctx .timed v l with grp := none } }
    sched := { s.sched with tasks := [task true 3 [(0, 0), (1, 0)]] } }

/-- What a trigger's reads give. -/
def readsAt (s : State) (src : Src) (port : BitVec 9) (need : List Latch) : Option Args :=
  match s.readSrc src with
  | none => none
  | some (v, s1) =>
    let r := s1.takeLatches need
    if s.takes ⟨false, 0⟩ && legalMove src.kind (trigKind port) && !trigDenied s.ctx.timedNow port && (s.srcFaults src).isEmpty &&
        legalMove (kindOf v) (trigKind port) && r.1.all (fun x => x.2.isSome) && !r.1.any latchMismatch then some ⟨r.2, v, r.1⟩
    else none

theorem reads_of_readsAt {s : State} {src : Src} {port : BitVec 9} {need : List Latch} {a : Args}
    (h : readsAt s src port need = some a) : Reads s ⟨false, 0⟩ src port need a := by
  unfold readsAt at h
  split at h
  · cases h
  · rename_i v s1 hr
    dsimp only at h
    split at h
    · rename_i hc
      simp only [Bool.and_eq_true, Bool.not_eq_true', List.isEmpty_iff] at hc
      obtain ⟨⟨⟨⟨⟨⟨h1, h2⟩, h3⟩, h4⟩, h5⟩, h6⟩, h7⟩ := hc
      cases h
      exact ⟨h1, h2, h3, h4, ⟨s1, hr, rfl⟩, h5, h6, h7⟩
    · cases h

/-- A trigger of the state reads operands with a property. -/
def Met (s : State) (src : Src) (port : BitVec 9) (need : List Latch) (ok : Args → Prop) : Prop :=
  ∃ a, Reads s.openGroup ⟨false, 0⟩ src port need a ∧ ok a

/-- The check behind it. -/
def met (s : State) (src : Src) (port : BitVec 9) (need : List Latch) (ok : Args → Bool) : Bool :=
  match readsAt s.openGroup src port need with
  | some a => ok a
  | none => false

theorem met_of {s : State} {src : Src} {port : BitVec 9} {need : List Latch} {ok : Args → Prop} [∀ a, Decidable (ok a)]
    (h : met s src port need (fun a => decide (ok a)) = true) : Met s src port need ok := by
  unfold met at h
  split at h
  · rename_i a ha
    exact ⟨a, reads_of_readsAt ha, of_decide_eq_true h⟩
  · cases h

/-- Every form of a list reads its operands. -/
theorem all_met {s : State} {src : Src} {l : List (BitVec 9 × List Latch)}
    (h : (l.all fun x => met s src x.1 x.2 fun _ => true) = true) : ∀ x ∈ l, Met s src x.1 x.2 fun _ => True := by
  intro x hx
  have := List.all_eq_true.mp h x hx
  unfold met at this
  split at this
  · rename_i a ha
    exact ⟨a, reads_of_readsAt ha, trivial⟩
  · cases this

/-! ### One step: results calculated by hand from the rules -/

/-- The effects in flight after a move of the free context, with the counts after the group's at which they are visible. -/
def flown (i : Instr) (l : List (Latch × Value)) : List (Nat × Effect) :=
  match exec i (ready .timed 0 l) with
  | .next t => (t.dieAt 0).ctxAt 0 |>.pend.map fun p => (p.due - 70000, p.eff)
  | _ => []

/-- R156, R313: an addition wraps, and is visible at the next count. -/
theorem test_add_wraps : flown (.ia0Add ⟨false, 0⟩ (.imm 5)) [(.ia0a, .s 0xFFFFFFFFFFFFFFFF)] = [(1, .port .ia0q (.s 4))] := by
  decide +kernel

/-- R313: a subtraction takes its trigger value from its operand. -/
theorem test_sub_order : flown (.ia0Sub ⟨false, 0⟩ (.imm 5)) [(.ia0a, .s 3)] = [(1, .port .ia0q (.s 0xFFFFFFFFFFFFFFFE))] := by
  decide +kernel

/-- R314: a field that passes bit 63 is cut there. -/
theorem test_bext_cut : bext 0xF000000000000000 (60 + 64 * 8) = 0xF := by decide +kernel

/-- R315: a signed quotient is truncated toward zero, and its remainder has the sign of the dividend. -/
theorem test_div_truncates : (flown (.imDiv ⟨false, 0⟩ (.imm 2)) [(.ima, .s 0xFFFFFFFFFFFFFFF9)]).map (·.2) =
    [.port .imq (.s 0xFFFFFFFFFFFFFFFD), .port .imq2 (.s 0xFFFFFFFFFFFFFFFF)] := by decide +kernel

/-- R320: the loop's target is not taken when LC comes to 0. -/
theorem test_loop_last : (match exec (.brLoop ⟨false, 0⟩ (.imm 1)) ((ready .free 0 []).onCtx fun c => { c with rot := ⟨1, 0, 0, 0⟩, grp := some { late with rot := ⟨1, 0, 0, 0⟩ } }) with
    | .next t => some (((t.dieAt 0).ctxAt 0).delay, ((t.dieAt 0).ctxAt 0).rot.lc)
    | _ => none) = some (none, 0) := by decide +kernel

/-- R334: the time of the die is its TICK when the group issues. -/
theorem test_rdtick : (((ready .free 0 []).onCtx fun c => { c with grp := some { late with tick := 77 } }).readSrc .rdtick).map (·.1) = some (.s 77) := by
  decide +kernel

/-- R292: a move whose guard is off leaves its operands where they are. -/
theorem test_guard_off : flown (.ia0Add ⟨true, 0⟩ (.imm 5)) [(.ia0a, .s 1)] = [] := by decide +kernel
/-! ### Witnesses: the moves -/

/-- Ports in a row, with the latches each names. -/
def ports (lo n : Nat) (need : List Latch) : List (BitVec 9 × List Latch) :=
  (List.range n).map fun i => (BitVec.ofNat 9 (lo + i), need)

theorem witness_PlainMovesComplete :
    ∀ x ∈ ([(.imm 5, .s 31), (.s 2, .latch .feb), (.t 1, .t 31), (.m 0, .m 7), (.imm 1, .c 7), (.imm 4, .vxrm), (.m 0, .vxm),
        (.w 3, .w 0)] : List (Src × Dst)),
      let s := (ready .timed 0 []).openGroup
      s.takes ⟨false, 0⟩ = true ∧ legalMove x.1.kind x.2.kind = true ∧ s.srcFaults x.1 = [] ∧
        ∃ v s1, s.readSrc x.1 = some (v, s1) ∧ fits x.1 v x.2.kind = true ∧ s1.dstFaults x.2 v = [] ∧
          s1.dstWaits x.2 = false := by
  intro x hx
  fin_cases hx <;> exact ⟨by decide +kernel, by decide, by decide +kernel, _, _, rfl, by decide +kernel, by decide +kernel,
    by decide +kernel⟩

theorem witness_GuardedOffMovesDoNothing :
    guardOf (.ia0Add ⟨false, 7⟩ (.imm 1)) = some ⟨false, 7⟩ ∧ (ready .free 0 []).openGroup.takes ⟨false, 7⟩ = false := by
  decide +kernel

theorem witness_ScalarFormsComplete :
    ∀ x ∈ aluForms.map fun f => f.2, Met (ready .free 0 []) (.imm 5) x.1 x.2 fun _ => True := all_met (by decide +kernel)

theorem witness_BranchesComplete :
    (∀ x ∈ ports 0x088 2 [], Met (ready .free 7 []) (.s 2) x.1 x.2 fun a => a.st.ctx.delay = none ∧ a.word.toNat < 2 ^ 16 ∧
      a.word.toNat < a.st.ctx.codeLen) ∧
    (Met (ready .free 7 []) (.s 2) 0x08A [] fun a => a.st.ctx.delay = none ∧ a.st.ctx.rotNow.lc - 1 ≠ 0 ∧ a.word.toNat < 2 ^ 16 ∧
      a.word.toNat < a.st.ctx.codeLen) ∧
    (Met ((ready .free 7 []).onCtx fun c => { c with grp := some { late with rot := ⟨1, 0, 0, 0⟩ } }) (.s 2) 0x08A [] fun a => a.st.ctx.delay = none ∧
      a.st.ctx.rotNow.lc - 1 = 0) ∧
    (Met (ready .free 0 []) (.imm 112) 0x08B [] fun a => rotLegal a.word = true) ∧
    (Met (ready .timed 4096 []) (.s 2) 0x08C [] fun a => 1 ≤ a.word.toNat ∧ a.word.toNat ≤ 4096) ∧
    (Met (ready .timed 0 []) (.imm 0) 0x08D [] fun a => (a.st.curTask.map Task.multiDie) = some false) ∧
    (Met (folded 0 []) (.imm 0) 0x08D [] fun a => (a.st.curTask.map Task.multiDie) = some true) ∧
    (∀ x ∈ ports 0x08E 2 [], Met (ready .free 0 []) (.imm 0) x.1 x.2 fun a => a.st.ctx.delay = none) ∧
    Met (ready .free 0 []) (.imm 0) 0x090 [] fun _ => True := by
  refine ⟨fun x hx => ?_, met_of (by decide +kernel), met_of (by decide +kernel), met_of (by decide +kernel),
    met_of (by decide +kernel), met_of (by decide +kernel), met_of (by decide +kernel), fun x hx => ?_, met_of (by decide +kernel)⟩
  · fin_cases hx <;> exact met_of (by decide +kernel)
  · fin_cases hx <;> exact met_of (by decide +kernel)

theorem witness_LoadsJoinTheirQueue :
    ∀ x ∈ loadForms.map (fun f => f.2), Met (ready .free 0x10000000000FFF00 []) (.s 2) x.1 [] fun a =>
      a.st.accessFaults a.word x.2 (x.2 == 256) = [] ∧ a.st.ctx.placesFull .lsq = false ∧ a.st.ctx.queueFull .load = false := by
  intro x hx
  fin_cases hx <;> exact met_of (by decide +kernel)

theorem witness_LoadsFrame : MoreSlots (ready .free 0x10000000000FFF00 []).openGroup ∧
    ∃ t, exec (.lsLdrow ⟨false, 0⟩ (.s 2)) (ready .free 0x10000000000FFF00 []) = .next t :=
  ⟨⟨_, _, _, rfl⟩, _, rfl⟩

theorem witness_StoresComplete :
    (∀ x ∈ storeForms.map (fun f => f.2), Met (ready .timed 0 [(.lsa, .s 0x10000000000FFFF8)]) (.imm 3) x.1 [.lsa] fun a =>
      a.st.storeFaults (a.op .lsa) (widBytes x.2) false = [] ∧ a.st.storeWaits (a.op .lsa) = false ∧
        a.st.timedStore (a.op .lsa) = true ∧ spaceOf (a.op .lsa) = .scratch 0xFFFF8) ∧
    (∀ x ∈ storeForms.map (fun f => f.2), Met (ready .free 0 [(.lsa, .s 0x1000)]) (.imm 3) x.1 [.lsa] fun a =>
      a.st.storeFaults (a.op .lsa) (widBytes x.2) false = [] ∧ a.st.storeWaits (a.op .lsa) = false) ∧
    (Met (ready .timed 0 [(.lsa, .s 0x10000000000FFF00)]) (.w 1) 0x09D [.lsa] fun a =>
      a.st.storeFaults (a.op .lsa) 256 true = [] ∧ a.st.storeWaits (a.op .lsa) = false ∧ a.st.timedStore (a.op .lsa) = true ∧
        spaceOf (a.op .lsa) = .scratch 0xFFF00) ∧
    (Met (ready .timed 0 [(.lsa, .s 0x10000000000FFF00)]) (.w 1) 0x09E [.lsa, .lsm] fun a => rowEmpty a.maskRow = false ∧
      a.st.storeFaults (a.op .lsa) 256 true = [] ∧ a.st.storeWaits (a.op .lsa) = false ∧ a.st.timedStore (a.op .lsa) = true ∧
        spaceOf (a.op .lsa) = .scratch 0xFFF00) ∧
    (Met (ready .timed 0 [(.lsm, .w ⟨0, 0⟩)]) (.w 1) 0x09E [.lsa, .lsm] fun a => rowEmpty a.maskRow = true) ∧
    Met (ready .free 0 []) (.imm 0) 0x09F [] fun _ => True := by
  refine ⟨fun x hx => ?_, fun x hx => ?_, met_of (by decide +kernel), met_of (by decide +kernel), met_of (by decide +kernel),
    met_of (by decide +kernel)⟩
  · fin_cases hx <;> exact met_of (by decide +kernel)
  · fin_cases hx <;> exact met_of (by decide +kernel)

theorem witness_AtomicsJoinBothQueues :
    (∀ x ∈ ports 0x0A0 18 [.sya] ++ ports 0x0B2 2 [.sya, .syb], Met (ready .free 0 [(.sya, .s 0x10000000000FFFF8)]) (.imm 3) x.1 x.2
      fun a => a.st.amoFaults (a.op .sya) 8 = [] ∧ a.st.amoFaults (a.op .sya) 4 = [] ∧ a.st.ctx.placesFull .syq = false ∧
        a.st.ctx.queueFull .both = false) := by
  intro x hx
  fin_cases hx <;> exact met_of (by decide +kernel)

/-- The state with a token of the task. -/
def withTok (s : State) (n : Nat) (t : Tok) : State := s.setTok 1 0 n t

theorem witness_SynchronisationCompletes :
    (∀ x ∈ ports 0x0B4 3 [.sya, .syb], Met (ready .free 0 []) (.imm 3) x.1 x.2 fun a => a.word.toNat < 4) ∧
    (∀ x ∈ ports 0x0B7 2 [], Met (withTok (ready .free 0 []) 63 .set) (.imm 63) x.1 x.2 fun a =>
      a.word.toNat < 64 ∧ a.st.curToken a.word.toNat = .set) ∧
    (Met (withTok (ready .free 0 []) 63 .set) (.imm 63) 0x0BA [] fun a =>
      a.word.toNat < 64 ∧ a.st.curToken a.word.toNat ≠ .pending) ∧
    (∀ n ∈ [(0 : Word), 1], Met (ready .free 0 [(.sya, .s 0xFFFFFF000000), (.syb, .s n)]) (.imm 63) 0x0B9 [.sya, .syb] fun a =>
      a.word.toNat < 64 ∧ a.st.curToken a.word.toNat = .clear ∧ a.st.tokChan (a.op .sya) = some (0, 0) ∧
      passed ((a.st.dieAt 0).chans.get 0).doneId (BitVec.ofNat 32 (a.op .syb).toNat) = (n == 0)) ∧
    (∀ x ∈ ports 0x0BB 2 [], Met (ready .free 0 []) (.imm 1) x.1 x.2 fun a => a.word.toNat < 2 ∧
      a.st.barrierOpen a.word.toNat = true) ∧
    (Met (ready .free 0 []) (.imm 63) 0x0BD [] fun a => a.word.toNat < 64 ∧ a.st.curTask.map Task.det = some false) ∧
    (Met (ready .free 256 [(.sya, .s 0xFFF00)]) (.s 2) 0x1E8 [.sya] fun a => a.st.claimFaults (a.op .sya) a.word = []) := by
  refine ⟨fun x hx => ?_, fun x hx => ?_, met_of (by decide +kernel), fun x hx => ?_, fun x hx => ?_, met_of (by decide +kernel),
    met_of (by decide +kernel)⟩
  all_goals fin_cases hx <;> exact met_of (by decide +kernel)

theorem witness_SystemMovesComplete :
    (Met (ready .free 0 []) (.imm 0x1D) 0x1E6 [] fun a => a.st.srdFaults a.word = [] ∧ queuedReg a.word.toNat = false ∧
      supReg a.word.toNat = false) ∧
    (Met (ready .free 0x1826 []) (.s 2) 0x1E6 [] fun a => a.st.srdFaults a.word = [] ∧ queuedReg a.word.toNat = false ∧
      supReg a.word.toNat = true) ∧
    (Met (ready .free 0 []) (.imm 0x30) 0x1E6 [] fun a => a.st.srdFaults a.word = [] ∧ queuedReg a.word.toNat = true ∧
      a.st.ctx.queueFull .load = false) ∧
    (Met (ready .free 0 [(.sysri, .s 0x30)]) (.imm 7) 0x1E7 [.sysri] fun a => a.st.swrFaults (a.op .sysri) a.word = [] ∧
      queuedReg (a.op .sysri).toNat = true ∧ a.st.ctx.queueFull .store = false) ∧
    (Met (ready .free 0 [(.sysri, .s 0x1600)]) (.imm 0) 0x1E7 [.sysri] fun a => a.st.swrFaults (a.op .sysri) a.word = [] ∧
      queuedReg (a.op .sysri).toNat = false ∧ supReg (a.op .sysri).toNat = true) ∧
    (Met (ready .free 0 [(.sysri, .s 0x41)]) (.imm 4) 0x1E7 [.sysri] fun a => a.st.swrFaults (a.op .sysri) a.word = [] ∧
      queuedReg (a.op .sysri).toNat = false ∧ supReg (a.op .sysri).toNat = false ∧
      writableReg a.st.ctx (a.op .sysri).toNat = true) ∧
    (Met (ready .free 0 [(.sysri, .s 0)]) (.imm 4) 0x1E7 [.sysri] fun a => a.st.swrFaults (a.op .sysri) a.word = [] ∧
      queuedReg (a.op .sysri).toNat = false ∧ supReg (a.op .sysri).toNat = false ∧
      writableReg a.st.ctx (a.op .sysri).toNat = false) ∧
    (Met (ready .free 0 []) (.imm 8) 0x1E9 [.sya] fun a => a.st.ctx.placesFull .syq = false ∧
      a.st.ctx.queueFull .load = false) ∧
    (Met ((ready .free 0 []).onCtx fun c => { c with inh := true }) (.imm 0) 0x1EA [] fun a => a.st.ctx.inh = true) ∧
    Met (ready .free 0 []) (.imm 0) 0x1EB [] fun _ => True := by
  refine ⟨?_, ?_, ?_, ?_, ?_, ?_, ?_, ?_, ?_, ?_⟩ <;> exact met_of (by decide +kernel)

theorem witness_VectorFloatsComplete :
    ∀ x ∈ ports 0x104 3 [.vxa] ++ ports 0x107 4 [.vxa, .vxb] ++ ports 0x10B 11 [.vxa] ++ ports 0x116 4 [.vxa, .vxb] ++
      ports 0x11A 4 [.vxa] ++ ports 0x11E 1 [.vxa, .vxb] ++ ports 0x11F 4 [.vxa],
      Met (ready .timed 0 []) (.t 31) x.1 x.2 fun _ => True := all_met (by decide +kernel)

theorem witness_VectorIntegersComplete :
    (∀ x ∈ ports 0x123 5 [.vxa] ++ ports 0x128 1 [.vxa, .vxb] ++ ports 0x129 10 [.vxa] ++ ports 0x133 2 [] ++ ports 0x135 7 [.vxa] ++
      ports 0x13D 1 [.vxa, .vxb], Met (ready .timed 0 []) (.t 31) x.1 x.2 fun _ => True) ∧
    (Met (ready .timed 255 []) (.s 2) 0x13C [.vxa, .vxb, .vxc] fun a => a.word.toNat < 256) ∧
    (Met (ready .timed 2047 []) (.s 2) 0x13E [.vxa] fun a => a.word.toNat < 2048) ∧
    Met (ready .timed 2047 []) (.s 2) 0x13F [.vxa, .vxb] fun a => a.word.toNat < 2048 :=
  ⟨all_met (by decide +kernel), met_of (by decide +kernel), met_of (by decide +kernel), met_of (by decide +kernel)⟩

theorem witness_ConversionsComplete :
    ∀ x ∈ ports 0x148 15 [.vxa] ++ ports 0x157 2 [] ++ ports 0x159 10 [.vxa], Met (ready .timed 0 []) (.t 31) x.1 x.2 fun _ => True :=
  all_met (by decide +kernel)

theorem witness_FunctionsAndBlocksComplete :
    (∀ x ∈ ports 0x163 13 [] ++ ports 0x170 3 [.vxa] ++ ports 0x173 3 [.vxa, .vxb],
      Met (ready .timed 0 []) (.t 31) x.1 x.2 fun a => a.st.ctx.profile1 = false) ∧
    ∀ x ∈ [(0x163 : BitVec 9), 0x164, 0x166], Met ((ready .timed 0 []).onCtx fun c => { c with numProf := 1 }) (.t 31) x [] fun a =>
      a.st.ctx.profile1 = true := by
  refine ⟨fun x hx => ?_, fun x hx => ?_⟩
  all_goals fin_cases hx <;> exact met_of (by decide +kernel)

theorem witness_ScansComplete :
    (∀ x ∈ ports 0x176 10 [], Met (ready .timed 0 []) (.t 31) x.1 x.2 fun a => (a.st.takeLatch .scf).isNone = true) ∧
    ∀ x ∈ ports 0x17A 3 [], Met (ready .timed 0 [(.scf, .m Mask.ones)]) (.t 31) x.1 x.2 fun a =>
      (a.st.takeLatch .scf).isSome = true := by
  refine ⟨fun x hx => ?_, fun x hx => ?_⟩
  all_goals fin_cases hx <;> exact met_of (by decide +kernel)

theorem witness_MatrixMovesComplete :
    (∀ x ∈ ports 0x188 6 [.mxa, .mxb], Met (ready .timed 0 [(.mxa, .s 15), (.mxb, .s 14)]) (.t 0) x.1 x.2 fun a =>
      (a.op .mxa).toNat < 16 ∧ (a.op .mxb).toNat < 16 ∧ bit (a.op .mxb) 0 = false) ∧
    (∀ x ∈ ports 0x191 6 [.mxa, .mxb], Met (ready .timed 0 [(.mxa, .s 63), (.mxb, .s 2)]) (.t 0) x.1 x.2 fun a =>
      (a.op .mxa).toNat < 64 ∧ (a.op .mxb).toNat < 4 ∧ bit (a.op .mxb) 0 = false ∧ a.st.die.wall.activeTags = []) ∧
    (∀ x ∈ ports 0x198 3 [], Met (ready .timed 0 []) (.imm 48) x.1 x.2 fun a => a.word.toNat < 64 ∧ a.word.toNat % 16 = 0) ∧
    (Met (ready .timed 0 [(.mxa, .s 15), (.mxb, .s 10)]) (.t 0) 0x18E [.mxa, .mxb] fun a => (a.op .mxa).toNat < 16 ∧
      (a.op .mxb).toNat < 16 ∧ spTag (a.op .mxb) = some .sI8 ∧ (fld (a.op .mxb) 2 2 = 2 → bit (a.op .mxb) 0 = false)) ∧
    (Met (ready .timed 0 [(.mxa, .s 3)]) (.t 0) 0x18F [.mxa] fun a => (a.op .mxa).toNat < 4) ∧
    (Met (ready .timed 0 []) (.imm 0) 0x190 [] fun _ => True) ∧
    (Met (ready .timed 0 [(.mxa, .s 63), (.mxb, .s 3)]) (.t 0) 0x197 [.mxa, .mxb] fun a =>
      (a.st.die.wall.sparseForm.map fun f => f.scales) = some true ∧ (a.op .mxa).toNat < 64 ∧ (a.op .mxb).toNat < 4) ∧
    Met (ready .timed 4096 []) (.s 2) 0x19B [] fun a => a.word.toNat < 2 ^ 13 ∧ 1 ≤ fld a.word 6 7 ∧ fld a.word 6 7 ≤ 64 ∧
      fld a.word 0 6 + fld a.word 6 7 ≤ 64 := by
  refine ⟨fun x hx => ?_, fun x hx => ?_, fun x hx => ?_, ?_, ?_, ?_, ?_, ?_⟩
  · fin_cases hx <;> exact met_of (by decide +kernel)
  · fin_cases hx <;> exact met_of (by decide +kernel)
  · fin_cases hx <;> exact met_of (by decide +kernel)
  all_goals exact met_of (by decide +kernel)

/-- The timed context with every generator set over the rows of its task. -/
def swept (v : Word) (l : List (Latch × Value)) : State :=
  let d : Gen := { base := 0, code := 0, pitch := 1, tpitch := 1, count := 8, step := 7 }
  (ready .timed v l).onDie fun x => { x with wall := { x.wall with ag := .replicate 4 (some d) } }

theorem witness_GeneratorsAndNetworkComplete :
    (∀ x ∈ [(0x1A0 : BitVec 9), 0x1A3, 0x1A6, 0x1A9],
      Met ((ready .timed 0x100000000 []).onCtx fun c => { c with s := c.s.set 3 0x700000008 }) (.s 2) x [] fun a =>
        a.st.ctx.physS 2 % 2 = 0 ∧ (genOf (a.st.ctx.readS 2) (a.st.ctx.s.toList.getD (a.st.ctx.physS 2 + 1) 0)).isSome = true) ∧
    (∀ x ∈ [((0x1A2 : BitVec 9), (0 : Fin 4)), (0x1A5, 1), (0x1A8, 2), (0x1AB, 3)],
      Met (swept 0 []) (.imm 1) x.1 [] fun a => (a.st.gen x.2).isSome = true) ∧
    (∀ x ∈ [((0x1A1 : BitVec 9), (0 : Fin 4)), (0x1A4, 1)], Met (swept 0 []) (.imm 0) x.1 [] fun a =>
      (a.st.gen x.2).map (fun d => a.st.unitFaults false d.units d.units) = some [] ∧
        a.st.gatherFaults 0 a.st.group.count = []) ∧
    (∀ x ∈ [((0x1A7 : BitVec 9), (2 : Fin 4)), (0x1AA, 3)], Met (swept 0 []) (.t 0) x.1 [] fun a =>
      (a.st.gen x.2).map (fun d => a.st.unitFaults true d.units d.units) = some [] ∧
        a.st.die.wall.far a.st.group.sr.toNat false = []) ∧
    (Met (ready .timed 0 [(.nwa, .s (448 + 512 * 4)), (.nwb, .s 0x7F)]) (.t 0) 0x1B3 [.nwa, .nwb] fun a =>
      a.st.hasSolver = true ∧ a.st.die.wall.lastSolve = none ∧ a.st.solveFaults (a.op .nwa) = [] ∧
        a.st.nwTokFaults (a.op .nwb) = [] ∧ (tokWord (a.op .nwb)).isSome = true) ∧
    ∀ x ∈ ports 0x1B4 2 [], Met (ready .timed 0 []) (.imm 11) x.1 x.2 fun a => a.word.toNat < 16 ∧
      (lanePeer a.st.turn a.word.toNat).isSome = true := by
  refine ⟨fun x hx => ?_, fun x hx => ?_, fun x hx => ?_, fun x hx => ?_, met_of (by decide +kernel), fun x hx => ?_⟩
  all_goals fin_cases hx <;> exact met_of (by decide +kernel)

/-- The timed context whose object holds pattern 255, plane 1,023 and route 447, all zeros. -/
def tabled (i : Word) : State :=
  let s := ready .timed 0x7F [(.nwa, .s i)]
  let b := leBytes 16 (1 + 2 ^ 32 + 2 ^ 64) ++ leBytes 112 255 ++ leBytes 248 1023 ++ leBytes 776 447
  let o : Obj := { fn := 0, base := 0, bundles := 8, code := 8, isaMin := 0, numProf := 2, det := false, timed := true, yieldGap := 0, disp := []
                   sects := [{ ty := 4, opt := false, dies := 7, off := 0, size := 0, addr := 0, body := b }], windows := [] }
  { s with host := { s.host with objs := s.host.objs.set 0 { gen := 1, obj := some o } } }

theorem witness_tables :
    (Met (tabled 447) (.s 2) 0x1B0 [.nwa] fun a => (tokWord a.word).isSome = true ∧ a.st.nwTokFaults a.word = [] ∧
      (a.st.routesEntry 0 (a.op .nwa).toNat).map (routeLegal a.st.turn) = some true) ∧
    (Met (tabled 255) (.s 2) 0x1B1 [.nwa] fun a => (tokWord a.word).isSome = true ∧ a.st.nwTokFaults a.word = [] ∧
      (a.st.routesEntry 1 (a.op .nwa).toNat).isSome = true) ∧
    Met (tabled 1023) (.s 2) 0x1B2 [.nwa] fun a => (tokWord a.word).isSome = true ∧ a.st.nwTokFaults a.word = [] ∧
      (a.st.routesEntry 2 (a.op .nwa).toNat).isSome = true :=
  ⟨met_of (by decide +kernel), met_of (by decide +kernel), met_of (by decide +kernel)⟩

theorem witness_FillCommandsComplete :
    (∀ x ∈ [((0x1E0 : BitVec 9), FillKind.fill), (0x1E1, .spill), (0x1E2, .bfill), (0x1E3, .gfill), (0x1E4, .sspill)],
      Met (ready .timed (0x7F + (70064 * 2 ^ 32)) [(.fea, .s 0xFFF00), (.feb, .s (0x100000 + 0x200))]) (.s 2) x.1 [.fea, .feb] fun a =>
        feFields x.2 (a.op .fea) (a.op .feb) = true ∧
          (tokWord a.word).map (fun t => (a.st.curToken t.prod,
            a.st.admission (a.st.fillOf x.2 (a.op .fea) (a.op .feb) t) (startCount a.st.group.count t.start))) =
              some (.clear, [])) ∧
    Met (ready .timed 65536 [(.fea, .s 0x10000)]) (.s 2) 0x1E5 [.fea] fun a => a.st.pinFaults (a.op .fea) a.word = [] := by
  refine ⟨fun x hx => ?_, met_of (by decide +kernel)⟩
  fin_cases hx <;> exact met_of (by decide +kernel)

/-- The free context in member 0 of groups 0 and 63. -/
def linked (v : Word) (l : List (Latch × Value)) : State :=
  let s := ready .free v l
  { s with links := { s.links with groups := (s.links.groups.set 0 1).set 63 1 } }

theorem witness_FabricAccessesComplete :
    (∀ x ∈ ports 0x0D8 3 [] ++ ports 0x0DB 2 [.fxa] ++ ports 0x0DE 7 [.fxa] ++ ports 0x0E5 1 [.fxa, .fxb],
      Met (linked 0x100 [(.fxa, .s 0xFFFFFF00)]) (.s 2) x.1 x.2 fun a => fabOffset a.word % 256 = 0 ∧ fabOffset (a.op .fxa) % 8 = 0 ∧
        a.st.ctx.fxFull (.amo .add 0 0) true = [] ∧ a.st.ctx.queueFull .both = false ∧ a.st.atIssue (.ld true) a.word = none ∧
        a.st.atIssue (.amo .add 0 0) (a.op .fxa) = none) ∧
    (Met (linked 0 [(.fxa, .s 0xFFFFFF00)]) (.w 1) 0x0DD [.fxa] fun a => fabOffset (a.op .fxa) % 256 = 0 ∧
      a.st.atIssue (.strow (valRow a.v)) (a.op .fxa) = none) ∧
    ∀ x ∈ ports 0x0E6 7 [.fxa, .fxc] ++ ports 0x0ED 1 [.fxa, .fxb, .fxc],
      Met (linked 0x100 [(.fxa, .s 0xFFFFFFF8), (.fxc, .s (0x300FFFF8 + 63 * 2 ^ 32))]) (.s 2) x.1 x.2 fun a =>
        fabOffset (a.op .fxa) % 8 = 0 ∧ a.st.ordFaults (a.op .fxc) = [] ∧ a.st.ctx.fxFull (.amoOrd .add 0 0 0 0 0) true = [] ∧
        a.st.ctx.queueFull .both = false ∧ a.st.atIssue (.amoOrd .add 0 0 0 (ordGroup a) 0) (a.op .fxa) = none := by
  refine ⟨fun x hx => ?_, met_of (by decide +kernel), fun x hx => ?_⟩
  all_goals fin_cases hx <;> exact met_of (by decide +kernel)

theorem witness_FabricExchangesComplete :
    (Met (linked (2 ^ 24) [(.fxa, .s 0xFFFFFFE0), (.fxb, .s 0xFFFFFFE0)]) (.s 2) 0x0EE [.fxa, .fxb] fun a =>
      rdelLen a.word = true ∧ fabOffset (a.op .fxa) % 32 = 0 ∧ fabOffset (a.op .fxb) % 32 = 0 ∧ bit (a.op .fxb) 63 = false ∧
      a.st.atIssue (.rdel (a.op .fxb) a.word.toNat) (a.op .fxa) = none) ∧
    (∀ x ∈ [MlrOp.addF32, .addBf16, .maxF32, .maxBf16, .minF32, .minBf16, .addI32, .addI64],
      Met (linked 4096 [(.fxa, .s 0xFFFFFFE0), (.fxb, .s 0x1000000000000000)]) (.s 2) 0x0F0 [.fxa, .fxb] fun a =>
        a.word.toNat % mlrWidth x = 0 ∧ mlrWidth x ≤ a.word.toNat ∧ a.word.toNat ≤ 4096 ∧ bit (a.op .fxa) 63 = false ∧
        fabOffset (a.op .fxa) % mlrWidth x = 0 ∧ a.st.mlrDest x (a.op .fxb) a.word.toNat = [] ∧
        a.st.atIssue (.mlr x (a.op .fxb) a.word.toNat) (a.op .fxa) = none) ∧
    (Met (linked 0 [(.fxa, .s 0xFFFFFFF8)]) (.imm 1) 0x0F8 [.fxa] fun a => fabOffset (a.op .fxa) % 8 = 0 ∧
      a.st.atIssue (.flag a.word) (a.op .fxa) = none) ∧
    (Met (linked 63 []) (.s 2) 0x0F9 [] fun a => a.word.toNat < 64 ∧
      a.st.atIssue (.sstep (BitVec.ofNat 6 a.word.toNat)) a.word = none) ∧
    (Met (linked 1023 [(.fxa, .s 1023)]) (.w 1) 0x0FC [.fxa] fun a => bit a.st.pkg.caps 0 = true ∧ (a.op .fxa).toNat < 1024 ∧
      a.st.atIssue (.mbsend (a.op .fxa).toNat (valRow a.v)) (a.op .fxa) = none) ∧
    (∀ x ∈ ports 0x0FD 2 [], Met (linked 1023 []) (.s 2) x.1 x.2 fun a => bit a.st.pkg.caps 0 = true ∧ a.word.toNat < 1024 ∧
      a.st.atIssue (.mbrecv a.word.toNat) a.word = none) ∧
    (Met (linked 8 [(.fxa, .s (5 * 1024 + 1023))]) (.s 2) 0x0FF [.fxa] fun a => bit a.st.pkg.caps 0 = true ∧
      penLegal (a.op .fxa) a.word = true) := by
  refine ⟨met_of (by decide +kernel), fun x hx => ?_, met_of (by decide +kernel), met_of (by decide +kernel),
    met_of (by decide +kernel), fun x hx => ?_, met_of (by decide +kernel)⟩
  all_goals fin_cases hx <;> exact met_of (by decide +kernel)

/-- The context with stream 15 configured for it, a row in its buffer or none. -/
def streaming (l : List (BitVec 2048)) : State :=
  (linked 15 [(.fxa, .s 15)]).onDie fun d => { d with streams := d.streams.set 15 { cfg := 0x10000, buf := l, credits := 1 } }

theorem witness_streams :
    (Met (streaming []) (.w 1) 0x0FA [.fxa] fun a => a.st.streamNoFaults (a.op .fxa) = [] ∧
      a.st.noCredit (BitVec.ofNat 4 (a.op .fxa).toNat) = false) ∧
    (Met (streaming [1]) (.s 2) 0x0FB [] fun a => a.st.streamNoFaults a.word = [] ∧ a.st.ctx.placesFull .fxq = false ∧
      ((a.st.place .fxq).popStream (BitVec.ofNat 4 a.word.toNat)).isSome = true ∧
      ((a.st.place .fxq).spopWaits a.st.turn (BitVec.ofNat 4 a.word.toNat)).isNone = true) ∧
    Met (streaming []) (.s 2) 0x0FB [] fun a => a.st.streamNoFaults a.word = [] ∧ a.st.ctx.placesFull .fxq = false ∧
      ((a.st.place .fxq).popStream (BitVec.ofNat 4 a.word.toNat)).isNone = true :=
  ⟨met_of (by decide +kernel), met_of (by decide +kernel), met_of (by decide +kernel)⟩

/-! ### Witnesses: the step, bring-up, folds and the sideband -/

theorem witness_StepRunsTheDecodedSlot :
    ((ready .free 0 []).clocked = true ∧ (ready .free 0 []).ctx.grp = some late ∧ late.left = [⟨0, 0, 0⟩, ⟨0, 1, nopWord⟩] ∧
      decodeMove 0 = .ok (.move ⟨false, 0⟩ false (.s 0) (.s 0))) ∧
    decodeMove (word 0 0 1 0 6 0x048) = .error .holdBit ∧
    (State.reset.midGroup = false ∧ isEvent .perstRelease = true) ∧
    ({ State.reset with pkg := { Package.reset with power := true, stage := 1 } }.due = some .stageA) :=
  ⟨⟨by decide +kernel, rfl, rfl, rfl⟩, rfl, by decide +kernel, by decide +kernel⟩

/-- The free context of die 0 at a group boundary before a bundle that holds a NOP alone in its first group. -/
def boundary (k : CtxKind) : State :=
  let s := (ready k 0 []).onCtx fun c => { c with grp := none, codeLen := 1 }
  let s := s.onDie fun d => { d with pstore := d.pstore.write 0 (bytesOfBundle (bundleOfWord nopWord)), current := some 0 }
  let s := { s with pkg := { s.pkg with level := 0 } }
  ([0, 1, 2] : List DieId).foldl (fun (s : State) d => s.onDieAt d fun x => { x with tick := 1, scy := 1 }) s

theorem witness_StepFetchesTheNextGroup_free :
    (boundary .free).clocked = true ∧ (boundary .free).ctx.grp = none ∧ (boundary .free).agenda = [] ∧ (boundary .free).due = none ∧
    (boundary .free).cycleStart.die.frozen = false ∧ (boundary .free).cycleStart.die.timedCid = none ∧
    (boundary .free).cycleStart.die.current = some 0 ∧ ((boundary .free).cycleStart.die.ctxAt 0).freeNow = true ∧
    (boundary .free).cycleStart.readyAt 0 = true ∧ (boundary .free).cycleStart.nextReady 0 = none ∧
    ((((boundary .free).cycleStart.settled 0).1.die.ctxAt 0).resumes = none) ∧
    ((((boundary .free).cycleStart.settled 0).1.atGroup 0).openAt ((boundary .free).cycleStart.settled 0).2.1
      ((boundary .free).cycleStart.settled 0).2.2).toOption.isSome = true := by decide +kernel

theorem witness_StepFetchesTheNextGroup_timed :
    (boundary .timed).clocked = true ∧ (boundary .timed).ctx.grp = none ∧ (boundary .timed).agenda = [] ∧ (boundary .timed).due = none ∧
    (boundary .timed).cycleStart.die.frozen = false ∧ (boundary .timed).cycleStart.die.timedCid = some 0 ∧
    ((boundary .timed).cycleStart.die.ctxAt 0).fcHolds = false ∧
    ((((boundary .timed).cycleStart.settled 0).1.die.ctxAt 0).timedIssues = true) ∧
    ((((boundary .timed).cycleStart.settled 0).1.die.ctxAt 0).resumes = none) ∧
    ((((boundary .timed).cycleStart.settled 0).1.atGroup 0).openAt ((boundary .timed).cycleStart.settled 0).2.1
      ((boundary .timed).cycleStart.settled 0).2.2).toOption.isSome = true := by decide +kernel

theorem witness_StepKeepsMemoryCanonical : State.reset.memOk = true ∧ (State.reset.agenda = [] ∧ State.reset.midGroup = false) := by
  decide +kernel

theorem witness_MovesWriteNoMemory :
    Instr.nop.parts ≠ .event ∧ ∃ t, exec .nop (ready .free 0 []) = .next t := by
  exact ⟨by decide, _, rfl⟩

/-- The package at a stage of bring-up. -/
def staged (n : Nat) (l : BitVec 2) : State :=
  { State.reset with pkg := { Package.reset with power := true, stage := n, level := l, caps := 0x02010007, dieUp := 7 } }

/-- The three checks of R30 read the manifest, the fused hash and the fused security version. -/
theorem failing_of {p q : Package} (h1 : p.manifest = q.manifest) (h2 : p.rootHash = q.rootHash) (h3 : p.svnHeld = q.svnHeld) :
    p.failing = q.failing := by
  simp only [Package.failing, h1, h2, h3]

/-- The manifest of State.reset is signed: its root key has the fused hash, its signature is right (R30). -/
theorem reset_passes : Package.reset.failing = none := by decide +kernel

theorem witness_BringUpStagesComplete :
    State.reset.pkg.power = false ∧ ((staged 1 0).inStage 1 = true ∧ (staged 1 0).pkg.failing = none) ∧
    (((staged 1 0).onPkg fun p => { p with rootHash := 0 }).inStage 1 = true ∧
      ((staged 1 0).onPkg fun p => { p with rootHash := 0 }).pkg.failing = some 1) ∧
    (staged 2 0).inStage 2 = true ∧ (staged 3 0).inStage 3 = true ∧
    (staged 4 1).inStage 4 = true ∧ ((staged 5 2).inStage 5 = true ∧ (staged 5 2).pkg.level = 2) ∧
    ((staged 1 0).pkg.stopped = false ∧ (0x22 : BitVec 8).toNat ∈ (staged 1 0).pkg.failsWith ∧
      (0x24 : BitVec 8).toNat ∈ (staged 4 1).pkg.failsWith) ∧
    ((staged 5 2).pkg.stopped = false ∧ (0x33 : BitVec 8).toNat ∈ (staged 5 2).pkg.failsWith) :=
  ⟨rfl, ⟨by decide +kernel, (failing_of (p := (staged 1 0).pkg) rfl rfl rfl).trans reset_passes⟩, by decide +kernel, by decide +kernel,
    by decide +kernel, by decide +kernel, by decide +kernel, by decide +kernel, by decide +kernel⟩

/-- The package whose die 2 has found die 1's clock too far from its own. -/
def drifting : State := (staged 5 2).onDieAt 2 fun d => d.onPartner 1 fun p => { p with drift := true }

theorem witness_PackageResetsComplete : (staged 5 2).pkg.power = true ∧
    115 ≤ ((staged 5 2).onPkg fun p => { p with tempDie := 115 }).pkg.tempDie.toNat ∧
    80 ≤ ((staged 5 2).onPkg fun p => { p with tempLaser := 80 }).pkg.tempLaser.toNat ∧
    drifting.inService 2 = true ∧ (drifting.dieAt 2).drifts = true := by decide +kernel

/-- The fold of dies 0 and 1 with a message waiting at die 1. -/
def told (m : Msg) : State :=
  (folded 0 []).onDieAt 1 fun d => { d with inbox := [{ origin := 0, usable := 0, msg := m }] }

theorem witness_SidebandEventsComplete :
    ((folded 0 []).clockedAt 2 = true ∧ ((folded 0 []).dieAt 2).tick.toNat % 32 = 0 ∧
      ((folded 0 []).dieAt 2).sentTick ≠ some ((folded 0 []).dieAt 2).tick) ∧
    ((told (.count 5 5 true)).clockedAt 1 = true ∧
      ((told (.count 5 5 true)).dieAt 1).inbox = [{ origin := 0, usable := 0, msg := .count 5 5 true }] ∧
      (0 : Word) ≤ ((told (.count 5 5 true)).dieAt 1).tick) ∧
    (∃ k c, ((folded 0 []).onDieAt 1 fun d => d.onPartner 0 fun p => { p with missing := 3 }).foldTask 1 = some (k, c) ∧
      k.fold.getLsbD 0 = true ∧ k.startedOn 1 = true ∧
      3 ≤ (((folded 0 []).onDieAt 1 fun d => d.onPartner 0 fun p => { p with missing := 3 }).dieAt 1 |>.partners.get 0).missing) ∧
    (∃ k c, (told (.freeze 0 1 65535 0 true)).foldTask 1 = some (k, c) ∧ k.fold.getLsbD 0 = true ∧
      (1 : BitVec 8) = (((told (.freeze 0 1 65535 0 true)).dieAt 1).partners.get 0).eseq + 1) ∧
    (∃ k c, (told (.stop 1 0 0 0x30)).foldTask 1 = some (k, c) ∧ k.fold.getLsbD 0 = true ∧
      (k.stopCounts.any fun z => z.1 == 1) = false ∧
      (1 : BitVec 8) = (((told (.stop 1 0 0 0x30)).dieAt 1).partners.get 0).eseq + 1 ∧
      ∀ m, (((told (.stop 1 0 0 0x30)).dieAt 1).ctxAt c).status ≠ .stalled m) ∧
    ((staged 5 2).inService 1 = true ∧ (staged 5 2).inService 2 = true ∧ (staged 5 2).inService 0 = true) :=
  ⟨by decide +kernel, by decide +kernel, ⟨_, _, rfl, by decide +kernel, by decide +kernel, by decide +kernel⟩,
    ⟨_, _, rfl, by decide +kernel, by decide +kernel⟩,
    ⟨_, _, rfl, by decide +kernel, by decide +kernel, by decide +kernel, fun _ h => by cases h⟩, by decide +kernel⟩

/-- The fold with a frame that arrives on lane 7 of die 1. -/
def arriving : State :=
  (folded 0 []).onDieAt 1 fun d => { d with flight := [{ lane := 7, row := Row.zero, stamp := 9, arrive := 0 }] }

theorem witness_farLaneFrame :
    ((arriving.dieAt 1).flight.find? fun f => f.lane == 7 && decide (f.arrive ≤ (arriving.dieAt 1).tick)) =
      some { lane := 7, row := Row.zero, stamp := 9, arrive := 0 } ∧ lanePeer 1 7 = some (0, 7, false) ∧
    ((arriving.dieAt 1).lane 7).length < 24 ∧
    ∃ k c, arriving.foldTask 1 = some (k, c) ∧ k.fold.getLsbD 0 = true ∧ arriving.lanesStopped k 1 c = false :=
  ⟨by decide +kernel, by decide +kernel, by decide +kernel, _, _, rfl, by decide +kernel, by decide +kernel⟩

theorem witness_ErrorEventsComplete :
    ((ready .timed 0 []).clockedAt 0 = true ∧ (((ready .timed 0 []).dieAt 0).ctxAt 0).kind ≠ .none ∧
      ((ready .timed 0 []).task? (((ready .timed 0 []).dieAt 0).ctxAt 0).lid).isSome = true) ∧
    (((ready .timed 0 []).dieAt 0).ctxAt 3).kind = .none ∧ 0 < spUnits ∧
    ((ready .timed 0 []).dieAt 0).spEcc.lookup 0 = none ∧ (ready .timed 0 []).pkg.power = true ∧ hbmSize - 1 < hbmSize ∧
    (ready .timed 0 []).hbmBad (hbmSize - 1) 1 = false ∧
    ({ ready .timed 0 [] with hbmEcc := [hbmSize - 32] } : State).hbmBad (hbmSize - 1) 1 = true := by
  decide +kernel

theorem witness_FreezeDebtIsPaid :
    ((boundary .timed).onDie fun d => { d with debt := 1 }).clocked = true ∧
    ((boundary .timed).onDie fun d => { d with debt := 1 }).die.debt = 1 ∧
    ((boundary .timed).onDie fun d => { d with debt := 1 }).die.stopFrozen = false ∧
    ((boundary .timed).onDie fun d => { d with debt := 1 }).ctx.grp = none := by decide +kernel

/-! ### Witnesses: the host port, power and trust -/

/-- The package at level 3 with no task. -/
def up : State := { ready .timed 0 [] with sched := State.reset.sched }

theorem witness_HostQueueEventsComplete :
    (up.hostUp = true ∧ (up.queue 3).func = 0 ∧ up.windowOpen 0 3 = true) ∧
    (stagingWide 24 8 = true ∧ 24 + 8 < 64 ∧ stagingWide 60 4 = false) ∧ (stagingWide 56 8 = true ∧ (56 + 8 = 64)) ∧
    (stagingWide 0 64 = true ∧ (up.queue 1023).recs.length < 64) ∧
    (64 ≤ ((up.onQueue 0 fun q => { q with recs := List.replicate 64 (0, List.replicate 64 0) }).queue 0).recs.length) ∧
    (up.sealed (up.queue 1023).func = false ∧ up.refusesPf (up.queue 1023).func = false ∧ up.queueBusy 1023 = false) ∧
    (up.onQueue 0 fun q => { q with recs := [(0, List.replicate 64 0)] }).queueBusy 0 = true := by decide +kernel

theorem witness_HostRegisterEventsComplete :
    (fld ((431 : Word) <<< 30) 30 9 < 432 ∧ up.sealedOp = false ∧ ∀ n < 64, up.refusesPf (BitVec.ofNat 6 n) = false) ∧ up.bar4Addr (2 ^ 36) 1 = none ∧
    (up.bar4Addr 65535 2 = some 65535 ∧ ∀ x ∈ pagePieces 65535 2, up.slotOf x.1 = 0 ∧ up.hbmBad x.1 x.2 = false) ∧
    up.clockedAt 1 = true ∧ up.firmware = true ∧ slotBad (BitVec.ofNat 64 (hbmSize / 65536 - 1)) = false := by decide +kernel

/-- A governor interval in force at die 0. -/
def governed0 : State :=
  { up with pkg := { up.pkg with interval := up.pkg.interval.set 0 (some { n := 100, sub := 0, since := 0 }) } }

theorem witness_PowerEventsComplete :
    (1200 ≤ fld (1200 : Word) 0 12 ∧ fld (2800 : Word) 0 12 ≤ 2800 ∧ 2800 < fld (2801 : Word) 0 12 ∧ fld (1199 : Word) 0 12 < 1200) ∧
    up.clockedAt 1 = true ∧ (bit (1 : Word) 1 = false ∧ bit (2 : Word) 1 = true) ∧
    (({ up with pkg := { up.pkg with hold := true } }.onDieAt 1 fun d => { d with tick := 400000 }).pkg.hold = true ∧
      400000 ≤ ((({ up with pkg := { up.pkg with hold := true } }.onDieAt 1 fun d => { d with tick := 400000 }).dieAt 1).tick - 0).toNat) ∧
    ((up.onDieAt 1 fun d => { d with tick := 100000 }).pkg.power = true ∧
      100000 ≤ (((up.onDieAt 1 fun d => { d with tick := 100000 }).dieAt 1).tick - up.pkg.settleAt).toNat) ∧
    (governed0.pkg.interval.get 0 = some { n := 100, sub := 0, since := 0 } ∧ governed0.clockedAt 0 = true ∧
      2000 * 0 ≤ ((governed0.dieAt 0).tick - 0).toNat ∧ governed0.raises 0 = true) ∧
    (({ folded 0 [] with pkg := { governed0.pkg with interval := governed0.pkg.interval.set 1 (some { n := 100, sub := 0, since := 0 }) } }).pkg.interval.get 1 =
        some { n := 100, sub := 0, since := 0 } ∧
      ({ folded 0 [] with pkg := governed0.pkg } : State).raises 1 = false ∧
      ({ folded 0 [] with pkg := governed0.pkg } : State).clockedAt 1 = true) := by decide +kernel

/-- Function 63 at a place of its exchange, with its interface in a state and a stream's keys. -/
def party (x : Spdm) (t : Tdi) : State :=
  { up with host := { up.host with fns := up.host.fns.set 63 { Fn.reset 63 with spdm := x, tdi := t, ides := [7], slot := 15 } } }

theorem witness_SpdmEventsComplete :
    (up.hostUp = true ∧ (up.fn 63).spdm ≠ .session) ∧ ((party .version .unlocked).fn 63).spdm = .version ∧
    ((party .capabilities .unlocked).fn 63).spdm = .capabilities ∧ 3 ≤ ((party .negotiated .unlocked).fn 63).spdm.rank ∧
    (((party .negotiated .unlocked).fn 63).spdm = .negotiated ∧ (party .negotiated .unlocked).pkg.idOk = true) ∧
    ((party .exchanged .unlocked).fn 63).spdm = .exchanged ∧
    (((party .session .unlocked).fn 63).spdm = .session ∧ ((party .session .unlocked).fn 63).tdi = .unlocked) ∧
    (party .session .run).sealed 63 = true := by decide +kernel

theorem witness_TdispEventsComplete :
    (∀ n < 64, BitVec.ofNat 6 n ≠ 63 → ((party .session .unlocked).fn (BitVec.ofNat 6 n)).ides.contains 7 = false) ∧
    (7 ∈ ((party .session .unlocked).fn 63).ides ∧ ((party .session .unlocked).fn 63).tdi = .unlocked) ∧
    ((63 : BitVec 6) ≠ 0 ∧ (party .session .unlocked).lockedVfs < 15 ∧ ((party .session .unlocked).fn 63).ides ≠ [] ∧
      (party .session .unlocked).freeTenantSlot = some 1) ∧
    ((party .session .locked).fn 63).tdi = .locked ∧ (party .session .locked).hostUp = true := by decide +kernel

/-! ### Witnesses: light, links and planes -/

/-- A flit of zeros from member 1. -/
def flit0 : Flit :=
  { lseq := 0, lack := 0, xseq := 0, vc := 0, dst := 0, src := 1, die := 0, op := 1, first := true, last := true
    rtag := 0, nsec := 0, reserved := 0, payload := [], nonce := 0, transit := false }

/-- Port 11 is up, with an unacknowledged flit. -/
def lit (f : Port → Port) : State :=
  let x : Flit := { lseq := 0xFFFF, lack := 0, xseq := 0, vc := 0, dst := 1, src := 0, die := 0, op := 1, first := true, last := true
                    rtag := 0, nsec := 0, reserved := 0, payload := [], nonce := 0, transit := false }
  up.onPort 11 fun p => f { p with st := .up, unacked := [x] }

theorem witness_LightEventsComplete :
    (bit (lit id).pkg.caps 2 = true ∧ (lit id).receives 11 = true ∧ (up.onPort 11 fun p => { p with st := .up }).receives 11 = true) ∧
    ((lit id).links.port 11).st = .up ∧
    ((((lit id).links.port 11).lose (.wave 15)).map fun x => (decide (x.mask ≠ 0), decide (x.mask ≠ x.live))) = some (true, true) ∧
    ((((lit id).links.port 11).lose (.comb 3)).map fun x => (decide (x.mask ≠ 0), decide (x.mask ≠ x.live))) = some (true, true) ∧
    (((lit id).links.port 11).lose (.seen 15)).isSome = true ∧
    ((up.onPort 11 fun p => { p with st := .up }).links.port 11).st = .up ∧
    ((up.onPort 11 fun p => { p with st := .up }).links.port 11).unacked = [] ∧
    ((lit fun p => { p with spareWait := some 3 }).links.port 11).spareWait = some 3 ∧
    ((lit fun p => { p with lambdaWait := some 15 }).links.port 11).lambdaWait = some 15 := by decide +kernel

/-- The payload of that flit as a sender encrypts it under the key 0 and the nonce 0 (Table 02.9). -/
def wire0 : BitVec 2048 :=
  0x34e4c0a953ad592ac7bfc1826edfd64e2601dc09e3568be9bd43ee7c5aa09014#256 ++
  0x2ebed72878d56aa9e126869c2410b7b0c65fa306e507faf51ee5544bc0788b76#256 ++
  0x662452fb29f55eac70600a625e2262f3cadd507183b558bf34ed57f3bdeb21bb#256 ++
  0x79d505a837f50de5a86872e2964214a186d39c2c34e8fc37b1f4d866bbc26243#256 ++
  0x126017930eb78763f3e03728abe10aba29fc2ce5c5bdb05f24da856ecd77faab#256 ++
  0xad1d5e54661cbce62da6cec0b049afbca0679141e0ac9560372da821738fc4d0#256 ++
  0x1f3a0cabe31d7c61307fbb81e1cb4147f7360c472459e8417be14a4d28b14add#256 ++
  0x8e3506758ef5a2d1742aa637ca036072189df3bad3c54e076e6b604d3d40a7ce#256

set_option maxRecDepth 20000 in
theorem witness_dataFlit :
    (arrives (lit id) 11 0x00000000000018201001000000000000 wire0 0xd51f989648dcff71 0xa835b91978de3310 == .good { flit0 with payload := List.replicate 256 0 }) = true := by
  decide +kernel

set_option maxRecDepth 20000 in
theorem witness_dataFlit_lost : arrives (lit id) 11 0 0 1 0 = .lost := by decide +kernel

theorem witness_LinkLayerEventsComplete :
    (lit id).receives 11 = true ∧
    (flit0.lseq = ((lit id).links.port 11).rxSeq ∧ (lit id).links.aheadOfWindow 1 { flit0 with payload := List.replicate 256 0 } = false) ∧
    ((((lit id).links.port 11).ack 0xFFFE).unacked ≠ [] ∧ (((lit id).links.port 11).ack 0xFFFE).replays < 8) ∧
    ((lit fun p => { p with replays := 7 }).receives 11 = true ∧ ((lit fun p => { p with replays := 7 }).links.port 11).unacked ≠ [] ∧
      ((lit fun p => { p with replays := 7 }).links.port 11).replays < 8) ∧
    ((lit fun p => { p with gap := true }).receives 11 = true ∧ ((lit fun p => { p with gap := true }).links.port 11).gap = true) := by decide +kernel

/-- Every plane in a state. -/
def planed (x : PlaneSt) : State := { up with links := { up.links with planes := .replicate 4 x } }

theorem witness_PlaneEventsComplete :
    (planed .enabled).clockedAt 1 = true ∧ bit (planed .enabled).pkg.caps 2 = true ∧
    ((planed .enabled).links.planes.toList.all (fun x => x == .enabled) = true ∧ (planed .enabled).links.planes.get 3 = .enabled ∧
      (planed .enabled).links.planes.get 3 ≠ .drained ∧ (planed .enabled).links.planes.toList.all (fun x => x == .drained) = false) ∧
    ((planed .drained).links.planes.get 3 = .drained ∧ (planed .drained).links.planes.toList.all (fun x => x == .drained) = true) ∧
    ((planed .draining).links.planes.get 3 = .draining ∧ ∀ p ∈ planePorts 3, ((planed .draining).links.port p).unacked = []) ∧
    ((planed .training).links.planes.get 3 = .training ∧ (planed .training).opticsUp = true) := by decide +kernel

/-! ### Witnesses: fabric and streams -/

/-- The package with window 0 over the rows of die 0 for address space 0, and packets in its inbox. -/
def owning (l : List Packet) : State :=
  let s := ready .timed 0 []
  { s with links := { s.links with
      windows := s.links.windows.set 0 #v[0x7003F, 0, 0x100000, 0xFFFFFFFFFFFFFFFF, 0xFFFFFFFFFFFFFFFF, 0]
      inbox := l, groups := s.links.groups.set 63 1 } }

/-- A request for the last 8 bytes of window 0. -/
def request (op : BitVec 6) (key : BitVec 32) : Packet :=
  { packet0 with op := op, taddr := 0xFFFF8, length := 8, key := key, data := List.replicate 8 1, group := 63 }

/-- Is a request served at once? -/
def served (op : BitVec 6) : Bool :=
  let p := request op 7
  match (owning [p]).inboxAt op 0, (owning [p]).requestCheck p with
  | some q, .ok w =>
    (owning [p]).requestBad p == none && !((owning [p]).workOf p).any (owning [p]).pieceRests &&
    match (noted (owning [p]) p).performPieces { p with checked := true, work := w } w with
    | (_, some r) => q == p && !w.isEmpty && r.work.isEmpty
    | _ => false
  | _, _ => false

/-- Is a request refused? -/
def turned (p : Packet) : Bool :=
  match (owning [p]).inboxAt p.op 0, (owning [p]).requestCheck p with
  | some q, .error (_, ev) => q == p && !p.checked && !((owning [p]).workOf p).any (owning [p]).pieceRests && (!ev || (noted (owning [p]) p).requestBad p == none)
  | _, _ => false

theorem witness_FabricRequestsComplete :
    (∀ op ∈ ([0x01, 0x03, 0x04, 0x0B, 0x0C, 0x0E, 0x06, 0x08] : List (BitVec 6)), served op = true) ∧
    (∀ op ∈ ([0x01, 0x03, 0x04, 0x0B, 0x0E, 0x06, 0x08] : List (BitVec 6)), turned (request op 8) = true) ∧
    turned { request 0x0C 7 with taddr := 0x100000 } = true ∧
    aopOf 7 = some .cas ∧ ((owning [request 0x08 7]).links.groupMembers 63).contains 0 = true ∧ (owning [request 0x08 7]).links.stepOver 63 ((owning [request 0x08 7]).links.stepOf 0 63) = false := by
  decide +kernel

/-- A transaction of context 0 of die 0 with tag 4095. -/
def trans (op : RemOp) (addr : Word) : Trans :=
  { tag := 0xFFF, die := 0, ctx := 0, lid := 1, seq := 0, op := op, st := false, addr := addr, await := [0], failed := [], values := []
    reached := false, step := 0, sentAt := 0, hops := [] }

/-- The package that awaits a transaction, with an answer in its inbox. -/
def awaiting (t : Trans) (p : Packet) : State :=
  let s := ready .timed 0 []
  { s with links := { s.links with trans := [t], inbox := [{ p with rtag := 0xFFF }] } }

/-- Does an answer meet its transaction? -/
def answers (t : Trans) (op : BitVec 6) : Bool :=
  (awaiting t { packet0 with op := op }).inboxAt op 0 == some { packet0 with op := op, rtag := 0xFFF } &&
    (awaiting t { packet0 with op := op }).links.answered { packet0 with op := op, rtag := 0xFFF } == some t

theorem witness_FabricAnswersComplete :
    answers (trans (.ld true) 0) 0x02 = true ∧ answers (trans (.amo .cas 0 0) 0) 0x07 = true ∧ answers (trans (.flag 1) 0) 0x05 = true ∧
    ((awaiting (trans (.flag 1) 0) packet0).links.ssteps.any fun x => x.acks.contains 0xFFF) = false ∧
    ((awaiting (trans (.amoOrd .add 1 0 8 63 0) 0) { packet0 with op := 0x09 }).inboxAt 0x09 0).isSome = true ∧
    ((awaiting (trans (.amoOrd .add 1 0 8 63 0) 0) packet0).links.fetchedOf { packet0 with op := 0x09, caddr := 8, group := 63 }).isSome = true ∧
    ((awaiting (trans (.amoOrd .add 1 0 8 63 0) 0) packet0).dieAt (spDie (awaiting (trans (.amoOrd .add 1 0 8 63 0) 0) packet0).turn 8)).frozen = false ∧
    answers (trans (.amoOrd .add 1 0 8 63 0) 0) 0x0A = true ∧
    ((awaiting (trans (.amoOrd .add 1 0 8 63 0) 0) { packet0 with op := 0x0A, status := 5 }).links.answered { packet0 with op := 0x0A, rtag := 0xFFF, status := 5 }).isSome = true ∧ answers (trans (.rdel 0 256) 0) 0x0D = true ∧
    answers (trans (.rdelg 0 256) 0) 0x0D = true ∧ answers (trans (.mlr .addF32 0 256) 0) 0x0F = true ∧
    (fabricWait ≤ ((((awaiting (trans (.ld true) 0) packet0).onDieAt 0 fun d => { d with tick := 200000 }).dieAt 0).tick - 0).toNat) := by
  decide +kernel

/-- A message of superstep 0 of group 63, whose list is this package alone. -/
def telling (op : BitVec 6) : State :=
  owning [{ packet0 with op := op, group := 63 }]

theorem witness_supersteps :
    (∀ op ∈ [opArrive, opReady, opAbort, opDone], (telling op).inboxAt op 0 = some { packet0 with op := op, group := 63 } ∧
      ((telling op).links.groupMembers 63).contains 0 = true ∧ (telling op).closeRests 63 0 = false ∧ (telling op).links.stepOver 63 0 = false) ∧
    (let x : SStep := { group := 63, step := 0, phase := 1, die := 0, ctx := 0, lid := 1, seq := 0, st := false, acks := [], since := 0 }
     let s : State := (owning []).onDieAt 0 fun d => { d with tick := 200000 }
     fabricWait ≤ ((s.dieAt x.die).tick - x.since).toNat ∧
       (s.links.stepMembers x).find? (fun m => !s.links.holds x opArrive m) = some 0) := by decide +kernel

/-- Stream 15 of die 0 is open from member 0, its stream 0 of die 0, with a timeout of one unit. -/
def open15 (op : BitVec 6) : State :=
  let s := owning [{ packet0 with op := op, taddr := 15 }]
  s.onStreamAt 0 15 fun x => { x with cfg := 0x100010000 }

theorem witness_streamRows :
    (∀ op ∈ [(0x14 : BitVec 6), 0x15], (open15 op).inboxAt op 0 = some { packet0 with op := op, taddr := 15 } ∧
      streamMatches ((open15 op).streamAt 0 15).cfg { packet0 with op := op, taddr := 15 } = true) := by decide +kernel

/-- The free context of die 0 has been blocked at a read of stream 15 since tick 0. -/
def blocked15 : State :=
  let s := (boundary .free).onCtx fun c => { c with blocked := some (15, 0, false) }
  (s.onStreamAt 0 15 fun x => { x with cfg := 0x100010000 }).onDieAt 0 fun d => { d with tick := 2001 }

theorem witness_streamtimeout :
    (blocked15.die.ctxAt 0).blocked = some (15, 0, false) ∧ fld (blocked15.streamAt blocked15.turn 15).cfg 32 24 ≠ 0 ∧
    2000 * fld (blocked15.streamAt blocked15.turn 15).cfg 32 24 < (blocked15.die.tick - 0).toNat ∧ blocked15.die.frozen = false ∧
    (((blocked15.onCtxAt blocked15.turn 0 fun y => { y with blocked := some (15, 0, true) }).settled 0).1.openNext 0 0 []).2.toOption.isSome =
      true := by decide +kernel

/-! ### Witnesses: pens -/

/-- A pen of the task with 64 KiB of memory, its program at 0, x1 at the pen page, x2 = 1. -/
def pen (w : Nat) : Pen :=
  { st := .running, owner := 1
    desc := { image := 0, pbase := 0x100000, psize := 0x10000, xbase := 0x200000, xsize := 0x10000, stepBud := 0, epBud := 0, wallBud := 0
              mode := 0, detclk := false, die := 0 }
    episode := 0, actStep := 0, obsStep := 0, acts := [], obs := [], stage := 0, obsRes := 0, bound := none, endPosted := false
    endState := 0, endReason := 0, nAct := 0, nObs := 0, firstGen := 0, nsw := 0, switches := [], discard := 0, instret := 0
    stepCnt := 0, counting := false
    hart := { Hart.zero with x := ((Hart.zero.x.set 1 0x7FFFFFF000).set 2 1).set 17 (BitVec.ofNat 64 (w / 2 ^ 32 % 256)) |>.set 16 (BitVec.ofNat 64 (w / 2 ^ 40)) }
    copied := [0], waiting := false, stepAt := 0 }

/-- The package whose hart 0 runs that pen, at an instruction. -/
def penned (w : Nat) (f : Pen → Pen) : State :=
  let s := ready .timed 0 []
  let pin : TlbEntry := { asid := 0, vbase := 0, bits := 30, pbase := 0, rd := true, wr := true, kslot := 0 }
  let t := (task true 1 [(0, 0)])
  { s with
    hbm := (s.hbm.write 0x100000 (leBytes 4 w)).write imageHead (leBytes 4 w)
    sched := { s.sched with tasks := [t.setDie 0 fun d => { d with pinMap := [pin] }] }
    paddock := { s.paddock with
      pens := [(0, f (pen w))]
      harts := s.paddock.harts.set 0 { HartRegs.reset with serving := some 0, task := 1 } } }

/-- What the hart of the pen does next. -/
def nextOf (w : Nat) (f : Pen → Pen) : Option (RvEnv × RvNext) :=
  ((penned w f).penEnv 0).bind fun e => if e.p.waiting then none else some (e, e.next)

/-- Does it retire an instruction of a kind? -/
def retiresAs (w : Nat) (f : Pen → Pen) (k : RetireKind) : Bool :=
  match nextOf w f with
  | some (e, .retire _ wr) => retireKind wr == k && e.p.overBudget.isNone
  | _ => false

theorem witness_PenEventsComplete :
    retiresAs 0x00000013 id .plain = true ∧ retiresAs 0x3020B023 id .post = true ∧ retiresAs 0x1020B423 id .pop = true := by
  decide +kernel

theorem witness_wfi :
    (match nextOf 0x10500073 id with | some (e, .wfi _) => e.p.acts.isEmpty | _ => false) = true ∧
    (match nextOf 0x10500073 (fun p => { p with acts := [0] }) with
      | some (e, .wfi _) => !e.p.acts.isEmpty && e.p.overBudget.isNone | _ => false) = true ∧
    (match (penned 0x10500073 fun p => { p with acts := [0], waiting := true }).penEnv 0 with
      | some e => (match e.next with | .wfi _ => e.p.waiting && !e.p.acts.isEmpty && e.p.overBudget.isNone | _ => false)
      | none => false) = true := by decide +kernel

theorem witness_copyOnWrite :
    (match nextOf 0x00203023 (fun p => { p with copied := [] }) with
      | some (e, .copy k) =>
        ((e.runs .rd (splitRuns [(e.p.desc.image + imageHead + 4096 * k, 4096)])).toOption.map fun l =>
            !l.any fun r => e.s.hbmBad r.1 r.2) == some true &&
          (e.runs .wr (splitRuns [(e.p.desc.pbase + 4096 * k, 4096)])).toOption.isSome
      | _ => false) = true := by decide +kernel

theorem witness_penFaults :
    (match nextOf 0x00008183 id with | some (_, .access _ _) => true | _ => false) = true ∧
    (((penned 0x13 fun p => { p with counting := true, stepCnt := 1, desc := { p.desc with stepBud := 1 } }).penEnv 0).map fun e =>
      (e.retires, e.p.overBudget)) = some (true, some 1) ∧
    (((penned 0x13 fun p => { p with instret := 1, desc := { p.desc with epBud := 1 } }).penEnv 0).map fun e =>
      (e.retires, e.p.overBudget)) = some (true, some 2) := by decide +kernel

/-- The pen has counted a step for as long as its backstop allows. -/
def stalled (e : Bool) : State :=
  let s := penned 0x13 fun p => { p with counting := true, desc := { p.desc with wallBud := 1 } }
  let s : State := if e then s else { s with pkg := { s.pkg with padUp := false } }
  ([0, 1] : List DieId).foldl (fun (s : State) d => s.onDieAt d fun x => { x with tick := 2000 }) s

theorem witness_penTime :
    (((stalled true).pen? 0).map (stalled true).wallDue = some true ∧ ((stalled true).penEnv 0).map (fun e => e.p.overBudget) = some none) ∧
    (((stalled false).pen? 0).map (stalled false).wallDue = some true ∧ ((stalled false).penEnv 0).isNone = true) ∧
    (((penned 0x13 id).pen? 0).map Pen.over = some false ∧ ((penned 0x13 id).paddock.hartOf 0).isSome = true ∧
      ((penned 0x13 id).task? 1).isSome = true) := by decide +kernel

theorem witness_penHartSwitch :
    ∀ s ∈ [({ penned 0x13 id with paddock := { (penned 0x13 id).paddock with harts := .replicate 96 HartRegs.reset } } : State)],
      (s.pen? 0).map Pen.st = some .running ∧ (s.paddock.harts[31]?).isSome = true ∧ (s.task? 1).isSome = true ∧ s.pkg.padUp = true ∧
        servesPens 31 = true ∧ 31 / 32 = (0 : DieId).val ∧ s.paddock.hartOf 0 = none := by decide +kernel

/-- An ecall with EID 0x10 and a FID. -/
def ecall (fid : Nat) : Nat := 0x73 + 0x10 * 2 ^ 32 + fid * 2 ^ 40

theorem witness_SbiCallsComplete :
    ∀ x ∈ [(0, SbiCall.spec), (1, .implId), (2, .implVersion), (3, .probe), (4, .vendor), (5, .arch), (6, .imp), (7, .other)],
      (match nextOf (ecall x.1) id with | some (_, .sbi h) => sbiCall h == x.2 | _ => false) = true := by decide +kernel

/-! ### Witnesses: queue entries, pen control, tasks and engines -/

/-- An entry of context 0 of die 0. -/
def entry (op : QOp) (addr : Word) : Entry :=
  { seq := 0, side := .both, op := op, addr := addr, count := 0, left := [0], got := [], sent := false, held := false, replay := false, phase := .replicate 3 0, place := (0, 0) }

/-- The free context with that entry. -/
def queued (op : QOp) (addr : Word) : State := (ready .free 0 []).onCtx fun c => { c with entries := [entry op addr], seq := 1 }

/-- May the entry be performed? -/
def performs (op : QOp) (addr : Word) : Bool :=
  let s := queued op addr
  match ((s.dieAt 0).ctxAt 0).entry? 0, s.task? ((s.dieAt 0).ctxAt 0).lid with
  | some e, some k => e == entry op addr && s.mayPerform k 0 ((s.dieAt 0).ctxAt 0) e 0
  | _, _ => false

theorem performable_of {op : QOp} {addr : Word} (h : performs op addr = true) :
    ∃ k, Performable (queued op addr) 0 0 0 0 (entry op addr) k := by
  unfold performs at h
  dsimp only at h
  split at h
  · rename_i e k he hk
    simp only [Bool.and_eq_true, beq_iff_eq] at h
    obtain ⟨rfl, h2⟩ := h
    exact ⟨k, he, hk, h2⟩
  · cases h

theorem witness_QueueEntriesComplete :
    (∀ x ∈ [(QOp.ld .d true, (0x10000000000FFFF8 : Word)), (.st .b 255, 0x1000000000000000), (.srd 0x1480, 0), (.swr 0x0030 7, 0),
        (.swr 0x0400 7, 0), (.swr 0x13FF 7, 0), (.swr 0x1580 7, 0), (.st .d 0x100000000, 0xFFFFFF000018)],
      ∃ k, Performable (queued x.1 x.2) 0 0 0 0 (entry x.1 x.2) k) ∧
    (entry (.st .b 255) 0x1000000000000000).inAperture = false ∧ (entry (.st .d 0x100000000) 0xFFFFFF000018).clearsErr = true := by
  refine ⟨fun x hx => ?_, by decide +kernel, by decide +kernel⟩
  fin_cases hx <;> exact performable_of (by decide +kernel)

/-- Address space 0 with its first GiB mapped by a leaf of level 2, and a descriptor at 0x300000 of a pen of 64 KiB whose image stands at
0x400000. -/
def mapped (p : List (Nat × Pen)) (l : List Entry) : State :=
  let s := (ready .free 0 []).onCtx fun c => { c with entries := l, seq := 1 }
  { s with
    hbm := [(0x100000, 1), (0x100002, 0x20), (0x200000, 0xF), (0x300002, 0x40), (0x30000A, 0x50), (0x300012, 1), (0x400000, 0x50),
      (0x400001, 0x4E), (0x400002, 0x49), (0x40000A, 1)]
    host := { s.host with asidRoot := s.host.asidRoot.set 0 0x100001 }
    paddock := { s.paddock with pens := p } }

/-- Does a queued store of these bytes run, every check passed? -/
def storesNow (e : Entry) : Bool :=
  let s := mapped [] [e]
  match ((s.dieAt 0).ctxAt 0).entry? 0, s.task? 1 with
  | some x, some k =>
    x == e && ((s.dieAt 0).ctxAt 0).lid == 1 && s.mayPerform k 0 ((s.dieAt 0).ctxAt 0) e 0 &&
      lowestFail (s.byteFaults k 0 0 .wr e.phase e.addr e.left) == none && s.bytesBad k 0 e.addr e.left == none &&
      !(pieceOf e 0).isEmpty
  | _, _ => false

theorem witness_QueuedStore :
    (∀ x ∈ [(QOp.st .d 0x0102030405060708, (0x1000000000000008 : Word), 8), (.strow ⟨7, 9⟩ (some ⟨0xFF, 1⟩), 0x1000000000000100, 256),
        (.strow ⟨7, 9⟩ none, 0x1000000000000100, 256)],
      storesNow { entry x.1 x.2.1 with left := List.range x.2.2 } = true ∧ (∃ a, spaceOf x.2.1 = .scratch a)) ∧
    (∀ x ∈ [(QOp.st .d 0x0102030405060708, (0x3000 : Word), 8), (.strow ⟨7, 9⟩ none, 0x3100, 256)],
      storesNow { entry x.1 x.2.1 with left := List.range x.2.2 } = true ∧ (∃ a, spaceOf x.2.1 = .device a) ∧
        (entry x.1 x.2.1).inAperture = false) := by
  refine ⟨fun x hx => ?_, fun x hx => ?_⟩
  · fin_cases hx <;> exact ⟨by decide +kernel, _, rfl⟩
  · fin_cases hx <;> exact ⟨by decide +kernel, ⟨_, rfl⟩, by decide +kernel⟩

/-- A pen of the task with that descriptor. -/
def imaged (e : PenSt) : Pen :=
  { pen 0x13 with st := e, desc := { (pen 0x13).desc with image := 0x400000, pbase := 0x500000, xsize := 0 } }

theorem witness_penOperations :
    (let s := mapped [] []
     devAddr 0x300000 = some 0x300000 ∧
     (s.task? 1).map (fun k =>
       let b := s.readVirt k.asid 0x300000 64
       (s.rangeOk k .rd 0x300000 64, descLegal b (descOf 0 b), s.descOk k none (descOf 0 b), s.paddock.freePen)) =
         some (true, true, true, some 0) ∧
     s.pen? 1023 = none) ∧
    (let s := mapped [(3, imaged .running), (4, imaged .ended)] []
     (s.pen? 3).map (fun p => (p.owner, p.st == .running, p.desc)) = some (1, true, (imaged .running).desc) ∧
     (s.pen? 4).map (fun p => (p.owner, p.st == .ended, p.desc)) = some (1, true, (imaged .running).desc) ∧
     (s.task? 1).map (fun k => (k.lid, s.rangeOk k .wr 0x600000 (imageHead + 0x10000), s.rangeOk k .wr 0x600000 64)) = some (1, true, true)) ∧
    (let s := mapped [(3, imaged .running)] []
     (s.task? 1).map (fun k => s.descOk k (some 3) (imaged .running).desc) = some true) ∧
    (let s := mapped [(3, { pen 0x13 with owner := 2 })] []
     (s.pen? 3).map (fun p => decide (p.owner ≠ 1)) = some true) := by
  refine ⟨by decide +kernel, by decide +kernel, by decide +kernel, by decide +kernel⟩

/-- Does the operation pass, nothing that it reads withheld? -/
def reaches (op : PenOp) : Bool :=
  let s := queued (.remote (.pen op 1023 0) true) 0
  performs (.remote (.pen op 1023 0) true) 0 &&
    (match s.task? ((s.dieAt 0).ctxAt 0).lid with
     | some k => (s.penBad k 0 op 1023 0).isNone
     | none => false)

theorem reaching_of {op : PenOp} (h : reaches op = true) :
    ∃ k, Performable (queued (.remote (.pen op 1023 0) true) 0) 0 0 0 0 (entry (.remote (.pen op 1023 0) true) 0) k ∧
      (queued (.remote (.pen op 1023 0) true) 0).penBad k 0 op 1023 0 = none := by
  unfold reaches at h
  dsimp only at h
  rw [Bool.and_eq_true] at h
  obtain ⟨k, hk⟩ := performable_of h.1
  have h2 := h.2
  rw [hk.task] at h2
  exact ⟨k, hk, Option.isNone_iff_eq_none.mp h2⟩

theorem witness_PenControlCompletes :
    ∀ op ∈ [PenOp.create, .reset, .halt, .snap, .readrec, .destroy],
      ∃ k, Performable (queued (.remote (.pen op 1023 0) true) 0) 0 0 0 0 (entry (.remote (.pen op 1023 0) true) 0) k ∧
        (queued (.remote (.pen op 1023 0) true) 0).penBad k 0 op 1023 0 = none := by
  intro op hop
  fin_cases hop <;> exact reaching_of (by decide +kernel)

/-- The fold of dies 0 and 1 under a changed task. -/
def foldOf (f : Task → Task) (g : DieId → Ctx → Ctx) : State :=
  let s := folded 0 []
  let s : State := { s with sched := { s.sched with tasks := s.sched.tasks.map f } }
  ([0, 1] : List DieId).foldl (fun (s : State) d => s.onCtxAt d 0 (g d)) s

/-- A transfer of no bytes. -/
def moving (dirIn : Bool) : State :=
  { up with sched := { up.sched with want := true, xfers := [{ lid := 9, fn := 5, dirIn := dirIn, record := List.replicate 64 0, number := 0 }] } }

theorem witness_TaskEventsComplete_1 :
    ((moving true).pkg.power = true ∧ 1 ≤ (moving true).pkg.level.toNat ∧ (moving true).sched.want = true ∧
      20000 ≤ (((up.onDieAt 1 fun d => { d with tick := 20000 }).dieAt 1).tick - up.sched.passAt).toNat) ∧
    ((moving true).dieAt 1).frozen = false ∧
    ((moving true).sched.xfers.find? (fun x => x.lid == 9 && x.dirIn) =
        some { lid := 9, fn := 5, dirIn := true, record := List.replicate 64 0, number := 0 } ∧
      (moving true).xferRange 5 (recFld (List.replicate 64 0) 2 0 48) (recFld (List.replicate 64 0) 3 0 40) = false ∧
      ((moving true).openChunks { lid := 9, fn := 5, dirIn := true, record := List.replicate 64 0, number := 0 }
        (xferChunks (recFld (List.replicate 64 0) 3 0 40))).toOption = some []) ∧
    (moving false).sched.xfers.find? (fun x => x.lid == 9 && !x.dirIn) =
      some { lid := 9, fn := 5, dirIn := false, record := List.replicate 64 0, number := 0 } := by decide +kernel

/-- The fold whose dies have still to start. -/
def starting : State := foldOf (fun t => { t with st := .starting, startOn := 0 }) fun _ c => { c with grp := none, status := .held }

theorem witness_TaskEventsComplete_2 :
    (∃ k c, starting.foldTask 0 = some (k, c) ∧ k.startedOn 0 = false ∧ starting.clockedAt 0 = true ∧
      (starting.dieAt 0).stopFrozen = false ∧ (k.st == .resuming && (starting.dieAt 0).debt != 0) = false ∧ 0 = k.refDie ∧ k.startTick.toNat ≤ (starting.dieAt 0).tick.toNat) :=
  ⟨_, _, rfl, by decide +kernel, by decide +kernel, by decide +kernel, by decide +kernel, by decide +kernel, by decide +kernel⟩

/-- The fold at agreed count 0, which die 0 has reached, inside a window where `w` says so. -/
def agreeing (w : Bool) : State :=
  let a : Agreed := { count := 0, since := 0, named := if w then 2000000 else 0, here := [(0, w)], leaving := [], reports := [] }
  let s := foldOf (fun t => { t with agreed := some a }) fun _ c => { c with grp := none }
  let o : Obj := { fn := 0, base := 0, bundles := 8, code := 8, isaMin := 0, numProf := 2, det := false, timed := true, yieldGap := 0, disp := []
                   sects := [], windows := if w then [(0, 7)] else [] }
  { s with host := { s.host with objs := s.host.objs.set 0 { gen := 1, obj := some o } } }

theorem witness_TaskEventsComplete_3 :
    (∃ x c a, (agreeing false).task? 1 = some x ∧ (x.st == .held && x.agreed.isSome && (agreeing false).foldHeld x && a.here.isEmpty) = false ∧
      x.agreed = some a ∧
      (agreeing false).reaches 1 1 = some (x, c, a, false) ∧ x.allHere (a.here ++ [(1, false)]) = true ∧
      (a.here.any fun y => y.2) = false) ∧
    (∃ x c a, (agreeing true).reaches 1 1 = some (x, c, a, true) ∧ a.late = true) :=
  ⟨⟨_, _, _, rfl, by decide +kernel, rfl, rfl, by decide +kernel, by decide +kernel⟩, ⟨_, _, _, rfl, by decide +kernel⟩⟩

/-- A task of one held free context with a save area of one extent. -/
def saving : State :=
  let s := (ready .free 0 []).onCtx fun c => { c with grp := none, status := .held }
  let s : State := { s with
    hbm := (s.hbm.write 0x1000 (leBytes 8 0x100000)).write 0x1008 (leBytes 8 0x10000000)
    sched := { s.sched with tasks := [{ task false 1 [(0, 0)] with st := .saving }] } }
  s.onDie fun d => { d with savelist := d.savelist.set 0 (0x1000 + 2 ^ 48) }

theorem witness_TaskEventsComplete_4 :
    ((saving.task? 1).map fun x =>
      let u := saving.finishFills x
      let w := u.readyRows x
      (saving.savable x, u.task? 1 == some x, u.stopWaits x, (u.listBad x).isNone, w.2,
        ((w.1.eachCtx x fun s d c => s.saveBegin x d c).saveShort x).isNone)) = some (true, true, false, true, true, true) ∧
    ((((ready .free 0 []).onDieAt 1 fun d => { d with tick := 10000 }).task? 1).map fun x =>
      (decide (x.budget ≠ 0), decide (2000 * x.budget ≤ ((((ready .free 0 []).onDieAt 1 fun d => { d with tick := 10000 }).dieAt 1).tick - x.dispAt).toNat))) =
      some (true, true) := by decide +kernel

/-- Two free contexts at NOPs, the current one of which has issued 256 groups beside the other. -/
def beside : State :=
  let s := boundary .free
  (s.onCtxAt 0 0 fun c => { c with freeRun := 256 }).onCtxAt 0 3 fun _ => s.ctx

theorem witness_TaskEventsComplete_5 :
    (beside.clocked = true ∧ beside.ctx.grp = none ∧ beside.freeCycle = true ∧ beside.die.current = some 0 ∧
      256 ≤ (beside.die.ctxAt 0).freeRun ∧ beside.nextReady 0 = some 3) ∧
    (let s := (ready .timed 0 []).onCtx fun c => { c with grp := none, status := .exiting }
     ((s.dieAt 0).ctxAt 0).kind ≠ .none ∧ ((s.dieAt 0).ctxAt 0).status = .exiting ∧ s.quiet 0 0 = true ∧
       (s.task? ((s.dieAt 0).ctxAt 0).lid).isSome = true) := by decide +kernel

/-- The fold that waits at an ALIGN for count 0, for a time. -/
def aligned (w : Nat) : State := foldOf id fun _ c => { c with grp := none, status := .aligning 0 w }

theorem witness_TaskEventsComplete_6 :
    (∃ x c, (aligned (2 ^ 20)).foldTask 1 = some (x, c) ∧ (((aligned (2 ^ 20)).dieAt 1).ctxAt c).status = .aligning 0 (2 ^ 20) ∧
      (aligned (2 ^ 20)).alignsMet 1 (((aligned (2 ^ 20)).dieAt 1).ctxAt c) 0 = true) :=
  ⟨_, _, rfl, by decide +kernel, by decide +kernel⟩

/-- The free context with a write of a special register that is due. -/
def writes (n : Nat) (v : Word) : State := (ready .free 0 []).onCtx fun c => { c with pend := [{ due := 0, eff := .sreg n v }] }

theorem witness_TaskEventsComplete_7 :
    ((((writes 0x1804 0x100000000).dieAt 0).ctxAt 0).dueSreg ((writes 0x1804 0x100000000).dieAt 0).scy =
        some ((⟨0, .sreg 0x1804 0x100000000⟩ : Pending), 0x1804, 0x100000000) ∧ fld 0x100000000 32 2 = 1) ∧
    ((((writes 0x1804 0x200000000).dieAt 0).ctxAt 0).dueSreg ((writes 0x1804 0x200000000).dieAt 0).scy =
        some ((⟨0, .sreg 0x1804 0x200000000⟩ : Pending), 0x1804, 0x200000000) ∧ fld 0x200000000 32 2 = 2) ∧
    (((writes 0x0041 4).dieAt 0).ctxAt 0).dueSreg ((writes 0x0041 4).dieAt 0).scy =
      some ((⟨0, .sreg 0x0041 4⟩ : Pending), 0x0041, 4) := by decide +kernel

/-- A fill of one row, accepted, whose bound is 1,000. -/
def fill (cons : List Nat) (started : Bool) : Fill :=
  { kind := .fill, ch := 0, side := false, b := 0, wlog := 0, d := 0, nrows := 1, l := 0, start := 0, bound := 0, bytes := 256, prod := 63
    cons := cons, issued := 0, order := 0, ctx := 0, lid := 1, started := started, left := [0], phase := 0 }

/-- The timed context's die with that command. -/
def filling (cons : List Nat) (started : Bool) : State :=
  (ready .timed 0 []).onDie fun d => { d with fills := [fill cons started] }

theorem witness_fills :
    ∀ x ∈ [(([] : List Nat), false), ([63], false), ([], true)],
      ((filling x.1 x.2).dieAt 0).frozen = false ∧ ((filling x.1 x.2).dieAt 0).fills[0]? = some (fill x.1 x.2) ∧ (fill x.1 x.2).start ≤ (filling x.1 x.2).fcOf 0 0 ∧
      (fill x.1 x.2).bound ≤ (filling x.1 x.2).fcOf 0 0 ∧
      (((filling x.1 x.2).dieAt 0).fills.any fun y => !y.started && y.before (fill x.1 x.2)) = false ∧
      ((filling x.1 x.2).task? 1).map (fun t => unmetReason t 0 x.1) = some (if x.1 = [] then none else some 1) := by decide +kernel

/-- The timed context with an effect that is due by an event. -/
def dueBy (e : Effect) : State := (ready .timed 0 []).onCtx fun c => { c with pend := [{ due := 0, eff := e }] }

theorem witness_EngineEventsComplete_due :
    (∀ x ∈ [(Effect.table 2 1023 [] 63, Effect.isTable), (.live 511 [] 0 63, Effect.isLive), (.pin 0 65536, Effect.isPin)],
      ((dueBy x.1).dieAt 0).timedCid = some 0 ∧
        (((((dueBy x.1).dieAt 0).ctxAt 0).takeDue ((dueBy x.1).dieAt 0).scy x.2).map fun y => y.1) = some { due := 0, eff := x.1 }) := by
  decide +kernel

/-- A pin of the first page of address space 0, whose table maps the first GiB with a leaf of level 2. -/
def pinning : State :=
  let s := dueBy (.pin 0 65536)
  { s with hbm := (s.hbm.write 0x100000 (leBytes 8 0x200001)).write 0x200000 (leBytes 8 0xF)
           host := { s.host with asidRoot := s.host.asidRoot.set 0 0x100001 } }

theorem witness_pinComplete : (pinning.task? 1).map (fun k => (pinning.pinResult k 0 0 65536, pinning.tablesBad k.asid 0 65536)) =
    some (0, none) := by decide +kernel

/-- An object with copy template 0: 256 bytes from the start of die 0's rows to row 1. -/
def copying (f : Copy → Copy) (dst : Nat) : State :=
  let s := ready .free 0 []
  let b := leBytes 8 0 ++ leBytes 8 0x1000000000000000 ++ leBytes 8 dst ++ [0, 0, 0, 0] ++ leBytes 4 256 ++ leBytes 4 1 ++ leBytes 36 0
  let o : Obj := { fn := 0, base := 0, bundles := 8, code := 8, isaMin := 0, numProf := 2, det := false, timed := true, yieldGap := 0, disp := []
                   sects := [{ ty := 6, opt := false, dies := 7, off := 0, size := 0, addr := 0, body := b }], windows := [] }
  let cp : Copy := { id := 0, template := 0, param := 0, lid := 1, ctx := 0, die := 0, addr := 0, count := 0, seq := 0, left := none, phase := .replicate 3 0 }
  let s : State := { s with host := { s.host with objs := s.host.objs.set 0 { gen := 1, obj := some o } } }
  s.onChan 0 15 fun x => { x with nextId := 1, copies := [f cp] }

/-- What the channel's copy is. -/
def copyOf15 (s : State) : Option (Copy × Task × Option Tmpl) :=
  match (s.chan 0 15).head with
  | some cp => (s.task? cp.lid).map fun k => (cp, k, s.tmpl k 0 cp)
  | none => none

theorem witness_copies :
    (match copyOf15 (copying id 0x1000000000000100) with
     | some (cp, k, some m) =>
       let s := copying id 0x1000000000000100
       let r := State.moveBlocks k 0 15 m (cp.blocks m) { cp with left := some (cp.blocks m) } s
       decide (cp.blocks m = [0]) && (s.blockFail k 0 cp m 0).isNone && !(s.dieAt 0).frozen && (r.1.blocks m).isEmpty &&
         ((r.2.setHead 0 15 r.1).copyTrans 0 15 r.1).isEmpty
     | _ => false) = true ∧
    (match copyOf15 (copying (fun c => { c with template := 1 }) 0x1000000000000100) with
     | some (_, _, none) => true
     | _ => false) = true ∧
    (match copyOf15 (copying id 0x100) with
     | some (cp, k, some m) =>
       !(((copying id 0x100).copyTrans 0 15 cp).any fun x => !x.await.isEmpty) &&
         (firstFailure ((copying id 0x100).copyFails k 0 15 cp m)).isSome
     | _ => false) = true := by decide +kernel

theorem witness_ObjectLoadingCompletes :
    up.firmware = true ∧ up.sealed 63 = false ∧ leAt (List.replicate 24 0) 0 1 = 0 ∧
    (up.load 63 0 0 0).2.1 = 2 ∧ (up.unload 63 0).2 = 16 := by decide +kernel

/-! ### Witnesses: registers, control, exceptions and frames -/

theorem witness_RegistersReadAndWrite :
    (31 : BitVec 5) ≠ 0 ∧ (ready .free 0 []).ctx.rotNow.rsz ≤ 16 ∧ (ready .free 0 []).ctx.physS 31 ≠ (ready .free 0 []).ctx.physS 1 ∧
    (7 : BitVec 3) ≠ 0 := by decide +kernel

theorem witness_LoopCountsDown :
    (Met (ready .free 0 []) (.imm 0) 0x08A [] fun a => a.st.ctx.delay = none ∧
      (a.st.ctx.loopCount = 0 ∨ a.st.targetFaults a.word = [])) ∧
    (Met ((ready .free 0 []).onCtx fun c => { c with grp := some { late with rot := ⟨1, 0, 0, 0⟩ } }) (.imm 100) 0x08A [] fun a => a.st.ctx.delay = none ∧
      (a.st.ctx.loopCount = 0 ∨ a.st.targetFaults a.word = [])) ∧
    ((ready .free 0 []).onCtx fun c => { c with grp := some { late with rot := ⟨0, 0, 0, 0⟩ } }).ctx.rotNow.lc = 0 ∧
    (ready .free 0 []).ctx.grp.isSome = true ∧
    (ready .free 0 []).openGroup.takes ⟨false, 7⟩ = false :=
  ⟨met_of (by decide +kernel), met_of (by decide +kernel), by decide +kernel, by decide +kernel, by decide +kernel⟩

/-- The context with a handler at bundle 7. -/
def handled (k : CtxKind) : State := (ready k 0 []).onCtx fun c => { c with tvecValid := true, tvec := 7 }

theorem witness_ExceptionsAreTaken :
    (((handled .timed).dieAt 0).ctxAt 0).handler 0x30 = some 7 ∧
    ((((ready .timed 0 []).dieAt 0).ctxAt 0).handler 0x10 = none ∧ fltKind 0x10 ≠ .machine ∧
      (((ready .timed 0 []).dieAt 0).ctxAt 0).inh = false ∧ (((ready .timed 0 []).dieAt 0).ctxAt 0).status ≠ .retired ∧
      ((ready .timed 0 []).task? 1).map (fun k => (k.causes.isEmpty, k.agreed.isNone, decide (k.st = .saving))) = some (true, true, false)) ∧
    ((((handled .timed).dieAt 0).ctxAt 0).kind = .timed ∧
      ((handled .timed).task? 1).map (fun k => k.stopCounts.any (fun x => x.1 == 0)) = some false ∧
      (((handled .timed).dieAt 0).ctxAt 0).handler 0x30 ≠ none) := by decide +kernel

/-- A handler at the end of a group that holds sy.rfe. -/
def leaving : State :=
  (ready .free 0 []).onCtx fun c =>
    { c with inh := true, grp := some { late with rfe := true, left := [] }
             snap := some { ports := .replicate 12 (.s 0), pend := [], reent := none, delay := none, status := .run, late := [] } }

theorem witness_HandlersReturnAndBreakpointsTrap :
    (Met (ready .free 0 []) (.imm 0) 0x1EA [] fun a => a.st.ctx.inh = false) ∧
    (Met leaving (.imm 0) 0x1EA [] fun a => a.st.ctx.inh = true) ∧
    (leaving.ctx.grp = some { late with rfe := true, left := [] } ∧ late.trap = none ∧ leaving.ctx.stepDue = false ∧ leaving.ctx.snap.isSome = true ∧
      leaving.die.stopFrozen = false) ∧
    ((leaving.onCtx fun c => { c with reentry := true }).die.ctxAt 0).reentry = true ∧
    (Met (ready .free 0 []) (.imm 0) 0x1EB [] fun _ => True) ∧
    ((handled .free).ctx.handler 0x31 = some 7 ∧ (handled .free).die.stopFrozen = false ∧
      (handled .free).group.rfe = false ∧ (handled .free).group.stall = 0) ∧
    ((handled .free).onGroup fun g => { g with stall := 47 }).group.inside true = true :=
  ⟨met_of (by decide +kernel), met_of (by decide +kernel), by decide +kernel, by decide +kernel, met_of (by decide +kernel),
    by decide +kernel, by decide +kernel⟩

/-- The same for a task that function 5 has launched. -/
def virtual (v : Word) (l : List (Latch × Value)) : State :=
  let s := ready .free v l
  { s with sched := { s.sched with tasks := [{ task false 1 [(0, 0)] with fn := 5 }] } }

theorem witness_IllegalOperandsAndPrivilegesTrap :
    (∀ x ∈ ports 0x0BB 2 [], Met (ready .free 0 []) (.imm 2) x.1 [] fun a => 2 ≤ a.word.toNat) ∧
    (∀ x ∈ [(0x0BD : BitVec 9), 0x0BA], Met (ready .free 64 []) (.s 2) x [] fun a => 64 ≤ a.word.toNat) ∧
    (∀ x ∈ ports 0x0B4 3 [], Met (ready .free 0 []) (.imm 4) x.1 [.sya, .syb] fun a => 4 ≤ a.word.toNat) ∧
    (Met (ready .timed 0 []) (.imm 0) 0x08C [] fun a => a.word = 0 ∨ 4096 < a.word.toNat) ∧
    (Met (ready .timed 4097 []) (.s 2) 0x08C [] fun a => a.word = 0 ∨ 4096 < a.word.toNat) ∧
    (∀ v ∈ [(128 : Word), 64 + 5, 2 * 32 + 31, 4], Met (ready .free v []) (.s 2) 0x08B [] fun a =>
      128 ≤ a.word.toNat ∨ fld a.word 0 5 ∉ [0, 4, 8, 16] ∨ (fld a.word 5 2 = 0 ∧ fld a.word 0 5 ≠ 0)) ∧
    (Met (ready .free 8 []) (.s 2) 0x088 [] fun a => a.st.ctx.codeLen ≤ a.word.toNat) ∧
    (∀ v ∈ [(0x0400 : Word), 0x13FC, 0x1400, 0x1480, 0x158F, 0x1600, 0x1826],
      Met ((ready .free v []).onCtx fun c => { c with priv := false }) (.s 2) 0x1E6 [] fun a =>
        (supReg a.word.toNat || fabricReg a.word.toNat) = true ∧ a.st.ctx.priv = false ∧ a.st.ownArrcnt a.word.toNat = false) ∧
    (∀ v ∈ [(0x0400 : Word), 0x13FD, 0x1400, 0x1480, 0x158F, 0x1600, 0x1826],
      Met ((ready .free 0 [(.sysri, .s v)]).onCtx fun c => { c with priv := false }) (.imm 0) 0x1E7 [.sysri] fun a =>
        (supReg (a.op .sysri).toNat || fabricReg (a.op .sysri).toNat) = true ∧ a.st.ctx.priv = false) ∧
    (Met (virtual 0x1701 []) (.s 2) 0x1E6 [] fun a => supReg a.word.toNat = true ∧ a.st.ctx.priv = true ∧
      (a.st.curTask.map fun k => decide (k.fn ≠ 0)) = some true) ∧
    (Met (virtual 0 [(.sysri, .s 0x1804)]) (.imm 0) 0x1E7 [.sysri] fun a => supReg (a.op .sysri).toNat = true ∧ a.st.ctx.priv = true ∧
      (a.st.curTask.map fun k => decide (k.fn ≠ 0)) = some true) ∧
    (Met (ready .free 0xFFFF []) (.s 2) 0x1E6 [] fun a => assignedReg a.word.toNat = false) ∧
    (((ready .free 0 []).onCtx fun c => { c with latches := .replicate 22 none }).openGroup.takeLatch .ia0a = none) ∧
    (let s : State := ((ready .free 0 []).onCtx fun c => c.setLatch .ia0b none).openGroup
     (s.takeLatches [.ia0a, .ia0b]).1.map (fun x => x.2.isSome) = [true, false]) := by
  refine ⟨fun x hx => ?_, fun x hx => ?_, fun x hx => ?_, met_of (by decide +kernel), met_of (by decide +kernel), fun x hx => ?_,
    met_of (by decide +kernel), fun x hx => ?_, fun x hx => ?_, met_of (by decide +kernel), met_of (by decide +kernel),
    met_of (by decide +kernel), by decide +kernel, by decide +kernel⟩
  all_goals fin_cases hx <;> exact met_of (by decide +kernel)

theorem witness_ClocksCountUnfrozenCycles :
    ((boundary .timed).onDie fun d => { d with stopFrozen := true, stopHand := 64 }).clocked = true ∧
    ((boundary .timed).onDie fun d => { d with stopFrozen := true, stopHand := 64 }).due = none ∧
    ((boundary .timed).onDie fun d => { d with stopFrozen := true, stopHand := 64 }).cycleStart.die.frozen = true := by decide +kernel

theorem witness_ScalarFormsFrame :
    MoreSlots (ready .free 0 []).openGroup ∧ (∀ f ∈ aluForms, ∀ l ∈ f.2.2, (ready .free 0 []).openGroup.laterWrite l = none) ∧
    (∃ t, exec (.ia0Add ⟨false, 0⟩ (.imm 5)) (ready .free 0 []) = .next t) :=
  ⟨⟨_, _, _, rfl⟩, by decide +kernel, _, rfl⟩

theorem witness_PlainMovesFrame_stream :
    (let s := (streaming [7]).openGroup
     s.takes ⟨false, 0⟩ = true ∧ s.srcFaults (.stream 15) = [] ∧
     (s.readSrc (.stream 15)).map (fun x => (x.1, x.2.dstFaults (.w 1) x.1, x.2.dstWaits (.w 1))) = some (.w ⟨7, 0⟩, [], false)) ∧
    legalMove (Src.stream 15).kind (Dst.w 1).kind = true ∧ MoreSlots (streaming [7]).openGroup ∧
    (∃ t, exec (.move ⟨false, 0⟩ false (.stream 15) (.w 1)) (streaming [7]) = .next t) :=
  ⟨by decide +kernel, by decide +kernel, ⟨_, _, _, rfl⟩, _, rfl⟩

theorem witness_PlainMovesFrame :
    MoreSlots (ready .timed 0 []).openGroup ∧ holdLegal true (.latch .ia0a) = true ∧
    (∃ t, exec (.move ⟨false, 0⟩ false (.imm 5) (.s 31)) (ready .timed 0 []) = .next t) :=
  ⟨⟨_, _, _, rfl⟩, by decide +kernel, _, rfl⟩

end Sys2Proof.Tests
end

section
/-! The host port: what each write of its registers and each access of its aperture leaves (R39, R40, R78, R86, R89, R90, R92, R188). -/

namespace Sys2Proof.Machine

/-! ### Outcomes and functions -/

@[simp] theorem enabled_some (name : String) (t : State) : enabled name (some t) = .next t := rfl

@[simp] theorem State.fn_onFn (s : State) (i : BitVec 6) (f : Fn → Fn) : (s.onFn i f).fn i = f (s.fn i) :=
  Vector.getElem_set_self i.isLt

/-! ### When the host's writes take effect -/

theorem State.hostWrite_of_hostUp {s : State} (up : s.hostUp = true) (f : State → State) : s.hostWrite f = f s := by
  simp [State.hostWrite, State.configUp, up]

theorem State.onMgmt_of_clockedAt {s : State} (run : s.clockedAt 1 = true) (f : State → State) : s.onMgmt f = f s :=
  if_pos run

/-! ### Registers of BAR0 and of the management window -/

theorem State.registerWrite_bar0 {s : State} (up : s.hostUp = true) (fn : BitVec 6) {off : Nat} (v : Word)
    (own : ownStep.contains off = false) : s.registerWrite (.bar fn 0 off v) = some (s.writeBar0 fn off v) := by
  simp only [State.registerWrite, own, Bool.not_false, if_true, State.hostWrite_of_hostUp up]

theorem State.registerWrite_mctp {s : State} (run : s.clockedAt 1 = true) {off : Nat} (v : Word)
    (own : ownStep.contains off = false) : s.registerWrite (.mctp off v) = some (s.writeMgmt off v) := by
  simp only [State.registerWrite, own, Bool.not_false, if_true, State.onMgmt_of_clockedAt run]

/-- A VF's write to an offset that is a step of the PF's has no effect (R40, R78). -/
theorem State.registerWrite_vf_ownStep (s : State) {fn : BitVec 6} {off : Nat} (v : Word) (vf : fn ≠ 0)
    (own : ownStep.contains off = true) : s.registerWrite (.bar fn 0 off v) = some s := by
  have idle : idleWrite fn 0 off v = true := by rw [idleWrite, if_pos rfl, bne_iff_ne.2 vf, Bool.true_or]
  simp only [State.registerWrite, own, idle, Bool.not_true, Bool.false_eq_true, if_true, if_false]

theorem State.writeBar0_evBase (s : State) (fn : BitVec 6) (v : Word) :
    s.writeBar0 fn 0x0C00 v = s.onFn fn fun f => { f with evBase := BitVec.ofNat 64 (v.toNat / 64 * 64) } := rfl

theorem State.writeBar0_evTail (s : State) (fn : BitVec 6) (v : Word) :
    s.writeBar0 fn 0x0C18 v = s.onFn fn fun f => { f with evTail := BitVec.ofNat 32 (fld v 0 32) } := rfl

/-- The PF reaches the error counters of the management window through BAR0 (Table 01.10). -/
theorem State.writeBar0_memErr (s : State) (v : Word) : s.writeBar0 0 0x0030 v = s.writeMgmt 0x0030 v := rfl

theorem State.writeMgmt_memErr (s : State) (v : Word) : s.writeMgmt 0x0030 v =
    { s with pkg := { s.pkg with errSram := w1c s.pkg.errSram v 0, errHbm := w1c s.pkg.errHbm v 16 } } := rfl

/-! ### The aperture -/

/-- Outside sealed operation and with no TDI in ERROR through the PF, a granule that the device memory has is taken (R89, R92). -/
theorem State.writeDmwin_taken {s : State} {v : Word} (up : s.hostUp = true) (small : fld v 30 9 < 432)
    (unsealed : s.sealedOp = false) (clean : ∀ n < 64, s.refusesPf (BitVec.ofNat 6 n) = false) :
    s.writeDmwin v = { s with host := { s.host with dmwin := BitVec.ofNat 9 (fld v 30 9) } } := by
  have noError : ((List.range 64).any fun i => s.refusesPf (BitVec.ofNat 6 i)) = false := by
    simpa using clean
  simp only [State.writeDmwin, State.hostWrite_of_hostUp up, if_neg (Nat.not_le.2 small), unsealed, noError, Bool.false_eq_true,
    if_false]

theorem State.bar4Read_unsupported {s : State} {off n : Nat} (up : s.hostUp = true) (ur : s.bar4Addr off n = none) :
    ∃ t, s.bar4Read off n = some t ∧ t.host.barReads = s.host.barReads ++ [none] := by
  simp only [State.bar4Read, up, ur, Bool.not_true, Bool.false_eq_true, if_false]
  exact ⟨_, rfl, rfl⟩

/-- A fold that keeps its state and appends what each element gives collects the elements in order. -/
theorem foldl_keep_append {σ α β : Type} {f : σ × List α → β → σ × List α} {g : β → List α} {s : σ} {l : List β}
    (step : ∀ acc, ∀ x ∈ l, f (s, acc) x = (s, acc ++ g x)) (acc : List α) :
    l.foldl f (s, acc) = (s, acc ++ l.flatMap g) := by
  induction l generalizing acc with
  | nil => simp
  | cons x l ih =>
    have tail := ih fun acc y hy => step acc y (List.mem_cons_of_mem x hy)
    rw [List.foldl_cons, step acc x List.mem_cons_self, tail, List.flatMap_cons, List.append_assoc]

/-- A read whose pages no tenant slot holds and no error meets returns the bytes of device memory (R15, R89). -/
theorem State.bar4Read_clear {s : State} {off n pa : Nat} (up : s.hostUp = true) (addr : s.bar4Addr off n = some pa)
    (clear : ∀ x ∈ pagePieces pa n, s.slotOf x.1 = 0 ∧ s.hbmBad x.1 x.2 = false) :
    s.bar4Read off n = some { s with host := { s.host with
      barReads := s.host.barReads ++ [some ((pagePieces pa n).flatMap fun x => s.hbm.readN x.1 x.2)] } } := by
  simp only [State.bar4Read, up, addr, Bool.not_true, Bool.false_eq_true, if_false]
  rw [foldl_keep_append (g := fun x => s.hbm.readN x.1 x.2), List.nil_append]
  intro acc x hx
  obtain ⟨slot, good⟩ := clear x hx
  simp [slot, good]

theorem State.bar4Write_mapped {s : State} {off pa : Nat} {bs : List Byte} (up : s.hostUp = true)
    (addr : s.bar4Addr off bs.length = some pa) :
    s.bar4Write off bs = some ((pagePieces pa bs.length).foldl (fun s x =>
      if s.slotOf x.1 != 0 then s else s.hbmPut x.1 (slice bs (x.1 - pa) x.2)) s) := by
  simp only [State.bar4Write, up, addr, Bool.not_true, Bool.false_eq_true, if_false]

/-! ### The firmware's writes -/

theorem State.invalWrite_firmware {s : State} (d : DieId) (v : Word) (fw : s.firmware = true) :
    s.invalWrite (.firmware d 0x1700 v) = some (s.invalidate v) := by
  simp only [State.invalWrite, fw, BEq.rfl, Bool.and_self, if_true]

theorem State.slotmapWrite_firmware {s : State} (d : DieId) {v : Word} (fw : s.firmware = true) (good : slotBad v = false) :
    s.slotmapWrite (.firmware d 0x1701 v) = some (s.moveSlots (slotPages v).1 (slotPages v).2 (fld v 40 4)) := by
  simp only [State.slotmapWrite, fw, good, BEq.rfl, Bool.not_false, Bool.and_self, if_true]

end Sys2Proof.Machine

namespace Sys2Proof.Proofs

open Sys2Proof.Machine Sys2Proof.Claims

/-- An event answers with the state that it computes. -/
theorem answers_enabled {i : Instr} {s t : State} {name : String} {o : Option State} {p : State → Prop}
    (meaning : exec i s = enabled name o) (result : o = some t) (holds : p t) : Answers i s p :=
  ⟨t, by rw [meaning, result, enabled_some], holds⟩

/-- Settles O33: each event answers the state that the host port's rule for it computes. -/
theorem hostRegisterEventsComplete : Obligations.HostRegisterEventsComplete := by
  unfold Obligations.HostRegisterEventsComplete
  refine ⟨?dmwin, ?unsupported, ?read, ?write, ?evBase, ?evTail, ?memErr, ?vf, ?memErrMctp, ?inval, ?slotmap⟩
  case dmwin =>
    intro s v up small unsealed clean
    rw [Answers, exec_dmwinWrite, execDmwinWrite, State.writeDmwin_taken up small unsealed clean]
    exact ⟨_, rfl, rfl, rfl⟩
  case unsupported =>
    intro s off n up ur
    obtain ⟨t, result, reads⟩ := State.bar4Read_unsupported up ur
    exact answers_enabled (exec_bar4Read off n s) result reads
  case read =>
    intro s off n pa up addr clear
    exact answers_enabled (exec_bar4Read off n s) (State.bar4Read_clear up addr clear) rfl
  case write =>
    intro s off bs pa up addr
    rw [exec_bar4Write, execBar4Write, State.bar4Write_mapped up addr, enabled_some]
  case evBase =>
    intro s fn v up
    exact answers_enabled (exec_registerWrite _ s) (State.registerWrite_bar0 up fn v rfl) (by simp [State.writeBar0_evBase])
  case evTail =>
    intro s fn v up
    exact answers_enabled (exec_registerWrite _ s) (State.registerWrite_bar0 up fn v rfl) (by simp [State.writeBar0_evTail])
  case memErr =>
    intro s v up
    refine answers_enabled (exec_registerWrite _ s) (State.registerWrite_bar0 up 0 v rfl) ?_
    rw [State.writeBar0_memErr, State.writeMgmt_memErr]
    exact ⟨rfl, rfl⟩
  case vf =>
    intro s fn off v vf own
    rw [exec_registerWrite, execRegisterWrite,
      State.registerWrite_vf_ownStep s v vf (List.contains_iff_mem.2 own), enabled_some]
  case memErrMctp =>
    intro s v run
    refine answers_enabled (exec_registerWrite _ s) (State.registerWrite_mctp run v rfl) ?_
    rw [State.writeMgmt_memErr]
    exact ⟨rfl, rfl⟩
  case inval =>
    intro s d v fw
    exact answers_enabled (exec_invalWrite _ s) (State.invalWrite_firmware d v fw) rfl
  case slotmap =>
    intro s d v fw good
    exact answers_enabled (exec_slotmapWrite _ s) (State.slotmapWrite_firmware d fw good) rfl

end Sys2Proof.Proofs
end

section
/-! Slots that read their operands (R271, R292, R293): a trigger's outcome from `Reads`, and what the trace buffer leaves (R284). -/

namespace Sys2Proof.Machine

/-! ### The trace buffer -/

/-- Writing a record keeps the contexts and which of them issues (R284). -/
theorem Die.traceWrite_contexts (d : Die) (r : TraceRec) :
    (d.traceWrite r).ctxs = d.ctxs ∧ (d.traceWrite r).issuing = d.issuing := by
  simp only [Die.traceWrite, Die.traceFreeze, apply_ite Die.ctxs, apply_ite Die.issuing, ite_self, and_self]

theorem Die.trace_contexts (d : Die) (kind : Nat) (c : CtxId) (place : Nat × Nat) (a b : Word) :
    (d.trace kind c place a b).ctxs = d.ctxs ∧ (d.trace kind c place a b).issuing = d.issuing := by
  obtain ⟨ctxs, issuing⟩ := d.traceWrite_contexts (traceBits d.tick kind c place.1 place.2 a b)
  simp only [Die.trace]
  split
  · split
    · exact ⟨ctxs, issuing⟩
    · split
      · simp only [Die.traceFreeze, apply_ite Die.ctxs, apply_ite Die.issuing, ctxs, issuing, ite_self, and_self]
      · exact ⟨ctxs, issuing⟩
  · exact ⟨rfl, rfl⟩

@[simp] theorem State.ctx_trace (s : State) (kind : Nat) (a b : Word) : (s.trace kind a b).ctx = s.ctx := by
  unfold State.trace
  split
  · rfl
  · obtain ⟨ctxs, issuing⟩ := s.die.trace_contexts kind s.die.issuing s.ctx.place a b
    rw [State.ctx, State.die_onDie, Die.ctxAt, ctxs, issuing]
    rfl

@[simp] theorem State.turn_trace (s : State) (kind : Nat) (a b : Word) : (s.trace kind a b).turn = s.turn := by
  unfold State.trace
  split <;> rfl

end Sys2Proof.Machine

namespace Sys2Proof.Claims

open Sys2Proof.Machine

variable {s : State} {g : Guard} {src : Src} {port : BitVec 9} {need : List Latch} {a : Args}

/-- A trigger that reads its operands, faults in no check of its own and waits for nothing has its effect (R145, R271). -/
theorem Reads.runTrig_eq (reads : Reads s.openGroup g src port need a) {chk : Args → List Flt} {waits : Args → Bool}
    (act : Args → State) (sound : chk a = []) (goes : waits a = false) :
    runTrig g src port need chk waits act s = (act a).finishSlot := by
  obtain ⟨s1, read, latches⟩ := reads.value
  exact runTrigTo_acts reads.taken reads.mayStand reads.mayIssue reads.mayRead read latches reads.kind reads.full reads.fits
    sound goes

/-- A check of a latch that the trigger names is one of the value found in it. -/
theorem Reads.ifOp_eq (reads : Reads s.openGroup g src port need a) {l : Latch} (named : l ∈ need) (f : Word → List Flt) :
    a.ifOp l f = f (a.op l) := by
  obtain ⟨s1, -, latches⟩ := reads.value
  have keys : a.ops.map (·.1) = need := by rw [← State.takeLatches_keys need s1, latches]
  exact Args.ifOp_full a l f (keys ▸ named) reads.full

end Sys2Proof.Claims
end

section
/-! Timed stores (R177, R182, R322): what a store of the timed context starts, and the bytes that its effect writes. -/

namespace Sys2Proof.Machine

open Sys2Proof.Claims

/-! ### Lengths -/

@[simp] theorem length_leBytes (n v : Nat) : (leBytes n v).length = n := by
  induction n generalizing v with
  | zero => rfl
  | succ n ih => rw [leBytes, List.length_cons, ih]

@[simp] theorem length_rowBytes (r : Row) : (rowBytes r).length = 256 := length_leBytes 256 _

/-! ### The store at its count -/

@[simp] theorem State.timedStore_traceMem (s : State) (a b : Word) (n kind : Nat) :
    (s.traceMem a n kind).timedStore b = s.timedStore b := by
  simp only [State.timedStore, State.traceMem, State.ctx_trace, State.turn_trace]

theorem State.storeWaits_of_timedStore {s : State} {a : Word} (timed : s.timedStore a = true) : s.storeWaits a = false := by
  simp [State.storeWaits, timed]

/-- A timed store leaves its trace record and takes effect at the fourth count from its own (R182). -/
theorem State.store_timed {s : State} {a : Word} {x : Nat} (timed : s.timedStore a = true) (space : spaceOf a = .scratch x)
    (op : QOp) (bs side : List Byte) (keep keepSide : Nat → Bool) :
    s.store a op bs side keep keepSide =
      (s.traceMem a bs.length 1).after 4 (.store (storeBytes x bs keep) (sideBytes x side keepSide)) := by
  simp only [State.store, State.timedStore_traceMem, timed, space, if_true, sideBytes]

/-! ### The bytes of the effect -/

/-- The bytes of a run from an address that a mask keeps, with their addresses. -/
def keptBytes (base : Nat) (bs : List Byte) (keep : Nat → Bool) : List (Nat × Byte) :=
  bs.zipIdx.filterMap fun p => if keep p.2 then some (base + p.2, p.1) else none

theorem storeBytes_eq (x : Nat) (bs : List Byte) (keep : Nat → Bool) : storeBytes x bs keep = keptBytes (spOff x) bs keep := rfl

theorem sideBytes_eq (x : Nat) (bs : List Byte) (keep : Nat → Bool) :
    sideBytes x bs keep = keptBytes (32 * spUnit x) bs keep := rfl

theorem keptBytes_append_singleton (base : Nat) (bs : List Byte) (b : Byte) (keep : Nat → Bool) :
    keptBytes base (bs ++ [b]) keep =
      keptBytes base bs keep ++ if keep bs.length then [(base + bs.length, b)] else [] := by
  unfold keptBytes
  rw [List.zipIdx_append, List.filterMap_append]
  cases h : keep bs.length <;> simp [h]

theorem Mem.writeEach_append (m : Mem) (l k : List (Nat × Byte)) : m.writeEach (l ++ k) = (m.writeEach l).writeEach k :=
  List.foldl_append

/-- Of a run of bytes those that the mask keeps are written, and every other byte reads as before. -/
theorem Mem.read_writeEach_keptBytes (m : Mem) (base : Nat) (bs : List Byte) (keep : Nat → Bool) (a : Nat) :
    (m.writeEach (keptBytes base bs keep)).read a =
      if base ≤ a ∧ a < base + bs.length ∧ keep (a - base) = true then bs.getD (a - base) 0 else m.read a := by
  induction bs using List.reverseRecOn with
  | nil =>
    have outside : ¬(base ≤ a ∧ a < base + ([] : List Byte).length ∧ keep (a - base) = true) := by
      simp only [List.length_nil]; omega
    rw [if_neg outside]; rfl
  | append_singleton bs b ih =>
    rw [keptBytes_append_singleton, Mem.writeEach_append, List.length_append, List.length_singleton]
    by_cases last : a = base + bs.length
    · subst last
      cases kept : keep bs.length with
      | true => simp [Mem.writeEach, Mem.read_write, kept]
      | false =>
        rw [if_neg Bool.false_ne_true, Mem.writeEach, List.foldl_nil, ih]
        simp [kept]
    · have kept : ((m.writeEach (keptBytes base bs keep)).writeEach
          (if keep bs.length then [(base + bs.length, b)] else [])).read a = (m.writeEach (keptBytes base bs keep)).read a := by
        split
        · exact Mem.read_write_outside _ _ _ (by simp only [List.length_singleton]; omega)
        · rfl
      rw [kept, ih]
      by_cases inside : base ≤ a ∧ a < base + bs.length
      · have shorter : a - base < bs.length := by omega
        have longer : a < base + (bs.length + 1) := by omega
        simp [inside, longer, List.getElem?_append_left shorter]
      · have still : ¬(base ≤ a ∧ a < base + (bs.length + 1)) := by omega
        simp only [← and_assoc, inside, still, false_and, if_false]

/-! ### The forms -/

/-- Each scalar store of Table 13.6 runs as the store of its width. -/
theorem exec_storeForm {f : (Guard → Src → Instr) × BitVec 9 × Wid} (form : f ∈ storeForms) (g : Guard) (src : Src) (s : State) :
    exec (f.1 g src) s = .next (runStore f.2.1 f.2.2 g src s) := by
  simp only [storeForms, List.mem_cons, List.not_mem_nil, or_false] at form
  rcases form with rfl | rfl | rfl | rfl
  · exact exec_lsStb g src s
  · exact exec_lsSth g src s
  · exact exec_lsStw g src s
  · exact exec_lsStd g src s

end Sys2Proof.Machine

namespace Sys2Proof.Proofs

open Sys2Proof.Machine Sys2Proof.Claims

/-- Settles O60: a store of the timed context passes its checks, starts `State.store_timed`, and the effect writes the kept bytes. -/
theorem timedStoresWriteTheirBytes : Obligations.TimedStoresWriteTheirBytes := by
  unfold Obligations.TimedStoresWriteTheirBytes
  refine ⟨?scalar, ?row, ?masked, ?empty, ?effect⟩
  case scalar =>
    intro f form s g src a x reads granted timed space
    rw [exec_storeForm form, runStore, reads.runTrig_eq _ ((reads.ifOp_eq (by simp) _).trans granted)
      (State.storeWaits_of_timedStore timed), State.store_timed timed space, length_leBytes]
    rfl
  case row =>
    intro s g src a x reads granted timed space
    rw [exec_lsStrow, execLsStrow, runStrow, reads.runTrig_eq _ ((reads.ifOp_eq (by simp) _).trans granted)
      (State.storeWaits_of_timedStore timed), State.store_timed timed space, length_rowBytes]
  case masked =>
    intro s g src a x reads nonempty granted timed space
    have sound : (if rowEmpty a.maskRow then [] else a.ifOp .lsa fun x => a.st.storeFaults x 256 true) = [] := by
      rw [nonempty, reads.ifOp_eq (by simp), granted, ite_self]
    have goes : (!rowEmpty a.maskRow && a.st.storeWaits (a.op .lsa)) = false := by
      rw [State.storeWaits_of_timedStore timed, Bool.and_false]
    rw [exec_lsStrowm, execLsStrowm, runStrowm, reads.runTrig_eq _ sound goes]
    simp only [nonempty, Bool.false_eq_true, if_false, State.store_timed timed space, length_rowBytes]
  case empty =>
    intro s g src a reads empty
    rw [exec_lsStrowm, execLsStrowm, runStrowm, reads.runTrig_eq _ (if_pos empty) (by rw [empty]; rfl)]
    simp only [empty, if_true]
  case effect =>
    intro d c x bs side keep keepSide a
    rw [storeBytes_eq, sideBytes_eq]
    exact ⟨Mem.read_writeEach_keptBytes _ _ _ _ _, Mem.read_writeEach_keptBytes _ _ _ _ _, rfl⟩

end Sys2Proof.Proofs
end

section
/-! The engines of a die (R191, R193, R194, R212, R362, R366, R380): fills, table loads, solves, pins and copies that are complete. -/

namespace Sys2Proof.Machine

variable {s : State} {d : DieId}

/-! ### Fills -/

@[simp] theorem State.task?_onDieAt (s : State) (d : DieId) (f : Die → Die) (lid : BitVec 32) :
    (s.onDieAt d f).task? lid = s.task? lid := rfl

section

variable {k : Nat} {f : Fill} {x : Task} (run : (s.dieAt d).frozen = false) (command : (s.dieAt d).fills[k]? = some f)
  (due : f.start ≤ s.fcOf d f.ctx) (first : ((s.dieAt d).fills.any fun y => !y.started && y.before f) = false)
  (waiting : f.started = false) (task : s.task? f.lid = some x)

include run command due first waiting task

/-- A command at its S, with no earlier one waiting, begins where the tokens that it consumes are set (R212, R379). -/
theorem State.fillStart_ready (rows : List Nat) (ready : unmetReason x d f.cons = none) :
    s.fillStart d k rows = some (((s.onDieAt d Die.timedWrites).onDieAt d fun y => { y with fills := y.fills.map fun (z : Fill) =>
      if z.order = f.order then { z with started := true } else z }).transfers d f.order rows) := by
  simp [State.fillStart, command, run, Nat.not_lt.2 due, first, waiting, task, ready]

/-- Such a command is discarded where one of those tokens is not set: its own token is cleared and the fault waits for the boundary (R212). -/
theorem State.fillStart_unmet (rows : List Nat) {r : BitVec 4} (unmet : unmetReason x d f.cons = some r) :
    s.fillStart d k rows = some ((((s.onDieAt d Die.timedWrites).onDieAt d fun y => y.dropFill f).setTok f.lid d f.prod .clear).defer
      d f.ctx ⟨0x12, r, BitVec.ofNat 64 f.issued, f.start, 2, 0⟩) := by
  simp [State.fillStart, command, run, Nat.not_lt.2 due, first, waiting, task, unmet]

end

/-- At its E a command moves the rows that are left, its token is set and its bytes leave (R191, log 50). -/
theorem State.fillDone_due {k : Nat} {f : Fill} (run : (s.dieAt d).frozen = false) (command : (s.dieAt d).fills[k]? = some f)
    (started : f.started = true) (due : f.bound ≤ s.fcOf d f.ctx) :
    s.fillDone d k = some ((((s.onDieAt d Die.timedWrites).transfers d f.order f.left).onDieAt d fun x =>
      x.dropFill f).setTok f.lid d f.prod .set) := by
  simp [State.fillDone, command, run, started, Nat.not_lt.2 due]

/-! ### Table loads, solves and pins -/

section

variable {c : CtxId} {n : Nat} {x : Ctx} (timed : (s.dieAt d).timedCid = some c)

include timed

theorem State.tableDone_due {k j t : Nat} {b : List Byte}
    (due : ((s.dieAt d).ctxAt c).takeDue (s.dieAt d).scy Effect.isTable = some (⟨n, .table k j b t⟩, x)) :
    s.tableDone d = some (((s.onCtxAt d c fun _ => x).onDieAt d fun y =>
      { y with wall := y.wall.setTable k j b }).setTok x.lid d t .set) := by
  simp only [State.tableDone, timed, due]

theorem State.solveDone_due {r u t : Nat} {m : List Nat}
    (due : ((s.dieAt d).ctxAt c).takeDue (s.dieAt d).scy Effect.isLive = some (⟨n, .live r m u t⟩, x)) :
    s.solveDone d = some (((s.onCtxAt d c fun _ => x).onDieAt d fun y => y.setLive r m u).setTok x.lid d t .set) := by
  simp only [State.solveDone, timed, due]

/-- A pin whose pages may all be pinned answers 0 on fe.q and keeps its range with the leaves it found (R189, R380). -/
theorem State.pinDone_granted {b l : Nat} {k : Task}
    (due : ((s.dieAt d).ctxAt c).takeDue (s.dieAt d).scy Effect.isPin = some (⟨n, .pin b l⟩, x)) (task : s.task? x.lid = some k)
    (granted : s.pinResult k d b l = 0) (clean : s.tablesBad k.asid b l = none) :
    s.pinDone d = some ((s.onCtxAt d c fun _ =>
      { x with ports := x.ports.set (latIx .feq).val (.s 0) (latIx .feq).isLt }).onTask k.lid fun t => t.setDie d fun y =>
        { y with pinned := y.pinned ++ [(b, l)]
                 pinMap := y.pinMap ++ (s.leaves k.asid 1024 b (b + l)).1.filterMap fun z => z }) := by
  simp only [State.pinDone, timed, due, task, granted, clean, if_true]
  rfl

end

/-! ### Copies -/

section

variable {ch : Fin 16} {cp : Copy} {k : Task} {m : Tmpl} (head : (s.chan d ch).head = some cp) (task : s.task? cp.lid = some k)
  (run : (s.dieAt d).frozen = false)

include head task run

/-- A copy none of whose blocks fails or rests moves all that are left, and when nothing of it is on its way it is over (R193). -/
theorem State.copyStep_over {x : Copy} {u : State} (template : s.tmpl k d cp = some m)
    (clear : ∀ n ∈ cp.blocks m, s.blockFail k d cp m n = none ∧ s.blockRests d cp m n = false)
    (moved : State.moveBlocks k d ch m (cp.blocks m) { cp with left := some (cp.blocks m) } s = (x, u)) (none_left : x.blocks m = [])
    (answered : (u.setHead d ch x).copyTrans d ch x = []) : s.copyStep d ch [] = some ((u.setHead d ch x).copyOver d ch x) := by
  have all : ((cp.blocks m).filter fun i => (s.blockFail k d cp m i).isNone && !s.blockRests d cp m i) = cp.blocks m :=
    List.filter_eq_self.2 fun n hn => by simp [clear n hn]
  simp [State.copyStep, head, task, template, all, run, moved, none_left, answered]

theorem State.copyFailure_noTemplate (template : s.tmpl k d cp = none) : s.copyFailure d ch = some (s.haltChan d ch cp 1 1) := by
  simp only [State.copyFailure, head, task, template, run, Bool.not_false, Option.filter_some, if_true]

/-- When every piece under way is answered, the first failure met halts the channel (R194). -/
theorem State.copyFailure_block {f : Nat × Nat × Nat} (template : s.tmpl k d cp = some m)
    (answered : ((s.copyTrans d ch cp).any fun x => !x.await.isEmpty) = false)
    (failure : firstFailure (s.copyFails k d ch cp m) = some f) : s.copyFailure d ch = some (s.haltChan d ch cp f.2.1 f.2.2) := by
  simp only [State.copyFailure, head, task, template, run, answered, failure, Bool.not_false, Option.filter_some, if_true,
    Bool.false_eq_true, if_false, Option.map_some]

end

end Sys2Proof.Machine

namespace Sys2Proof.Proofs

open Sys2Proof.Machine

/-- An event whose condition holds steps to the state that it computes. -/
theorem exec_event {i : Instr} {s t : State} {name : String} {o : Option State} (meaning : exec i s = enabled name o)
    (result : o = some t) : exec i s = .next t := by
  rw [meaning, result, enabled_some]

/-- Settles O48: each engine's step computes the state that its rule gives. -/
theorem engineEventsComplete : Obligations.EngineEventsComplete := by
  unfold Obligations.EngineEventsComplete
  refine ⟨?start, ?discard, ?fill, ?table, ?solve, ?pin, ?copy, ?noTemplate, ?block⟩
  case start =>
    intro s d k f x rows run command due first waiting task ready
    exact exec_event (exec_fillStart d k rows s) (State.fillStart_ready run command due first waiting task rows ready)
  case discard =>
    intro s d k f x r rows run command due first waiting task unmet
    exact exec_event (exec_fillStart d k rows s) (State.fillStart_unmet run command due first waiting task rows unmet)
  case fill =>
    intro s d k f run command started due
    exact exec_event (exec_fillCompletion d k s) (State.fillDone_due run command started due)
  case table =>
    intro s d c n k j b t x timed due
    exact exec_event (exec_tableLoadComplete d s) (State.tableDone_due timed due)
  case solve =>
    intro s d c n r m u t x timed due
    exact exec_event (exec_solveComplete d s) (State.solveDone_due timed due)
  case pin =>
    intro s d c n b l x k timed due task granted clean
    exact exec_event (exec_pinComplete d s) (State.pinDone_granted timed due task granted clean)
  case copy =>
    intro s d ch cp k m x u head task template clear run moved none_left answered
    exact exec_event (exec_copyComplete d ch [] s)
      (State.copyStep_over head task run template clear moved none_left answered)
  case noTemplate =>
    intro s d ch cp k head task template run
    exact exec_event (exec_copyFailure d ch s) (State.copyFailure_noTemplate head task run template)
  case block =>
    intro s d ch cp k m f head task template answered failure run
    exact exec_event (exec_copyFailure d ch s) (State.copyFailure_block head task run template answered failure)

end Sys2Proof.Proofs
end

section
/-! Answers to this package's forms (R383, R385 to R393, R218): what each packet that comes back does with the transaction of its tag. -/

namespace Sys2Proof.Machine

/-! ### Packets -/

@[simp] theorem State.dieAt_emit (s : State) (p : Packet) (d : DieId) : (s.emit p).dieAt d = s.dieAt d := by
  unfold State.emit
  split <;> rfl

@[simp] theorem State.dieAt_answerTo (s : State) (p : Packet) (dst : BitVec 7) (op : BitVec 6) (status : Nat) (operand : Word)
    (d : DieId) : (s.answerTo p dst op status operand).dieAt d = s.dieAt d := State.dieAt_emit _ _ _

@[simp] theorem State.dieAt_dropInbox (s : State) (i : Nat) (d : DieId) : (s.dropInbox i).dieAt d = s.dieAt d := rfl

@[simp] theorem State.dieAt_withLinks (s : State) (l : Links) (d : DieId) :
    ({ s with links := l } : State).dieAt d = s.dieAt d := rfl

/-- A fetched value is written as a doubleword at the requester's address before it is acknowledged (R218). -/
theorem State.fetchedWrite_sp {s : State} {i : Nat} {p : Packet} {k : Trans} (received : s.inboxAt 0x09 i = some p)
    (awaited : s.links.fetchedOf p = some k) (run : (s.dieAt (spDie p.router p.caddr.toNat)).frozen = false) :
    ∃ t, s.fetchedWrite i = some t ∧ (t.dieAt (spDie k.die p.caddr.toNat)).sp =
      (s.dieAt (spDie k.die p.caddr.toNat)).sp.write (spOff p.caddr.toNat) (leBytes 8 p.operand.toNat) := by
  simp only [State.fetchedWrite, received, run, awaited, Bool.not_false, Option.filter_some, if_true, Option.map_some]
  refine ⟨_, rfl, ?_⟩
  rw [State.dieAt_answerTo, State.dieAt_withLinks, State.dieAt_onDieAt, State.dieAt_dropInbox]

/-! ### Answers to a transaction -/

section

variable {s : State} {i : Nat} {p : Packet} {k : Trans} (answers : s.links.answered p = some k)

include answers

/-- The response of a member ends its transaction with the response's status and value (R383). -/
theorem State.respond_answered {op : BitVec 6} (received : s.inboxAt op i = some p) : s.respond op i =
    some ((s.dropInbox i).endTrans k p.status.toNat (if p.status = 0 then 0 else p.src.toNat) 0 (k.value p)) := by
  simp only [State.respond, received, answers, Option.map_some]

/-- A response whose tag no fetched value carries ends its transaction, and supersteps that waited for it go on (R386, R393). -/
theorem State.writeAnswer_answered (received : s.inboxAt 0x05 i = some p)
    (noFetched : (s.links.ssteps.any fun x => x.acks.contains p.rtag) = false) : s.writeAnswer i =
    some ((s.dropInbox i).endTrans k p.status.toNat (if p.status = 0 then 0 else p.src.toNat) 0 (k.value p)).stepsOn := by
  simp only [State.writeAnswer, State.writeResponse, received, noFetched, Bool.false_eq_true, if_false,
    State.respond_answered answers received, Option.map_some]

theorem State.ordStatus_refused (received : s.inboxAt 0x0A i = some p) (refused : p.status ≠ 0) :
    s.ordStatus i = some ((s.dropInbox i).endTrans k p.status.toNat p.src.toNat 0 (.s 0)) := by
  simp only [State.ordStatus, received, answers, refused, if_false, Option.map_some]

/-- Status 0 is the acceptance of an ordered atomic, which then waits for the close of its superstep (R388, log 30). -/
theorem State.ordStatus_accepted (received : s.inboxAt 0x0A i = some p) (accepted : p.status = 0) :
    s.ordStatus i = some ((s.dropInbox i).ordAccepted k) := by
  simp only [State.ordStatus, received, answers, accepted, if_true, Option.map_some]

/-- The first status of a read for one consumer ends it; a refusal names its member in OPERAND (R390). -/
theorem State.threePartyStatus_delivery {c : Word} {n : Nat} (received : s.inboxAt 0x0D i = some p) (form : k.op = .rdel c n) :
    s.threePartyStatus i = some ((s.dropInbox i).endTrans k p.status.toNat
      (if p.status = 0 then 0 else (BitVec.ofNat 7 p.operand.toNat).toNat) 0 (.s 0)) := by
  by_cases done : p.status = 0 <;>
    simp only [State.threePartyStatus, received, answers, form, done, if_true, if_false, Option.map_some]

/-- A consumer of a group delivery that has its bytes is no longer awaited (R391). -/
theorem State.threePartyStatus_groupDone {c : Word} {n : Nat} (received : s.inboxAt 0x0D i = some p) (form : k.op = .rdelg c n)
    (done : p.status = 0) : s.threePartyStatus i =
    some ((s.dropInbox i).stepTrans k { k with await := k.await.filter (· != p.src), reached := true }) := by
  have notRefused : ownerRefuses k p = false := by simp [ownerRefuses, done]
  simp only [State.threePartyStatus, received, answers, form, done, notRefused, Bool.false_eq_true, if_true, if_false,
    Option.map_some]

/-- A member's bytes join the values of a reduction (R392). -/
theorem State.reductionValue_given (received : s.inboxAt 0x0F i = some p) (done : p.status = 0) : s.reductionValue i =
    some ((s.dropInbox i).stepTrans k
      { k with await := k.await.filter (· != p.src), values := k.values ++ [(p.src, p.bytes)] }) := by
  simp only [State.reductionValue, received, answers, done, if_true, Option.map_some]

theorem State.reductionValue_failed (received : s.inboxAt 0x0F i = some p) (failed : p.status ≠ 0) :
    s.reductionValue i = some ((s.dropInbox i).memberFails k p.src p.status.toNat) := by
  simp only [State.reductionValue, received, answers, failed, if_false, Option.map_some]

end

/-- A load whose request has left fails with TIMEOUT once the wait is over (R385, Table 16.4 line 6). -/
theorem State.fabricTimeout_load {s : State} {n : Nat} {k : Trans} {w : Bool} (outstanding : s.links.trans[n]? = some k)
    (form : k.op = .ld w) (late : k.late s.links.memberSet ≠ []) (due : fabricWait ≤ ((s.dieAt k.die).tick - k.sentAt).toNat) :
    s.fabricTimeout n = some (s.memberFails k (fabMember k.addr) stTimeout) := by
  simp only [State.fabricTimeout, outstanding, form, List.isEmpty_eq_false_iff.2 late, decide_eq_false (Nat.not_lt.2 due),
    Bool.or_self, Bool.false_eq_true, if_false]

end Sys2Proof.Machine

namespace Sys2Proof.Proofs

open Sys2Proof.Machine

/-- Settles O41: each answer does to the transaction of its tag what the rule for its packet gives. -/
theorem fabricAnswersComplete : Obligations.FabricAnswersComplete := by
  unfold Obligations.FabricAnswersComplete
  refine ⟨?read, ?atomic, ?write, ?fetched, ?refused, ?accepted, ?delivery, ?group, ?value, ?failed, ?timeout⟩
  case read =>
    intro s i p k received answers
    exact exec_event (exec_readResponse i s) (State.respond_answered answers received)
  case atomic =>
    intro s i p k received answers
    exact exec_event (exec_atomicResponse i s) (State.respond_answered answers received)
  case write =>
    intro s i p k received noFetched answers
    exact exec_event (exec_writeAndFlagResponse i s) (State.writeAnswer_answered answers received noFetched)
  case fetched =>
    intro s i p k received awaited run
    obtain ⟨t, result, written⟩ := State.fetchedWrite_sp received awaited run
    exact answers_enabled (exec_orderedFetchedValueWrite i s) result written
  case refused =>
    intro s i p k received answers refused
    exact exec_event (exec_orderedAtomicStatus i s) (State.ordStatus_refused answers received refused)
  case accepted =>
    intro s i p k received answers accepted
    exact exec_event (exec_orderedAtomicStatus i s) (State.ordStatus_accepted answers received accepted)
  case delivery =>
    intro s i p k c n received answers form
    exact exec_event (exec_threePartyStatus i s) (State.threePartyStatus_delivery answers received form)
  case group =>
    intro s i p k c n received answers form done
    exact exec_event (exec_threePartyStatus i s) (State.threePartyStatus_groupDone answers received form done)
  case value =>
    intro s i p k received answers done
    exact exec_event (exec_reductionValue i s) (State.reductionValue_given answers received done)
  case failed =>
    intro s i p k received answers failed
    exact exec_event (exec_reductionValue i s) (State.reductionValue_failed answers received failed)
  case timeout =>
    intro s n k w outstanding form late due
    exact exec_event (exec_fabricTimeout n s) (State.fabricTimeout_load outstanding form late due)

end Sys2Proof.Proofs
end

section
/-! Queue entries as they are performed (R192 to R194, R200, R203, R206, R235, R333): which bytes a queued store writes, and what its
step leaves of the scratchpads and of device memory. -/

namespace Sys2Proof.Machine

/-! ### The bytes of an entry -/

theorem getD_leBytes {n j : Nat} (v : Nat) (h : j < n) : (leBytes n v).getD j 0 = BitVec.ofNat 8 (v / 256 ^ j) := by
  induction n generalizing v j with
  | zero => omega
  | succ n ih =>
    cases j with
    | zero => simp [leBytes]
    | succ j =>
      rw [leBytes, List.getD_cons_succ, ih (v / 256) (Nat.lt_of_succ_lt_succ h), Nat.div_div_eq_div_mul, Nat.pow_succ']

/-- The kept bytes of a run are those whose offset the mask names. -/
theorem mem_keptBytes_zero {bs : List Byte} {keep : Nat → Bool} {j : Nat} {b : Byte} :
    (j, b) ∈ keptBytes 0 bs keep ↔ j < bs.length ∧ b = bs.getD j 0 ∧ keep j = true := by
  simp only [keptBytes, List.mem_filterMap, Prod.exists, List.mem_zipIdx_iff_getElem?, Nat.zero_add, Option.ite_none_right_eq_some,
    Option.some.injEq, Prod.mk.injEq]
  constructor
  · rintro ⟨b, j, found, kept, rfl, rfl⟩
    obtain ⟨inside, rfl⟩ := List.getElem?_eq_some_iff.1 found
    exact ⟨inside, (List.getD_eq_getElem _ _ inside).symm, kept⟩
  · rintro ⟨inside, rfl, kept⟩
    exact ⟨_, j, by rw [List.getD_eq_getElem _ _ inside, List.getElem?_eq_getElem inside], kept, rfl, rfl⟩

/-- The bytes of a row, or of its side lane, that a mask names: all of them where there is none. -/
def maskKeeps (lanes : Row → Nat) (mask : Option Row) (j : Nat) : Bool :=
  match mask with
  | some m => byteSet (lanes m) j
  | none => true

variable {e : Entry}

theorem Entry.stores_st {n : Wid} {v : Word} (op : e.op = .st n v) :
    e.stores = keptBytes 0 (leBytes (widBytes n) v.toNat) fun _ => true := by
  simp only [Entry.stores, op, keptBytes, if_true, Nat.zero_add, List.filterMap_eq_map']

theorem Entry.stores_strow {r : Row} {mask : Option Row} (op : e.op = .strow r mask) :
    e.stores = keptBytes 0 (rowBytes r) (maskKeeps (fun m => m.data.toNat) mask) := by
  cases mask <;> simp [Entry.stores, op, keptBytes, maskKeeps]

theorem Entry.sideStores_strow {r : Row} {mask : Option Row} (op : e.op = .strow r mask) :
    e.sideStores = keptBytes 0 (rowSide r) (maskKeeps (fun m => m.side.toNat) mask) := by
  cases mask <;> simp [Entry.sideStores, op, keptBytes, maskKeeps]

@[simp] theorem length_rowSide (r : Row) : (rowSide r).length = 32 := length_leBytes 32 _

/-- Whatever the entry, the bytes that it stores are kept bytes of one run of at most a row. -/
theorem Entry.stores_eq_keptBytes (e : Entry) : ∃ bs keep, bs.length ≤ 256 ∧ e.stores = keptBytes 0 bs keep := by
  cases op : e.op with
  | st n v => exact ⟨_, _, by cases n <;> simp [widBytes], Entry.stores_st op⟩
  | strow r mask => exact ⟨_, _, by simp, Entry.stores_strow op⟩
  | _ => exact ⟨[], fun _ => true, by simp, by simp [Entry.stores, op, keptBytes]⟩

theorem Entry.sideStores_eq_keptBytes (e : Entry) : ∃ bs keep, bs.length ≤ 32 ∧ e.sideStores = keptBytes 0 bs keep := by
  cases op : e.op with
  | strow r mask => exact ⟨_, _, by simp, Entry.sideStores_strow op⟩
  | _ => exact ⟨[], fun _ => true, by simp, by simp [Entry.sideStores, op, keptBytes]⟩

/-- Kept bytes hold one byte for an offset. -/
theorem keptBytes_zero_functional {bs : List Byte} {keep : Nat → Bool} {z b : Nat × Byte} (hz : z ∈ keptBytes 0 bs keep)
    (hb : b ∈ keptBytes 0 bs keep) (same : z.1 = b.1) : z.2 = b.2 := by
  rw [(mem_keptBytes_zero.1 hz).2.1, (mem_keptBytes_zero.1 hb).2.1, same]

theorem Entry.lt_of_mem_stores {b : Nat × Byte} (h : b ∈ e.stores) : b.1 < 256 := by
  obtain ⟨bs, keep, short, stores⟩ := e.stores_eq_keptBytes
  rw [stores] at h
  exact lt_of_lt_of_le (mem_keptBytes_zero.1 h).1 short

theorem Entry.stores_functional {z b : Nat × Byte} (hz : z ∈ e.stores) (hb : b ∈ e.stores) (same : z.1 = b.1) : z.2 = b.2 := by
  obtain ⟨bs, keep, -, stores⟩ := e.stores_eq_keptBytes
  rw [stores] at hz hb
  exact keptBytes_zero_functional hz hb same

theorem Entry.sideStores_functional {z b : Nat × Byte} (hz : z ∈ e.sideStores) (hb : b ∈ e.sideStores) (same : z.1 = b.1) :
    z.2 = b.2 := by
  obtain ⟨bs, keep, -, stores⟩ := e.sideStores_eq_keptBytes
  rw [stores] at hz hb
  exact keptBytes_zero_functional hz hb same

/-! ### Scattered writes -/

/-- An address that no write of a list names reads as before. -/
theorem Mem.read_writeEach_other (m : Mem) {l : List (Nat × Byte)} {a : Nat} (other : ∀ z ∈ l, z.1 ≠ a) :
    (m.writeEach l).read a = m.read a := by
  induction l generalizing m with
  | nil => rfl
  | cons z l ih =>
    have away : ¬(z.1 ≤ a ∧ a < z.1 + [z.2].length) := by
      have := other z List.mem_cons_self
      simp only [List.length_singleton]; omega
    exact (ih (m.write z.1 [z.2]) fun y hy => other y (List.mem_cons_of_mem z hy)).trans (Mem.read_write_outside m z.1 [z.2] away)

/-- An address reads a byte written there, when all that the list writes there is that byte. -/
theorem Mem.read_writeEach_mem (m : Mem) {l : List (Nat × Byte)} {c : Nat × Byte} (hc : c ∈ l)
    (only : ∀ z ∈ l, z.1 = c.1 → z.2 = c.2) : (m.writeEach l).read c.1 = c.2 := by
  induction l using List.reverseRecOn with
  | nil => cases hc
  | append_singleton l z ih =>
    rw [Mem.writeEach_append]
    by_cases last : z.1 = c.1
    · rw [← only z (by simp) last, ← last]
      simp [Mem.writeEach, Mem.read_write]
    · have before : c ∈ l := by
        rcases List.mem_append.1 hc with h | h
        · exact h
        · exact absurd (by rw [List.mem_singleton.1 h]) last
      rw [Mem.read_writeEach_other _ (by simpa using last)]
      exact ih before fun y hy => only y (List.mem_append_left _ hy)

/-- Writes of a list of bytes at an address of each: one is read back when no other byte of the list goes to its address. -/
theorem Mem.read_writeEach_map {f : Nat × Byte → Nat} (m : Mem) {l : List (Nat × Byte)} {b : Nat × Byte} (hb : b ∈ l)
    (only : ∀ z ∈ l, f z = f b → z.2 = b.2) : (m.writeEach (l.map fun z => (f z, z.2))).read (f b) = b.2 :=
  Mem.read_writeEach_mem m (c := (f b, b.2)) (List.mem_map_of_mem hb) fun z hz same => by
    obtain ⟨y, hy, rfl⟩ := List.mem_map.1 hz
    exact only y hy same

theorem Mem.read_writeEach_map_other {f : Nat × Byte → Nat} (m : Mem) {l : List (Nat × Byte)} {a : Nat}
    (other : ∀ z ∈ l, f z ≠ a) : (m.writeEach (l.map fun z => (f z, z.2))).read a = m.read a :=
  Mem.read_writeEach_other m fun z hz => by
    obtain ⟨y, hy, rfl⟩ := List.mem_map.1 hz
    exact other y hy

/-- Offsets within a row stay apart in the address of the byte within its die. -/
theorem spOff_add_inj {x i j : Nat} (hi : i < 256) (hj : j < 256) (same : spOff (x + i) = spOff (x + j)) : i = j := by
  simp only [spOff, bits] at same
  omega

/-- The stored bytes of a piece are read back in the scratchpad from the address of the store on. -/
theorem Mem.read_writeEach_stores (m : Mem) (x : Nat) {p : Nat × Byte → Bool} {b : Nat × Byte} (hb : b ∈ e.stores.filter p) :
    (m.writeEach ((e.stores.filter p).map fun z => (spOff (x + z.1), z.2))).read (spOff (x + b.1)) = b.2 := by
  refine Mem.read_writeEach_map (f := fun z => spOff (x + z.1)) m hb fun z hz near => ?_
  have stored := (List.mem_filter.1 hb).1
  have stored' := (List.mem_filter.1 hz).1
  exact Entry.stores_functional stored' stored
    (spOff_add_inj (Entry.lt_of_mem_stores stored') (Entry.lt_of_mem_stores stored) near)

theorem Mem.read_writeEach_sideStores (m : Mem) (base : Nat) {b : Nat × Byte} (hb : b ∈ e.sideStores) :
    (m.writeEach (e.sideStores.map fun z => (base + z.1, z.2))).read (base + b.1) = b.2 :=
  Mem.read_writeEach_map (f := fun z => base + z.1) m hb fun _ hz near =>
    Entry.sideStores_functional hz hb (Nat.add_left_cancel near)

/-! ### Steps that write no memory -/

/-- Two states with the same bytes in device memory, in the scratchpads and in their side lanes. -/
structure State.SameMemory (s t : State) : Prop where
  hbm : t.hbm = s.hbm
  sp : ∀ o, (t.dieAt o).sp = (s.dieAt o).sp
  side : ∀ o, (t.dieAt o).spSide = (s.dieAt o).spSide

theorem State.SameMemory.refl (s : State) : s.SameMemory s := ⟨rfl, fun _ => rfl, fun _ => rfl⟩

theorem State.SameMemory.trans {s t u : State} (h : s.SameMemory t) (g : t.SameMemory u) : s.SameMemory u :=
  ⟨g.hbm.trans h.hbm, fun o => (g.sp o).trans (h.sp o), fun o => (g.side o).trans (h.side o)⟩

theorem State.sameMemory_onDieAt {s : State} {d : DieId} {f : Die → Die} (sp : ∀ x, (f x).sp = x.sp)
    (side : ∀ x, (f x).spSide = x.spSide) : s.SameMemory (s.onDieAt d f) where
  hbm := rfl
  sp o := by
    by_cases h : o = d
    · subst h; rw [State.dieAt_onDieAt, sp]
    · rw [State.dieAt_onDieAt_ne s f h]
  side o := by
    by_cases h : o = d
    · subst h; rw [State.dieAt_onDieAt, side]
    · rw [State.dieAt_onDieAt_ne s f h]

theorem State.sameMemory_onCtxAt (s : State) (d : DieId) (c : CtxId) (f : Ctx → Ctx) : s.SameMemory (s.onCtxAt d c f) :=
  State.sameMemory_onDieAt (fun _ => rfl) fun _ => rfl

theorem State.sameMemory_foldl {α : Type} {f : State → α → State} (same : ∀ r a, State.SameMemory r (f r a)) (l : List α)
    (s : State) : s.SameMemory (l.foldl f s) := by
  induction l generalizing s with
  | nil => exact .refl s
  | cons a l ih => exact (same s a).trans (ih (f s a))

/-- What a die learns of a translation is no memory (R187). -/
theorem State.sameMemory_learn (s : State) (t : Task) (d : DieId) (va n : Nat) : s.SameMemory (s.learn t d va n) := by
  unfold State.learn
  refine State.SameMemory.trans (State.sameMemory_foldl (fun r p => ?_) (pagePieces va n) s) ⟨rfl, fun _ => rfl, fun _ => rfl⟩
  split
  · exact State.sameMemory_onDieAt (fun _ => rfl) fun _ => rfl
  · exact .refl r

/-! ### Writes of device memory -/

/-- A fold that puts a byte for each element that has a place writes those bytes into device memory, and no die. -/
theorem State.foldl_hbmPut {f : State → Nat × Byte → State} {place : Nat × Byte → Option (Nat × Byte)}
    (put : ∀ r b p, place b = some p → f r b = r.hbmPut p.1 [p.2]) (skip : ∀ r b, place b = none → f r b = r)
    (l : List (Nat × Byte)) (s : State) :
    (l.foldl f s).hbm = s.hbm.writeEach (l.filterMap place) ∧ (l.foldl f s).dies = s.dies := by
  induction l generalizing s with
  | nil => exact ⟨rfl, rfl⟩
  | cons b l ih =>
    rw [List.foldl_cons]
    cases found : place b with
    | none => rw [skip s b found, List.filterMap_cons_none found]; exact ih s
    | some p => rw [put s b p found, List.filterMap_cons_some found]; exact ih (s.hbmPut p.1 [p.2])

/-- Where a byte at an offset from an address of device memory stands, with its value; nowhere on an unmapped page. -/
def State.placeOf (s : State) (t : Task) (d : DieId) (va : Nat) (b : Nat × Byte) : Option (Nat × Byte) :=
  (s.page t d (va + b.1)).toOption.map fun x => (x.phys (va + b.1), b.2)

theorem State.placeOf_eq_some {s : State} {t : Task} {d : DieId} {va : Nat} {b p : Nat × Byte} :
    s.placeOf t d va b = some p ↔ ∃ x, s.page t d (va + b.1) = .ok x ∧ (x.phys (va + b.1), b.2) = p := by
  cases h : s.page t d (va + b.1) <;> simp [State.placeOf, h, Except.toOption]

/-- A byte of a list is read back at its place when the list holds no other byte for its offset, and none of another offset
stands there. -/
theorem Mem.read_writeEach_places (m : Mem) {s : State} {t : Task} {d : DieId} {va : Nat} {l : List (Nat × Byte)} {b : Nat × Byte}
    {x : TlbEntry} (hb : b ∈ l) (leaf : s.page t d (va + b.1) = .ok x) (functional : ∀ z ∈ l, z.1 = b.1 → z.2 = b.2)
    (alone : ∀ z ∈ l, z.1 ≠ b.1 → ∀ y, s.page t d (va + z.1) = .ok y → y.phys (va + z.1) ≠ x.phys (va + b.1)) :
    (m.writeEach (l.filterMap (s.placeOf t d va))).read (x.phys (va + b.1)) = b.2 := by
  have placed : (x.phys (va + b.1), b.2) ∈ l.filterMap (s.placeOf t d va) :=
    List.mem_filterMap.2 ⟨b, hb, State.placeOf_eq_some.2 ⟨x, leaf, rfl⟩⟩
  refine Mem.read_writeEach_mem m placed fun z hz near => ?_
  obtain ⟨y, hy, place⟩ := List.mem_filterMap.1 hz
  obtain ⟨w, leaf', rfl⟩ := State.placeOf_eq_some.1 place
  by_cases offset : y.1 = b.1
  · exact functional y hy offset
  · exact absurd near (alone y hy offset w leaf')

/-- Where no byte of a list stands, memory reads as before. -/
theorem Mem.read_writeEach_places_other (m : Mem) {s : State} {t : Task} {d : DieId} {va a : Nat} {l : List (Nat × Byte)}
    (other : ∀ b ∈ l, ∀ x, s.page t d (va + b.1) = .ok x → x.phys (va + b.1) ≠ a) :
    (m.writeEach (l.filterMap (s.placeOf t d va))).read a = m.read a := by
  refine Mem.read_writeEach_other m fun z hz => ?_
  obtain ⟨y, hy, place⟩ := List.mem_filterMap.1 hz
  obtain ⟨w, leaf, rfl⟩ := State.placeOf_eq_some.1 place
  exact other y hy w leaf

/-- A write at an address of device memory puts each byte at its place, through the leaves of the state in which it begins. -/
theorem State.writeAt_device {s : State} {t : Task} {d : DieId} {a : Word} {va : Nat} (space : spaceOf a = .device va)
    (l : List (Nat × Byte)) : (s.writeAt t d a l).hbm = s.hbm.writeEach (l.filterMap (s.placeOf t d va)) ∧
      (s.writeAt t d a l).dies = s.dies := by
  simp only [State.writeAt, space]
  refine State.foldl_hbmPut (fun r b p found => ?_) (fun r b found => ?_) l s
  · obtain ⟨x, leaf, rfl⟩ := State.placeOf_eq_some.1 found
    simp only [leaf]
  · cases leaf : s.page t d (va + b.1) with
    | ok x => simp [State.placeOf, leaf, Except.toOption] at found
    | error r => rfl

/-! ### The store of a piece -/

section

variable {s : State} {t : Task} {d : DieId} {c : CtxId} {piece : List Nat} {x : Nat}

/-- An entry's leaving, or its staying with bytes left, writes no memory. -/
theorem State.sameMemory_leave_or_setEntry (s : State) (d : DieId) (c : CtxId) (e f : Entry) (done : Bool) :
    s.SameMemory (if done then s.leave d c e none else s.setEntry d c f) := by
  cases done
  · exact State.sameMemory_onCtxAt s d c _
  · exact State.sameMemory_onCtxAt s d c _

/-- A whole row is written with its side lane and its check bits (R195). -/
theorem State.performStore_row {r : Row} (space : spaceOf e.addr = .scratch x) (op : e.op = .strow r none) :
    (s.onDieAt (spDie d x) fun y => y.writeRow (spUnit x) r).SameMemory (s.performStore t d c e piece) := by
  simp only [State.performStore, space, op]
  exact State.sameMemory_leave_or_setEntry _ d c _ _ _

/-- Any other store to a scratchpad writes the bytes of its piece and its side-lane bytes (R182, R200). -/
theorem State.performStore_scratch (space : spaceOf e.addr = .scratch x) (notRow : ∀ r, e.op ≠ .strow r none) :
    (s.onDieAt (spDie d x) fun y => y.writeBytes
      ((e.stores.filter fun b => piece.contains b.1).map fun b => (spOff (x + b.1), b.2))
      (e.sideStores.map fun b => (32 * spUnit x + b.1, b.2))).SameMemory (s.performStore t d c e piece) := by
  unfold State.performStore
  split
  · next r _ op _ => exact absurd op (notRow r)
  · next y found _ =>
    cases space.symm.trans found
    exact State.sameMemory_leave_or_setEntry _ d c _ _ _
  · next notScratch _ => exact absurd space (notScratch x)

theorem State.performStore_device (space : spaceOf e.addr = .device x) :
    (s.writeAt t d e.addr (e.stores.filter fun b => piece.contains b.1)).SameMemory (s.performStore t d c e piece) := by
  unfold State.performStore
  split
  · next found => cases space.symm.trans found
  · next found _ => cases space.symm.trans found
  · exact State.sameMemory_leave_or_setEntry _ d c _ _ _

end

/-! ### Memory after a step -/

section

variable {s t : State} {d : DieId} {f : Die → Die} (same : (s.onDieAt d f).SameMemory t)

include same

theorem State.SameMemory.sp_changed : (t.dieAt d).sp = (f (s.dieAt d)).sp := by
  rw [same.sp, State.dieAt_onDieAt]

theorem State.SameMemory.side_changed : (t.dieAt d).spSide = (f (s.dieAt d)).spSide := by
  rw [same.side, State.dieAt_onDieAt]

theorem State.SameMemory.sp_other {o : DieId} (h : o ≠ d) : (t.dieAt o).sp = (s.dieAt o).sp := by
  rw [same.sp, State.dieAt_onDieAt_ne s f h]

theorem State.SameMemory.side_other {o : DieId} (h : o ≠ d) : (t.dieAt o).spSide = (s.dieAt o).spSide := by
  rw [same.side, State.dieAt_onDieAt_ne s f h]

/-- A byte that the change of the die leaves is left on every die. -/
theorem State.SameMemory.sp_frame {o : DieId} {a : Nat} (kept : o = d → (f (s.dieAt d)).sp.read a = (s.dieAt d).sp.read a) :
    (t.dieAt o).sp.read a = (s.dieAt o).sp.read a := by
  by_cases here : o = d
  · subst here; rw [same.sp_changed, kept rfl]
  · rw [same.sp_other here]

theorem State.SameMemory.side_frame {o : DieId} {a : Nat}
    (kept : o = d → (f (s.dieAt d)).spSide.read a = (s.dieAt d).spSide.read a) :
    (t.dieAt o).spSide.read a = (s.dieAt o).spSide.read a := by
  by_cases here : o = d
  · subst here; rw [same.side_changed, kept rfl]
  · rw [same.side_other here]

end

/-! ### Which step performs an entry -/

theorem Entry.inAperture_scratch {x : Nat} (space : spaceOf e.addr = .scratch x) : e.inAperture = false := by
  simp only [Entry.inAperture, space]

/-- Only a store that begins in the region of the copy channels clears an ERR (R194). -/
theorem Entry.clearsErr_eq_false (outside : e.inAperture = false) : e.clearsErr = false := by
  simp only [Entry.inAperture] at outside
  unfold Entry.clearsErr
  split
  · next va _ space => simp only [space] at outside; simp [outside]
  · next va _ space => simp only [space] at outside; simp [outside]
  · rfl

end Sys2Proof.Machine

namespace Sys2Proof.Claims

open Sys2Proof.Machine

variable {s : State} {d : DieId} {c : CtxId} {q off : Nat} {e : Entry} {k : Task}

section

variable (h : Performable s d c q off e k)

include h

/-- A load, a scalar store or a row store that nothing holds back makes its local access, by the step of the entry. -/
theorem Performable.perform_local (access : (∃ n sg, e.op = .ld n sg) ∨ (∃ n v, e.op = .st n v) ∨ ∃ r m, e.op = .strow r m) :
    s.perform e.step d c q off = some (s.performLocal k d c e off) := by
  obtain ⟨entry, task, may⟩ := h
  rcases access with ⟨n, sg, op⟩ | ⟨n, v, op⟩ | ⟨r, m, op⟩ <;>
    simp only [State.perform, entry, task, may, op, bne_self_eq_false, Bool.not_true, Bool.or_self, Bool.false_eq_true, if_false]

theorem Performable.perform_srd {r : Nat} (op : e.op = .srd r) :
    s.perform e.step d c q off = some (s.leave d c e (some (.syq, .s (s.readQueued k.lid d r)))) := by
  obtain ⟨entry, task, may⟩ := h
  simp only [State.perform, entry, task, may, op, bne_self_eq_false, Bool.not_true, Bool.or_self, Bool.false_eq_true, if_false]

theorem Performable.perform_swr {r : Nat} {v : Word} (op : e.op = .swr r v) :
    s.perform e.step d c q off = some ((s.writeQueued k.lid d r v).leave d c e none) := by
  obtain ⟨entry, task, may⟩ := h
  simp only [State.perform, entry, task, may, op, bne_self_eq_false, Bool.not_true, Bool.or_self, Bool.false_eq_true, if_false]

end

section

variable (h : QueuedStore s d c q off e k)

include h

/-- A queued store that begins outside the region of the copy channels is performed by QUEUE_ENTRY_PERFORMED. -/
theorem QueuedStore.exec_eq (outside : e.inAperture = false) :
    exec (.queueEntryPerformed d c q off) s = .next (s.performLocal k d c e off) := by
  have step : e.step = .plain := by
    rcases h.kind with ⟨n, v, op⟩ | ⟨r, m, op⟩ <;> simp [Entry.step, op, Entry.clearsErr_eq_false outside]
  rw [exec_queueEntryPerformed, execQueueEntryPerformed, ← step, h.runs.perform_local (.inr h.kind), enabled_some]

/-- With no fault and no error the local access of a queued store is its store, and the die learns the translation (R186, R187). -/
theorem QueuedStore.sameMemory_performLocal :
    (s.performStore k d c e (e.piece off)).SameMemory (s.performLocal k d c e off) := by
  have unfaulted : (none == some ((0x21, 4) : Nat × Nat)) = false := rfl
  rcases h.kind with ⟨n, v, op⟩ | ⟨r, m, op⟩ <;>
    simp only [State.performLocal, op, QOp.acc, h.granted, h.good, unfaulted, Bool.and_false, Bool.false_eq_true, if_false]
  all_goals
    split
    · exact State.sameMemory_learn _ k d _ 1
    · exact .refl _

/-- A queued store answers with a state that has the memory which `performStore` leaves. -/
theorem QueuedStore.answers (outside : e.inAperture = false) {u : State}
    (stored : u.SameMemory (s.performStore k d c e (e.piece off))) :
    Answers (.queueEntryPerformed d c q off) s u.SameMemory :=
  ⟨_, h.exec_eq outside, stored.trans h.sameMemory_performLocal⟩

end

end Sys2Proof.Claims

namespace Sys2Proof.Proofs

open Sys2Proof.Machine Sys2Proof.Claims

/-- Settles O45: what performs an entry follows from its operation; the bytes of a queued store are read back from the memory that
`State.performStore` leaves. -/
theorem queueEntriesComplete : Obligations.QueueEntriesComplete := by
  unfold Obligations.QueueEntriesComplete
  refine ⟨?load, ?store, ?read, ?polgen, ?window, ?stream, ?errClear, ?bytes, ?scratch, ?row, ?device⟩
  case load =>
    intro s d c q off e k n sg h op
    have step : e.step = .plain := by simp [Entry.step, op, Entry.clearsErr]
    exact exec_event (exec_queueEntryPerformed d c q off s) (step ▸ h.perform_local (.inl ⟨n, sg, op⟩))
  case store =>
    intro s d c q off e k n v h op outside
    have step : e.step = .plain := by simp [Entry.step, op, Entry.clearsErr_eq_false outside]
    exact exec_event (exec_queueEntryPerformed d c q off s) (step ▸ h.perform_local (.inr (.inl ⟨n, v, op⟩)))
  case read =>
    intro s d c q off e k r h op
    have step : e.step = .plain := by simp [Entry.step, op, Entry.clearsErr]
    exact exec_event (exec_queueEntryPerformed d c q off s) (step ▸ h.perform_srd op)
  case polgen =>
    intro s d c q e k v h op
    have step : e.step = .polgen := by simp [Entry.step, op]
    exact exec_event (exec_polgenWrite d c q s) (step ▸ h.perform_swr op)
  case window =>
    intro s d c q e k r v h op low high
    have step : e.step = .window := by 
      simp only [Entry.step, op, if_neg (show ¬r = 0x0030 by omega), if_pos high]
    exact exec_event (exec_windowDescriptorWrite d c q s) (step ▸ h.perform_swr op)
  case stream =>
    intro s d c q e k r v h op low
    have step : e.step = .stream := by
      simp only [Entry.step, op, if_neg (show ¬r = 0x0030 by omega), if_neg (show ¬r < 0x1400 by omega), if_pos low]
    exact exec_event (exec_streamcfgWrite d c q s) (step ▸ h.perform_swr op)
  case errClear =>
    intro s d c q e k n v h op clears
    have step : e.step = .errClear := by simp [Entry.step, op, clears]
    exact exec_event (exec_copyErrClear d c q s) (step ▸ h.perform_local (.inr (.inl ⟨n, v, op⟩)))
  case bytes =>
    intro e j b
    refine ⟨fun n v op => ?_, fun r op => ?_, fun r m op => ?_⟩
    · rw [Entry.stores_st op, mem_keptBytes_zero, length_leBytes]
      refine and_congr_right fun inside => ?_
      rw [getD_leBytes _ inside, eq_self, and_true]
    · rw [Entry.stores_strow op, Entry.sideStores_strow op]
      simp [mem_keptBytes_zero, maskKeeps]
    · rw [Entry.stores_strow op, Entry.sideStores_strow op]
      simp [mem_keptBytes_zero, maskKeeps]
  case scratch =>
    intro s d c q off e k x h space notRow
    obtain ⟨t, result, same⟩ := h.answers (Entry.inAperture_scratch space) (State.performStore_scratch space notRow)
    refine ⟨t, result, fun b hb => ?_, fun o a other => ?_, fun b hb => ?_, fun o a other => ?_, fun a => by rw [same.hbm]; rfl⟩
    · rw [same.sp_changed]
      exact Mem.read_writeEach_stores _ x hb
    · exact same.sp_frame fun here => Mem.read_writeEach_map_other (f := fun b => spOff (x + b.1)) _ (other here)
    · rw [same.side_changed]
      exact Mem.read_writeEach_sideStores _ (32 * spUnit x) hb
    · exact same.side_frame fun here => Mem.read_writeEach_map_other (f := fun b => 32 * spUnit x + b.1) _ (other here)
  case row =>
    intro s d c q off e k x r h space op
    obtain ⟨t, result, same⟩ := h.answers (Entry.inAperture_scratch space) (State.performStore_row space op)
    refine ⟨t, result, fun o a => ?_, fun o a => ?_, fun a => by rw [same.hbm]; rfl⟩
    · by_cases here : o = spDie d x
      · subst here
        rw [same.sp_changed, Die.writeRow, Mem.read_write, length_rowBytes]
        simp only [true_and]
      · rw [same.sp_other here, if_neg fun both => here both.1]
    · by_cases here : o = spDie d x
      · subst here
        rw [same.side_changed, Die.writeRow, Mem.read_write, length_rowSide]
        simp only [true_and]
      · rw [same.side_other here, if_neg fun both => here both.1]
  case device =>
    intro s d c q off e k va h space outside
    obtain ⟨t, result, same⟩ := h.answers outside (State.performStore_device space)
    obtain ⟨written, dies⟩ := State.writeAt_device (s := s) (t := k) (d := d) space (pieceOf e off)
    have hbm : t.hbm = s.hbm.writeEach ((pieceOf e off).filterMap (s.placeOf k d va)) := same.hbm.trans written
    refine ⟨t, result, fun b hb x leaf alone => ?_, fun a other => ?_, fun o a => ?_⟩
    · rw [hbm]
      exact Mem.read_writeEach_places _ hb leaf
        (fun z hz => Entry.stores_functional (List.mem_filter.1 hz).1 (List.mem_filter.1 hb).1) alone
    · rw [hbm]
      exact Mem.read_writeEach_places_other _ other
    · have die : (s.writeAt k d e.addr (pieceOf e off)).dieAt o = s.dieAt o := congrArg (Vector.get · o) dies
      have sp : (t.dieAt o).sp = (s.dieAt o).sp := (same.sp o).trans (congrArg Die.sp die)
      have side : (t.dieAt o).spSide = (s.dieAt o).spSide := (same.side o).trans (congrArg Die.spSide die)
      rw [sp, side]
      exact ⟨rfl, rfl⟩

end Sys2Proof.Proofs
end

section
/-! PROOF. Pen control (09): what the list of pens answers after a pen is put or dropped, what serving the waiting receives leaves of
the pens (R400), each operation of fx.pen on a pen of the task (R229, R230), and the obligation. -/

namespace Sys2Proof.Machine

/-! ### The pens after an update -/

theorem lookup_cons_eq_ite (m j : Nat) (q : Pen) (l : List (Nat × Pen)) :
    ((m, q) :: l).lookup j = if j = m then some q else l.lookup j := by
  rw [List.lookup_cons]
  by_cases h : j = m
  · simp [h]
  · simp [h, beq_false_of_ne h]

theorem lookup_insertPen (n j : Nat) (p : Pen) (l : List (Nat × Pen)) :
    (insertPen n p l).lookup j = if j = n then some p else l.lookup j := by
  induction l with
  | nil => exact lookup_cons_eq_ite n j p []
  | cons x l ih =>
    obtain ⟨m, q⟩ := x
    rw [insertPen]
    split
    · exact lookup_cons_eq_ite n j p _
    split
    · next _ here =>
      obtain rfl : m = n := here
      simp only [lookup_cons_eq_ite]
      split <;> rfl
    · next _ other =>
      have apart : m ≠ n := other
      simp only [lookup_cons_eq_ite, ih]
      split <;> split <;> simp_all

@[simp] theorem State.pen?_putPen (s : State) (n : Nat) (p : Pen) : (s.putPen n p).pen? n = some p := by
  simp [State.pen?, State.putPen, lookup_insertPen]

theorem State.pen?_putPen_ne (s : State) {n j : Nat} (p : Pen) (h : j ≠ n) : (s.putPen n p).pen? j = s.pen? j := by
  simp [State.pen?, State.putPen, lookup_insertPen, h]

theorem State.pen?_congr {s t : State} (h : t.paddock.pens = s.paddock.pens) (j : Nat) : t.pen? j = s.pen? j :=
  congrArg (List.lookup j) h

theorem lookup_filter_ne (n j : Nat) (l : List (Nat × Pen)) :
    (l.filter fun x => x.1 != n).lookup j = if j = n then none else l.lookup j := by
  induction l with
  | nil => simp
  | cons x l ih =>
    obtain ⟨m, q⟩ := x
    by_cases dropped : m = n
    · simp only [List.filter_cons, dropped, bne_self_eq_false, Bool.false_eq_true, if_false, ih, lookup_cons_eq_ite]
      split <;> rfl
    · simp only [List.filter_cons, bne_iff_ne, ne_eq, dropped, not_false_eq_true, if_true, lookup_cons_eq_ite, ih]
      split <;> split <;> simp_all

theorem State.pen?_dropPen (s : State) (n j : Nat) : (s.dropPen n).pen? j = if j = n then none else s.pen? j :=
  lookup_filter_ne n j _

/-! ### The end of an fx form -/

theorem State.traceOf_paddock (s : State) (lid : BitVec 32) (d : DieId) (c : CtxId) (seq kind : Nat) (a b : Word) :
    (s.traceOf lid d c seq kind a b).paddock = s.paddock := by
  unfold State.traceOf
  split
  · split <;> rfl
  · rfl

theorem State.onOwner_paddock (s : State) (lid : BitVec 32) (d : DieId) (c : CtxId) (f : Ctx → Ctx) :
    (s.onOwner lid d c f).paddock = s.paddock := by
  simp only [State.onOwner]
  split <;> rfl

@[simp] theorem State.fxEnd_paddock (s : State) (lid : BitVec 32) (d : DieId) (c : CtxId) (seq : Nat) (op : RemOp) (st : Bool)
    (addr : Word) (status who info : Nat) (v : Value) :
    (s.fxEnd lid d c seq op st addr status who info v).paddock = s.paddock :=
  (State.onOwner_paddock ..).trans (State.traceOf_paddock ..)

/-! ### Receives that wait (R400) -/

/-- Pen `n` may have other observations, as after receives have taken some; every other pen is as it was. -/
def State.Received (n : Nat) (s t : State) : Prop :=
  (∃ l, t.pen? n = (s.pen? n).map fun p => { p with obs := l }) ∧ ∀ j, j ≠ n → t.pen? j = s.pen? j

theorem State.Received.of_pens {n : Nat} {s t : State} (h : t.paddock.pens = s.paddock.pens) : s.Received n t := by
  refine ⟨?_, fun j _ => State.pen?_congr h j⟩
  rw [State.pen?_congr h n]
  cases s.pen? n with
  | none => exact ⟨[], rfl⟩
  | some p => exact ⟨p.obs, rfl⟩

theorem State.Received.trans {n : Nat} {s t u : State} (h : s.Received n t) (g : t.Received n u) : s.Received n u := by
  obtain ⟨⟨l, first⟩, others⟩ := h
  obtain ⟨⟨k, second⟩, after⟩ := g
  refine ⟨⟨k, ?_⟩, fun j other => (after j other).trans (others j other)⟩
  rw [second, first, Option.map_map]
  rfl

/-- A receive that finds an answer leaves the pen but for its observations. -/
theorem recvPen_pen {lid : BitVec 32} {o r : Option Pen} {status : Nat} {v : Value} (h : recvPen lid o = some (r, status, v)) :
    ∃ l, r = o.map fun p => { p with obs := l } := by
  cases o with
  | none =>
    cases h
    exact ⟨[], rfl⟩
  | some p =>
    simp only [recvPen] at h
    split at h
    · cases h
      exact ⟨p.obs, rfl⟩
    split at h
    · next _ l _ =>
      cases h
      exact ⟨l, rfl⟩
    split at h
    · cases h
      exact ⟨p.obs, rfl⟩
    · contradiction

theorem State.received_feedOne (s : State) (n : Nat) : s.Received n (s.feedOne n) := by
  unfold State.feedOne
  split
  · exact .of_pens rfl
  next w _ =>
  split
  · exact .of_pens rfl
  next r status v answer =>
  obtain ⟨l, taken⟩ := recvPen_pen answer
  cases r with
  | none => exact .of_pens (by simp)
  | some q =>
    refine .trans (t := s.putPen n q) ⟨⟨l, ?_⟩, fun j other => s.pen?_putPen_ne q other⟩ (.of_pens (by simp [State.putPen]))
    rw [State.pen?_putPen, taken]

theorem State.received_feedRecv (s : State) (n : Nat) : s.Received n (s.feedRecv n) := by
  unfold State.feedRecv
  generalize s.paddock.waits = waits
  induction waits generalizing s with
  | nil => exact .of_pens rfl
  | cons w waits ih => exact (s.received_feedOne n).trans (ih _)

/-- A pen put and then received from is the pen but for its observations. -/
theorem State.pen?_feedRecv_putPen (s : State) (n : Nat) (p : Pen) :
    ∃ l, ((s.putPen n p).feedRecv n).pen? n = some { p with obs := l } := by
  obtain ⟨⟨l, pen⟩, -⟩ := (s.putPen n p).received_feedRecv n
  exact ⟨l, by rw [pen, State.pen?_putPen, Option.map_some]⟩

/-! ### The operations (R229, R230, R241, R401) -/

theorem State.penControl_absent {s : State} {n : Nat} (t : Task) (own : DieId) {op : PenOp} (a : Word) (h : op ≠ .create)
    (absent : s.pen? n = none) : s.penControl t own op n a = (s, stAbsent, 0) := by
  simp [State.penControl, h, absent]

theorem State.penControl_foreign {s : State} {n : Nat} {t : Task} (own : DieId) {op : PenOp} (a : Word) {p : Pen} (h : op ≠ .create)
    (pen : s.pen? n = some p) (foreign : p.owner ≠ t.lid) : s.penControl t own op n a = (s, stKey, 0) := by
  simp [State.penControl, h, pen, foreign]

theorem State.penControl_create (s : State) (t : Task) (own : DieId) (n : Nat) (a : Word) :
    s.penControl t own .create n a = s.penCreate t own a := rfl

theorem State.penCreate_made {s : State} {t : Task} {own : DieId} {a : Word} {va m : Nat} (addr : devAddr a = some va)
    (range : s.rangeOk t .rd va 64 = true)
    (legal : descLegal (s.readVirt t.asid va 64) (descOf own (s.readVirt t.asid va 64)) = true)
    (checked : s.descOk t none (descOf own (s.readVirt t.asid va 64)) = true) (free : s.paddock.freePen = some m) :
    s.penCreate t own a =
      (s.putPen m (s.startPen t t.lid (descOf own (s.readVirt t.asid va 64)) 0), stOk, m) := by
  simp [State.penCreate, addr, range, legal, checked, free]

section

variable {s : State} {n : Nat} {t : Task} {p : Pen} (pen : s.pen? n = some p) (owned : p.owner = t.lid) (own : DieId) (a : Word)

include pen owned

theorem State.penControl_reset :
    s.penControl t own .reset n a = ((s.penReset t n p).1, (s.penReset t n p).2, 0) := by
  simp [State.penControl, pen, owned]

theorem State.penControl_halt : s.penControl t own .halt n a = ((s.penHalt n p).1, (s.penHalt n p).2, 0) := by
  simp [State.penControl, pen, owned]

theorem State.penControl_snap : s.penControl t own .snap n a = ((s.penSnap t p a).1, (s.penSnap t p a).2, 0) := by
  simp [State.penControl, pen, owned]

theorem State.penControl_readrec :
    s.penControl t own .readrec n a = ((s.penReadrec t p a).1, (s.penReadrec t p a).2, 0) := by
  simp [State.penControl, pen, owned]

theorem State.penControl_destroy : s.penControl t own .destroy n a = ((s.dropPen n).feedRecv n, stOk, 0) := by
  simp [State.penControl, State.penDestroy, pen, owned]

end

section

variable {s : State} {n : Nat} {p : Pen} (running : p.st ≠ .ended)

include running

/-- HALT of an episode that an END observation has ended (R428). -/
theorem State.penHalt_posted (posted : p.endPosted = true) :
    s.penHalt n p = ((s.putPen n { p with st := .ended, waiting := false }).feedRecv n, stOk) := by
  simp [State.penHalt, running, posted]

/-- HALT of an episode that has not ended truncates it with reason 6 (R229). -/
theorem State.penHalt_unposted (pen : s.pen? n = some p) (unposted : p.endPosted = false) :
    s.penHalt n p = ((s.putPen n (p.truncate 6)).feedRecv n, stOk) := by
  simp [State.penHalt, State.truncatePen, running, pen, unposted]

end

end Sys2Proof.Machine

namespace Sys2Proof.Claims

open Sys2Proof.Machine

/-- A pen-control operation that nothing holds back and whose reads no error withholds ends its form with its status. -/
theorem Performable.perform_pen {s : State} {d : DieId} {c : CtxId} {q n : Nat} {e : Entry} {k : Task} {op : PenOp} {a : Word}
    {st : Bool} (h : Performable s d c q 0 e k) (form : e.op = .remote (.pen op n a) st) (clear : s.penBad k d op n a = none) :
    s.perform (.pen op) d c q 0 = some ((s.penControl k d op n a).1.fxEnd k.lid d c e.seq (.pen op n a) st e.addr
      (s.penControl k d op n a).2.1 0 (s.penControl k d op n a).2.2 (.s 0)) := by
  obtain ⟨entry, task, may⟩ := h
  have step : e.step = .pen op := by simp only [Entry.step, form]
  simp only [State.perform, State.performRemote, entry, task, may, step, form, clear, bne_self_eq_false, Bool.not_true, Bool.or_self,
    Bool.false_eq_true, if_false]

end Sys2Proof.Claims

namespace Sys2Proof.Proofs

open Sys2Proof.Machine Sys2Proof.Claims

/-- An event that performs the entries of a pen-control operation performs the operation. -/
theorem controls_of_exec {i : DieId → CtxId → Nat → Instr} {op : PenOp} {name : String}
    (meaning : ∀ d c q s, exec (i d c q) s = enabled name (s.perform (.pen op) d c q 0)) : Controls i op :=
  fun _ _ _ _ _ _ _ _ _ h form clear => exec_event (meaning _ _ _ _) (h.perform_pen form clear)

/-- Settles O46: an operation answers by its own function of the pen; HALT and DESTROY also serve the receives that wait, which take
nothing of the pen but observations. -/
theorem penControlCompletes : Obligations.PenControlCompletes := by
  unfold Obligations.PenControlCompletes
  refine ⟨controls_of_exec exec_penCreate, controls_of_exec exec_penReset, controls_of_exec exec_penHalt,
    controls_of_exec exec_penSnap, controls_of_exec exec_penReadrec, controls_of_exec exec_penDestroy,
    ?refused, ?create, ?reset, ?haltEnded, ?halt, ?snapRunning, ?snap, ?readrec, ?destroy⟩
  case refused =>
    intro s k d op n a other
    exact ⟨State.penControl_absent k d a other, fun p => State.penControl_foreign d a other⟩
  case create =>
    rintro s k d n a va _ m addr range rfl legal checked free
    rw [State.penControl_create]
    refine ⟨State.penCreate_made addr range legal checked free, s.pen?_putPen m _, fun j other => s.pen?_putPen_ne _ other,
      rfl, rfl, rfl, rfl, rfl, rfl, rfl, rfl, ?_⟩
    simp only [State.startPen]
  case reset =>
    intro s k d n a p pen owned checked
    refine ⟨?_, s.pen?_putPen n _, rfl, rfl, rfl, rfl, rfl⟩
    simp [State.penControl_reset pen owned, State.penReset, checked]
  case haltEnded =>
    intro s k d n a p pen owned ended
    simp [State.penControl_halt pen owned, State.penHalt, ended]
  case halt =>
    intro s k d n a p pen owned running
    rw [State.penControl_halt pen owned]
    cases posted : p.endPosted with
    | true =>
      rw [State.penHalt_posted running posted]
      obtain ⟨l, found⟩ := s.pen?_feedRecv_putPen n { p with st := .ended, waiting := false }
      exact ⟨rfl, _, found, rfl, rfl, rfl, nofun, fun _ => ⟨rfl, rfl, rfl⟩⟩
    | false =>
      rw [State.penHalt_unposted running pen posted]
      obtain ⟨l, found⟩ := s.pen?_feedRecv_putPen n (p.truncate 6)
      have goesOn : p.over = false := by simp [Pen.over, running, posted]
      refine ⟨rfl, _, found, ?_, ?_, ?_, fun _ => ?_, nofun⟩ <;> simp [Pen.truncate, goesOn]
  case snapRunning =>
    intro s k d n a p pen owned running
    simp [State.penControl_snap pen owned, State.penSnap, running]
  case snap =>
    intro s k d n a p va pen owned ended addr range
    simp [State.penControl_snap pen owned, State.penSnap, ended, addr, range]
  case readrec =>
    intro s k d n a p va pen owned addr range
    simp [State.penControl_readrec pen owned, State.penReadrec, addr, range]
  case destroy =>
    intro s k d n a p pen owned
    rw [State.penControl_destroy pen owned]
    obtain ⟨⟨l, dropped⟩, others⟩ := (s.dropPen n).received_feedRecv n
    refine ⟨rfl, ?_, fun j other => ?_⟩
    · simpa [State.pen?_dropPen] using dropped
    · simpa [State.pen?_dropPen, other] using others j other

end Sys2Proof.Proofs
end

section
/-! Updates of the issuing die and of its issuing context, one after another, and the memory that they leave. -/

namespace Sys2Proof.Machine

/-! ### Two updates in turn -/

theorem State.onDieAt_onDieAt (s : State) (d : DieId) (f g : Die → Die) :
    (s.onDieAt d f).onDieAt d g = s.onDieAt d fun x => g (f x) := by
  unfold State.onDieAt
  rw [State.dieAt_putDieAt]
  exact congrArg (fun l => ({ s with dies := l } : State)) (Vector.set_set ..)

theorem State.onDie_onDie (s : State) (f g : Die → Die) : (s.onDie f).onDie g = s.onDie fun x => g (f x) :=
  s.onDieAt_onDieAt s.turn f g

theorem State.onDie_congr {s : State} {f g : Die → Die} (h : f s.die = g s.die) : s.onDie f = s.onDie g :=
  congrArg (s.putDieAt s.turn) h

theorem Die.onCtxAt_onCtxAt (d : Die) (c : CtxId) (f g : Ctx → Ctx) :
    (d.onCtxAt c f).onCtxAt c g = d.onCtxAt c fun x => g (f x) := by
  have changed := congrArg (fun x => ({ d with ctxs := (d.onCtxAt c f).ctxs.set c.val (g x) } : Die)) (d.ctxAt_onCtxAt c f)
  exact changed.trans (congrArg (fun l => ({ d with ctxs := l } : Die)) (Vector.set_set ..))

theorem State.onCtx_onCtx (s : State) (f g : Ctx → Ctx) : (s.onCtx f).onCtx g = s.onCtx fun x => g (f x) :=
  (s.onDie_onDie _ _).trans (State.onDie_congr (s.die.onCtxAt_onCtxAt s.die.issuing f g))

theorem State.onCtx_congr {s : State} {f g : Ctx → Ctx} (h : f s.ctx = g s.ctx) : s.onCtx f = s.onCtx g :=
  State.onDie_congr (congrArg (fun c => s.die.onCtxAt s.die.issuing fun _ => c) h)

/-- An update that leaves the issuing die as it is leaves the state. -/
theorem State.onDie_of_die {s : State} {f : Die → Die} (h : f s.die = s.die) : s.onDie f = s :=
  congrArg (fun l => ({ s with dies := l } : State)) ((congrArg (s.dies.set _ · _) h).trans (Vector.set_getElem_self _))

/-- An update that leaves the issuing context as it is leaves the state. -/
theorem State.onCtx_of_ctx {s : State} {f : Ctx → Ctx} (h : f s.ctx = s.ctx) : s.onCtx f = s :=
  State.onDie_of_die <|
    congrArg (fun l => ({ s.die with ctxs := l } : Die)) ((congrArg (s.die.ctxs.set _ · _) h).trans (Vector.set_getElem_self _))

end Sys2Proof.Machine

namespace Sys2Proof.Claims

open Sys2Proof.Machine

/-! ### Updates that write no memory -/

theorem SameMemory.refl (s : State) : SameMemory s s :=
  ⟨fun _ => rfl, fun _ => rfl, fun _ _ => rfl, fun _ _ => rfl, fun _ _ => rfl⟩

theorem SameMemory.trans {s t u : State} (h : SameMemory s t) (g : SameMemory t u) : SameMemory s u where
  device a := (g.device a).trans (h.device a)
  host a := (g.host a).trans (h.host a)
  rows d a := (g.rows d a).trans (h.rows d a)
  lanes d a := (g.lanes d a).trans (h.lanes d a)
  code d a := (g.code d a).trans (h.code d a)

theorem sameMemory_onDie {s : State} {f : Die → Die} (rows : (f s.die).sp = s.die.sp) (lanes : (f s.die).spSide = s.die.spSide)
    (code : (f s.die).pstore = s.die.pstore) : SameMemory s (s.onDie f) := by
  have kept {α : Type} {p : Die → α} (same : p (f s.die) = p s.die) (d : DieId) :
      p ((s.onDie f).dieAt d) = p (s.dieAt d) := by
    by_cases h : d = s.turn
    · subst h; exact (congrArg p (State.die_onDie s f)).trans same
    · exact congrArg p (State.dieAt_onDieAt_ne s f h)
  exact ⟨fun _ => rfl, fun _ => rfl, fun d a => congrArg (Mem.read · a) (kept rows d),
    fun d a => congrArg (Mem.read · a) (kept lanes d), fun d a => congrArg (Mem.read · a) (kept code d)⟩

theorem sameMemory_onCtx (s : State) (f : Ctx → Ctx) : SameMemory s (s.onCtx f) := sameMemory_onDie rfl rfl rfl

theorem sameMemory_emit (s : State) (p : Packet) : SameMemory s (s.emit p) := by
  unfold State.emit
  split <;> exact ⟨fun _ => rfl, fun _ => rfl, fun _ _ => rfl, fun _ _ => rfl, fun _ _ => rfl⟩

end Sys2Proof.Claims
end

section
/-! What the write of a register, a latch or a trace record leaves (R284, R293, R297). -/

namespace Sys2Proof.Machine

/-! ### Registers -/

/-- Bits outside the field of one bit that is replaced stay. -/
theorem testBit_setBits_ne {n i j : Nat} (v : Nat) (h : j ≠ i) : (setBits n i 1 v).testBit j = n.testBit j := by
  have low : n % 2 ^ i < 2 ^ i := Nat.mod_lt _ (Nat.two_pow_pos i)
  have old : n = 2 ^ i * (2 * (n / 2 ^ i / 2) + n / 2 ^ i % 2) + n % 2 ^ i := by rw [Nat.div_add_mod, Nat.div_add_mod]
  have new : setBits n i 1 v = 2 ^ i * (2 * (n / 2 ^ i / 2) + v % 2) + n % 2 ^ i := by
    simp only [setBits, bits, pow_one, Nat.mul_add, Nat.mul_comm (_ % 2)] at old ⊢
    omega
  rw [new, Nat.testBit_two_pow_mul_add _ low]
  conv_rhs => rw [old, Nat.testBit_two_pow_mul_add _ low]
  split
  · rfl
  · obtain ⟨k, above⟩ : ∃ k, j - i = k + 1 := ⟨j - i - 1, by omega⟩
    have half (b : Nat) : (2 * (n / 2 ^ i / 2) + b % 2) / 2 = n / 2 ^ i / 2 := by omega
    rw [above, Nat.testBit_succ, Nat.testBit_succ, half, half]

theorem Ctx.readC_writeC_ne (c : Ctx) {i j : BitVec 3} (v : Bool) (h : j ≠ i) : (c.writeC i v).readC j = c.readC j := by
  have other : j.toNat ≠ i.toNat := fun same => h (BitVec.eq_of_toNat_eq same)
  have small : j.toNat < 8 := j.isLt
  unfold Ctx.writeC
  split
  · rfl
  · simp only [Ctx.readC, BitVec.getLsbD_ofNat, testBit_setBits_ne _ other, small, decide_true, Bool.true_and]
    rfl

/-- Another physical scalar register reads as before (R297, R321). -/
theorem Ctx.readS_writeS_ne (c : Ctx) {q r : BitVec 5} (v : Word) (h : c.physS q ≠ c.physS r) :
    (c.writeS r v).readS q = c.readS q := by
  unfold Ctx.writeS
  split
  · rfl
  · show (if q = 0 then 0 else (c.s.setIfInBounds (c.physS r) v).toList.getD (c.physS q) 0) = _
    simp [Ctx.readS, h.symm]

theorem Wall.readM_writeM_ne (w : Wall) {i j : BitVec 3} (v : Mask) (h : j ≠ i) : (w.writeM i v).readM j = w.readM j := by
  have other : i.toNat ≠ j.toNat := fun same => h (BitVec.eq_of_toNat_eq same.symm)
  unfold Wall.writeM
  split
  · rfl
  · simp [Wall.readM, Vector.get_eq_getElem, Vector.getElem_set_ne _ _ other]

theorem latchIx_injective : Function.Injective latchIx := by
  have inverse (l : Latch) : Latch.ofNat (latchIx l) = l := by cases l <;> rfl
  exact Function.LeftInverse.injective (g := fun i : Fin 22 => Latch.ofNat i) inverse

theorem Ctx.latch_setLatch_ne (c : Ctx) {k l : Latch} (v : Option Latched) (h : k ≠ l) : (c.setLatch l v).latch k = c.latch k :=
  Vector.getElem_set_ne (latchIx l).isLt (latchIx k).isLt fun same => h (latchIx_injective (Fin.ext same.symm))

/-! ### The one field that a write may change -/

theorem Ctx.writeS_eq (c : Ctx) (r : BitVec 5) (v : Word) : c.writeS r v = { c with s := (c.writeS r v).s } := by
  unfold Ctx.writeS; split <;> rfl

theorem Ctx.writeC_eq (c : Ctx) (i : BitVec 3) (v : Bool) : c.writeC i v = { c with c := (c.writeC i v).c } := by
  unfold Ctx.writeC; split <;> rfl

theorem Wall.writeM_eq (w : Wall) (i : BitVec 3) (v : Mask) : w.writeM i v = { w with m := (w.writeM i v).m } := by
  unfold Wall.writeM; split <;> rfl

/-! ### The trace buffer -/

theorem Die.traceWrite_eq (d : Die) (r : TraceRec) :
    ∃ buf ctl post, d.traceWrite r = { d with trcBuf := buf, trcCtl := ctl, trcPost := post } := by
  simp only [Die.traceWrite, Die.traceFreeze]
  split <;> exact ⟨_, _, _, rfl⟩

/-- A trace record changes the trace buffer and its registers only (R284). -/
theorem Die.trace_eq (d : Die) (kind : Nat) (c : CtxId) (place : Nat × Nat) (a b : Word) :
    ∃ buf ctl post, d.trace kind c place a b = { d with trcBuf := buf, trcCtl := ctl, trcPost := post } := by
  obtain ⟨buf, ctl, post, written⟩ := d.traceWrite_eq (traceBits d.tick kind c place.1 place.2 a b)
  simp only [Die.trace, written, Die.traceFreeze]
  split
  · split
    · exact ⟨_, _, _, rfl⟩
    · split
      · split <;> exact ⟨_, _, _, rfl⟩
      · exact ⟨_, _, _, rfl⟩
  · exact ⟨_, _, _, rfl⟩

@[simp] theorem State.die_trace_wall (s : State) (kind : Nat) (a b : Word) : (s.trace kind a b).die.wall = s.die.wall := by
  unfold State.trace
  split
  · rfl
  · obtain ⟨buf, ctl, post, traced⟩ := s.die.trace_eq kind s.die.issuing s.ctx.place a b
    rw [State.die_onDie, traced]

end Sys2Proof.Machine

namespace Sys2Proof.Claims

open Sys2Proof.Machine

theorem sameMemory_trace (s : State) (kind : Nat) (a b : Word) : SameMemory s (s.trace kind a b) := by
  obtain ⟨buf, ctl, post, traced⟩ := s.die.trace_eq kind s.die.issuing s.ctx.place a b
  unfold State.trace
  split
  · exact .refl s
  · apply sameMemory_onDie <;> rw [traced]

end Sys2Proof.Claims
end

section
/-! Plain moves inside a group (R292 to R297, R397): what reading the source, writing the destination and passing to the next slot
leave. -/

namespace Sys2Proof.Machine

/-! ### The open group -/

/-- The context with another open group. -/
def Ctx.regroup (c : Ctx) (g : GroupCtx) : Ctx := { c with grp := some g }

/-- The context with another open group and other unread results on its queue ports. -/
def Ctx.consume (c : Ctx) (g : GroupCtx) (q : QPort → List QRes) : Ctx :=
  { c with grp := some g, lsq := q .lsq, syq := q .syq, fxq := q .fxq, fxst := q .fxst }

theorem Ctx.results_consume (c : Ctx) (g : GroupCtx) (q : QPort → List QRes) (p : QPort) : (c.consume g q).results p = q p := by
  cases p <;> rfl

theorem Ctx.results_regroup (c : Ctx) (g : GroupCtx) (p : QPort) : (c.regroup g).results p = c.results p := by
  cases p <;> rfl

theorem State.group_of_grp {s : State} {g : GroupCtx} (opened : s.ctx.grp = some g) : s.group = g := by
  rw [State.group, opened]

theorem Ctx.rotNow_of_grp {c : Ctx} {g : GroupCtx} (opened : c.grp = some g) : c.rotNow = g.rot := by
  rw [Ctx.rotNow, opened]; rfl

/-- A group that is opened reads the loop registers by which its context names its registers (R321). -/
theorem State.group_rot (s : State) : s.group.rot = s.ctx.rotNow := by
  unfold State.group Ctx.rotNow
  cases s.ctx.grp <;> rfl

theorem State.openGroup_eq (s : State) : s.openGroup = s.onCtx fun c => c.regroup s.group := by
  unfold State.openGroup
  split
  next g opened =>
    have same : s.ctx.regroup s.group = s.ctx := by rw [State.group_of_grp opened, Ctx.regroup, ← opened]
    exact (State.onCtx_of_ctx same).symm
  next => rfl

theorem State.grp_openGroup (s : State) : s.openGroup.ctx.grp = some s.group := by
  rw [State.openGroup_eq, State.ctx_onCtx, Ctx.regroup]

theorem State.left_of_moreSlots {s : State} (more : Claims.MoreSlots s.openGroup) : ∃ x y l, s.group.left = x :: y :: l := by
  rwa [Claims.MoreSlots, State.group_of_grp s.grp_openGroup] at more

/-- Inside a group the end of a slot changes the open group only, and not its loop registers. -/
theorem State.finishSlot_more_eq {s : State} {g : GroupCtx} {x y : Slot} {l : List Slot} (opened : s.ctx.grp = some g)
    (more : g.left = x :: y :: l) : ∃ g', g'.rot = g.rot ∧ s.finishSlot = s.onCtx fun c => c.regroup g' := by
  have current := State.group_of_grp opened
  exact ⟨_, by rw [← current], State.finishSlot_more (current ▸ more)⟩

/-! ### Writing the destination -/

@[simp] theorem State.ctx_onWall (s : State) (w : Die → Wall) : (s.onDie fun d => { d with wall := w d }).ctx = s.ctx := by
  rw [State.ctx, State.die_onDie]; rfl

/-- Change the tile registers of the issuing die. -/
def State.onTiles (s : State) (f : Vector Tile 32 → Vector Tile 32) : State :=
  s.onDie fun d => { d with wall := { d.wall with t := f d.wall.t } }

@[simp] theorem State.ctx_onTiles (s : State) (w : Vector Tile 32 → Vector Tile 32) : (s.onTiles w).ctx = s.ctx :=
  s.ctx_onWall _

@[simp] theorem State.tiles_onTiles (s : State) (w : Vector Tile 32 → Vector Tile 32) :
    (s.onTiles w).die.wall.t = w s.die.wall.t := by
  rw [State.onTiles, State.die_onDie]

/-- The issuing context and the tile registers of its die are written in either order. -/
theorem State.onCtx_onTiles (s : State) (f : Ctx → Ctx) (w : Vector Tile 32 → Vector Tile 32) :
    (s.onTiles w).onCtx f = (s.onCtx f).onTiles w := by
  unfold State.onCtx State.onTiles
  rw [State.onDie_onDie, State.onDie_onDie]
  rfl

/-- What changes the issuing context and the tile registers only is given by the two that it leaves. -/
theorem State.onTiles_onCtx_eq {s : State} (f : Ctx → Ctx) {g : Ctx → Ctx} (w : Vector Tile 32 → Vector Tile 32)
    (same : f s.ctx = g s.ctx) :
    (s.onCtx f).onTiles w = (s.onCtx g).onDie fun d =>
      { d with wall := { d.wall with t := ((s.onCtx f).onTiles w).die.wall.t } } := by
  rw [State.onCtx_congr same, State.tiles_onTiles]
  exact State.onDie_congr rfl

@[simp] theorem State.ctx_emit (s : State) (p : Packet) : (s.emit p).ctx = s.ctx := by
  unfold State.emit; split <;> rfl

@[simp] theorem State.die_emit (s : State) (p : Packet) : (s.emit p).die = s.die := by
  unfold State.emit; split <;> rfl

@[simp] theorem State.ctx_onStream (s : State) (n : BitVec 4) (f : Stream → Stream) :
    (s.onDie fun d => d.onStream n f).ctx = s.ctx := by
  rw [State.ctx, State.die_onDie]; rfl

@[simp] theorem State.ctx_pushStream (s : State) (n : BitVec 4) (r : Row) : (s.pushStream n r).ctx = s.ctx := by
  simp [State.pushStream]

/-- A destination that is no trigger is no part of the open group, and no queue port. -/
theorem State.writeDst_keeps (s : State) (dst : Dst) (h : Bool) (v : Value) :
    (s.writeDst dst h v).ctx.grp = s.ctx.grp ∧ ∀ p, (s.writeDst dst h v).ctx.results p = s.ctx.results p := by
  cases dst <;> rw [State.writeDst]
  case t | m | stream => simp
  case s => rw [State.ctx_onCtx, Ctx.writeS_eq]; exact ⟨rfl, fun p => by cases p <;> rfl⟩
  case c => rw [State.ctx_onCtx, Ctx.writeC_eq]; exact ⟨rfl, fun p => by cases p <;> rfl⟩
  case vxm | vxrm => rw [State.after, State.ctx_onCtx]; exact ⟨rfl, fun p => by cases p <;> rfl⟩
  case w | latch => rw [State.ctx_onCtx]; exact ⟨rfl, fun p => by cases p <;> rfl⟩

theorem State.writeDst_t (s : State) (r : BitVec 5) (h : Bool) (v : Value) :
    s.writeDst (.t r) h v = s.onTiles fun t => t.setIfInBounds (s.ctx.physT r) (valTile v) :=
  State.onDie_congr rfl

/-- A plain move inside a group that reads its source and meets no fault writes its destination and lets the group go on. -/
theorem exec_move_more {s s1 : State} {g : Guard} {h : Bool} {src : Src} {dst : Dst} {v : Value} {gr : GroupCtx} {x y : Slot}
    {l : List Slot} (taken : s.openGroup.takes g = true) (legal : legalMove src.kind dst.kind = true)
    (hold : holdLegal h dst = true) (may : s.openGroup.srcFaults src = []) (read : s.openGroup.readSrc src = some (v, s1))
    (fit : fits src v dst.kind = true) (sound : s1.dstFaults dst v = []) (goes : s1.dstWaits dst = false)
    (opened : s1.ctx.grp = some gr) (more : gr.left = x :: y :: l) :
    ∃ g', g'.rot = gr.rot ∧ exec (.move g h src dst) s = .next ((s1.writeDst dst h v).onCtx fun c => c.regroup g') := by
  obtain ⟨g', rot, passed⟩ := State.finishSlot_more_eq (((s1.writeDst_keeps dst h v).1).trans opened) more
  refine ⟨g', rot, ?_⟩
  rw [exec_move, execMove, runMove_acts taken legal hold may read fit sound goes, passed]

/-! ### Reading a source that is no stream -/

/-- From `s` to `t` the issuing context changes only its open group, which keeps its slots and its loop registers, and the unread
results of the named queue ports. -/
def Consumes (named : QPort → Prop) (s t : State) : Prop :=
  ∃ g q, t = s.onCtx (fun c => c.consume g q) ∧ g.left = s.group.left ∧ g.rot = s.ctx.rotNow ∧
    ∀ p, ¬ named p → q p = s.ctx.results p

theorem Consumes.trans {named : QPort → Prop} {s t u : State} (h : Consumes named s t) (k : Consumes named t u) :
    Consumes named s u := by
  obtain ⟨g, q, rfl, left, rot, kept⟩ := h
  obtain ⟨g', q', rfl, left', rot', kept'⟩ := k
  rw [State.ctx_onCtx] at rot' kept'
  rw [State.group_of_grp (g := g) (by rw [State.ctx_onCtx]; rfl)] at left'
  refine ⟨g', q', State.onCtx_onCtx .., left'.trans left, rot'.trans rot, fun p other => ?_⟩
  rw [kept' p other, Ctx.results_consume, kept p other]

theorem consumes_regroup (named : QPort → Prop) {s : State} {g : GroupCtx} (left : g.left = s.group.left)
    (rot : g.rot = s.ctx.rotNow) : Consumes named s (s.onCtx fun c => c.regroup g) :=
  ⟨g, s.ctx.results, State.onCtx_congr rfl, left, rot, fun _ _ => rfl⟩

theorem consumes_openGroup (named : QPort → Prop) (s : State) : Consumes named s s.openGroup :=
  s.openGroup_eq ▸ consumes_regroup named rfl s.group_rot

theorem consumes_of_grp (named : QPort → Prop) {s : State} {g : GroupCtx} (opened : s.ctx.grp = some g) :
    Consumes named s s := by
  have same := consumes_openGroup named s
  rwa [State.openGroup, opened] at same

theorem consumes_setResults {named : QPort → Prop} {s : State} {g : GroupCtx} {p : QPort} (l : List QRes) (mine : named p)
    (left : g.left = s.group.left) (rot : g.rot = s.ctx.rotNow) :
    Consumes named s (s.onCtx fun c => (c.setResults p l).regroup g) := by
  refine ⟨g, Function.update s.ctx.results p l, State.onCtx_congr ?_, left, rot, fun k other => ?_⟩
  · cases p <;> rfl
  · exact Function.update_of_ne (fun same : k = p => other (same ▸ mine)) _ _

/-- A source that is no stream is read out of a queue port, once in a group, or stays as it is (R294). -/
theorem consumes_readSrc {s s1 : State} {src : Src} {v : Value} {g : GroupCtx} (opened : s.ctx.grp = some g)
    (read : s.readSrc src = some (v, s1)) (other : ∀ n, src ≠ .stream n) : Consumes (fun p => src = .queue p) s s1 := by
  cases src with
  | stream n => exact absurd rfl (other n)
  | queue p =>
    simp only [State.readSrc] at read
    split at read
    · cases read; exact consumes_of_grp _ opened
    · split at read
      · cases read
      · split at read
        · cases read
        · cases read
          next l _ _ _ =>
          have current : (s.onCtx fun c => c.setResults p l).group = s.group := by
            rw [State.group_of_grp opened]
            exact State.group_of_grp (by rw [State.ctx_onCtx, ← opened]; cases p <;> rfl)
          rw [State.onGroup, State.onCtx_onCtx, current]
          exact consumes_setResults l rfl rfl s.group_rot
  | _ => cases read; exact consumes_of_grp _ opened

/-! ### The registers that a context names -/

theorem Ctx.regroup_consume (c : Ctx) (g g' : GroupCtx) (q : QPort → List QRes) :
    (c.consume g q).regroup g' = c.consume g' q := rfl

section
variable {c : Ctx} {g : GroupCtx} {q : QPort → List QRes} (rot : g.rot = c.rotNow) (r : BitVec 5)
include rot

/-- A group with the same loop registers leaves the names of the registers (R321). -/
theorem Ctx.physS_consume : (c.consume g q).physS r = c.physS r := by
  rw [Ctx.physS, Ctx.physS, Ctx.rotNow_of_grp (c := c.consume g q) rfl, rot]

theorem Ctx.physT_consume : (c.consume g q).physT r = c.physT r := by
  rw [Ctx.physT, Ctx.physT, Ctx.rotNow_of_grp (c := c.consume g q) rfl, rot]; rfl

theorem Ctx.readS_consume : (c.consume g q).readS r = c.readS r := by
  rw [Ctx.readS, Ctx.readS, Ctx.physS_consume rot]; rfl

theorem Ctx.writeS_consume (v : Word) : (c.consume g q).writeS r v = (c.writeS r v).consume g q := by
  unfold Ctx.writeS
  rw [Ctx.physS_consume rot]
  split <;> rfl

end

end Sys2Proof.Machine

namespace Sys2Proof.Claims

open Sys2Proof.Machine

theorem sameMemory_writeDst (s : State) (dst : Dst) (h : Bool) (v : Value) : SameMemory s (s.writeDst dst h v) := by
  cases dst with
  | t r => exact sameMemory_onDie rfl rfl rfl
  | m i => exact (sameMemory_onDie rfl rfl rfl).trans (sameMemory_trace _ _ _ _)
  | stream n => exact (sameMemory_onDie rfl rfl rfl).trans (sameMemory_emit _ _)
  | _ => exact sameMemory_onCtx _ _

end Sys2Proof.Claims
end

section
/-! Moves that read a stream (R397): a row is taken from the stream's buffer, a credit is sent, and the destination is written. -/

namespace Sys2Proof.Machine

/-! ### The frame of a move that reads a stream -/

/-- The die with the streams and the tile registers of another. -/
def Die.carry (d e : Die) : Die := { d with streams := e.streams, wall := { d.wall with t := e.wall.t } }

/-- The context with the open group, the row registers and the latches of another. -/
def Ctx.carry (c d : Ctx) : Ctx := { c with grp := d.grp, w := d.w, latches := d.latches }

/-- The state with the packets received and sent by another. -/
def State.withPackets (s t : State) : State :=
  { s with links := { s.links with inbox := t.links.inbox, outbox := t.links.outbox } }

/-- The state `s` with all that a move that reads a stream may change taken from `t`. -/
def State.carry (s t : State) : State :=
  ((s.onDie fun d => d.carry t.die).withPackets t).onCtx fun c => c.carry t.ctx

theorem State.onCtx_onDie_carry (s : State) (f : Ctx → Ctx) (e : Die) :
    (s.onCtx f).onDie (fun d => d.carry e) = (s.onDie fun d => d.carry e).onCtx f := by
  unfold State.onCtx
  rw [State.onDie_onDie, State.onDie_onDie]
  rfl

theorem State.carry_carry (s t u : State) : (s.carry t).carry u = s.carry u :=
  calc (s.carry t).carry u
    _ = ((((s.onDie fun d => d.carry t.die).onCtx fun c => c.carry t.ctx).onDie fun d => d.carry u.die).onCtx fun c =>
        c.carry u.ctx).withPackets u := rfl
    _ = (((s.onDie fun d => d.carry t.die).onDie fun d => d.carry u.die).onCtx fun c => c.carry u.ctx).withPackets u := by
      rw [State.onCtx_onDie_carry, State.onCtx_onCtx]; rfl
    _ = s.carry u := by rw [State.onDie_onDie]; rfl

theorem State.onCtx_carry {s : State} {f : Ctx → Ctx} (h : f s.ctx = s.ctx.carry (f s.ctx)) :
    s.onCtx f = s.carry (s.onCtx f) := by
  have die : s.onDie (fun d => d.carry (s.onCtx f).die) = s := State.onDie_of_die (by
    rw [Die.carry, State.die_onCtx_streams, State.die_onCtx_wall])
  rw [State.carry, die, State.ctx_onCtx]
  exact State.onCtx_congr h

theorem State.onDie_carry {s : State} {f : Die → Die} (h : f s.die = s.die.carry (f s.die)) :
    s.onDie f = s.carry (s.onDie f) := by
  have ctx : (s.onDie f).ctx = s.ctx := by rw [State.ctx, State.die_onDie, h]; rfl
  have kept : (s.onDie f).onCtx (fun c => c.carry s.ctx) = s.onDie f := State.onCtx_of_ctx (by rw [ctx]; rfl)
  rw [State.carry, ctx, State.die_onDie, ← State.onDie_congr (f := f) (g := fun d => d.carry (f s.die)) h]
  exact kept.symm

theorem State.emit_carry (s : State) (p : Packet) : s.emit p = s.carry (s.emit p) := by
  have die : s.onDie (fun d => d.carry s.die) = s := State.onDie_of_die rfl
  have ctx : (s.withPackets (s.emit p)).onCtx (fun c => c.carry s.ctx) = s.withPackets (s.emit p) := State.onCtx_of_ctx rfl
  rw [State.carry, State.ctx_emit, State.die_emit, die, ctx]
  unfold State.emit
  split <;> rfl

/-- From `s` to `t` nothing changes but what a move from stream `n` to `dst` may change. -/
structure Carries (n : BitVec 4) (dst : Dst) (s t : State) : Prop where
  frame : t = s.carry t
  streams : ∀ m : BitVec 4, m ≠ n → dst ≠ .stream m →
    t.die.streams.get ⟨m.toNat, m.isLt⟩ = s.die.streams.get ⟨m.toNat, m.isLt⟩
  rows : ∀ i : BitVec 2, dst ≠ .w i → t.ctx.w.get ⟨i.toNat, i.isLt⟩ = s.ctx.w.get ⟨i.toNat, i.isLt⟩
  latches : ∀ l, dst ≠ .latch l → t.ctx.latch l = s.ctx.latch l
  rot : t.ctx.rotNow = s.ctx.rotNow
  tiles : ∀ i : Fin 32, (∀ r, dst = .t r → i.val ≠ s.ctx.physT r) → t.die.wall.t.get i = s.die.wall.t.get i

variable {n : BitVec 4} {dst : Dst} {s t u : State}

theorem State.kind_carry (s t : State) : (s.carry t).ctx.kind = s.ctx.kind := by
  have ctx : ((s.onDie fun d => d.carry t.die).withPackets t).ctx = s.ctx := by
    show (s.onDie fun d => d.carry t.die).ctx = s.ctx
    rw [State.ctx, State.die_onDie]; rfl
  rw [State.carry, State.ctx_onCtx, ctx]; rfl

theorem Carries.refl (n : BitVec 4) (dst : Dst) (s : State) : Carries n dst s s where
  frame := by
    have same := State.onDie_carry (s := s) (f := fun d => d) rfl
    rwa [State.onDie_of_die rfl] at same
  streams _ _ _ := rfl
  rows _ _ := rfl
  latches _ _ := rfl
  rot := rfl
  tiles _ _ := rfl

theorem Carries.trans (h : Carries n dst s t) (k : Carries n dst t u) : Carries n dst s u where
  frame := calc
    u = t.carry u := k.frame
    _ = (s.carry t).carry u := congrArg (State.carry · u) h.frame
    _ = s.carry u := s.carry_carry t u
  streams m other target := (k.streams m other target).trans (h.streams m other target)
  rows i target := (k.rows i target).trans (h.rows i target)
  latches l target := (k.latches l target).trans (h.latches l target)
  rot := k.rot.trans h.rot
  tiles i target := by
    have named (r : BitVec 5) : t.ctx.physT r = s.ctx.physT r := by
      rw [Ctx.physT, Ctx.physT, h.rot, h.frame, State.kind_carry]
    exact (k.tiles i fun r is => named r ▸ target r is).trans (h.tiles i target)

/-- A change of the issuing context. -/
theorem carries_onCtx {f : Ctx → Ctx} (frame : f s.ctx = s.ctx.carry (f s.ctx)) (rot : (f s.ctx).rotNow = s.ctx.rotNow)
    (rows : ∀ i : BitVec 2, dst ≠ .w i → (f s.ctx).w.get ⟨i.toNat, i.isLt⟩ = s.ctx.w.get ⟨i.toNat, i.isLt⟩)
    (latches : ∀ l, dst ≠ .latch l → (f s.ctx).latch l = s.ctx.latch l) : Carries n dst s (s.onCtx f) where
  frame := State.onCtx_carry frame
  streams _ _ _ := by rw [State.die_onCtx_streams]
  rows i target := by rw [State.ctx_onCtx, rows i target]
  latches l target := by rw [State.ctx_onCtx, latches l target]
  rot := by rw [State.ctx_onCtx, rot]
  tiles _ _ := by rw [State.die_onCtx_wall]

theorem carries_regroup {g : GroupCtx} (rot : g.rot = s.ctx.rotNow) : Carries n dst s (s.onCtx fun c => c.regroup g) :=
  carries_onCtx rfl rot (fun _ _ => rfl) fun _ _ => rfl

theorem carries_openGroup : Carries n dst s s.openGroup :=
  s.openGroup_eq ▸ carries_regroup s.group_rot

/-- A change of one stream, the one that is read or the one that is written. -/
theorem carries_onStream {m : BitVec 4} (f : Stream → Stream) (mine : m = n ∨ dst = .stream m) :
    Carries n dst s (s.onDie fun d => d.onStream m f) where
  frame := State.onDie_carry rfl
  streams k other target := by
    have ne : k ≠ m := by rintro rfl; exact mine.elim other target
    rw [State.die_onDie]
    exact Vector.getElem_set_ne m.isLt k.isLt fun same => ne (BitVec.eq_of_toNat_eq same.symm)
  rows _ _ := by rw [State.ctx_onStream]
  latches _ _ := by rw [State.ctx_onStream]
  rot := by rw [State.ctx_onStream]
  tiles _ _ := by rw [State.die_onDie]; rfl

theorem carries_emit (p : Packet) : Carries n dst s (s.emit p) where
  frame := s.emit_carry p
  streams _ _ _ := by rw [State.die_emit]
  rows _ _ := by rw [State.ctx_emit]
  latches _ _ := by rw [State.ctx_emit]
  rot := by rw [State.ctx_emit]
  tiles _ _ := by rw [State.die_emit]

/-- A write of the tile register that is the destination. -/
theorem carries_onTiles {r : BitVec 5} (x : Tile) :
    Carries n (.t r) s (s.onTiles fun t => t.setIfInBounds (s.ctx.physT r) x) where
  frame := State.onDie_carry rfl
  streams _ _ _ := by rw [State.onTiles, State.die_onDie]
  rows _ _ := by rw [State.ctx_onTiles]
  latches _ _ := by rw [State.ctx_onTiles]
  rot := by rw [State.ctx_onTiles]
  tiles i target := by
    rw [State.tiles_onTiles]
    exact Vector.getElem_setIfInBounds_ne i.isLt (target r rfl).symm

/-- A row is taken from its stream's buffer and a credit is sent for it (R397). -/
theorem carries_popStream {r : Row} (popped : s.popStream n = some (r, t)) : Carries n dst s t ∧ t.ctx = s.ctx := by
  unfold State.popStream at popped
  split at popped
  · cases popped
  · cases popped
    refine ⟨(carries_onStream _ (.inl rfl)).trans (carries_emit _), ?_⟩
    rw [State.returnCredit, State.ctx_emit, State.ctx_onStream]

/-- The row that a move reads is taken from its stream once in a group (R294). -/
theorem carries_readSrc {v : Value} {g : GroupCtx} (opened : s.ctx.grp = some g) (read : s.readSrc (.stream n) = some (v, t)) :
    Carries n dst s t ∧ (∃ g', t.ctx.grp = some g' ∧ g'.left = g.left) ∧ ∃ r, v = .w r := by
  simp only [State.readSrc] at read
  split at read
  · cases read
    exact ⟨.refl n dst s, ⟨g, opened, rfl⟩, _, rfl⟩
  · split at read
    · cases read
    next r u popped =>
      cases read
      obtain ⟨carried, ctx⟩ := carries_popStream (dst := dst) popped
      have current : u.group = g := State.group_of_grp (ctx ▸ opened)
      exact ⟨carried.trans (carries_regroup u.group_rot),
        ⟨_, by rw [State.onGroup, State.ctx_onCtx], by rw [current]⟩, _, rfl⟩

/-- A row goes to a row register, a tile register, a latch or a stream (Table 12.3). -/
theorem carries_writeDst {h : Bool} {v : Value} (legal : legalMove .w dst.kind = true) :
    Carries n dst s (s.writeDst dst h v) := by
  cases dst with
  | s r => cases legal
  | c i => cases legal
  | m i => cases legal
  | vxm => cases legal
  | vxrm => cases legal
  | t r => exact s.writeDst_t r h v ▸ carries_onTiles _
  | stream m => exact (carries_onStream _ (.inr rfl)).trans (carries_emit _)
  | latch l =>
    exact carries_onCtx rfl rfl (fun _ _ => rfl) fun k target => Ctx.latch_setLatch_ne _ _ fun same => target (same ▸ rfl)
  | w i =>
    refine carries_onCtx rfl rfl (fun j target => ?_) fun _ _ => rfl
    exact Vector.getElem_set_ne i.isLt j.isLt fun same => target (BitVec.eq_of_toNat_eq same ▸ rfl)

end Sys2Proof.Machine

namespace Sys2Proof.Claims

open Sys2Proof.Machine

theorem sameMemory_carry (s t : State) : SameMemory s (s.carry t) :=
  have packets (u : State) : SameMemory u (u.withPackets t) :=
    ⟨fun _ => rfl, fun _ => rfl, fun _ _ => rfl, fun _ _ => rfl, fun _ _ => rfl⟩
  ((sameMemory_onDie rfl rfl rfl).trans (packets _)).trans (sameMemory_onCtx _ _)

end Sys2Proof.Claims
end

section
/-! The statements about plain moves. -/

namespace Sys2Proof.Proofs

open Sys2Proof.Machine Sys2Proof.Claims

/-- Settles O9: a NOP is the end of its slot, and a plain move that meets no fault writes its destination. -/
theorem plainMovesComplete : Obligations.PlainMovesComplete := by
  unfold Obligations.PlainMovesComplete
  refine ⟨exec_nop, fun s g h src dst v s1 taken legal hold may read fit sound goes => ?_⟩
  rw [exec_move, execMove, runMove_acts taken legal hold may read fit sound goes]

/-- Settles O58: a move that reads a stream composes its reads and its write in the frame `Carries`; any other consumes at most a
queue port's result (`Consumes`), and its write is that of its destination. -/
theorem plainMovesFrame : Obligations.PlainMovesFrame := by
  unfold Obligations.PlainMovesFrame
  refine ⟨?stream, ?other⟩
  case stream =>
    intro s g h n dst t v s1 taken legal hold may read fit sound goes more run
    obtain ⟨x, y, l, more⟩ := State.left_of_moreSlots more
    obtain ⟨reads, ⟨gr, opened1, left⟩, r, rfl⟩ := carries_readSrc (dst := dst) s.grp_openGroup read
    have row : fits (.stream n) (.w r) dst.kind = true := by rw [fits, fit]; rfl
    obtain ⟨g', rot, moved⟩ := exec_move_more taken legal hold may read row sound goes opened1 (left.trans more)
    obtain rfl := Host.Outcome.next.inj (run.symm.trans moved)
    have unrotated : g'.rot = (s1.writeDst dst h (.w r)).ctx.rotNow := by
      rw [rot, Ctx.rotNow_of_grp ((s1.writeDst_keeps dst h _).1.trans opened1)]
    have all : Carries n dst s _ :=
      carries_openGroup.trans (reads.trans ((carries_writeDst fit).trans (carries_regroup unrotated)))
    exact ⟨all.frame, all.streams, all.rows, all.latches, all.tiles, all.frame ▸ sameMemory_carry _ _⟩
  case other =>
    intro s g h src dst t v s1 taken legal hold may read fit sound goes other more run
    obtain ⟨x, y, l, more⟩ := State.left_of_moreSlots more
    obtain ⟨gr, q, rfl, left, rot, kept⟩ := (consumes_openGroup _ s).trans (consumes_readSrc s.grp_openGroup read other)
    obtain ⟨g', rot', moved⟩ := exec_move_more taken legal hold may read fit sound goes
      (gr := gr) (by rw [State.ctx_onCtx, Ctx.consume]) (left.trans more)
    obtain rfl := Host.Outcome.next.inj (run.symm.trans moved)
    rw [rot] at rot'
    have memory := (sameMemory_onCtx s fun c => c.consume gr q).trans (sameMemory_writeDst _ dst h v) |>.trans
      (sameMemory_onCtx _ fun c => c.regroup g')
    refine ⟨fun p unnamed => ?ports, ?destination⟩
    case ports =>
      rw [State.ctx_onCtx, Ctx.results_regroup, (State.writeDst_keeps _ dst h v).2, State.ctx_onCtx, Ctx.results_consume,
        kept p unnamed]
    case destination =>
      cases dst with
      | s r =>
        refine ⟨?_, fun q' ne => ?_, memory⟩ <;> rw [State.writeDst, State.onCtx_onCtx, State.onCtx_onCtx, State.ctx_onCtx]
        · exact State.onCtx_congr (by rw [Ctx.writeS_eq]; rfl)
        · have unrotated : g'.rot = (s.ctx.writeS r (valWord v)).rotNow := by rw [Ctx.writeS_eq]; exact rot'
          rw [Ctx.writeS_consume rot, Ctx.regroup_consume, Ctx.readS_consume unrotated, Ctx.readS_writeS_ne _ _ ne]
      | c i =>
        refine ⟨?_, fun j ne => ?_, memory⟩ <;> rw [State.writeDst, State.onCtx_onCtx, State.onCtx_onCtx, State.ctx_onCtx]
        · exact State.onCtx_congr (by rw [Ctx.writeC_eq]; rfl)
        · exact (s.ctx.consume gr q).readC_writeC_ne _ ne
      | w i =>
        refine ⟨?_, fun j ne => ?_, memory⟩ <;> rw [State.writeDst, State.onCtx_onCtx, State.onCtx_onCtx, State.ctx_onCtx]
        · exact State.onCtx_congr rfl
        · exact Vector.getElem_set_ne i.isLt j.isLt ne.symm
      | latch l =>
        refine ⟨?_, fun k ne => ?_, memory⟩ <;> rw [State.writeDst, State.onCtx_onCtx, State.onCtx_onCtx, State.ctx_onCtx]
        · exact State.onCtx_congr rfl
        · exact (s.ctx.consume gr q).latch_setLatch_ne _ ne
      | vxm =>
        refine ⟨?_, memory⟩
        rw [State.writeDst, State.after, State.onCtx_onCtx, State.onCtx_onCtx, State.ctx_onCtx]
        exact State.onCtx_congr rfl
      | vxrm =>
        refine ⟨?_, memory⟩
        rw [State.writeDst, State.after, State.onCtx_onCtx, State.onCtx_onCtx, State.ctx_onCtx]
        exact State.onCtx_congr rfl
      | t r =>
        refine ⟨?_, fun i ne => ?_, memory⟩ <;> rw [State.writeDst_t, State.onCtx_onTiles, State.onCtx_onCtx]
        · exact State.onTiles_onCtx_eq _ _ (by rw [State.ctx_onTiles, State.ctx_onCtx]; rfl)
        · rw [State.tiles_onTiles, State.die_onCtx_wall, State.ctx_onCtx, Ctx.physT_consume rot]
          exact Vector.getElem_setIfInBounds_ne i.isLt ne.symm
      | m i =>
        have wall : ((s.onCtx fun c => c.consume gr q).writeDst (.m i) h v |>.onCtx fun c => c.regroup g').die.wall =
            s.die.wall.writeM i (valMask v) := by simp [State.writeDst]
        refine ⟨?_, ?_, fun j ne => ?_, memory⟩
        · simp only [State.writeDst, State.ctx_onCtx, State.ctx_trace, State.ctx_onWall]; rfl
        · rw [wall, Wall.writeM_eq]
        · rw [wall, Wall.readM_writeM_ne _ _ ne]
      | stream n =>
        refine ⟨?_, ?_, memory⟩
        · simp only [State.writeDst, State.ctx_onCtx, State.ctx_pushStream]; rfl
        · simp [State.writeDst, State.pushStream, Die.onStream]

end Sys2Proof.Proofs
end

section
/-! What a trigger does and which fault it takes, from what it checks (R145, R271). -/

namespace Sys2Proof.Machine

/-- The first fault is the lowest where no other has a lower code (R271). -/
theorem lowestFlt_cons_of_le {f : Flt} {l : List Flt} (least : ∀ x ∈ l, f.code.toNat ≤ x.code.toNat) :
    lowestFlt (f :: l) = some f := by
  simp only [lowestFlt]
  split
  next => rfl
  next k lowest => rw [if_neg (Nat.not_lt.2 (least k (lowestFlt_spec l k lowest).1))]

end Sys2Proof.Machine

namespace Sys2Proof.Claims

open Sys2Proof.Machine

section

variable {i : Guard → Src → Instr} {port : BitVec 9} {need : List Latch} {chk : Args → List Flt} {waits : Args → Bool}
  {act : Args → State}
  (meaning : ∀ g src s, exec (i g src) s = .next (runTrig g src port need chk waits act s))
include meaning

/-- A trigger has its effect where its checks find nothing and nothing holds it back; a check of a latch that it names is one of the
value found in it. -/
theorem completes_of_runTrig {ok : Args → Prop} {eff : Args → State}
    (sound : ∀ a, (∀ l ∈ need, ∀ f, a.ifOp l f = f (a.op l)) → ok a → chk a = [] ∧ waits a = false ∧ act a = eff a) :
    Completes i port need ok eff := by
  intro s g src a reads holds
  obtain ⟨clear, goes, effect⟩ := sound a (fun l named f => reads.ifOp_eq named f) holds
  rw [meaning, reads.runTrig_eq act clear goes, effect]

/-- A trigger takes the lowest fault of its checks. -/
theorem traps_of_runTrig {cond : Args → Prop} {f : Args → Flt}
    (lowest : ∀ a, (∀ l ∈ need, ∀ f, a.ifOp l f = f (a.op l)) → cond a → lowestFlt (chk a) = some (f a)) :
    Traps i port need cond f := by
  intro s g src a reads holds
  obtain ⟨s1, read, latches⟩ := reads.value
  rw [meaning, runTrig, runTrigTo_faults reads.taken reads.mayStand reads.mayIssue reads.mayRead read latches reads.kind reads.full
    reads.fits (lowest a (fun l named f => reads.ifOp_eq named f) holds)]

/-- A trigger that finds a latch empty, and whose operands are in order otherwise, takes code 0x10 (R293). -/
theorem missed_of_runTrig (silent : chk = noFaults) {s s1 s2 : State} {g : Guard} {src : Src} {v : Value}
    {ops : List (Latch × Option Value)} (taken : s.openGroup.takes g = true) (mayStand : legalMove src.kind (trigKind port) = true)
    (mayIssue : trigDenied s.openGroup.ctx.timedNow port = false) (mayRead : s.openGroup.srcFaults src = [])
    (read : s.openGroup.readSrc src = some (v, s1)) (kind : legalMove (kindOf v) (trigKind port) = true)
    (latches : s1.takeLatches need = (ops, s2)) (empty : ops.any (fun x => x.2.isNone) = true)
    (fit : ops.any latchMismatch = false) :
    exec (i g src) s = .next (s.openGroup.takeFault fltMissed false) := by
  have faults : slotFlts s.openGroup src port chk ⟨s2, v, ops⟩ = [fltMissed] := by
    simp [slotFlts, earlyFlts, mayStand, mayIssue, mayRead, kind, empty, fit, silent, noFaults]
  rw [meaning, runTrig, runTrigTo_read taken read]
  simp only [latches, faults, lowestFlt_single]

end

/-- A trap commits its slot and raises its code (R271). -/
theorem raises_of_runTrigTo {i : Guard → Src → Instr} {port : BitVec 9} {act : Args → State}
    (meaning : ∀ g src s, exec (i g src) s = .next (runTrigTo g src port [] noFaults noWait act s)) : Raises i port act := by
  intro s g src a reads
  obtain ⟨s1, read, latches⟩ := reads.value
  rw [meaning, runTrigTo_acts reads.taken reads.mayStand reads.mayIssue reads.mayRead read latches reads.kind reads.full reads.fits
    rfl rfl]

end Sys2Proof.Claims
end

section
/-! The bit fields of R314. -/

namespace Sys2Proof.Machine

/-- Bits inside the field are those of the value put there, all others stay. -/
theorem testBit_setBits (n lo len v i : Nat) :
    (setBits n lo len v).testBit i = if lo ≤ i ∧ i < lo + len then v.testBit (i - lo) else n.testBit i := by
  have low : n % 2 ^ lo < 2 ^ lo := Nat.mod_lt _ (Nat.two_pow_pos lo)
  have field (x : Nat) : x % 2 ^ len < 2 ^ len := Nat.mod_lt _ (Nat.two_pow_pos len)
  have old : n = 2 ^ lo * (2 ^ len * (n / 2 ^ lo / 2 ^ len) + n / 2 ^ lo % 2 ^ len) + n % 2 ^ lo := by
    rw [Nat.div_add_mod, Nat.div_add_mod]
  have new : setBits n lo len v = 2 ^ lo * (2 ^ len * (n / 2 ^ lo / 2 ^ len) + v % 2 ^ len) + n % 2 ^ lo := by
    simp only [setBits, bits, Nat.mul_add, Nat.mul_comm (_ % 2 ^ len)] at old ⊢
    omega
  rw [new, Nat.testBit_two_pow_mul_add _ low, Nat.testBit_two_pow_mul_add _ (field v), Nat.testBit_mod_two_pow,
    Nat.testBit_mod_two_pow, Nat.testBit_div_two_pow, Nat.testBit_div_two_pow]
  by_cases below : i < lo
  · simp [below, Nat.not_le.2 below]
  · have above : lo ≤ i := Nat.not_lt.1 below
    by_cases inside : i - lo < len
    · simp [below, above, inside, Nat.sub_lt_iff_lt_add' above |>.1 inside]
    · have beyond : ¬i < lo + len := by omega
      have place : i - lo - len + len + lo = i := by omega
      simp [below, inside, beyond, place]

theorem toNat_bext (a v : Word) : (bext a v).toNat = a.toNat / 2 ^ (fieldCtl v).1 % 2 ^ (fieldCtl v).2 := by
  have small : bits a.toNat (fieldCtl v).1 (fieldCtl v).2 < 2 ^ 64 :=
    calc a.toNat / 2 ^ (fieldCtl v).1 % 2 ^ (fieldCtl v).2
      _ ≤ a.toNat / 2 ^ (fieldCtl v).1 := Nat.mod_le _ _
      _ ≤ a.toNat := Nat.div_le_self _ _
      _ < 2 ^ 64 := a.isLt
  rw [bext, BitVec.toNat_ofNat, Nat.mod_eq_of_lt small, bits]

theorem getLsbD_bins (a b v : Word) {i : Nat} (h : i < 64) : (bins a b v).getLsbD i =
    if (fieldCtl v).1 ≤ i ∧ i < (fieldCtl v).1 + (fieldCtl v).2 then b.getLsbD (i - (fieldCtl v).1) else a.getLsbD i := by
  rw [bins, setFld, BitVec.getLsbD_ofNat, decide_eq_true h, Bool.true_and, testBit_setBits]
  rfl

/-- Position and width as R314 gives them, in arithmetic. -/
theorem fieldCtl_eq (v : Word) :
    fieldCtl v = (v.toNat % 64, min (min (v.toNat / 64 % 128) 64) (64 - v.toNat % 64)) := by
  simp [fieldCtl, fld, bits]

end Sys2Proof.Machine

namespace Sys2Proof.Proofs

open Sys2Proof.Machine Sys2Proof.Claims

/-- Settles O51: bext is the field's bits as a number, bins replaces exactly the bits of the field. -/
theorem bitFieldsAreCutAtBit63 : Obligations.BitFieldsAreCutAtBit63 := by
  unfold Obligations.BitFieldsAreCutAtBit63
  intro a b v pos len w
  have ctl : fieldCtl v = (pos, w) := fieldCtl_eq v
  refine ⟨?extract, fun i small => ?insert⟩
  case extract =>
    rw [toNat_bext, ctl]
    split
    next empty => rw [empty, Nat.pow_zero, Nat.mod_one]
    next => rfl
  case insert => rw [getLsbD_bins a b v small, ctl]

end Sys2Proof.Proofs
end

section
/-! Atomics, fences, tokens, barriers, loops and special registers at issue (R207, R211, R320, R325 to R336). -/

namespace Sys2Proof.Machine

/-! ### Loops -/

theorem Ctx.rotNow_of_isSome {c : Ctx} (opened : c.grp.isSome = true) (r : Rot) : ({ c with rot := r } : Ctx).rotNow = c.rotNow := by
  obtain ⟨g, opened⟩ := Option.isSome_iff_exists.1 opened
  rw [Ctx.rotNow, Ctx.rotNow, opened]
  rfl

theorem State.delayFaults_eq_nil {s : State} (noDelay : s.ctx.delay = none) : s.delayFaults = [] := by
  simp [State.delayFaults, noDelay]

/-! ### Tokens -/

theorem tokNumFaults_eq_nil {v : Word} (small : v.toNat < 64) : tokNumFaults v = [] := if_pos small

theorem State.ctx_after (s : State) (l : Nat) (e : Effect) : (s.after l e).ctx = s.ctx.after (s.group.count + l) e :=
  State.ctx_onCtx s _

@[simp] theorem State.turn_setTok (s : State) (lid : BitVec 32) (d : DieId) (k : Nat) (v : Tok) :
    (s.setTok lid d k v).turn = s.turn := by
  unfold State.setTok; split <;> rfl

/-- Only a token that becomes set lets accesses go (R213). -/
theorem State.ctx_setTok_pending (s : State) (lid : BitVec 32) (d : DieId) (k : Nat) :
    (s.setTok lid d k .pending).ctx = s.ctx := rfl

end Sys2Proof.Machine

namespace Sys2Proof.Claims

open Sys2Proof.Machine

/-! ### Atomics and fences -/

/-- The bytes of an atomic (R325). -/
def amoBytes (wide : Bool) : Nat := if wide then 8 else 4

/-- An atomic that meets no fault takes a place on sy.q and an entry of both queues (R206, R325). -/
theorem queued_of_runAmo {i : Guard → Src → Instr} {port : BitVec 9} {op : AmoOp} {wide : Bool}
    (meaning : ∀ g src s, exec (i g src) s = .next (runAmo port op wide g src s)) :
    Queued i port (if op == .cas then [.sya, .syb] else [.sya]) .both .syq
      (fun a => a.st.amoFaults (a.op .sya) (amoBytes wide) = []) (fun a => .amo op wide a.word (a.op .syb)) (fun a => a.op .sya)
      (List.range (amoBytes wide)) (amoBytes wide) 2 := by
  have named : Latch.sya ∈ (if op == .cas then [.sya, .syb] else [.sya] : List Latch) := by split <;> simp
  refine completes_of_runTrig meaning fun a latch ⟨sound, place, goes⟩ => ⟨?_, goes, rfl⟩
  rw [latch _ named, place]
  exact List.append_eq_nil_iff.2 ⟨sound, rfl⟩

/-- A fence that meets no fault joins the fences of its context (R207, R326). -/
theorem fences_of_runFence {i : Guard → Src → Instr} {port : BitVec 9} {loads stores : Bool}
    (meaning : ∀ g src s, exec (i g src) s = .next (runFence port loads stores g src s)) : Fences i port loads stores :=
  completes_of_runTrig meaning fun _ _ scope => ⟨if_pos scope, rfl, rfl⟩

end Sys2Proof.Claims

namespace Sys2Proof.Proofs

open Sys2Proof.Machine Sys2Proof.Claims

/-- Settles O14: every atomic is `runAmo` of its operation and width. -/
theorem atomicsJoinBothQueues : Obligations.AtomicsJoinBothQueues :=
  ⟨queued_of_runAmo exec_syAmoAddW, queued_of_runAmo exec_syAmoAddD, queued_of_runAmo exec_syAmoAndW,
    queued_of_runAmo exec_syAmoAndD, queued_of_runAmo exec_syAmoOrW, queued_of_runAmo exec_syAmoOrD,
    queued_of_runAmo exec_syAmoXorW, queued_of_runAmo exec_syAmoXorD, queued_of_runAmo exec_syAmoMinW,
    queued_of_runAmo exec_syAmoMinD, queued_of_runAmo exec_syAmoMaxW, queued_of_runAmo exec_syAmoMaxD,
    queued_of_runAmo exec_syAmoMinuW, queued_of_runAmo exec_syAmoMinuD, queued_of_runAmo exec_syAmoMaxuW,
    queued_of_runAmo exec_syAmoMaxuD, queued_of_runAmo exec_syAmoSwapW, queued_of_runAmo exec_syAmoSwapD,
    queued_of_runAmo exec_syAmoCasW, queued_of_runAmo exec_syAmoCasD⟩

/-- Settles O15: each form's checks find nothing under its condition, and its effect is the one stated. -/
theorem synchronisationCompletes : Obligations.SynchronisationCompletes := by
  unfold Obligations.SynchronisationCompletes
  refine ⟨fences_of_runFence exec_syFenceR, fences_of_runFence exec_syFenceW, fences_of_runFence exec_syFenceRw,
    ?tokWait, ?tokTest, ?tokClr, ?tokIdPassed, ?tokIdAhead, ?barArrive, ?barWait, ?phase, ?claim⟩
  case tokWait =>
    refine completes_of_runTrig exec_syTokWait fun a _ ⟨small, set⟩ => ⟨tokNumFaults_eq_nil small, ?_, rfl⟩
    rw [set]; rfl
  case tokTest =>
    refine completes_of_runTrig exec_syTokTest fun a _ ⟨small, timed⟩ => ⟨?_, rfl, ?_⟩
    · rw [tokNumFaults_eq_nil small, List.nil_append]
      cases column : a.st.ctx.timedNow with
      | false => rfl
      | true => rw [timed column, ite_self]
    · simp only [boolWord, beq_iff_eq]
  case tokClr =>
    refine completes_of_runTrig exec_syTokClr fun a _ ⟨small, done⟩ => ⟨?_, rfl, rfl⟩
    simp [tokNumFaults_eq_nil small, done]
  case tokIdPassed =>
    refine fun d c => completes_of_runTrig exec_syTokId fun a latch ⟨small, clear, chan, done⟩ => ⟨?_, rfl, ?_⟩
    · simp [tokNumFaults_eq_nil small, latch, chan, clear]
    · simp only [chan, done, boolWord, if_true, State.ctx_after, Ctx.after_lid, State.after_turn]
  case tokIdAhead =>
    refine fun d c => completes_of_runTrig exec_syTokId fun a latch ⟨small, clear, chan, ahead⟩ => ⟨?_, rfl, ?_⟩
    · simp [tokNumFaults_eq_nil small, latch, chan, clear]
    · simp only [chan, ahead, boolWord, Bool.false_eq_true, if_false, State.ctx_setTok_pending, State.turn_setTok, State.ctx_after,
        Ctx.after_lid, State.after_turn]
  case barArrive => exact completes_of_runTrig exec_syBarArrive fun a _ level => ⟨if_pos level, rfl, rfl⟩
  case barWait =>
    refine completes_of_runTrig exec_syBarWait fun a _ ⟨level, opened⟩ => ⟨if_pos level, ?_, rfl⟩
    rw [opened]; rfl
  case phase =>
    refine completes_of_runTrig exec_syPhase fun a _ ⟨small, apart⟩ => ⟨?_, rfl, rfl⟩
    rw [if_neg (Nat.not_le.2 small)]
    split
    next t task => rw [apart t task]; rfl
    next => rfl
  case claim => exact completes_of_runTrig exec_syClaim fun a latch sound => ⟨(latch _ (by simp) _).trans sound, rfl, rfl⟩

/-- Settles O16: each form's checks find nothing under its condition, and its effect is that of the register's class. -/
theorem systemMovesComplete : Obligations.SystemMovesComplete := by
  unfold Obligations.SystemMovesComplete
  refine ⟨?srdTask, ?srdSup, ?srdQueued, ?swrQueued, ?swrSup, ?swrTask, ?swrDiscarded, ?publish, ?rfe, ?brk⟩
  case srdTask =>
    refine completes_of_runTrig exec_sySrd fun a _ ⟨sound, queued, sup⟩ => ⟨sound, ?_, ?_⟩ <;> simp [queued, sup]
  case srdSup =>
    refine completes_of_runTrig exec_sySrd fun a _ ⟨sound, queued, sup⟩ => ⟨sound, ?_, ?_⟩ <;> simp [queued, sup]
  case srdQueued =>
    refine completes_of_runTrig exec_sySrd fun a _ ⟨sound, queued, room⟩ => ⟨sound, ?_, ?_⟩ <;> simp [queued, room]
  case swrQueued =>
    refine completes_of_runTrig exec_sySwr fun a latch ⟨sound, queued, room⟩ =>
      ⟨(latch _ (by simp) _).trans sound, ?_, ?_⟩ <;> simp [State.swr, queued, room]
  case swrSup =>
    refine completes_of_runTrig exec_sySwr fun a latch ⟨sound, queued, sup⟩ =>
      ⟨(latch _ (by simp) _).trans sound, ?_, ?_⟩ <;> simp [State.swr, queued, sup]
  case swrTask =>
    refine completes_of_runTrig exec_sySwr fun a latch ⟨sound, queued, sup, writable⟩ =>
      ⟨(latch _ (by simp) _).trans sound, ?_, ?_⟩ <;> simp [State.swr, queued, sup, writable]
  case swrDiscarded =>
    refine completes_of_runTrig exec_sySwr fun a latch ⟨sound, queued, sup, discarded⟩ =>
      ⟨(latch _ (by simp) _).trans sound, ?_, ?_⟩ <;> simp [State.swr, queued, sup, discarded]
  case publish =>
    refine completes_of_runTrig exec_syPublish fun a _ ⟨place, room⟩ => ⟨?_, room, rfl⟩
    rw [place]; rfl
  case rfe => exact completes_of_runTrig exec_syRfe fun a _ inside => ⟨if_pos inside, rfl, rfl⟩
  case brk => exact raises_of_runTrigTo exec_syBrk

/-- Settles O52: a loop is taken while its count is not 0, which wraps from 0; its open group keeps the old registers. -/
theorem loopCountsDown : Obligations.LoopCountsDown := by
  unfold Obligations.LoopCountsDown
  refine ⟨fun c => ⟨rfl, rfl⟩, fun c zero => ?wraps, ?completes, fun s x opened => ?own, fun d c slots nb ns nf na => rfl,
    fun s g src off => ?off⟩
  case wraps =>
    rw [Ctx.loopCount, zero]
    exact ⟨by decide, by decide⟩
  case completes =>
    refine completes_of_runTrig exec_brLoop fun a _ ⟨delay, target⟩ => ⟨?_, rfl, rfl⟩
    rw [State.delayFaults_eq_nil delay, List.nil_append]
    split
    next => rfl
    next going => exact target.resolve_left going
  case own =>
    have same : (s.onCtx fun c => { c with rot := x }).ctx.rotNow = s.ctx.rotNow := by
      rw [State.ctx_onCtx, Ctx.rotNow_of_isSome opened]
    exact ⟨congrArg Rot.lc same, congrArg (fun r : Rot => BitVec.ofNat 64 r.rofs) same⟩
  case off =>
    rw [exec_brLoop, execBrLoop, runLoop, runTrig, runTrigTo_off off]

end Sys2Proof.Proofs
end

section
/-! Precise faults of the scalar and system forms (R316 to R332, Tables 13.4, 13.8, 13.9). -/

namespace Sys2Proof.Machine

/-- The fault of a check that finds at most one. -/
theorem eq_of_mem_ite {p : Prop} [Decidable p] {f x : Flt} (found : x ∈ (if p then [f] else [])) : x = f := by
  split at found
  · exact List.eq_of_mem_singleton found
  · cases found

/-! ### Special registers -/

/-- A supervisor register is assigned, not queued, and no ARRCNT (Table 13.9). -/
theorem supReg_facts {n : Nat} (sup : supReg n = true) :
    0x1600 ≤ n ∧ n < 2 ^ 16 ∧ assignedReg n = true ∧ fabricReg n = false := by
  have range : 0x1600 ≤ n ∧ n < 2 ^ 16 := by
    simp only [supReg, Bool.or_eq_true, decide_eq_true_eq] at sup
    omega
  refine ⟨range.1, range.2, by simp [assignedReg, sup], ?_⟩
  simp only [fabricReg, Bool.or_eq_false_iff, Bool.and_eq_false_iff, decide_eq_false_iff_not]
  omega

theorem small_of_fabricReg {n : Nat} (fabric : fabricReg n = true) : n < 2 ^ 16 := by
  simp only [fabricReg, Bool.or_eq_true, Bool.and_eq_true, decide_eq_true_eq] at fabric
  omega

/-- A number that only the supervisor names is assigned (R332, Table 13.9). -/
theorem known_of_privileged {n : Nat} (named : (supReg n || fabricReg n) = true) : ¬(2 ^ 16 ≤ n ∨ (!assignedReg n) = true) := by
  have assigned : assignedReg n = true := by
    rw [assignedReg, Bool.or_assoc, Bool.or_comm (fabricReg n), named, Bool.or_true]
  have small : n < 2 ^ 16 := by
    rcases Bool.or_eq_true_iff.1 named with sup | fabric
    · exact (supReg_facts sup).2.1
    · exact small_of_fabricReg fabric
  rw [assigned]
  exact fun wrong => wrong.elim (Nat.not_le.2 small) (by decide)

theorem State.ownArrcnt_of_supReg (s : State) {n : Nat} (sup : supReg n = true) : s.ownArrcnt n = false := by
  obtain ⟨above, -⟩ := supReg_facts sup
  simp [State.ownArrcnt, show ¬n < 0x1400 by omega]

/-- A context without privilege names no supervisor register, but for an ARRCNT that it may read (R76, R332). -/
theorem State.privFaults_unprivileged {s : State} {n : Nat} {read : Bool} (after : Option (BitVec 8))
    (named : (supReg n || fabricReg n) = true) (unprivileged : s.ctx.priv = false)
    (other : (read && s.ownArrcnt n) = false) : s.privFaults n read after = [fltPrivilege] := by
  rw [Bool.or_comm] at named
  simp [State.privFaults, named, unprivileged, other]

/-- A VF names no supervisor register that is not queued (R101, R332). -/
theorem State.privFaults_vf {s : State} {n : Nat} {k : Task} (read : Bool) (after : Option (BitVec 8)) (sup : supReg n = true)
    (privileged : s.ctx.priv = true) (task : s.curTask = some k) (vf : k.fn ≠ 0) :
    s.privFaults n read after = [fltPrivilege] := by
  obtain ⟨-, -, -, fabric⟩ := supReg_facts sup
  have other : ¬k.fn = 0#6 := vf
  simp [State.privFaults, sup, fabric, privileged, task, other, s.ownArrcnt_of_supReg sup]

/-- Beside a privilege fault the other faults of sy.srd have higher codes (R271, R332). -/
theorem State.lowest_srdFaults {s : State} {v : Word} (named : (supReg v.toNat || fabricReg v.toNat) = true)
    (denied : ∀ after, s.privFaults v.toNat true after = [fltPrivilege]) : lowestFlt (s.srdFaults v) = some fltPrivilege := by
  rw [State.srdFaults, if_neg (known_of_privileged named), denied, List.append_assoc, List.singleton_append]
  refine lowestFlt_cons_of_le fun x other => ?_
  rcases List.mem_append.1 other with kind | full
  · rw [eq_of_mem_ite kind]; decide
  · rw [eq_of_mem_ite full]; decide

/-- The same of sy.swr. -/
theorem State.lowest_swrFaults {s : State} {i v : Word} (named : (supReg i.toNat || fabricReg i.toNat) = true)
    (denied : ∀ after, s.privFaults i.toNat false after = [fltPrivilege]) : lowestFlt (s.swrFaults i v) = some fltPrivilege := by
  rw [State.swrFaults, if_neg (known_of_privileged named), denied, List.append_assoc, List.singleton_append]
  refine lowestFlt_cons_of_le fun x other => ?_
  rcases List.mem_append.1 other with kind | refused
  · rw [eq_of_mem_ite kind]; decide
  · rw [eq_of_mem_ite refused]; decide

theorem State.srdFaults_unassigned {s : State} {v : Word} (unassigned : assignedReg v.toNat = false) :
    s.srdFaults v = [fltOperand] :=
  if_pos (.inr (by rw [unassigned]; rfl))

/-! ### Operands -/

theorem tokNumFaults_of_le {v : Word} (large : 64 ≤ v.toNat) : tokNumFaults v = [fltOperand] := if_neg (Nat.not_lt.2 large)

theorem rotLegal_eq_false {v : Word}
    (bad : 128 ≤ v.toNat ∨ fld v 0 5 ∉ [0, 4, 8, 16] ∨ (fld v 5 2 = 0 ∧ fld v 0 5 ≠ 0)) : rotLegal v = false := by
  rcases bad with high | size | ⟨file, size⟩
  · simp [rotLegal, Nat.not_lt.2 high]
  · have refused : [0, 4, 8, 16].contains (fld v 0 5) = false := by simpa using size
    simp only [rotLegal, refused, Bool.and_false, Bool.false_and]
  · have refused : (fld v 5 2 != 0 || fld v 0 5 == 0) = false := by simp [file, size]
    rw [rotLegal, refused, Bool.and_false]

theorem State.targetFaults_outside {s : State} {v : Word} (outside : s.ctx.codeLen ≤ v.toNat) : s.targetFaults v = [fltOperand] :=
  if_neg fun inside => Nat.not_lt.2 outside inside.2

/-- In a delay group or not, a branch outside its code takes an illegal operand (R316, R317). -/
theorem State.lowest_jmpFaults {s : State} {v : Word} (outside : s.ctx.codeLen ≤ v.toNat) :
    lowestFlt (s.delayFaults ++ s.targetFaults v) = some fltOperand := by
  rw [State.targetFaults_outside outside, State.delayFaults]
  split <;> rfl

end Sys2Proof.Machine

namespace Sys2Proof.Claims

open Sys2Proof.Machine

/-! ### Forms -/

/-- A fence names one of four scopes (R326). -/
theorem fence_traps {i : Guard → Src → Instr} {port : BitVec 9} {loads stores : Bool}
    (meaning : ∀ g src s, exec (i g src) s = .next (runFence port loads stores g src s)) :
    Traps i port [.sya, .syb] (fun a => 4 ≤ a.word.toNat) fun _ => fltOperand :=
  traps_of_runTrig meaning fun _ _ scope => congrArg lowestFlt (if_neg (Nat.not_lt.2 scope))

/-- A form that checks nothing of its own and that either kind of context issues on a scalar value. -/
structure Unchecked (f : (Guard → Src → Instr) × BitVec 9 × List Latch) : Prop where
  kind : trigKind f.2.1 = .s
  issues : ∀ timed, trigDenied timed f.2.1 = false
  meaning : ∃ act, ∀ g src s, exec (f.1 g src) s = .next (runTrig g src f.2.1 f.2.2 noFaults noWait act s)

theorem unchecked_of_mem_aluForms : ∀ f ∈ aluForms, Unchecked f := by
  intro f mem
  fin_cases mem <;> exact ⟨by decide, by decide, _, fun _ _ _ => rfl⟩

end Sys2Proof.Claims

namespace Sys2Proof.Proofs

open Sys2Proof.Machine Sys2Proof.Claims

/-- Settles O55: under each condition the checks of the form find the fault, and none of a lower code. -/
theorem illegalOperandsAndPrivilegesTrap : Obligations.IllegalOperandsAndPrivilegesTrap := by
  unfold Obligations.IllegalOperandsAndPrivilegesTrap
  refine ⟨?barArrive, ?barWait, ?phase, ?tokClr, fence_traps exec_syFenceR, fence_traps exec_syFenceW, fence_traps exec_syFenceRw,
    ?yield, ?rotcfg, ?jmp, ?srdUnprivileged, ?swrUnprivileged, ?srdVf, ?swrVf, ?srdUnassigned, ?missed⟩
  case barArrive => exact traps_of_runTrig exec_syBarArrive fun a _ level => congrArg lowestFlt (if_neg (Nat.not_lt.2 level))
  case barWait => exact traps_of_runTrig exec_syBarWait fun a _ level => congrArg lowestFlt (if_neg (Nat.not_lt.2 level))
  case phase => exact traps_of_runTrig exec_syPhase fun a _ large => congrArg lowestFlt (if_pos large)
  case tokClr =>
    refine traps_of_runTrig exec_syTokClr fun a _ large => ?_
    simp [tokNumFaults_of_le large, Nat.not_lt.2 large, lowestFlt]
  case yield =>
    refine traps_of_runTrig exec_brYield fun a _ bad => congrArg lowestFlt (if_neg fun ⟨low, high⟩ => ?_)
    rcases bad with zero | large
    · rw [zero] at low; exact absurd low (by decide)
    · exact absurd high (Nat.not_le.2 large)
  case rotcfg =>
    refine traps_of_runTrig exec_brRotcfg fun a _ bad => ?_
    rw [rotLegal_eq_false bad]; rfl
  case jmp => exact traps_of_runTrig exec_brJmp fun a _ outside => State.lowest_jmpFaults outside
  case srdUnprivileged =>
    exact traps_of_runTrig exec_sySrd fun a _ ⟨named, unprivileged, other⟩ =>
      State.lowest_srdFaults named fun after => State.privFaults_unprivileged after named unprivileged other
  case swrUnprivileged =>
    refine traps_of_runTrig exec_sySwr fun a latch ⟨named, unprivileged⟩ => ?_
    rw [latch _ (by simp)]
    exact State.lowest_swrFaults named fun after => State.privFaults_unprivileged after named unprivileged rfl
  case srdVf =>
    exact traps_of_runTrig exec_sySrd fun a _ ⟨sup, privileged, k, task, vf⟩ =>
      State.lowest_srdFaults (Bool.or_eq_true_iff.2 (.inl sup)) fun after => State.privFaults_vf _ after sup privileged task vf
  case swrVf =>
    refine traps_of_runTrig exec_sySwr fun a latch ⟨sup, privileged, k, task, vf⟩ => ?_
    rw [latch _ (by simp)]
    exact State.lowest_swrFaults (Bool.or_eq_true_iff.2 (.inl sup)) fun after => State.privFaults_vf _ after sup privileged task vf
  case srdUnassigned =>
    exact traps_of_runTrig exec_sySrd fun a _ unassigned => congrArg lowestFlt (State.srdFaults_unassigned unassigned)
  case missed =>
    intro f mem s g src v s1 ops s2 taken mayStand mayRead read kind latches empty fit
    obtain ⟨scalar, issues, act, meaning⟩ := unchecked_of_mem_aluForms f mem
    rw [← scalar] at mayStand kind
    exact missed_of_runTrig meaning rfl taken mayStand (issues _) mayRead read kind latches empty fit

end Sys2Proof.Proofs
end

section
/-! What the end of a cycle, the stop of a fold and the going on of a task leave of a context that issues nothing meanwhile (R123 to
R170, R270). -/

namespace Sys2Proof.Machine

/-! ### Contexts and dies at rest -/

/-- A context without what stops, waits and resumptions change in it: what it does besides issuing, its queue entries, captured far rows,
counts to align at, ORIGIN, and whether its exit is quiet. -/
def Ctx.still (c : Ctx) : Ctx :=
  { c with status := .run, status0 := .run, entries := [], far := [], alignAt := [], origin := 0, exitQuiet := false }

theorem Ctx.still_hold (c : Ctx) : c.hold.still = c.still := by
  unfold Ctx.hold; split <;> rfl

theorem Ctx.still_unhold (c : Ctx) : c.unhold.still = c.still := by
  unfold Ctx.unhold; split <;> rfl

theorem Ctx.still_holdTick (c : Ctx) : c.holdTick.still = c.still := by
  unfold Ctx.holdTick; split <;> rfl

/-- Is the stop of a member handed over at the end of this cycle, so that the causes of its fold reach the system (R169)? -/
def Die.handsOver (d : Die) : Bool := d.stopFrozen && decide (d.stopHand ≤ 1)

theorem Die.handsOver_of_stopFrozen {d : Die} (runs : d.stopFrozen = false) : d.handsOver = false := by
  rw [Die.handsOver, runs, Bool.false_and]

/-- From `d` to `e` the contexts change only by stops, waits and resumptions, and no stop comes to be handed over. -/
structure Die.Rests (d e : Die) : Prop where
  still : ∀ c, (e.ctxAt c).still = (d.ctxAt c).still
  stopped : d.handsOver = false → e.handsOver = false

theorem Die.Rests.refl (d : Die) : d.Rests d := ⟨fun _ => rfl, fun noStop => noStop⟩

theorem Die.Rests.trans {d e f : Die} (h : d.Rests e) (k : e.Rests f) : d.Rests f :=
  ⟨fun c => (k.still c).trans (h.still c), fun noStop => k.stopped (h.stopped noStop)⟩

theorem Die.rests_of_eq {d e : Die} (ctxs : e.ctxs = d.ctxs) (frozen : e.stopFrozen = d.stopFrozen)
    (hand : e.stopHand = d.stopHand) : d.Rests e where
  still c := by rw [Die.ctxAt, Die.ctxAt, ctxs]
  stopped noStop := by rw [Die.handsOver, frozen, hand]; exact noStop

theorem Die.rests_onCtxAt {d : Die} {c : CtxId} {f : Ctx → Ctx} (same : (f (d.ctxAt c)).still = (d.ctxAt c).still) :
    d.Rests (d.onCtxAt c f) where
  still k := by
    by_cases h : k = c
    · subst h; rw [Die.ctxAt_onCtxAt, same]
    · rw [Die.ctxAt_onCtxAt_ne d f h]
  stopped noStop := noStop

theorem Die.rests_mapCtxs {d : Die} {f : Ctx → Ctx} (same : ∀ c : Ctx, (f c).still = c.still) : d.Rests (d.mapCtxs f) where
  still k := by
    have each : (d.mapCtxs f).ctxAt k = f (d.ctxAt k) := by fin_cases k <;> rfl
    rw [each, same]
  stopped noStop := noStop

theorem Die.rests_clock (d : Die) (froze hold : Bool) : d.Rests (d.clock froze hold) := by
  have hours (e : Die) : e.Rests e.holdFc := by
    unfold Die.holdFc
    have held := Die.rests_mapCtxs (d := e) Ctx.still_holdTick
    split
    · exact held.trans (Die.rests_of_eq rfl rfl rfl)
    · exact held
  have ticked : d.Rests { d with tick := d.tick + 1 } := Die.rests_of_eq rfl rfl rfl
  unfold Die.clock
  split
  · exact ticked.trans (Die.rests_of_eq rfl rfl rfl)
  · split
    · exact (ticked.trans (hours _)).trans (Die.rests_of_eq rfl rfl rfl)
    · exact ticked.trans (Die.rests_of_eq rfl rfl rfl)

/-- The skew buffers change, and the rows that a context has captured of them (R275, R276). -/
theorem Die.rests_lanes (d : Die) (rx : Vector (List (Row × BitVec 16)) 16) (c : CtxId) {f : Ctx → Ctx}
    (same : ∀ x : Ctx, (f x).still = x.still) : d.Rests ({ d with rx := rx }.onCtxAt c f) :=
  (Die.rests_of_eq (d := d) (e := { d with rx := rx }) rfl rfl rfl).trans (Die.rests_onCtxAt (c := c) (same _))

theorem Die.rests_refillLanes (d : Die) (c : CtxId) : d.Rests (d.refillLanes c) := by
  unfold Die.refillLanes
  refine d.rests_lanes _ c fun x => ?_
  rfl

theorem Die.rests_drainLanes (d : Die) (c : CtxId) : d.Rests (d.drainLanes c) := by
  unfold Die.drainLanes
  refine d.rests_lanes _ c fun x => ?_
  rfl

/-- A member that stops hands over 64 ticks later (R169). -/
theorem Die.rests_stopMember (d : Die) (c : CtxId) : d.Rests { d.stopMember c with stopDue := false } where
  still := (d.rests_drainLanes c).still
  stopped _ := rfl

/-! ### The package at rest -/

/-- The same of every die, in the same die's cycle. -/
structure State.Rests (s t : State) : Prop where
  turn : t.turn = s.turn
  dies : ∀ d, (s.dieAt d).Rests (t.dieAt d)

theorem State.Rests.refl (s : State) : s.Rests s := ⟨rfl, fun _ => .refl _⟩

theorem State.Rests.trans {s t u : State} (h : s.Rests t) (k : t.Rests u) : s.Rests u :=
  ⟨k.turn.trans h.turn, fun d => (h.dies d).trans (k.dies d)⟩

theorem State.rests_onDieAt {s : State} {d : DieId} {f : Die → Die} (rests : (s.dieAt d).Rests (f (s.dieAt d))) :
    s.Rests (s.onDieAt d f) where
  turn := rfl
  dies e := by
    by_cases h : e = d
    · subst h; rwa [State.dieAt_onDieAt]
    · rw [State.dieAt_onDieAt_ne s f h]; exact .refl _

theorem State.rests_onCtxAt {s : State} {d : DieId} {c : CtxId} {f : Ctx → Ctx} (same : ∀ x : Ctx, (f x).still = x.still) :
    s.Rests (s.onCtxAt d c f) :=
  State.rests_onDieAt (Die.rests_onCtxAt (same _))

theorem State.rests_onTask (s : State) (lid : BitVec 32) (f : Task → Task) : s.Rests (s.onTask lid f) := ⟨rfl, fun _ => .refl _⟩

theorem State.rests_foldl {α : Type} {f : State → α → State} (each : ∀ (s : State) a, s.Rests (f s a)) (l : List α) (s : State) :
    s.Rests (l.foldl f s) := by
  induction l generalizing s with
  | nil => exact .refl s
  | cons a l ih => exact (each s a).trans (ih _)

theorem State.rests_sendMsg (s : State) (d : DieId) (m : Msg) : s.Rests (s.sendMsg d m) := by
  unfold State.sendMsg
  refine State.rests_foldl (fun r o => ?_) allDies s
  split
  · exact .refl r
  · exact State.rests_onDieAt (Die.rests_of_eq rfl rfl rfl)

theorem State.rests_sendSideband (s : State) (d : DieId) : s.Rests (s.sendSideband d) := by
  unfold State.sendSideband
  dsimp only
  split
  · exact (s.rests_sendMsg _ _).trans (State.rests_onDieAt (Die.rests_of_eq rfl rfl rfl))
  · split
    · exact (s.rests_sendMsg _ _).trans (State.rests_onDieAt (Die.rests_of_eq rfl rfl rfl))
    · split
      · exact (s.rests_sendMsg _ _).trans (State.rests_onDieAt (Die.rests_of_eq rfl rfl rfl))
      · exact .refl s

theorem State.rests_noteExit (s : State) (d : DieId) (c : CtxId) : s.Rests (s.noteExit d c) := by
  unfold State.noteExit
  dsimp only
  split
  · exact State.rests_onCtxAt fun _ => rfl
  · exact .refl s

theorem State.rests_holdFree (s : State) (t : Task) : s.Rests (s.holdFree t) := by
  refine State.rests_foldl (fun r p => State.rests_onCtxAt fun x => ?_) t.ctxs s
  split
  · exact x.still_hold
  · rfl

theorem State.rests_foldStop (s : State) (t : Task) (d : DieId) (c : CtxId) (f : Nat) (code : BitVec 8) :
    s.Rests (s.foldStop t d c f code) := by
  unfold State.foldStop
  split
  · exact .refl s
  · have stops := (State.rests_onDieAt (s := s) (d := d) (f := fun x => { x.stopMember c with stopDue := false })
      ((s.dieAt d).rests_stopMember c)).trans (State.rests_onTask _ t.lid fun t => { t with stopCounts := t.stopCounts ++ [(d, f)] })
    dsimp only
    split
    · exact (stops.trans (State.rests_onDieAt (Die.rests_of_eq rfl rfl rfl))).trans (State.rests_holdFree _ t)
    · exact stops.trans (State.rests_holdFree _ t)

theorem State.rests_resumeTask (s : State) (t : Task) (keep : List (DieId × CtxId)) : s.Rests (s.resumeTask t keep) := by
  unfold State.resumeTask
  dsimp only
  split
  · refine ((s.rests_onTask t.lid _).trans (State.rests_foldl (fun r p => State.rests_onCtxAt fun x => ?_) t.ctxs _)).trans
      (State.rests_onTask _ t.lid _)
    split
    · exact x.still_hold
    · rfl
  · refine ((s.rests_onTask t.lid _).trans (State.rests_foldl (fun r p => ?_) t.ctxs _)).trans (State.rests_onTask _ t.lid _)
    split
    · exact .refl r
    · refine (State.rests_onCtxAt Ctx.still_unhold).trans (State.rests_onDieAt ?_)
      split
      · exact Die.rests_refillLanes _ _
      · exact .refl _

/-- After the return of the context itself, the going on of its fold changes no context but by stops, waits and resumptions (R269). -/
theorem State.rests_rfe (s : State) : (s.onCtx Ctx.rfe).Rests s.rfe := by
  unfold State.rfe
  dsimp only
  split
  next t task =>
    split
    · exact .refl _
    · split
      · exact State.rests_onCtxAt Ctx.still_hold
      · exact State.rests_resumeTask _ _ _
  next => exact .refl _

/-! ### The end of a cycle -/

@[simp] theorem State.dieAt_nextTurn (s : State) (d : DieId) : s.nextTurn.dieAt d = s.dieAt d := by
  unfold State.nextTurn; split <;> rfl

/-- The end of a cycle that hands over no stop. -/
theorem State.still_endCycle {s : State} (noStop : (s.dieAt s.turn).handsOver = false) (froze hold : Bool) (d : DieId) (c : CtxId) :
    (((s.endCycle froze hold).dieAt d).ctxAt c).still = ((s.dieAt d).ctxAt c).still := by
  have rests : s.Rests ((s.sendSideband s.turn).onDieAt s.turn fun x => x.clock froze hold) :=
    (s.rests_sendSideband s.turn).trans (State.rests_onDieAt (Die.rests_clock _ _ _))
  rw [← (rests.dies d).still c]
  have later := (rests.dies s.turn).stopped noStop
  unfold State.endCycle
  dsimp only
  rw [State.dieAt_nextTurn]
  split
  next frozen =>
    have waits : ¬_ ≤ 1 := of_decide_eq_false ((Bool.and_eq_false_imp.1 later) frozen)
    rw [if_neg waits]
    by_cases h : d = s.turn
    · subst h; rw [State.dieAt_onDieAt]; rfl
    · rw [State.dieAt_onDieAt_ne _ _ h]
  next => rfl

end Sys2Proof.Machine
end

section
/-! Entry to a handler and the return from it (R265 to R271, R283, R284, R336). -/

namespace Sys2Proof.Machine

/-! ### What takes effect at an entry or a return -/

/-- What exceptions have left in a context: where the last one arose and its code, its guards, and what its handler interrupts (Table
11.2, R275). -/
def Ctx.told (c : Ctx) : Word × BitVec 8 × BitVec 8 × Option Snap := (c.faddr, c.fcode, c.guards, c.snap)

theorem Ctx.told_setSreg (c : Ctx) (reg : Nat) (v : Word) : (c.setSreg reg v).told = c.told := by
  unfold Ctx.setSreg
  split <;> simp only [Ctx.told, apply_ite Ctx.faddr, apply_ite Ctx.fcode, apply_ite Ctx.guards, apply_ite Ctx.snap, ite_self]

theorem Ctx.told_takeEffect (c : Ctx) (e : Effect) : (c.takeEffect e).told = c.told := by
  cases e with
  | sreg reg v => exact c.told_setSreg reg v
  | _ => rfl

/-- No operation under way changes what exceptions have left. -/
theorem Ctx.told_takeUnderWay (c : Ctx) (p : Effect → Bool) : (c.takeUnderWay p).told = c.told := by
  have each (l : List Pending) (x : Ctx) : (l.foldl (fun c y => c.takeEffect y.eff) x).told = x.told := by
    induction l generalizing x with
    | nil => rfl
    | cons y l ih => exact (ih _).trans (x.told_takeEffect y.eff)
  exact each _ _

/-! ### The end of a group -/

theorem Ctx.afterGroup_eq (c : Ctx) (g : GroupCtx) :
    ∃ l st ex, c.afterGroup g = { c with alignAt := l, status := st, exitAt := ex } := by
  cases align : g.align <;> simp only [Ctx.afterGroup, align, Bool.false_eq_true, if_true, if_false]
  all_goals
    split
    · exact ⟨_, _, _, rfl⟩
    · split
      · exact ⟨_, _, _, rfl⟩
      · split <;> exact ⟨_, _, _, rfl⟩

/-- A group that commits whole changes neither what exceptions have left nor the handler. -/
theorem Ctx.closeGroup_keeps (c : Ctx) (g : GroupCtx) :
    (c.closeGroup g).told = c.told ∧ (c.closeGroup g).handler = c.handler := by
  obtain ⟨l, st, ex, after⟩ := c.afterGroup_eq g
  simp only [Ctx.closeGroup, after]
  split
  · exact ⟨rfl, rfl⟩
  · split
    · exact ⟨rfl, rfl⟩
    · split <;> exact ⟨rfl, rfl⟩

/-- The place at which a context is interrupted is no part of its handler. -/
theorem Ctx.handler_stopAt (c : Ctx) (g : GroupCtx) (next : Bool) : (c.stopAt g next).handler = c.handler := by
  unfold Ctx.stopAt
  split
  · rfl
  · exact (c.closeGroup_keeps g).2

theorem Die.handler_atNext (d : Die) (x : Ctx) : (d.atNext x).handler = x.handler := by
  unfold Die.atNext; split <;> rfl

/-! ### Entry to a handler -/

/-- The context runs its handler at `e` for the fault `f` (R267, R268). -/
def Ctx.Handles (y : Ctx) (f : Flt) (e : Nat) : Prop := y.faddr = f.addr ∧ y.fcode = f.code ∧ y.inh = true ∧ y.bundle = e

theorem Ctx.Handles.of_still {x y : Ctx} {f : Flt} {e : Nat} (h : x.Handles f e) (same : y.still = x.still) : y.Handles f e := by
  show y.still.Handles f e
  rw [same]
  exact h

theorem Ctx.handles_enterHandler (c : Ctx) (f : Flt) (cnt e : Nat) : ((c.setFaultRegs f cnt).enterHandler e).Handles f e := by
  have told := (c.setFaultRegs f cnt).told_takeUnderWay Effect.isSreg
  exact ⟨congrArg (fun x => x.1) told, congrArg (fun x => x.2.1) told, rfl, rfl⟩

theorem Ctx.Handles.leaveLate {x : Ctx} {f : Flt} {e : Nat} (h : x.Handles f e) (entered : Bool) (l : List Defer) :
    (x.leaveLate entered l).Handles f e := by
  unfold Ctx.leaveLate
  split
  · split <;> exact h
  · exact h

theorem State.dieAt_postRecord (s : State) (i : BitVec 6) (r : List Byte) (d : DieId) : (s.postRecord i r).dieAt d = s.dieAt d := by
  simp only [State.postRecord]
  split
  · rfl
  · split <;> rfl

theorem State.turn_postRecord (s : State) (i : BitVec 6) (r : List Byte) : (s.postRecord i r).turn = s.turn := by
  simp only [State.postRecord]
  split
  · rfl
  · split <;> rfl

theorem State.dieAt_postEvent (s : State) (fn : BitVec 6) (code : Nat) (e : DieId) (queue : Nat) (payload : List Byte) (d : DieId) :
    (s.postEvent fn code e queue payload).dieAt d = s.dieAt d := by
  simp only [State.postEvent]
  split <;> simp only [State.dieAt_postRecord]

theorem State.turn_postEvent (s : State) (fn : BitVec 6) (code : Nat) (e : DieId) (queue : Nat) (payload : List Byte) :
    (s.postEvent fn code e queue payload).turn = s.turn := by
  simp only [State.postEvent]
  split <;> simp only [State.turn_postRecord]

/-- The trace trigger changes the trace buffer of its die and its registers, and posts an event (R284). -/
theorem State.traceTrigger_eq (s : State) (d : DieId) (c : CtxId) (place : Nat × Nat) :
    (s.traceTrigger d c place).turn = s.turn ∧ ∃ buf ctl post,
      (s.traceTrigger d c place).dieAt d = { s.dieAt d with trcBuf := buf, trcCtl := ctl, trcPost := post } := by
  simp only [State.traceTrigger]
  split
  · obtain ⟨buf, ctl, post, written⟩ := (s.dieAt d).traceWrite_eq (traceBits (s.dieAt d).tick 6 c place.1 place.2 0 0)
    rw [State.turn_postEvent, State.dieAt_postEvent, State.dieAt_putDieAt, written]
    refine ⟨rfl, ?_⟩
    split
    · exact ⟨_, _, _, rfl⟩
    · split <;> exact ⟨_, _, _, rfl⟩
  · exact ⟨rfl, _, _, _, rfl⟩

/-- The record of a trap changes the trace buffer of its die and its registers (R284, Table 11.8). -/
theorem State.traceTrap_eq (s : State) (d : DieId) (c : CtxId) (place : Nat × Nat) (code : BitVec 8) (reason : BitVec 4)
    (cnt : Nat) : (s.traceTrap d c place code reason cnt).turn = s.turn ∧ ∃ buf ctl post,
      (s.traceTrap d c place code reason cnt).dieAt d = { s.dieAt d with trcBuf := buf, trcCtl := ctl, trcPost := post } := by
  simp only [State.traceTrap]
  split
  · exact ⟨rfl, _, _, _, rfl⟩
  · obtain ⟨buf, ctl, post, traced⟩ := (s.dieAt d).trace_eq 5 c place (BitVec.ofNat 64 (code.toNat + reason.toNat * 256))
      (BitVec.ofNat 64 cnt)
    split
    · obtain ⟨turn, buf', ctl', post', fired⟩ := State.traceTrigger_eq (s.onDieAt d fun y =>
        y.trace 5 c place (BitVec.ofNat 64 (code.toNat + reason.toNat * 256)) (BitVec.ofNat 64 cnt)) d c place
      rw [fired, turn, State.dieAt_onDieAt, traced]
      exact ⟨rfl, _, _, _, rfl⟩
    · rw [State.dieAt_onDieAt, traced]
      exact ⟨rfl, _, _, _, rfl⟩

/-- The context `c` of die `d` runs its handler at `e` for the fault `f`, no stop of its die being handed over in this cycle. -/
structure State.Handles (s : State) (d : DieId) (c : CtxId) (f : Flt) (e : Nat) : Prop where
  ctx : ((s.dieAt d).ctxAt c).Handles f e
  stopped : (s.dieAt d).handsOver = false

theorem State.Handles.of_rests {s t : State} {d : DieId} {c : CtxId} {f : Flt} {e : Nat} (h : s.Handles d c f e)
    (rests : s.Rests t) : t.Handles d c f e :=
  ⟨h.ctx.of_still ((rests.dies d).still c), (rests.dies d).stopped h.stopped⟩

/-- A fault that has a handler enters it; of a timed context the fold stops (R267, R268). -/
theorem State.handles_deliver {s : State} {d : DieId} {c : CtxId} {f : Flt} {e : Nat} (cnt queue seq : Nat)
    (place : Option (Nat × Nat)) (handler : ((s.dieAt d).ctxAt c).handler f.code = some e) (noStop : (s.dieAt d).handsOver = false) :
    (s.deliver d c f cnt queue seq place).turn = s.turn ∧ (s.deliver d c f cnt queue seq place).Handles d c f e := by
  simp only [State.deliver, handler]
  have traced := State.traceTrap_eq (s.onCtxAt d c fun x => x.setFaultRegs f cnt) d c (place.getD ((s.dieAt d).ctxAt c).place) f.code
    f.reason cnt
  revert traced
  generalize (s.onCtxAt d c fun x => x.setFaultRegs f cnt).traceTrap d c (place.getD ((s.dieAt d).ctxAt c).place) f.code
    f.reason cnt = t
  rintro ⟨turn, buf, ctl, post, die⟩
  rw [State.onCtxAt, State.dieAt_onDieAt] at die
  have told : (t.dieAt d).ctxAt c = ((s.dieAt d).ctxAt c).setFaultRegs f cnt := by
    rw [die]
    exact (s.dieAt d).ctxAt_onCtxAt c fun x => x.setFaultRegs f cnt
  have stopped : (t.dieAt d).handsOver = false := by
    rw [die]
    exact noStop
  have entered : (t.onCtxAt d c fun x => x.enterHandler e).Handles d c f e := by
    constructor <;> rw [State.onCtxAt, State.dieAt_onDieAt]
    · rw [Die.ctxAt_onCtxAt, told]
      exact Ctx.handles_enterHandler _ f cnt e
    · exact stopped
  split
  · split
    · exact ⟨(State.rests_foldStop ..).turn.trans turn, entered.of_rests (State.rests_foldStop ..)⟩
    · exact ⟨turn, entered⟩
  · exact ⟨turn, entered⟩

theorem State.ctxAt_onCtx (s : State) (f : Ctx → Ctx) : ((s.onCtx f).dieAt s.turn).ctxAt s.die.issuing = f s.ctx := by
  rw [State.onCtx, State.onDie, State.dieAt_onDieAt]
  exact s.die.ctxAt_onCtxAt s.die.issuing f

theorem State.handsOver_onCtx {s : State} (f : Ctx → Ctx) (runs : s.die.stopFrozen = false) :
    ((s.onCtx f).dieAt s.turn).handsOver = false :=
  Die.handsOver_of_stopFrozen ((State.die_onCtx_stopFrozen s f).trans runs)

/-- What a group that has committed whole raises first, not after a stall, enters its handler; the rest waits (R271, R283). -/
theorem State.handles_raiseWhole {s : State} {d : DieId} {c : CtxId} {f : Flt} {e : Nat} (cnt : Nat) (place : Option (Nat × Nat))
    (l : List Flt) (handler : ((s.dieAt d).ctxAt c).handler f.code = some e) (noStop : (s.dieAt d).handsOver = false) :
    (s.raiseWhole false d c cnt place (f :: l)).turn = s.turn ∧ (s.raiseWhole false d c cnt place (f :: l)).Handles d c f e := by
  simp only [State.raiseWhole, Bool.false_eq_true, if_false]
  have standing : (((s.onCtxAt d c fun x => ((s.dieAt d).atNext x).noteGuards).dieAt d).ctxAt c).handler f.code = some e := by
    rw [State.onCtxAt, State.dieAt_onDieAt, Die.ctxAt_onCtxAt, ← handler]
    exact congrFun ((s.dieAt d).handler_atNext ((s.dieAt d).ctxAt c)) f.code
  have runs : ((s.onCtxAt d c fun x => ((s.dieAt d).atNext x).noteGuards).dieAt d).handsOver = false := by
    rw [State.onCtxAt, State.dieAt_onDieAt]
    exact noStop
  obtain ⟨turn, ctx, stopped⟩ := State.handles_deliver cnt 2 0 place standing runs
  refine ⟨turn, ?_, ?_⟩ <;> rw [State.onCtxAt, State.dieAt_onDieAt]
  · rw [Die.ctxAt_onCtxAt]
    exact ctx.leaveLate _ _
  · exact stopped

/-- A trap that has a handler enters it: inside its group, or with its group when that has no stall (R123, R271, R336). -/
theorem State.handles_takeFault {s : State} {f : Flt} {e : Nat} (handler : s.ctx.handler f.code = some e)
    (runs : s.die.stopFrozen = false) (goesOn : s.group.rfe = false)
    (unstalled : s.group.inside true = true ∨ s.group.stall = 0) :
    (((s.takeFault f true).dieAt s.turn).ctxAt s.die.issuing).Handles f e := by
  cases inside : s.group.inside true with
  | true =>
    have standing : (((s.onCtx fun x => { x.stopAt s.group true with stepDue := false }).dieAt s.turn).ctxAt
        s.die.issuing).handler f.code = some e := by
      rw [State.ctxAt_onCtx, ← handler]
      exact congrFun (s.ctx.handler_stopAt s.group true) f.code
    obtain ⟨turn, ctx, stopped⟩ := State.handles_deliver s.groupCnt 2 0 (some s.ctx.place) standing (State.handsOver_onCtx _ runs)
    rw [State.takeFault, if_pos inside]
    refine ctx.of_still (State.still_endCycle ?_ _ _ _ _)
    rw [turn]
    exact stopped
  | false =>
    have stall : s.group.stall = 0 := unstalled.resolve_left (by rw [inside]; exact Bool.false_ne_true)
    have standing : (((s.onCtx fun x => { x.closeGroup s.group with stepDue := false }).dieAt s.turn).ctxAt
        s.die.issuing).handler f.code = some e := by
      rw [State.ctxAt_onCtx, ← handler]
      exact congrFun (s.ctx.closeGroup_keeps s.group).2 f.code
    obtain ⟨turn, raised⟩ := State.handles_raiseWhole s.groupCnt (some s.ctx.place) s.groupRaises standing
      (State.handsOver_onCtx _ runs)
    have exits := raised.of_rests (State.rests_noteExit _ s.turn s.die.issuing)
    rw [State.takeFault, if_neg (by rw [inside]; exact Bool.false_ne_true)]
    simp only [State.closeWhole, goesOn, stall, Bool.not_false, if_true, bne_self_eq_false, Bool.false_and, List.singleton_append]
    refine exits.ctx.of_still (State.still_endCycle ?_ _ _ _ _)
    rw [(State.rests_noteExit _ s.turn s.die.issuing).turn, turn]
    exact exits.stopped

/-! ### The return from a handler -/

/-- The context has returned from its handler: `n` is what its entry saved, `x` the context as the handler's last group left it (R269,
R276, log 18). -/
structure Ctx.Returned (y x : Ctx) (n : Snap) : Prop where
  inh : y.inh = false
  snap : y.snap = none
  ports : y.ports = n.ports
  pend : y.pend = (x.pend.filter fun p => p.eff.isSreg) ++ n.pend
  delay : y.delay = n.delay
  bundle : y.bundle = x.epc
  slot : y.slot = x.cswSlot
  reentry : y.reentry = true
  guards : y.guards = x.guards

theorem Ctx.returned_rfe {c : Ctx} {n : Snap} (saved : c.snap = some n) : c.rfe.Returned (c.takeUnderWay fun _ => true) n := by
  simp only [Ctx.rfe, saved]
  exact ⟨rfl, rfl, rfl, rfl, rfl, rfl, rfl, rfl, rfl⟩

theorem Ctx.Returned.of_still {x y z : Ctx} {n : Snap} (h : y.Returned x n) (same : z.still = y.still) : z.Returned x n := by
  have rested : z.still.Returned x n := by
    rw [same]
    exact ⟨h.inh, h.snap, h.ports, h.pend, h.delay, h.bundle, h.slot, h.reentry, h.guards⟩
  exact ⟨rested.inh, rested.snap, rested.ports, rested.pend, rested.delay, rested.bundle, rested.slot, rested.reentry,
    rested.guards⟩

/-- A group with sy.rfe that raises nothing ends its handler (R269, R336). -/
theorem State.returned_endGroup {s : State} {g : GroupCtx} {n : Snap} (opened : s.ctx.grp = some g) (returns : g.rfe = true)
    (quiet : g.trap = none) (runsOn : s.ctx.stepDue = false) (saved : s.ctx.snap = some n) (runs : s.die.stopFrozen = false) :
    ((s.endGroup.dieAt s.turn).ctxAt s.die.issuing).Returned
      (({ s.ctx.closeGroup g with stepDue := false } : Ctx).takeUnderWay fun _ => true) n := by
  have current := State.group_of_grp opened
  have raises : s.groupRaises = [] := by simp [State.groupRaises, current, quiet, runsOn]
  have told := (s.ctx.closeGroup_keeps g).1
  have saved' : (s.ctx.closeGroup g).snap = some n := (congrArg (fun x => x.2.2.2) told).trans saved
  have rests := (State.rests_rfe (s.onCtx fun x => { x.closeGroup g with stepDue := false })).trans
    (State.rests_noteExit _ s.turn s.die.issuing)
  rw [State.onCtx_onCtx] at rests
  have returned : ((((s.onCtx fun x => { x.closeGroup g with stepDue := false }.rfe).dieAt s.turn).ctxAt s.die.issuing)).Returned
      (({ s.ctx.closeGroup g with stepDue := false } : Ctx).takeUnderWay fun _ => true) n := by
    rw [State.ctxAt_onCtx]
    exact Ctx.returned_rfe saved'
  simp only [State.endGroup, State.closeWhole, current, returns, raises, List.append_nil, List.isEmpty_nil, Bool.not_true,
    Bool.false_eq_true, if_true, if_false, State.raiseWhole]
  refine (returned.of_still ((rests.dies _).still _)).of_still (State.still_endCycle ?_ _ _ _ _)
  rw [rests.turn]
  exact (rests.dies _).stopped (State.handsOver_onCtx _ runs)

end Sys2Proof.Machine

namespace Sys2Proof.Proofs

open Sys2Proof.Machine Sys2Proof.Claims

/-- Settles O54: the end of the cycle leaves the returned context as `Ctx.rfe` has it, and the trapped one in its handler. -/
theorem handlersReturnAndBreakpointsTrap : Obligations.HandlersReturnAndBreakpointsTrap := by
  unfold Obligations.HandlersReturnAndBreakpointsTrap
  refine ⟨fun g src => ⟨rfl, rfl⟩, ?illegal, ?ends, ?returned, ?guards, raises_of_runTrigTo exec_syBrk, ?enters⟩
  case illegal =>
    refine traps_of_runTrig exec_syRfe fun a _ outside => ?_
    rw [outside]; rfl
  case ends => exact completes_of_runTrig exec_syRfe fun a _ inside => ⟨if_pos inside, rfl, rfl⟩
  case returned =>
    intro s g n opened returns quiet runsOn saved runs x z y
    obtain ⟨inh, snap, ports, pend, delay, bundle, slot, reentry, guards⟩ :=
      State.returned_endGroup opened returns quiet runsOn saved runs
    have kept : z.guards = x.guards :=
      (congrArg (fun w => w.2.2.1) (({ x.closeGroup g with stepDue := false } : Ctx).told_takeUnderWay fun _ => true)).trans
        (congrArg (fun w => w.2.2.1) (x.closeGroup_keeps g).1)
    exact ⟨inh, snap, ports, pend, delay, bundle, slot, reentry, guards.trans kept⟩
  case guards => exact fun d c slots nb ns nf na reentered => if_pos reentered
  case enters => exact fun s v e handler runs goesOn unstalled => State.handles_takeFault handler runs goesOn unstalled

end Sys2Proof.Proofs
end

section
/-! The vector wall (R338 to R352): what each shared shape of a vx form does with the operands it reads, and the forms themselves. -/

namespace Sys2Proof.Claims

open Sys2Proof.Machine

variable {i : Guard → Src → Instr} {port : BitVec 9}

/-- A vx form whose check passes delivers its slices at its latency (R338). -/
theorem slices_of_runVx {need : List Latch} {chk : Args → List Flt} {l : Nat} {ok : Args → Prop} {f : Args → Nat → Row × Flags}
    (meaning : ∀ g src s, exec (i g src) s = .next (runVx port need chk l (fun a => perSlice (f a)) g src s))
    (sound : ∀ a, ok a → chk a = []) : Slices i port need l ok f :=
  completes_of_runTrig meaning fun a _ holds => ⟨sound a holds, rfl, rfl⟩

/-! ### Elementwise, byte-wise and shift forms (R343 to R346) -/

theorem lanes_of_runLanes {need : List Latch} {l w : Nat} {op : RMode → Nat → Nat → Nat → Res}
    (meaning : ∀ g src s, exec (i g src) s = .next (runLanes port need l w op g src s)) : Lanes i port need l w op :=
  slices_of_runVx meaning fun _ _ => rfl

theorem bytewise_of_runBytes {need : List Latch} {f : Args → Nat → Row}
    (meaning : ∀ g src s, exec (i g src) s = .next (runBytes port need f g src s)) :
    Bytewise i port need 1 (fun _ => True) f :=
  slices_of_runVx meaning fun _ _ => rfl

/-- A shift faults in nothing while its trigger value is below its limit (R346). -/
theorem bytewise_of_runShift {need : List Latch} {limit l : Nat} {f : Args → Nat → Row}
    (meaning : ∀ g src s, exec (i g src) s = .next (runShift port need limit l f g src s)) :
    Bytewise i port need l (fun a => a.word.toNat < limit) f :=
  slices_of_runVx meaning fun _ below => if_pos below

/-! ### Conversions (R347, R348) -/

theorem converts_of_runCvt {k : CvtForm} (meaning : ∀ g src s, exec (i g src) s = .next (runCvt port k g src s)) :
    Converts i port k :=
  completes_of_runTrig meaning fun _ _ _ => ⟨rfl, rfl, rfl⟩

/-! ### Functions of one operand (R123, R349) -/

section

variable {l n : Nat} {f f1 : Nat → Res}

/-- A function without a routine is computed alike under both profiles. -/
theorem function1_of_runFun_none (meaning : ∀ g src s, exec (i g src) s = .next (runFun port l f none g src s)) :
    Function1 i port l (fun _ => True) f :=
  completes_of_runTrig meaning fun _ _ _ => ⟨rfl, rfl, rfl⟩

variable (meaning : ∀ g src s, exec (i g src) s = .next (runFun port l f (some (n, f1)) g src s))
include meaning

theorem function1_of_runFun_some : Function1 i port l (fun a => a.st.ctx.profile1 = false) f :=
  completes_of_runTrig meaning fun _ _ profile2 => ⟨rfl, rfl, if_neg (Bool.eq_false_iff.1 profile2)⟩

theorem routine1_of_runFun : Routine1 i port n f1 :=
  completes_of_runTrig meaning fun _ _ profile1 => ⟨rfl, rfl, if_pos profile1⟩

end

/-! ### Row reductions, block scale and quantise (R350 to R352) -/

theorem slices_of_runReduce {w ident : Nat} {cv : Nat → Res} {op : Res → Res → Res}
    (meaning : ∀ g src s, exec (i g src) s = .next (runReduce port w cv ident op g src s)) :
    Slices i port [] 7 (fun _ => True) fun a k => reduceRow w cv ident op (a.mask k) (a.rv k) :=
  slices_of_runVx meaning fun _ _ => rfl

theorem slices_of_runBscale {f : Fmt} (meaning : ∀ g src s, exec (i g src) s = .next (runBscale port f g src s)) :
    Slices i port [.vxa] 4 (fun _ => True) fun a k => bscaleRow f (a.part k (blockRatio f)) (a.mask k) (a.rv k) :=
  slices_of_runVx meaning fun _ _ => rfl

/-- Only RMODE 4 makes a quantisation a stochastic conversion (R348, R352). -/
theorem quantises_of_runBquant {f : Fmt} (meaning : ∀ g src s, exec (i g src) s = .next (runBquant port f g src s)) :
    Quantises i port f :=
  completes_of_runTrig meaning fun _ _ _ => ⟨rfl, rfl, by simp only [beq_iff_eq, State.drawnRng]⟩

end Sys2Proof.Claims

namespace Sys2Proof.Proofs

open Sys2Proof.Machine Sys2Proof.Claims

/-- Settles O17: every form is `runLanes` of its operation on lanes of its format. -/
theorem vectorFloatsComplete : Obligations.VectorFloatsComplete :=
  ⟨lanes_of_runLanes exec_vxFaddF32, lanes_of_runLanes exec_vxFsubF32, lanes_of_runLanes exec_vxFmulF32,
    lanes_of_runLanes exec_vxFmaF32, lanes_of_runLanes exec_vxFmsF32, lanes_of_runLanes exec_vxFnmaF32,
    lanes_of_runLanes exec_vxFnmsF32, lanes_of_runLanes exec_vxFminF32, lanes_of_runLanes exec_vxFmaxF32,
    lanes_of_runLanes exec_vxFminNumF32, lanes_of_runLanes exec_vxFmaxNumF32, lanes_of_runLanes exec_vxFaddBf16,
    lanes_of_runLanes exec_vxFsubBf16, lanes_of_runLanes exec_vxFmulBf16, lanes_of_runLanes exec_vxFmaBf16,
    lanes_of_runLanes exec_vxFmsBf16, lanes_of_runLanes exec_vxFnmaBf16, lanes_of_runLanes exec_vxFnmsBf16,
    lanes_of_runLanes exec_vxFminBf16, lanes_of_runLanes exec_vxFmaxBf16, lanes_of_runLanes exec_vxFaddF16,
    lanes_of_runLanes exec_vxFmulF16, lanes_of_runLanes exec_vxFmaF16, lanes_of_runLanes exec_vxFmaxF16,
    lanes_of_runLanes exec_vxFmulE4m3, lanes_of_runLanes exec_vxFmulE5m2, lanes_of_runLanes exec_vxFmulE2m1,
    lanes_of_runLanes exec_vxFcmpEqF32, lanes_of_runLanes exec_vxFcmpLtF32, lanes_of_runLanes exec_vxFcmpLeF32,
    lanes_of_runLanes exec_vxFcmpUnF32⟩

/-- Settles O18: the arithmetic forms work on lanes, the logical ones on bytes, and lut3, rot and fsh bound their trigger value. -/
theorem vectorIntegersComplete : Obligations.VectorIntegersComplete :=
  ⟨lanes_of_runLanes exec_vxIaddI32, lanes_of_runLanes exec_vxIsubI32, lanes_of_runLanes exec_vxIaddSI32,
    lanes_of_runLanes exec_vxIsubSI32, lanes_of_runLanes exec_vxImulI32, lanes_of_runLanes exec_vxImadI32,
    lanes_of_runLanes exec_vxIminI32, lanes_of_runLanes exec_vxImaxI32, lanes_of_runLanes exec_vxIminuI32,
    lanes_of_runLanes exec_vxImaxuI32, lanes_of_runLanes exec_vxIcmpEqI32, lanes_of_runLanes exec_vxIcmpLtI32,
    lanes_of_runLanes exec_vxIcmpLtuI32, lanes_of_runLanes exec_vxShlI32, lanes_of_runLanes exec_vxShrI32,
    lanes_of_runLanes exec_vxSarI32, lanes_of_runLanes exec_vxPopcI32, lanes_of_runLanes exec_vxClzI32,
    lanes_of_runLanes exec_vxIaddI16, lanes_of_runLanes exec_vxIaddI8, lanes_of_runLanes exec_vxIaddSI8,
    bytewise_of_runBytes exec_vxAnd, bytewise_of_runBytes exec_vxOr, bytewise_of_runBytes exec_vxXor,
    bytewise_of_runBytes exec_vxAndn, bytewise_of_runShift exec_vxLut3, bytewise_of_runBytes exec_vxSel,
    bytewise_of_runShift exec_vxRot, bytewise_of_runShift exec_vxFsh⟩

/-- Settles O19: every conversion is `runCvt` of its form. -/
theorem conversionsComplete : Obligations.ConversionsComplete :=
  ⟨converts_of_runCvt exec_vxCvtF32Bf16, converts_of_runCvt exec_vxCvtF32F16, converts_of_runCvt exec_vxCvtBf16F32,
    converts_of_runCvt exec_vxCvtF16F32, converts_of_runCvt exec_vxCvtF32E4m3Sat, converts_of_runCvt exec_vxCvtF32E4m3Nan,
    converts_of_runCvt exec_vxCvtF32E5m2Sat, converts_of_runCvt exec_vxCvtF32E5m2Inf, converts_of_runCvt exec_vxCvtF32E2m1,
    converts_of_runCvt exec_vxCvtBf16E4m3Sat, converts_of_runCvt exec_vxCvtBf16E5m2Sat, converts_of_runCvt exec_vxCvtE4m3F32,
    converts_of_runCvt exec_vxCvtE5m2F32, converts_of_runCvt exec_vxCvtE2m1F32, converts_of_runCvt exec_vxCvtE4m3Bf16,
    converts_of_runCvt exec_vxCvtF32I32, converts_of_runCvt exec_vxCvtI32F32, converts_of_runCvt exec_vxCvtI8F32,
    converts_of_runCvt exec_vxCvtF32I8, converts_of_runCvt exec_vxCvtI4I8, converts_of_runCvt exec_vxCvtI32I8S,
    converts_of_runCvt exec_vxCvtF32E4m3SatAmax, converts_of_runCvt exec_vxCvtF32E5m2SatAmax,
    converts_of_runCvt exec_vxCvtF32Bf16Amax, converts_of_runCvt exec_vxCvtSrF32E4m3Sat,
    converts_of_runCvt exec_vxCvtSrF32E5m2Sat, converts_of_runCvt exec_vxCvtSrF32Bf16⟩

/-- Settles O20: rcp, rsqrt and exp2 have a routine under profile 1, every other form is the same under both profiles. -/
theorem functionsAndBlocksComplete : Obligations.FunctionsAndBlocksComplete :=
  ⟨function1_of_runFun_some exec_vxRcpF32, routine1_of_runFun exec_vxRcpF32, function1_of_runFun_some exec_vxRsqrtF32,
    routine1_of_runFun exec_vxRsqrtF32, function1_of_runFun_none exec_vxSqrtF32, function1_of_runFun_some exec_vxExp2F32,
    routine1_of_runFun exec_vxExp2F32, function1_of_runFun_none exec_vxLog2F32,
    slices_of_runReduce exec_vxRsumF32, slices_of_runReduce exec_vxRsumBf16, slices_of_runReduce exec_vxRmaxF32,
    slices_of_runReduce exec_vxRmaxBf16, slices_of_runReduce exec_vxRminF32, slices_of_runReduce exec_vxRminBf16,
    slices_of_runReduce exec_vxRsumI32, slices_of_runReduce exec_vxRsumI8,
    slices_of_runBscale exec_vxBscaleE4m3, slices_of_runBscale exec_vxBscaleE5m2, slices_of_runBscale exec_vxBscaleE2m1,
    quantises_of_runBquant exec_vxBquantE4m3, quantises_of_runBquant exec_vxBquantE5m2, quantises_of_runBquant exec_vxBquantE2m1⟩

end Sys2Proof.Proofs
end

section
/-! The scan wall (R353, R354): row scans, cross-slice scans with the segments of sc.f, and cross-slice reductions. -/

namespace Sys2Proof.Claims

open Sys2Proof.Machine

variable {i : Guard → Src → Instr} {port : BitVec 9} {cv : Nat → Res} {ident : Nat} {op : Res → Res → Res}

/-- A row scan delivers the scans of its slices on sc.q at latency 8 (R353). -/
theorem completes_of_runScan (meaning : ∀ g src s, exec (i g src) s = .next (runScan port cv ident op g src s)) :
    Completes i port [] (fun _ => True) fun a =>
      a.st.deliverSc 8 (perSlice fun k => scanRow cv ident op (a.mask k) (a.rv k)) :=
  completes_of_runTrig meaning fun _ _ _ => ⟨rfl, rfl, rfl⟩

/-- A full sc.f is consumed and gives the segments; an empty one leaves each lane one segment (R354). -/
theorem scans_of_runXscan (meaning : ∀ g src s, exec (i g src) s = .next (runXscan port cv ident op g src s)) :
    Scans i port cv ident op := by
  refine ⟨fun x s1 => ?full, ?empty⟩
  case full => exact completes_of_runTrig meaning fun _ _ full => ⟨rfl, rfl, by rw [full]; rfl⟩
  case empty => exact completes_of_runTrig meaning fun _ _ empty => ⟨rfl, rfl, by rw [empty]; rfl⟩

theorem reduces_of_runXred (meaning : ∀ g src s, exec (i g src) s = .next (runXred port cv ident op g src s)) :
    Reduces i port cv ident op :=
  completes_of_runTrig meaning fun _ _ _ => ⟨rfl, rfl, rfl⟩

end Sys2Proof.Claims

namespace Sys2Proof.Proofs

open Sys2Proof.Machine Sys2Proof.Claims

/-- Settles O21: each form is `runScan`, `runXscan` or `runXred` of its operation; only a cross-slice scan reads sc.f. -/
theorem scansComplete : Obligations.ScansComplete :=
  ⟨completes_of_runScan exec_scScanAddF32, completes_of_runScan exec_scScanAddI32, completes_of_runScan exec_scScanMaxF32,
    completes_of_runScan exec_scScanMinF32, scans_of_runXscan exec_scXscanAddF32, scans_of_runXscan exec_scXscanAddI32,
    scans_of_runXscan exec_scXscanMaxF32, reduces_of_runXred exec_scXredAddF32, reduces_of_runXred exec_scXredAddI32,
    reduces_of_runXred exec_scXredMaxF32⟩

end Sys2Proof.Proofs
end

section
/-! The matrix wall (R370 to R376): what each shared shape of an mx form does with the operands it reads, and the forms themselves. -/

namespace Sys2Proof.Machine

theorem needOk_eq_nil {b : Bool} (holds : b = true) : needOk b = [] := if_pos holds

/-- A beat's operands are in order: its row is one of 64, and only a form with scales may ask for them (R374). -/
theorem Args.accFaults_eq_nil {a : Args} {scales : Bool} (latch : ∀ l ∈ [Latch.mxa, .mxb], ∀ f, a.ifOp l f = f (a.op l))
    (row : (a.op .mxa).toNat < 64) (flags : (a.op .mxb).toNat < 4) (scaled : scales = true ∨ bit (a.op .mxb) 0 = false) :
    a.accFaults scales = [] := by
  simp [Args.accFaults, latch, needOk, row, flags, scaled]

end Sys2Proof.Machine

namespace Sys2Proof.Claims

open Sys2Proof.Machine

section

variable {i : Guard → Src → Instr} {port : BitVec 9} {f : MxForm}

theorem pushes_of_runPush (meaning : ∀ g src s, exec (i g src) s = .next (runPush port f g src s)) : Pushes i port f := by
  refine completes_of_runTrig meaning fun a latch ⟨column, flags, scaled⟩ => ⟨?_, rfl, rfl⟩
  simp [latch, needOk, column, flags, scaled]

/-- A dense beat meets columns of its own tag, or none (R374). -/
theorem beats_of_runAcc (meaning : ∀ g src s, exec (i g src) s = .next (runAcc port f g src s)) : Beats i port f := by
  refine completes_of_runTrig meaning fun a latch ⟨row, flags, scaled, tags⟩ => ⟨?_, rfl, rfl⟩
  rw [Args.accFaults_eq_nil latch row flags scaled, List.nil_append]
  exact needOk_eq_nil (List.all_eq_true.2 fun t active => beq_iff_eq.2 (tags t active))

theorem drains_of_runDrain {step : Nat} {f : Nat → Cell → Row × Flags}
    (meaning : ∀ g src s, exec (i g src) s = .next (runDrain port step f g src s)) : Drains i port step f := by
  refine completes_of_runTrig meaning fun a _ ⟨small, aligned⟩ => ⟨needOk_eq_nil ?_, rfl, rfl⟩
  simp [small, aligned]

end

end Sys2Proof.Claims

namespace Sys2Proof.Proofs

open Sys2Proof.Machine Sys2Proof.Claims

/-- Settles O22: the dense forms are `runPush`, `runAcc` and `runDrain` of their format; a sparse beat takes the form that the tags of
the columns agree on. -/
theorem matrixMovesComplete : Obligations.MatrixMovesComplete := by
  unfold Obligations.MatrixMovesComplete
  refine ⟨pushes_of_runPush exec_mxPushE4m3, pushes_of_runPush exec_mxPushE5m2, pushes_of_runPush exec_mxPushE2m1,
    pushes_of_runPush exec_mxPushBf16, pushes_of_runPush exec_mxPushF16, pushes_of_runPush exec_mxPushI8,
    beats_of_runAcc exec_mxAccE4m3, beats_of_runAcc exec_mxAccE5m2, beats_of_runAcc exec_mxAccE2m1,
    beats_of_runAcc exec_mxAccBf16, beats_of_runAcc exec_mxAccF16, beats_of_runAcc exec_mxAccI8,
    drains_of_runDrain exec_mxDrain4, drains_of_runDrain exec_mxDrain8Bf16, drains_of_runDrain exec_mxDrainE4m3,
    fun t => ?pushSp, ?pushIx, ?swap, fun f => ?accSp, ?zero⟩
  case pushSp =>
    refine completes_of_runTrig exec_mxPushSp fun a latch ⟨column, flags, tag, scaled⟩ => ⟨?_, rfl, by simp only [tag]⟩
    simpa [latch, needOk, column, flags, tag] using scaled
  case pushIx =>
    refine completes_of_runTrig exec_mxPushIx fun a latch small => ⟨?_, rfl, rfl⟩
    rw [latch _ (by simp)]
    exact needOk_eq_nil (decide_eq_true small)
  case swap => exact completes_of_runTrig exec_mxSwap fun _ _ _ => ⟨rfl, rfl, rfl⟩
  case accSp =>
    refine completes_of_runTrig exec_mxAccSp fun a latch ⟨form, row, flags, scaled⟩ => ⟨?_, rfl, by simp only [form]⟩
    simp only [form, Args.accFaults_eq_nil latch row flags scaled]
  case zero =>
    exact completes_of_runTrig exec_mxZero fun _ _ fits => ⟨needOk_eq_nil (decide_eq_true fits), rfl, rfl⟩

end Sys2Proof.Proofs
end

section
/-! Address generators, tables, solver and far lanes (R357 to R369): what each shared shape of an ag or nw form does with the operands
it reads, and the forms themselves. -/

namespace Sys2Proof.Machine

/-- A lane that the die has is in order (R369, Table 02.2). -/
theorem State.laneFaults_eq_nil {s : State} {v : Word} (small : v.toNat < 16) (present : (lanePeer s.turn v.toNat).isSome = true) :
    s.laneFaults v = [] :=
  needOk_eq_nil (by simp [small, present])

end Sys2Proof.Machine

namespace Sys2Proof.Claims

open Sys2Proof.Machine

/-! ### Address generators (R358) -/

section

variable {k : Fin 4} {port : BitVec 9}

theorem sets_of_runAgSet {i : Guard → BitVec 5 → Instr} (meaning : ∀ g r s, exec (i g r) s = .next (runAgSet k port g r s)) :
    Sets i k port := by
  intro s g r a d reads evenName evenPlace legal
  rw [meaning, runAgSet, reads.runTrig_eq _ (by simp only [evenName, evenPlace, legal, if_true, List.append_nil]) rfl, legal]

variable {i : Guard → Src → Instr}

theorem steps_of_runAgStep (meaning : ∀ g src s, exec (i g src) s = .next (runAgStep k port g src s)) : Steps i k port := fun d =>
  completes_of_runTrig meaning fun a _ set => ⟨by rw [set]; rfl, rfl, by rw [set]; rfl⟩

/-- A gather reads its rows before it takes those of its lanes (R361). -/
theorem gathers_of_runAgRd {out : LatPort} {routeOf : GroupCtx → BitVec 9}
    (meaning : ∀ g src s, exec (i g src) s = .next (runAgRd k port out routeOf g src s)) : Gathers i k port out routeOf := by
  refine fun d s1 ok y s2 => completes_of_runTrig meaning fun a _ ⟨set, bounds, due, rows, lanes⟩ => ⟨?_, rfl, ?_⟩
  · simp only [set, bounds, due, List.append_nil]
  · simp only [set, rows, lanes]

theorem scatters_of_runAgWr (meaning : ∀ g src s, exec (i g src) s = .next (runAgWr k port g src s)) : Scatters i k port := by
  refine fun d => completes_of_runTrig meaning fun a _ ⟨set, bounds, inFold⟩ => ⟨?_, rfl, by simp only [set]⟩
  simp only [set, bounds, List.nil_append]
  exact if_pos (List.all_eq_true.2 inFold)

end

/-! ### Table loads (R363, R364) -/

/-- The entry of a route is checked besides its index, those of patterns and planes are not (R364). -/
theorem loadsTable_of_runLoadTable {i : Guard → Src → Instr} {port : BitVec 9} {kind top : Nat}
    (meaning : ∀ g src s, exec (i g src) s = .next (runLoadTable port kind top g src s)) : LoadsTable i port kind top := by
  refine fun t b => completes_of_runTrig meaning fun a latch ⟨token, sound, entry, low, high, legal⟩ => ⟨?_, rfl, ?_⟩
  · rw [sound, latch _ (by simp), entry]
    refine needOk_eq_nil ?_
    simpa [low, high] using Decidable.not_or_of_imp legal
  · simp only [token, entry]

end Sys2Proof.Claims

namespace Sys2Proof.Proofs

open Sys2Proof.Machine Sys2Proof.Claims

/-- Settles O23: the generators and table loads share their shapes; a solve's and a lane's checks find nothing under their conditions. -/
theorem generatorsAndNetworkComplete : Obligations.GeneratorsAndNetworkComplete := by
  unfold Obligations.GeneratorsAndNetworkComplete
  refine ⟨sets_of_runAgSet exec_ag0Set, sets_of_runAgSet exec_ag1Set, sets_of_runAgSet exec_ag2Set, sets_of_runAgSet exec_ag3Set,
    steps_of_runAgStep exec_ag0Step, steps_of_runAgStep exec_ag1Step, steps_of_runAgStep exec_ag2Step,
    steps_of_runAgStep exec_ag3Step, gathers_of_runAgRd exec_ag0Rd, gathers_of_runAgRd exec_ag1Rd,
    scatters_of_runAgWr exec_ag2Wr, scatters_of_runAgWr exec_ag3Wr, loadsTable_of_runLoadTable exec_nwLdroute,
    loadsTable_of_runLoadTable exec_nwLdpat, loadsTable_of_runLoadTable exec_nwLdplane, fun t => ?solve, ?farclr, ?farstat⟩
  case solve =>
    refine completes_of_runTrig exec_nwSolve fun a latch ⟨solver, apart, block, sound, token⟩ => ⟨?_, rfl, by simp only [token]⟩
    cases last : a.st.die.wall.lastSolve with
    | none => simp [solver, latch, block, sound]
    | some m => simp [solver, latch, block, sound, needOk, apart m last]
  case farclr =>
    exact completes_of_runTrig exec_nwFarclr fun _ _ ⟨small, present⟩ => ⟨State.laneFaults_eq_nil small present, rfl, rfl⟩
  case farstat =>
    exact completes_of_runTrig exec_nwFarstat fun _ _ ⟨small, present⟩ => ⟨State.laneFaults_eq_nil small present, rfl, rfl⟩

end Sys2Proof.Proofs
end

section
/-! Commands of the fill engine (R190, R357, R377, R380). -/

namespace Sys2Proof.Machine

/-- A latch in which every check sees a value is full, for no check looks into an empty one. -/
theorem Args.isNone_op?_of_ifOp {a : Args} {l : Latch} (found : ∀ f, a.ifOp l f = f (a.op l)) : (a.op? l).isNone = false := by
  cases held : a.op? l with
  | some v => rfl
  | none =>
    have asked := found fun _ => [fltOperand]
    simp [Args.ifOp, held] at asked

end Sys2Proof.Machine

namespace Sys2Proof.Claims

open Sys2Proof.Machine

/-- A command that its die admits and whose token is free finds no fault (R190, R357). -/
theorem fills_of_runFill {i : Guard → Src → Instr} {port : BitVec 9} {k : FillKind}
    (meaning : ∀ g src s, exec (i g src) s = .next (runFill port k g src s)) : Fills i port k := by
  refine fun t => completes_of_runTrig meaning fun a latch ⟨token, fields, free, admitted⟩ => ⟨?_, rfl, by simp only [token]⟩
  have heldA := Args.isNone_op?_of_ifOp (latch .fea (by simp))
  have heldB := Args.isNone_op?_of_ifOp (latch .feb (by simp))
  simp [token, heldA, heldB, fields, State.busyFault, free, admitted]

end Sys2Proof.Claims

namespace Sys2Proof.Proofs

open Sys2Proof.Machine Sys2Proof.Claims

/-- Settles O24: the transfer commands are `runFill` of their kind; a pin's check is one of fe.a. -/
theorem fillCommandsComplete : Obligations.FillCommandsComplete :=
  ⟨fills_of_runFill exec_feFill, fills_of_runFill exec_feSpill, fills_of_runFill exec_feBfill, fills_of_runFill exec_feGfill,
    fills_of_runFill exec_feSspill,
    completes_of_runTrig exec_fePin fun _ latch sound => ⟨(latch _ (by simp) _).trans sound, rfl, rfl⟩⟩

end Sys2Proof.Proofs
end

section
/-! Remote accesses at issue (R382 to R388): what a form of the fabric reaches does not depend on the places that it takes, and each
form joins its queue where its own checks find nothing. -/

namespace Sys2Proof.Machine

/-- What a form reaches is a matter of the package and its links (R6, R38, R388). -/
theorem State.atIssue_congr {s t : State} (pkg : s.pkg = t.pkg) (links : s.links = t.links) (op : RemOp) (addr : Word) :
    s.atIssue op addr = t.atIssue op addr := by
  unfold State.atIssue State.named State.opticsUp
  rw [pkg, links]

/-- Of an ordered atomic only the group and the address tell what it reaches (R388). -/
theorem State.atIssue_amoOrd (s : State) (op : AmoOp) (v exp : Word) (dst : BitVec 32) (g : BitVec 6) (seq : Nat) (addr : Word) :
    s.atIssue (.amoOrd op v exp dst g seq) addr = s.atIssue (.amoOrd op 0 0 0 g 0) addr := rfl

@[simp] theorem State.place_pkg (s : State) (p : QPort) : (s.place p).pkg = s.pkg := rfl
@[simp] theorem State.place_links (s : State) (p : QPort) : (s.place p).links = s.links := rfl

@[simp] theorem State.fxPlaces_pkg (s : State) (op : RemOp) (st : Bool) : (s.fxPlaces op st).pkg = s.pkg := by
  simp only [State.fxPlaces, apply_ite State.pkg, State.place_pkg, ite_self]

@[simp] theorem State.fxPlaces_links (s : State) (op : RemOp) (st : Bool) : (s.fxPlaces op st).links = s.links := by
  simp only [State.fxPlaces, apply_ite State.links, State.place_links, ite_self]

/-- A form that has no status at its issue takes its places and its entry joins its queue (R383, R384). -/
theorem State.fxIssue_of_atIssue {s : State} {op : RemOp} {addr : Word} (reached : s.atIssue op addr = none) (side : QSide)
    (st : Bool) : s.fxIssue side op st addr = (s.fxPlaces op st).push side (.remote op st) addr [0] := by
  have still : (s.fxPlaces op st).atIssue op addr = none :=
    (State.atIssue_congr (s.fxPlaces_pkg op st) (s.fxPlaces_links op st) op addr).trans reached
  simp only [State.fxIssue, still]

theorem offsetFaults_eq_nil {a : Word} {n : Nat} (aligned : fabOffset a % n = 0) : offsetFaults a n = [] := if_pos aligned

/-- An atomic names fx.a, besides fx.b when it compares (Table 16.1). -/
theorem fxa_mem_ramoLatches (op : AmoOp) : Latch.fxa ∈ ramoLatches op := by
  unfold ramoLatches; split <;> simp

end Sys2Proof.Machine

namespace Sys2Proof.Claims

open Sys2Proof.Machine

section

variable {i : Guard → Bool → Src → Instr} {port : BitVec 9} {side : QSide} {need : List Latch}

/-- A trigger with an H bit has its effect where, for either value of the bit, its checks find nothing and nothing holds it back. -/
theorem completesH_of_runTrig {chk : Bool → Args → List Flt} {waits : Args → Bool} {act : Bool → Args → State}
    {ok : Bool → Args → Prop} {eff : Bool → Args → State}
    (meaning : ∀ g h src s, exec (i g h src) s = .next (runTrig g src port need (chk h) waits (act h) s))
    (sound : ∀ h a, (∀ l ∈ need, ∀ f, a.ifOp l f = f (a.op l)) → ok h a → chk h a = [] ∧ waits a = false ∧ act h a = eff h a) :
    CompletesH i port need ok eff :=
  fun s g h => completes_of_runTrig (fun g src s => meaning g h src s) (sound h) s g

/-- An fx form whose own checks find nothing under its condition joins its queue (R382 to R384). -/
theorem joins_of_runFx {op : Args → RemOp} {addr : Args → Word} {chk : Args → List Flt} {ok : Args → Prop}
    (meaning : ∀ g h src s, exec (i g h src) s = .next (runFx port side need (fun a => (op a, addr a)) chk g h src s))
    (sound : ∀ a, (∀ l ∈ need, ∀ f, a.ifOp l f = f (a.op l)) → ok a → chk a = []) : Joins i port side need op addr ok := by
  refine completesH_of_runTrig meaning fun h a latch ⟨holds, places, room, reached⟩ =>
    ⟨?_, room, State.fxIssue_of_atIssue reached side h⟩
  rw [sound a latch holds, places, List.append_nil]

/-- A plain atomic on an aligned doubleword joins both queues (R387). -/
theorem joins_of_runRamo {op : AmoOp} (meaning : ∀ g h src s, exec (i g h src) s = .next (runRamo port op g h src s)) :
    Joins i port .both (ramoLatches op) (fun a => .amo op a.word (a.op .fxb)) (fun a => a.op .fxa)
      fun a => fabOffset (a.op .fxa) % 8 = 0 :=
  joins_of_runFx meaning fun _ latch aligned => (latch _ (fxa_mem_ramoLatches op) _).trans (offsetFaults_eq_nil aligned)

/-- An ordered atomic counts up the issue sequence of its group, which changes nothing that it reaches (R388). -/
theorem joinsOrdered_of_runRamoOrd {op : AmoOp}
    (meaning : ∀ g h src s, exec (i g h src) s = .next (runRamoOrd port op g h src s)) : JoinsOrdered i port op := by
  refine completesH_of_runTrig meaning fun h a latch ⟨aligned, operands, places, room, reached⟩ =>
    ⟨?checks, room, State.fxIssue_of_atIssue ?reached .both h⟩
  case checks =>
    rw [latch .fxa (by simp [fxa_mem_ramoLatches]), latch .fxc (by simp), offsetFaults_eq_nil aligned, operands, places]
    rfl
  case reached => exact (State.atIssue_congr (t := a.st) rfl rfl ..).trans ((State.atIssue_amoOrd ..).trans reached)

end

end Sys2Proof.Claims

namespace Sys2Proof.Proofs

open Sys2Proof.Machine Sys2Proof.Claims

/-- Settles O25: a scalar load or store has no check of its own, a row form and an atomic check the offset that they name; the plain
atomics are `runRamo` and the ordered ones `runRamoOrd` of their operation. -/
theorem fabricAccessesComplete : Obligations.FabricAccessesComplete := by
  unfold Obligations.FabricAccessesComplete
  refine ⟨?rldW, ?rldD, ?rldrow, ?rstW, ?rstD, ?rstrow,
    joins_of_runRamo exec_fxRamoAdd, joins_of_runRamo exec_fxRamoAnd, joins_of_runRamo exec_fxRamoOr,
    joins_of_runRamo exec_fxRamoXor, joins_of_runRamo exec_fxRamoMin, joins_of_runRamo exec_fxRamoMax,
    joins_of_runRamo exec_fxRamoSwap, joins_of_runRamo exec_fxRamoCas,
    joinsOrdered_of_runRamoOrd exec_fxRamoAddOrd, joinsOrdered_of_runRamoOrd exec_fxRamoAndOrd,
    joinsOrdered_of_runRamoOrd exec_fxRamoOrOrd, joinsOrdered_of_runRamoOrd exec_fxRamoXorOrd,
    joinsOrdered_of_runRamoOrd exec_fxRamoMinOrd, joinsOrdered_of_runRamoOrd exec_fxRamoMaxOrd,
    joinsOrdered_of_runRamoOrd exec_fxRamoSwapOrd, joinsOrdered_of_runRamoOrd exec_fxRamoCasOrd⟩
  case rldW => exact joins_of_runFx exec_fxRldW fun _ _ _ => rfl
  case rldD => exact joins_of_runFx exec_fxRldD fun _ _ _ => rfl
  case rldrow => exact joins_of_runFx exec_fxRldrow fun _ _ aligned => offsetFaults_eq_nil aligned
  case rstW => exact joins_of_runFx exec_fxRstW fun _ _ _ => rfl
  case rstD => exact joins_of_runFx exec_fxRstD fun _ _ _ => rfl
  case rstrow =>
    exact joins_of_runFx exec_fxRstrow fun _ latch aligned => (latch _ (by simp) _).trans (offsetFaults_eq_nil aligned)

end Sys2Proof.Proofs
end

section
/-! The decoder and the encoder of moves (R292, Tables 12.2 to 12.11): which instruction stands at each destination port. -/

namespace Sys2Proof

/-! ### The instruction at a destination port -/

/-- The instruction that the decoder reads from a guard, a hold bit, a source and a destination port (Tables 12.5 to 12.11). -/
noncomputable def decodeAt (g : Guard) (h : Bool) (src : Src) (p : BitVec 9) : Except DecodeErr Instr :=
  match decodeDst p with
  | some dst => if h && !dst.takesHold then .error .holdBit else .ok (.move g h src dst)
  | none =>
    match fxTable.lookup p.toNat with
    | some mk => .ok (mk g h src)
    | none =>
      if h then .error .holdBit
      else
        match trigTable p.toNat with
        | some mk => .ok (mk g src)
        | none =>
          match agSetTable.lookup p.toNat with
          | some mk =>
            match src with
            | .s r => .ok (mk g r)
            | _ => .error .sourcePort
          | none => .error .destPort

/-- The decoder reads the fields of a word that is no NOP (Table 12.2). -/
theorem decodeMove_of_ne_nop {w : BitVec 24} (h : w ≠ nopWord) {src : Src}
    (hs : decodeSrc (moveFields w).imm (moveFields w).src = some src) :
    decodeMove w = decodeAt (moveFields w).guard (moveFields w).hold src (moveFields w).dst := by
  simp only [decodeMove, if_neg h, hs, decodeAt] <;> rfl

/-- A word that is packed from the fields of a move decodes to the instruction at its port, unless it is the NOP's. -/
theorem decodeMove_packMove {g : Guard} {h : Bool} {src : Src} {p : BitVec 9} (hn : packMove g h src p ≠ nopWord) :
    decodeMove (packMove g h src p) = decodeAt g h src p := by
  simpa using decodeMove_of_ne_nop hn (src := src) (by simp)

/-- The word of the NOP is that of the move `0 > s0` (R292). -/
theorem packMove_eq_nopWord {g : Guard} {h : Bool} {src : Src} {p : BitVec 9} (e : packMove g h src p = nopWord) :
    g = ⟨false, 0⟩ ∧ h = false ∧ src = .imm 0 ∧ p = 0 := by
  have fields : (⟨g, h, src.isImm, src.code, p⟩ : MoveFields) = ⟨⟨false, 0⟩, false, true, 0, 0⟩ := by
    rw [← moveFields_packMove, e]; rfl
  obtain ⟨hg, hh, hi, hc, hp⟩ := MoveFields.mk.inj fields
  have source := decodeSrc_code src
  rw [hi, hc] at source
  exact ⟨hg, hh, (Option.some.inj source).symm, hp⟩

/-! ### From the instruction to its port -/

/-- A trigger stands at its own port. -/
theorem decodeAt_of_trig {i : Instr} {g : Guard} {h : Bool} {src : Src} {p : BitVec 9} (hp : i.parts = .trig g h src p) :
    decodeAt g h src p = .ok i := by
  cases i <;> cases hp <;> rfl

/-- A set of a generator stands at its own port. -/
theorem decodeAt_of_agSet {i : Instr} {g : Guard} {r : BitVec 5} {p : BitVec 9} (hp : i.parts = .agSet g r p) :
    decodeAt g false (.s r) p = .ok i := by
  cases i <;> cases hp <;> rfl

/-- A plain move stands at the port of its destination, which takes its hold bit. -/
theorem decodeAt_code (g : Guard) (h : Bool) (src : Src) (dst : Dst) (hold : h = true → dst.takesHold = true) :
    decodeAt g h src dst.code = .ok (.move g h src dst) := by
  rw [decodeAt, decodeDst_code]
  cases h <;> simp_all

/-- The instructions by their parts. -/
theorem Instr.eq_of_parts_nop {i : Instr} (hp : i.parts = .nop) : i = .nop := by
  cases i <;> cases hp
  rfl

/-- A plain move is its parts. -/
theorem Instr.eq_of_parts_move {i : Instr} {g : Guard} {h : Bool} {src : Src} {dst : Dst} (hp : i.parts = .move g h src dst) :
    i = .move g h src dst := by
  cases i <;> cases hp
  rfl

/-- The port of a trigger is not that of s0, so that its word is not the NOP's. -/
theorem packMove_ne_nopWord_of_trig {i : Instr} {g : Guard} {h : Bool} {src : Src} {p : BitVec 9}
    (hp : i.parts = .trig g h src p) : packMove g h src p ≠ nopWord := by
  intro e
  obtain ⟨rfl, rfl, rfl, rfl⟩ := packMove_eq_nopWord e
  have move : decodeAt ⟨false, 0⟩ false (.imm 0) 0 = .ok (.move ⟨false, 0⟩ false (.imm 0) (.s 0)) := rfl
  cases move.symm.trans (decodeAt_of_trig hp)
  cases hp

/-- The word of a set of a generator has a register as its source, which the NOP's has not. -/
theorem packMove_ne_nopWord_of_agSet {g : Guard} {r : BitVec 5} {p : BitVec 9} : packMove g false (.s r) p ≠ nopWord := by
  intro e
  obtain ⟨-, -, source, -⟩ := packMove_eq_nopWord e
  cases source

/-- A well-formed instruction that has a word is read back from it. -/
theorem decodeMove_encode {i : Instr} {w : BitVec 24} (wf : i.wf = true) (e : encode i = some w) : decodeMove w = .ok i := by
  unfold encode at e
  unfold Instr.wf at wf
  cases hp : i.parts with
  | event => simp [hp] at e
  | nop =>
    simp only [hp, Option.some.injEq] at e
    rw [← e, Instr.eq_of_parts_nop hp]; exact if_pos rfl
  | move g h src dst =>
    simp only [hp, Option.some.injEq, Bool.and_eq_true] at e wf
    obtain ⟨⟨-, held⟩, other⟩ := wf
    have ne : packMove g h src dst.code ≠ nopWord := by
      intro en
      obtain ⟨rfl, rfl, rfl, port⟩ := packMove_eq_nopWord en
      have zero : dst = .s 0 := Option.some.inj ((decodeDst_code dst).symm.trans (by rw [port]; rfl))
      simp [zero] at other
    rw [← e, decodeMove_packMove ne, Instr.eq_of_parts_move hp]
    refine decodeAt_code g h src dst fun hh => ?_
    cases dst <;> simp_all [Dst.takesHold]
  | trig g h src p =>
    simp only [hp, Option.some.injEq] at e
    rw [← e, decodeMove_packMove (packMove_ne_nopWord_of_trig hp), decodeAt_of_trig hp]
  | agSet g r p =>
    simp only [hp, Option.some.injEq] at e
    rw [← e, decodeMove_packMove packMove_ne_nopWord_of_agSet, decodeAt_of_agSet hp]

/-! ### From a port to its instruction -/

/-- Every entry of a table of triggers makes the trigger of its own port. -/
def Faithful (l : List (Nat × (Guard → Src → Instr))) : Prop :=
  ∀ x ∈ l, ∀ g src, (x.2 g src).parts = .trig g false src (BitVec.ofNat 9 x.1)

/-- What is found in a list under a key stands there. -/
theorem mem_of_lookup {α β : Type} [BEq α] [LawfulBEq α] {l : List (α × β)} {k : α} {v : β} (h : l.lookup k = some v) :
    (k, v) ∈ l := by
  obtain ⟨l1, l2, rfl, -⟩ := List.lookup_eq_some_iff.1 h
  simp

theorem Faithful.lookup {l : List (Nat × (Guard → Src → Instr))} (faithful : Faithful l) {n : Nat}
    {mk : Guard → Src → Instr} (h : l.lookup n = some mk) (g : Guard) (src : Src) :
    (mk g src).parts = .trig g false src (BitVec.ofNat 9 n) := faithful _ (mem_of_lookup h) g src

theorem faithful_trigTable1 : Faithful trigTable1 := by simp [Faithful, trigTable1]
theorem faithful_trigTable2 : Faithful trigTable2 := by simp [Faithful, trigTable2]
theorem faithful_trigTable3 : Faithful trigTable3 := by simp [Faithful, trigTable3]
theorem faithful_trigTable4 : Faithful trigTable4 := by simp [Faithful, trigTable4]
theorem faithful_trigTable5 : Faithful trigTable5 := by simp [Faithful, trigTable5]
theorem faithful_trigTable6 : Faithful trigTable6 := by simp [Faithful, trigTable6]
theorem faithful_trigTable7 : Faithful trigTable7 := by simp [Faithful, trigTable7]

/-- The trigger found at a port is that port's. -/
theorem parts_of_trigTable {n : Nat} {mk : Guard → Src → Instr} (h : trigTable n = some mk) (g : Guard) (src : Src) :
    (mk g src).parts = .trig g false src (BitVec.ofNat 9 n) := by
  unfold trigTable at h
  split at h
  · exact faithful_trigTable1.lookup h g src
  · exact faithful_trigTable2.lookup h g src
  · exact faithful_trigTable3.lookup h g src
  · exact faithful_trigTable4.lookup h g src
  · exact faithful_trigTable5.lookup h g src
  · exact faithful_trigTable6.lookup h g src
  · exact faithful_trigTable7.lookup h g src
  · cases h

/-- The fx trigger found at a port is that port's. -/
theorem parts_of_fxTable {n : Nat} {mk : Guard → Bool → Src → Instr} (h : fxTable.lookup n = some mk) (g : Guard) (hold : Bool)
    (src : Src) : (mk g hold src).parts = .trig g hold src (BitVec.ofNat 9 n) := by
  have faithful : ∀ x ∈ fxTable, ∀ g h src, (x.2 g h src).parts = .trig g h src (BitVec.ofNat 9 x.1) := by simp [fxTable]
  exact faithful _ (mem_of_lookup h) g hold src

/-- The set of a generator found at a port is that port's. -/
theorem parts_of_agSetTable {n : Nat} {mk : Guard → BitVec 5 → Instr} (h : agSetTable.lookup n = some mk) (g : Guard)
    (r : BitVec 5) : (mk g r).parts = .agSet g r (BitVec.ofNat 9 n) := by
  have faithful : ∀ x ∈ agSetTable, ∀ g r, (x.2 g r).parts = .agSet g r (BitVec.ofNat 9 x.1) := by simp [agSetTable]
  exact faithful _ (mem_of_lookup h) g r

/-- The instruction at a port is encoded with that port (Table 12.2). -/
theorem encode_of_decodeAt {g : Guard} {h : Bool} {src : Src} {p : BitVec 9} {i : Instr} (e : decodeAt g h src p = .ok i) :
    encode i = some (packMove g h src p) := by
  have port : BitVec.ofNat 9 p.toNat = p := by simp
  unfold decodeAt at e
  split at e
  next dst hd =>
    split at e
    · cases e
    · cases e; rw [← code_decodeDst p dst hd]; rfl
  next =>
    split at e
    next mk hm => cases e; simp only [encode, parts_of_fxTable hm, port]
    next =>
      split at e
      · cases e
      next hold =>
        have off : h = false := by simpa using hold
        split at e
        next mk hm => cases e; simp only [encode, parts_of_trigTable hm, port, off]
        next =>
          split at e
          next mk hm =>
            split at e
            · cases e; simp only [encode, parts_of_agSetTable hm, port, off]
            · cases e
          · cases e

/-- The instruction that a word decodes to is encoded by that word. -/
theorem encode_of_decodeMove {w : BitVec 24} {i : Instr} (e : decodeMove w = .ok i) : encode i = some w := by
  by_cases hn : w = nopWord
  · rw [hn] at e ⊢
    have nop : decodeMove nopWord = .ok .nop := if_pos rfl
    cases nop.symm.trans e
    rfl
  · cases hs : decodeSrc (moveFields w).imm (moveFields w).src with
    | none => simp [decodeMove, hn, hs] at e
    | some src =>
      rw [decodeMove_of_ne_nop hn hs] at e
      obtain ⟨imm, code⟩ := code_decodeSrc _ _ _ hs
      rw [encode_of_decodeAt e, packMove, imm, code]
      exact congrArg some (packFields_moveFields w)

end Sys2Proof

namespace Sys2Proof.Proofs

/-- Settles O4: an instruction stands at its own port, and what stands at a port is the instruction of that port; the fields of a
word and the ports' numbers read back what was written. -/
theorem decodeAndEncodeAgree : Obligations.DecodeAndEncodeAgree :=
  ⟨fun _ _ => decodeMove_encode, fun _ _ => encode_of_decodeMove⟩

end Sys2Proof.Proofs
end

section
/-! The scalar units at issue (R160 to R164, R182, R205, R271, R312 to R323): arithmetic, loads, stores and control. -/

namespace Sys2Proof.Machine

/-- A branch may go to every bundle of its code (R316). -/
theorem State.targetFaults_eq_nil {s : State} {v : Word} (inside : v.toNat < 2 ^ 16 ∧ v.toNat < s.ctx.codeLen) :
    s.targetFaults v = [] := if_pos inside

end Sys2Proof.Machine

namespace Sys2Proof.Claims

open Sys2Proof.Machine

/-- A form of the ia units has its value on its port one count later (R313, R314). -/
theorem scalar_of_runIa {i : Guard → Src → Instr} {p : LatPort} {port : BitVec 9} {need : List Latch} {f : Args → Word}
    (meaning : ∀ g src s, exec (i g src) s = .next (runIa p port need f g src s)) : Scalar i port need p 1 f :=
  completes_of_runTrig meaning fun _ _ _ => ⟨rfl, rfl, rfl⟩

/-- A form of the im unit has its two results on its ports at one count (R315). -/
theorem product_of_runIm {i : Guard → Src → Instr} {port : BitVec 9} {l : Nat} {f : Word → Word → Word × Word}
    (meaning : ∀ g src s, exec (i g src) s = .next (runIm port l f g src s)) : Product i port l f :=
  completes_of_runTrig meaning fun _ _ _ => ⟨rfl, rfl, rfl⟩

/-- A load that meets no fault takes a place on ls.q and an entry of the load queue (R323). -/
theorem queued_of_runLoad {i : Guard → Src → Instr} {port : BitVec 9} {op : QOp} {n : Nat} {row : Bool}
    (meaning : ∀ g src s, exec (i g src) s = .next (runLoad port op n row g src s)) :
    Queued i port [] .load .lsq (fun a => a.st.accessFaults a.word n row = []) (fun _ => op) (fun a => a.word) (List.range n) n 0 := by
  refine completes_of_runTrig meaning fun a _ ⟨sound, place, goes⟩ => ⟨?_, goes, rfl⟩
  rw [place]
  exact List.append_eq_nil_iff.2 ⟨sound, rfl⟩

/-- A scalar store that meets no fault and waits for nothing is performed at its count or joins the store queue (R182, R322). -/
theorem stores_of_runStore {i : Guard → Src → Instr} {port : BitVec 9} {wid : Wid}
    (meaning : ∀ g src s, exec (i g src) s = .next (runStore port wid g src s)) : Stores i port wid :=
  completes_of_runTrig meaning fun _ latch ⟨sound, goes⟩ => ⟨(latch _ (by simp) _).trans sound, goes, rfl⟩

end Sys2Proof.Claims

namespace Sys2Proof.Proofs

open Sys2Proof.Machine Sys2Proof.Claims

/-- Settles O10: every form of ia0 and ia1 is `runIa` of its function, every form of im is `runIm` of its two results. -/
theorem scalarFormsComplete : Obligations.ScalarFormsComplete :=
  ⟨scalar_of_runIa exec_ia0Add, scalar_of_runIa exec_ia0Sub, scalar_of_runIa exec_ia0And, scalar_of_runIa exec_ia0Or,
    scalar_of_runIa exec_ia0Xor, scalar_of_runIa exec_ia0Andn, scalar_of_runIa exec_ia0Orn, scalar_of_runIa exec_ia0Shl,
    scalar_of_runIa exec_ia0Shr, scalar_of_runIa exec_ia0Sar, scalar_of_runIa exec_ia0Rol, scalar_of_runIa exec_ia0Ror,
    scalar_of_runIa exec_ia0Min, scalar_of_runIa exec_ia0Max, scalar_of_runIa exec_ia0Minu, scalar_of_runIa exec_ia0Maxu,
    scalar_of_runIa exec_ia0Clz, scalar_of_runIa exec_ia0Ctz, scalar_of_runIa exec_ia0Popc, scalar_of_runIa exec_ia0Sext8,
    scalar_of_runIa exec_ia0Sext16, scalar_of_runIa exec_ia0Sext32, scalar_of_runIa exec_ia0Zext32,
    scalar_of_runIa exec_ia0Bext, scalar_of_runIa exec_ia0Bins, scalar_of_runIa exec_ia0Ceq, scalar_of_runIa exec_ia0Cne,
    scalar_of_runIa exec_ia0Clt, scalar_of_runIa exec_ia0Cltu, scalar_of_runIa exec_ia0Cle, scalar_of_runIa exec_ia0Cleu,
    scalar_of_runIa exec_ia1Add, scalar_of_runIa exec_ia1Sub, scalar_of_runIa exec_ia1And, scalar_of_runIa exec_ia1Or,
    scalar_of_runIa exec_ia1Xor, scalar_of_runIa exec_ia1Andn, scalar_of_runIa exec_ia1Shl, scalar_of_runIa exec_ia1Shr,
    scalar_of_runIa exec_ia1Sar, scalar_of_runIa exec_ia1Ceq, scalar_of_runIa exec_ia1Clt, scalar_of_runIa exec_ia1Cltu,
    product_of_runIm exec_imMul, product_of_runIm exec_imMulhu, product_of_runIm exec_imMulhsu, product_of_runIm exec_imDiv,
    product_of_runIm exec_imDivu⟩

/-- Settles O12: every load is `runLoad` of its width. -/
theorem loadsJoinTheirQueue : Obligations.LoadsJoinTheirQueue :=
  ⟨queued_of_runLoad exec_lsLdb, queued_of_runLoad exec_lsLdbu, queued_of_runLoad exec_lsLdh, queued_of_runLoad exec_lsLdhu,
    queued_of_runLoad exec_lsLdw, queued_of_runLoad exec_lsLdwu, queued_of_runLoad exec_lsLdd, queued_of_runLoad exec_lsLdrow⟩

/-- Settles O13: a store's own checks are those of its address, which an empty mask drops. -/
theorem storesComplete : Obligations.StoresComplete := by
  refine ⟨stores_of_runStore exec_lsStb, stores_of_runStore exec_lsSth, stores_of_runStore exec_lsStw, stores_of_runStore exec_lsStd,
    ?row, ?masked, ?empty, ?qmark⟩
  case row =>
    exact completes_of_runTrig exec_lsStrow fun a latch ⟨sound, goes⟩ =>
      ⟨(latch .lsa (by simp) fun x => a.st.storeFaults x 256 true).trans sound, goes, rfl⟩
  case masked =>
    refine completes_of_runTrig exec_lsStrowm fun a latch ⟨names, sound, goes⟩ => ⟨?_, ?_, ?_⟩
    · rw [names]; exact (latch .lsa (by simp) fun x => a.st.storeFaults x 256 true).trans sound
    · rw [names, goes]; rfl
    · simp only [names, Bool.false_eq_true, if_false]
  case empty =>
    refine completes_of_runTrig exec_lsStrowm fun a _ empty => ⟨?_, ?_, ?_⟩ <;> simp only [empty, if_true, Bool.not_true, Bool.false_and]
  case qmark => exact completes_of_runTrig exec_lsQmark fun _ _ _ => ⟨rfl, rfl, rfl⟩

/-- Settles O11: outside a delay group, with its target inside the code, a form of br meets no fault and has its effect. -/
theorem branchesComplete : Obligations.BranchesComplete := by
  refine ⟨?jmp, ?call, ?taken, ?ended, ?rotcfg, ?yield, ?alignOne, ?alignFold, ?exit, ?abandon, ?trap⟩
  case jmp =>
    refine completes_of_runTrig exec_brJmp fun a _ ⟨delay, inside⟩ => ⟨?_, rfl, rfl⟩
    rw [State.delayFaults_eq_nil delay, State.targetFaults_eq_nil inside]; rfl
  case call =>
    refine completes_of_runTrig exec_brCall fun a _ ⟨delay, inside⟩ => ⟨?_, rfl, rfl⟩
    rw [State.delayFaults_eq_nil delay, State.targetFaults_eq_nil inside]; rfl
  case taken =>
    refine completes_of_runTrig exec_brLoop fun a _ ⟨delay, going, inside⟩ => ⟨?_, rfl, if_neg going⟩
    rw [State.delayFaults_eq_nil delay, State.targetFaults_eq_nil inside, ite_self]; rfl
  case ended =>
    refine completes_of_runTrig exec_brLoop fun a _ ⟨delay, zero⟩ => ⟨?_, rfl, if_pos zero⟩
    rw [State.delayFaults_eq_nil delay, List.nil_append]
    exact if_pos zero
  case rotcfg => exact completes_of_runTrig exec_brRotcfg fun a _ legal => ⟨if_pos legal, rfl, rfl⟩
  case yield => exact completes_of_runTrig exec_brYield fun a _ range => ⟨if_pos range, rfl, rfl⟩
  case alignOne =>
    refine completes_of_runTrig exec_brAlign fun a _ alone => ⟨rfl, rfl, ?_⟩
    cases task : a.st.curTask with
    | none => rfl
    | some t => simp only [alone t task, Bool.false_eq_true, if_false]
  case alignFold =>
    refine fun t => completes_of_runTrig exec_brAlign fun a _ ⟨task, fold⟩ => ⟨rfl, rfl, ?_⟩
    simp only [task, fold, if_true]
  case exit => exact completes_of_runTrig exec_brExit fun a _ delay => ⟨State.delayFaults_eq_nil delay, rfl, rfl⟩
  case abandon => exact completes_of_runTrig exec_brExitAbandon fun a _ delay => ⟨State.delayFaults_eq_nil delay, rfl, rfl⟩
  case trap => exact raises_of_runTrigTo exec_brTrap

end Sys2Proof.Proofs
end

section
/-! Exchanges of the fabric at issue (R389 to R401): three-party reads, reductions, flags, supersteps, streams, mailboxes and pens. -/

namespace Sys2Proof.Machine

theorem operandFaults_eq_nil {ok : Bool} (h : ok = true) : operandFaults ok = [] := if_pos h

theorem State.paddockFaults_eq_nil {s : State} (present : bit s.pkg.caps 0 = true) : s.paddockFaults = [] := if_pos present

theorem State.penFaults_eq_nil {s : State} {v : Word} (present : bit s.pkg.caps 0 = true) (small : v.toNat < 1024) :
    s.penFaults v = [] := by
  rw [State.penFaults, State.paddockFaults_eq_nil present, operandFaults_eq_nil (decide_eq_true small)]; rfl

/-- A stream that may be used is one of a package whose optics are up (R38, R397). -/
theorem State.opticsFaults_of_streamNoFaults {s : State} {v : Word} (h : s.streamNoFaults v = []) : s.opticsFaults = [] := by
  refine if_pos (by_contra fun down => ?_)
  rw [State.streamNoFaults, State.streamFaults, Bool.eq_false_of_not_eq_true down] at h
  split at h
  · exact List.cons_ne_nil _ _ h
  · exact List.cons_ne_nil _ _ h

/-- Of a pop, which has data and no status, only a full fx.q is a fault (R383). -/
theorem Ctx.fxFull_spop {c : Ctx} {n : BitVec 4} (room : c.placesFull .fxq = false) : c.fxFull (.spop n) false = [] := by
  simp [Ctx.fxFull, room, RemOp.hasStatus]

theorem State.seq_place (s : State) (p : QPort) : (s.place p).ctx.seq = s.ctx.seq := by
  cases p <;> simp [State.place, Ctx.setResults]

end Sys2Proof.Machine

namespace Sys2Proof.Claims

open Sys2Proof.Machine

/-- A reduction of whole elements at an aligned address of the group joins the load queue (R392). -/
theorem joins_of_runMlr {i : Guard → Bool → Src → Instr} {port : BitVec 9} {op : MlrOp}
    (meaning : ∀ g h src s, exec (i g h src) s = .next (runMlr port op g h src s)) :
    Joins i port .load [.fxa, .fxb] (fun a => .mlr op (a.op .fxb) a.word.toNat) (fun a => a.op .fxa)
      fun a => a.word.toNat % mlrWidth op = 0 ∧ mlrWidth op ≤ a.word.toNat ∧ a.word.toNat ≤ 4096 ∧ bit (a.op .fxa) 63 = false ∧
        fabOffset (a.op .fxa) % mlrWidth op = 0 ∧ a.st.mlrDest op (a.op .fxb) a.word.toNat = [] := by
  refine joins_of_runFx meaning fun a latch ⟨whole, least, most, group, aligned, dest⟩ => ?_
  dsimp only
  rw [operandFaults_eq_nil (decide_eq_true ⟨whole, least, most⟩), latch .fxa (by simp),
    operandFaults_eq_nil (by simp [groupAddr, group, aligned]), if_pos most, latch .fxb (by simp), dest]
  rfl

end Sys2Proof.Claims

namespace Sys2Proof.Proofs

open Sys2Proof.Machine Sys2Proof.Claims

/-- Settles O26: each form's own checks find nothing under its condition; a pop takes the row at the head of its stream, or waits. -/
theorem fabricExchangesComplete : Obligations.FabricExchangesComplete := by
  refine ⟨?rdel, ?rdelg, joins_of_runMlr exec_fxMlrAddF32, joins_of_runMlr exec_fxMlrAddBf16, joins_of_runMlr exec_fxMlrMaxF32,
    joins_of_runMlr exec_fxMlrMaxBf16, joins_of_runMlr exec_fxMlrMinF32, joins_of_runMlr exec_fxMlrMinBf16,
    joins_of_runMlr exec_fxMlrAddI32, joins_of_runMlr exec_fxMlrAddI64, ?flag, ?sstep, ?spush, ?popped, ?waiting, ?mbsend, ?mbrecv,
    ?mbpeek, ?pen⟩
  case rdel =>
    refine joins_of_runFx exec_fxRdel fun a latch ⟨len, source, dest⟩ => ?_
    rw [operandFaults_eq_nil len, latch .fxa (by simp), operandFaults_eq_nil (beq_iff_eq.2 source), latch .fxb (by simp),
      operandFaults_eq_nil (beq_iff_eq.2 dest)]
    rfl
  case rdelg =>
    refine joins_of_runFx exec_fxRdelg fun a latch ⟨len, source, dest, group⟩ => ?_
    rw [operandFaults_eq_nil len, latch .fxa (by simp), operandFaults_eq_nil (beq_iff_eq.2 source), latch .fxb (by simp),
      operandFaults_eq_nil (by simp [groupAddr, group, dest])]
    rfl
  case flag =>
    exact joins_of_runFx exec_fxFlag fun _ latch aligned => (latch .fxa (by simp) _).trans (offsetFaults_eq_nil aligned)
  case sstep => exact joins_of_runFx exec_fxSstep fun _ _ small => operandFaults_eq_nil (decide_eq_true small)
  case spush =>
    refine completes_of_runTrig exec_fxSpush fun a latch ⟨usable, credit⟩ => ⟨?_, credit, rfl⟩
    rw [State.opticsFaults_of_streamNoFaults usable, latch .fxa (by simp), usable]; rfl
  case popped =>
    refine fun r s2 => completes_of_runTrig exec_fxSpop fun a _ ⟨usable, room, first, row⟩ => ⟨?_, rfl, ?_⟩
    · rw [State.opticsFaults_of_streamNoFaults usable, usable, Ctx.fxFull_spop room]; rfl
    · have first' : (a.st.place .fxq).spopWaits (a.st.place .fxq).turn (BitVec.ofNat 4 a.word.toNat) = none := first
      simp only [first', row, Option.isSome_none, Bool.false_eq_true, if_false, State.onCtx_onCtx, State.seq_place]
  case waiting =>
    refine completes_of_runTrig exec_fxSpop fun a _ ⟨usable, room, empty⟩ => ⟨?_, rfl, ?_⟩
    · rw [State.opticsFaults_of_streamNoFaults usable, usable, Ctx.fxFull_spop room]; rfl
    · simp only [empty, ite_self, State.seq_place]
  case mbsend =>
    refine joins_of_runFx exec_fxMbsend fun a latch ⟨present, small⟩ => ?_
    rw [State.paddockFaults_eq_nil present, latch .fxa (by simp), operandFaults_eq_nil (decide_eq_true small)]; rfl
  case mbrecv => exact joins_of_runFx exec_fxMbrecv fun _ _ ⟨present, small⟩ => State.penFaults_eq_nil present small
  case mbpeek => exact joins_of_runFx exec_fxMbpeek fun _ _ ⟨present, small⟩ => State.penFaults_eq_nil present small
  case pen =>
    refine joins_of_runFx exec_fxPen fun a latch ⟨present, legal⟩ => ?_
    rw [State.paddockFaults_eq_nil present, latch .fxa (by simp), operandFaults_eq_nil legal]; rfl

end Sys2Proof.Proofs
end

section
/-! Frames of the scalar forms and of the loads inside a group (R293, R313, R315, R322, R323): what reading a source and latches, starting
operations and joining the load queue leave of the issuing context. -/

namespace Sys2Proof.Machine

/-! ### Reading a source and latches -/

/-- The context with another open group, other unread results on its queue ports and other latches. -/
def Ctx.draw (c : Ctx) (g : GroupCtx) (q : QPort → List QRes) (x : Vector (Option Latched) 22) : Ctx :=
  { c.consume g q with latches := x }

theorem Ctx.results_draw (c : Ctx) (g : GroupCtx) (q : QPort → List QRes) (x : Vector (Option Latched) 22) (p : QPort) :
    (c.draw g q x).results p = q p := by cases p <;> rfl

/-- From `s` to `t` the issuing context changes only its open group, which keeps its slots and its conditions, the unread results of
some queue ports and some latches. -/
def Draws (ports : QPort → Prop) (need : List Latch) (s t : State) : Prop :=
  ∃ g q x, t = s.onCtx (fun c => c.draw g q x) ∧ g.left = s.group.left ∧ g.conds = s.group.conds ∧
    (∀ p, ¬ ports p → q p = s.ctx.results p) ∧ ∀ l, l ∉ need → t.ctx.latch l = s.ctx.latch l

section

variable {ports ports' : QPort → Prop} {need need' : List Latch} {s t u : State}

theorem State.group_onCtx_draw (s : State) (g : GroupCtx) (q : QPort → List QRes) (x : Vector (Option Latched) 22) :
    (s.onCtx fun c => c.draw g q x).group = g :=
  State.group_of_grp (by rw [State.ctx_onCtx]; rfl)

theorem Draws.trans (h : Draws ports need s t) (k : Draws ports need t u) : Draws ports need s u := by
  obtain ⟨g, q, x, rfl, left, conds, kept, same⟩ := h
  obtain ⟨g', q', x', rfl, left', conds', kept', same'⟩ := k
  rw [State.group_onCtx_draw] at left' conds'
  refine ⟨g', q', x', State.onCtx_onCtx .., left'.trans left, conds'.trans conds, fun p other => ?_, fun l other => ?_⟩
  · rw [kept' p other, State.ctx_onCtx, Ctx.results_draw, kept p other]
  · rw [same' l other, same l other]

theorem Draws.mono (h : Draws ports need s t) (more : ∀ p, ports p → ports' p) (also : ∀ l ∈ need, l ∈ need') :
    Draws ports' need' s t := by
  obtain ⟨g, q, x, e, left, conds, kept, same⟩ := h
  exact ⟨g, q, x, e, left, conds, fun p other => kept p fun mine => other (more p mine),
    fun l other => same l fun mine => other (also l mine)⟩

/-- A later move of the group that writes a latch is found before and after (R293). -/
theorem Draws.laterWrite (h : Draws ports need s t) (l : Latch) : t.laterWrite l = s.laterWrite l := by
  obtain ⟨g, q, x, rfl, left, conds, -, -⟩ := h
  simp only [State.laterWrite, State.takes, State.group_onCtx_draw, left, conds] <;> rfl

/-- After a change that draws nothing but the open group, its slots and conditions stay. -/
theorem draws_regroup {g : GroupCtx} (left : g.left = s.group.left) (conds : g.conds = s.group.conds) :
    Draws ports need s (s.onCtx fun c => c.regroup g) :=
  ⟨g, s.ctx.results, s.ctx.latches, State.onCtx_congr rfl, left, conds, fun _ _ => rfl, fun _ _ => by rw [State.ctx_onCtx]; rfl⟩

theorem draws_openGroup : Draws ports need s s.openGroup := s.openGroup_eq ▸ draws_regroup rfl rfl

theorem draws_of_grp {g : GroupCtx} (opened : s.ctx.grp = some g) : Draws ports need s s := by
  have same := draws_openGroup (ports := ports) (need := need) (s := s)
  rwa [State.openGroup, opened] at same

theorem Draws.grp (h : Draws ports need s t) : ∃ g, t.ctx.grp = some g := by
  obtain ⟨g, q, x, rfl, -⟩ := h
  exact ⟨g, by rw [State.ctx_onCtx]; rfl⟩

theorem draws_setResults {g : GroupCtx} {p : QPort} (l : List QRes) (mine : ports p) (left : g.left = s.group.left)
    (conds : g.conds = s.group.conds) : Draws ports need s (s.onCtx fun c => (c.setResults p l).regroup g) := by
  refine ⟨g, (s.ctx.setResults p l).results, s.ctx.latches, State.onCtx_congr ?_, left, conds, fun p' other => ?_, fun k _ => ?_⟩
  · cases p <;> rfl
  · have apart : p ≠ p' := fun e => other (e ▸ mine)
    cases p <;> cases p' <;> simp_all [Ctx.setResults, Ctx.results]
  · rw [State.ctx_onCtx]; cases p <;> rfl

/-- A source that is no stream is read out of a queue port, once in a group, or stays as it is (R294). -/
theorem draws_readSrc {src : Src} {v : Value} {g : GroupCtx} (opened : s.ctx.grp = some g) (read : s.readSrc src = some (v, t))
    (other : ∀ n, src ≠ .stream n) : Draws (fun p => src = .queue p) need s t := by
  cases src with
  | stream n => exact absurd rfl (other n)
  | queue p =>
    simp only [State.readSrc] at read
    split at read
    · cases read; exact draws_of_grp opened
    · split at read
      · cases read
      · split at read
        · cases read
        · cases read
          next l _ _ _ =>
          have current : (s.onCtx fun c => c.setResults p l).group = s.group := by
            rw [State.group_of_grp opened]
            exact State.group_of_grp (by rw [State.ctx_onCtx, ← opened]; cases p <;> rfl)
          rw [State.onGroup, State.onCtx_onCtx, current]
          exact draws_setResults l rfl rfl rfl
  | _ => cases read; exact draws_of_grp opened

/-- A latch is taken from a later move of the group, which is read ahead, or out of itself (R293). -/
theorem draws_takeLatch {l : Latch} {v : Value} {g : GroupCtx} (opened : s.ctx.grp = some g) (take : s.takeLatch l = some (v, t))
    (other : ∀ n h, s.laterWrite l ≠ some (.stream n, h)) :
    Draws (fun p => ∃ h, s.laterWrite l = some (.queue p, h)) [l] s t := by
  unfold State.takeLatch at take
  split at take
  next src h b later =>
    split at take
    next v1 s1 read =>
      cases take
      have source : Draws (fun p => src = .queue p) [l] s s1 := by
        unfold State.readSrcOf at read
        split at read
        · cases read; exact draws_of_grp opened
        · exact draws_readSrc opened read fun n e => other n (h, b) (e ▸ later)
      have ahead := source.mono (ports' := fun p => ∃ h, s.laterWrite l = some (.queue p, h)) (fun p e => ⟨(h, b), e ▸ later⟩)
        fun _ => id
      exact ahead.trans (draws_regroup rfl rfl)
    next => cases take
  next =>
    split at take
    · cases take
    · cases take
      split
      · exact draws_of_grp opened
      · refine ⟨g, s.ctx.results, (s.ctx.setLatch l none).latches, State.onCtx_congr ?_, ?_, ?_, fun _ _ => rfl, fun k ne => ?_⟩
        · simp only [Ctx.draw, Ctx.consume, ← opened]; rfl
        · rw [State.group_of_grp opened]
        · rw [State.group_of_grp opened]
        · rw [State.ctx_onCtx]
          exact s.ctx.latch_setLatch_ne _ fun e => ne (e ▸ List.mem_singleton_self _)

/-- The latches of a trigger are taken one after another. -/
theorem draws_takeLatches {need all : List Latch} {s s0 : State} {g : GroupCtx} (opened : s.ctx.grp = some g)
    (sub : ∀ l ∈ need, l ∈ all) (later : ∀ l, s.laterWrite l = s0.laterWrite l)
    (other : ∀ l ∈ all, ∀ n h, s0.laterWrite l ≠ some (.stream n, h)) :
    Draws (fun p => ∃ l ∈ all, ∃ h, s0.laterWrite l = some (.queue p, h)) all s (s.takeLatches need).2 := by
  induction need generalizing s g with
  | nil => exact draws_of_grp opened
  | cons l ls ih =>
    have mine := sub l (by simp)
    have rest : ∀ k ∈ ls, k ∈ all := fun k hk => sub k (List.mem_cons_of_mem l hk)
    simp only [State.takeLatches]
    split
    next v s1 take =>
      have first := (draws_takeLatch opened take fun n h e => other l mine n h (later l ▸ e)).mono (need' := all)
        (ports' := fun p => ∃ l ∈ all, ∃ h, s0.laterWrite l = some (.queue p, h)) (fun p ⟨h, e⟩ => ⟨l, mine, h, later l ▸ e⟩)
        fun k hk => List.mem_singleton.1 hk ▸ mine
      obtain ⟨g1, opened1⟩ := first.grp
      exact first.trans (ih opened1 rest fun k => (first.laterWrite k).trans (later k))
    next => exact ih opened rest later

end

/-! ### Starting operations and joining a queue -/

theorem State.wall_onCtx (s : State) (f : Ctx → Ctx) (d : DieId) : ((s.onCtx f).dieAt d).wall = (s.dieAt d).wall := by
  by_cases h : d = s.turn
  · subst h; exact (congrArg Die.wall (State.dieAt_onDieAt s s.turn _)).trans rfl
  · rw [State.dieAt_onCtx_ne s f h]

theorem State.wall_trace (s : State) (kind : Nat) (a b : Word) (d : DieId) :
    ((s.trace kind a b).dieAt d).wall = (s.dieAt d).wall := by
  by_cases h : d = s.turn
  · subst h
    have same := State.die_trace_wall s kind a b
    rwa [State.die, State.turn_trace] at same
  · unfold State.trace
    split
    · rfl
    · exact congrArg Die.wall (State.dieAt_onDieAt_ne _ _ h)

/-- A place on ls.q and an entry of a queue change the place's port, the entries and the next sequence number (R323). -/
theorem State.ctx_place_push (s : State) (side : QSide) (op : QOp) (addr : Word) (left : List Nat) :
    ∃ l es n, ((s.place .lsq).push side op addr left).ctx = { s.ctx with lsq := l, entries := es, seq := n } := by
  refine ⟨((s.place .lsq).push side op addr left).ctx.lsq, ((s.place .lsq).push side op addr left).ctx.entries,
    ((s.place .lsq).push side op addr left).ctx.seq, ?_⟩
  simp only [State.push, State.place, State.ctx_onCtx, Ctx.push, Ctx.setResults]

end Sys2Proof.Machine

namespace Sys2Proof.Claims

open Sys2Proof.Machine

/-- A trigger of scalar kind reads no stream (Table 12.3). -/
theorem Reads.ne_stream {s : State} {g : Guard} {src : Src} {port : BitVec 9} {need : List Latch} {a : Args}
    (reads : Reads s g src port need a) (scalar : trigKind port = .s) (n : BitVec 4) : src ≠ .stream n := by
  rintro rfl
  have legal := reads.mayStand
  rw [scalar] at legal
  cases legal

/-- A trigger draws its source and its latches, none of which is a stream. -/
theorem Reads.draws {s : State} {g : Guard} {src : Src} {port : BitVec 9} {need : List Latch} {a : Args}
    (reads : Reads s.openGroup g src port need a) (scalar : trigKind port = .s) (still : NoStreams s.openGroup need) :
    Draws (Names s.openGroup src need) need s a.st := by
  obtain ⟨s1, read, take⟩ := reads.value
  have first := (draws_readSrc (need := need) s.grp_openGroup read (reads.ne_stream scalar)).mono (ports' := Names s.openGroup src need)
    (fun p e => .inl e) fun _ => id
  obtain ⟨g1, opened⟩ := first.grp
  have second := (draws_takeLatches opened (fun _ => id) (fun l => first.laterWrite l) still).mono
    (ports' := Names s.openGroup src need) (fun p e => .inr e) fun _ => id
  rw [take] at second
  exact draws_openGroup.trans (first.trans second)

/-- A trigger that names no latch consumes at most a queue port's result. -/
theorem Reads.consumes {s : State} {g : Guard} {src : Src} {port : BitVec 9} {a : Args}
    (reads : Reads s.openGroup g src port [] a) (scalar : trigKind port = .s) : Consumes (fun p => src = .queue p) s a.st := by
  obtain ⟨s1, read, take⟩ := reads.value
  obtain rfl : s1 = a.st := congrArg Prod.snd take
  exact (consumes_openGroup _ s).trans (consumes_readSrc s.grp_openGroup read (reads.ne_stream scalar))

/-- A form whose effect is to put operations in flight. -/
def Starts (i : Guard → Src → Instr) (port : BitVec 9) (need : List Latch) : Prop :=
  ∃ ops : Args → List Pending, Completes i port need (fun _ => True) fun a => a.st.onCtx fun c => { c with pend := ops a }

theorem starts_of_runIa {i : Guard → Src → Instr} {p : LatPort} {port : BitVec 9} {need : List Latch} {f : Args → Word}
    (meaning : ∀ g src s, exec (i g src) s = .next (runIa p port need f g src s)) : Starts i port need :=
  ⟨fun a => (a.st.after 1 (.port p (.s (f a)))).ctx.pend, fun s g src a reads _ => by
    refine (scalar_of_runIa meaning s g src a reads trivial).trans (congrArg (fun t : State => Host.Outcome.next t.finishSlot) ?_)
    exact State.onCtx_congr (by simp only [State.ctx_after]; rfl)⟩

theorem starts_of_runIm {i : Guard → Src → Instr} {port : BitVec 9} {l : Nat} {f : Word → Word → Word × Word}
    (meaning : ∀ g src s, exec (i g src) s = .next (runIm port l f g src s)) : Starts i port [.ima] :=
  ⟨fun a => ((a.st.after l (.port .imq (.s (f (a.op .ima) a.word).1))).after l (.port .imq2 (.s (f (a.op .ima) a.word).2))).ctx.pend,
    fun s g src a reads _ => by
      refine (product_of_runIm meaning s g src a reads trivial).trans (congrArg (fun t : State => Host.Outcome.next t.finishSlot) ?_)
      exact (State.onCtx_onCtx ..).trans (State.onCtx_congr (by simp only [State.ctx_after]; rfl))⟩

/-- Every scalar form puts operations in flight, and takes scalar operands (Tables 13.1 and 13.3). -/
theorem starts_of_mem_aluForms : ∀ f ∈ aluForms, Starts f.1 f.2.1 f.2.2 := by
  simp only [aluForms, List.forall_mem_cons]
  exact ⟨starts_of_runIa exec_ia0Add, starts_of_runIa exec_ia0Sub, starts_of_runIa exec_ia0And, starts_of_runIa exec_ia0Or,
    starts_of_runIa exec_ia0Xor, starts_of_runIa exec_ia0Andn, starts_of_runIa exec_ia0Orn, starts_of_runIa exec_ia0Shl,
    starts_of_runIa exec_ia0Shr, starts_of_runIa exec_ia0Sar, starts_of_runIa exec_ia0Rol, starts_of_runIa exec_ia0Ror,
    starts_of_runIa exec_ia0Min, starts_of_runIa exec_ia0Max, starts_of_runIa exec_ia0Minu, starts_of_runIa exec_ia0Maxu,
    starts_of_runIa exec_ia0Clz, starts_of_runIa exec_ia0Ctz, starts_of_runIa exec_ia0Popc, starts_of_runIa exec_ia0Sext8,
    starts_of_runIa exec_ia0Sext16, starts_of_runIa exec_ia0Sext32, starts_of_runIa exec_ia0Zext32,
    starts_of_runIa exec_ia0Bext, starts_of_runIa exec_ia0Bins, starts_of_runIa exec_ia0Ceq, starts_of_runIa exec_ia0Cne,
    starts_of_runIa exec_ia0Clt, starts_of_runIa exec_ia0Cltu, starts_of_runIa exec_ia0Cle, starts_of_runIa exec_ia0Cleu,
    starts_of_runIa exec_ia1Add, starts_of_runIa exec_ia1Sub, starts_of_runIa exec_ia1And, starts_of_runIa exec_ia1Or,
    starts_of_runIa exec_ia1Xor, starts_of_runIa exec_ia1Andn, starts_of_runIa exec_ia1Shl, starts_of_runIa exec_ia1Shr,
    starts_of_runIa exec_ia1Sar, starts_of_runIa exec_ia1Ceq, starts_of_runIa exec_ia1Clt, starts_of_runIa exec_ia1Cltu,
    starts_of_runIm exec_imMul, starts_of_runIm exec_imMulhu, starts_of_runIm exec_imMulhsu, starts_of_runIm exec_imDiv,
    starts_of_runIm exec_imDivu,
    fun _ none => absurd none List.not_mem_nil⟩

theorem trigKind_of_mem_aluForms : ∀ f ∈ aluForms, trigKind f.2.1 = .s := by
  simp [aluForms, trigKind]

/-- Every load joins the load queue, with a place on ls.q, and takes a scalar address (Table 13.6). -/
theorem queued_of_mem_loadForms : ∀ f ∈ loadForms, ∃ op, Queued f.1 f.2.1 [] .load .lsq
    (fun a => a.st.accessFaults a.word f.2.2 (f.2.2 == 256) = []) (fun _ => op) (fun a => a.word) (List.range f.2.2) f.2.2 0 := by
  simp only [loadForms, List.forall_mem_cons]
  exact ⟨⟨_, queued_of_runLoad exec_lsLdb⟩, ⟨_, queued_of_runLoad exec_lsLdbu⟩, ⟨_, queued_of_runLoad exec_lsLdh⟩,
    ⟨_, queued_of_runLoad exec_lsLdhu⟩, ⟨_, queued_of_runLoad exec_lsLdw⟩, ⟨_, queued_of_runLoad exec_lsLdwu⟩,
    ⟨_, queued_of_runLoad exec_lsLdd⟩, ⟨_, queued_of_runLoad exec_lsLdrow⟩, fun _ none => absurd none List.not_mem_nil⟩

theorem trigKind_of_mem_loadForms : ∀ f ∈ loadForms, trigKind f.2.1 = .s := by
  simp [loadForms, trigKind]

end Sys2Proof.Claims

namespace Sys2Proof.Proofs

open Sys2Proof.Machine Sys2Proof.Claims

/-- Settles O57: a scalar form draws its source and its latches (`Draws`), puts operations in flight and lets its group go on. -/
theorem scalarFormsFrame : Obligations.ScalarFormsFrame := by
  intro f mem s g src a t reads still more run
  obtain ⟨x, y, l, more⟩ := State.left_of_moreSlots more
  obtain ⟨gr, q, ls, e, left, -, kept, same⟩ := reads.draws (trigKind_of_mem_aluForms f mem) still
  obtain ⟨ops, starts⟩ := starts_of_mem_aluForms f mem
  have moved : exec (f.1 g src) s = .next (a.st.onCtx fun c => { c with pend := ops a }).finishSlot := starts s g src a reads trivial
  rw [e, State.onCtx_onCtx] at moved
  obtain ⟨g', -, passed⟩ := State.finishSlot_more_eq (s := s.onCtx fun c => { c.draw gr q ls with pend := ops a }) (g := gr)
    (by rw [State.ctx_onCtx]; rfl) (left.trans more)
  rw [passed, State.onCtx_onCtx] at moved
  obtain rfl := Host.Outcome.next.inj (run.symm.trans moved)
  rw [e, State.ctx_onCtx] at same
  refine ⟨State.onCtx_congr ?_, fun k other => ?_, fun p other => ?_, sameMemory_onCtx _ _⟩
  · rw [State.ctx_onCtx]; rfl
  · rw [State.ctx_onCtx]; exact same k other
  · rw [State.ctx_onCtx, ← kept p other]; cases p <;> rfl

/-- Settles O59: a load draws its source, takes a place on ls.q and an entry, leaves a trace record and lets its group go on. -/
theorem loadsFrame : Obligations.LoadsFrame := by
  intro f mem s g src a t reads more sound place room run
  obtain ⟨x, y, l, more⟩ := State.left_of_moreSlots more
  obtain ⟨gr, q, e, left, -, kept⟩ := reads.consumes (trigKind_of_mem_loadForms f mem)
  obtain ⟨op, queued⟩ := queued_of_mem_loadForms f mem
  have moved := queued s g src a reads ⟨sound, place, room⟩
  obtain ⟨ps, es, n, joined⟩ := a.st.ctx_place_push .load op a.word (List.range f.2.2)
  rw [e, State.ctx_onCtx, ← e] at joined
  obtain ⟨g', -, passed⟩ := State.finishSlot_more_eq
    (s := ((a.st.place .lsq).push .load op a.word (List.range f.2.2)).traceMem a.word f.2.2 0)
    (by rw [State.traceMem, State.ctx_trace, joined]; rfl) (left.trans more)
  obtain rfl := Host.Outcome.next.inj ((run.symm.trans moved).trans (congrArg _ passed))
  have wall (d : DieId) : (a.st.dieAt d).wall = (s.dieAt d).wall := by rw [e, State.wall_onCtx]
  have memory : SameMemory s a.st := e ▸ sameMemory_onCtx s _
  refine ⟨?_, fun p apart other => ?_, fun d => ?_, ?_⟩
  · rw [State.ctx_onCtx, State.traceMem, State.ctx_trace, joined]; rfl
  · rw [State.ctx_onCtx, State.traceMem, State.ctx_trace, joined, ← kept p other]
    cases p with
    | lsq => exact absurd rfl apart
    | _ => rfl
  · rw [State.wall_onCtx, State.traceMem, State.wall_trace, State.push, State.wall_onCtx, State.place, State.wall_onCtx, wall]
  · exact memory.trans <| (sameMemory_onCtx _ _).trans <| (sameMemory_onCtx _ _).trans <| (sameMemory_trace _ _ _ _).trans <|
      sameMemory_onCtx _ _

end Sys2Proof.Proofs
end

section
/-! What a step runs (log 1, 2, 3): the open group's next slot, an event, or the current die's next cycle (R17, R18, R144, R286, R288). -/

namespace Sys2Proof.Machine

/-! ### Where a step looks for its move -/

theorem State.midGroup_of_grp {s : State} {g : GroupCtx} (clocked : s.clocked = true) (opened : s.ctx.grp = some g) :
    s.midGroup = true := by
  rw [State.midGroup, clocked, opened]; rfl

theorem State.midGroup_of_grp_none {s : State} (closed : s.ctx.grp = none) : s.midGroup = false := by
  rw [State.midGroup, closed]; exact Bool.and_false _

/-- What a step answers for what the current die does next. -/
noncomputable def NextMove.outcome : NextMove → Host.Outcome State Fault Refusal
  | .run i s => exec i s
  | .idle s => .next s

/-- Inside a group a step is what the current die does next (log 3). -/
theorem step_of_midGroup {s : State} (inside : s.midGroup = true) : step s = s.nextMove.outcome := by
  simp only [step, State.advance, inside, if_true]
  cases s.nextMove <;> rfl

/-- With no event named or due, a step is what the current die does next (log 1, 2). -/
theorem step_of_idle {s : State} (outside : s.midGroup = false) (none : s.agenda = []) (still : s.due = Option.none) :
    step s = s.nextMove.outcome := by
  simp only [step, State.advance, outside, none, still, Bool.false_eq_true, if_false]
  cases s.nextMove <;> rfl

/-- The next move of an open group is its next slot. -/
theorem State.nextMove_of_slot {s : State} {g : GroupCtx} {x : Slot} {l : List Slot} (clocked : s.clocked = true)
    (opened : s.ctx.grp = some g) (left : g.left = x :: l) : s.nextMove = s.runSlot x := by
  simp only [State.nextMove, clocked, opened, left, Bool.not_true, Bool.false_eq_true, if_false]

theorem State.nextMove_of_grp_none {s : State} (clocked : s.clocked = true) (closed : s.ctx.grp = none) :
    s.nextMove = s.startCycle := by
  simp only [State.nextMove, clocked, closed, Bool.not_true, Bool.false_eq_true, if_false]

theorem State.runSlot_of_decode {s : State} {x : Slot} {i : Instr} (decodes : decodeMove x.word = .ok i) :
    s.runSlot x = .run i s := by
  rw [State.runSlot, decodes]

/-- A step inside a group runs the decoded slot. -/
theorem step_of_slot {s : State} {g : GroupCtx} {x : Slot} {l : List Slot} {i : Instr} (clocked : s.clocked = true)
    (opened : s.ctx.grp = some g) (left : g.left = x :: l) (decodes : decodeMove x.word = .ok i) : step s = exec i s := by
  rw [step_of_midGroup (State.midGroup_of_grp clocked opened), State.nextMove_of_slot clocked opened left,
    State.runSlot_of_decode decodes]
  rfl

/-- A word placed for the host stands alone in an open group of a die whose clock runs (log 5). -/
theorem State.withWord_opened (s : State) (w : BitVec 24) :
    (s.withWord w).clocked = true ∧ ∃ g, (s.withWord w).ctx.grp = some g ∧ g.left = [⟨0, 0, w⟩] := by
  refine ⟨?_, _, congrArg Ctx.grp (State.ctx_onCtx ..), rfl⟩
  have held : (s.withWord w).die.heldReset = false := by
    simp only [State.withWord, State.onCtx, State.die_onDie, Die.onCtxAt_heldReset, Die.placeWord]
  have clock : ((s.withWord w).pkg.power && !(s.withWord w).die.heldReset) = true := by rw [held]; rfl
  exact clock

/-! ### The clock of a die -/

@[simp] theorem Die.holdFc_tick (d : Die) : d.holdFc.tick = d.tick := by unfold Die.holdFc; split <;> rfl
@[simp] theorem Die.holdFc_scy (d : Die) : d.holdFc.scy = d.scy := by unfold Die.holdFc; split <;> rfl
@[simp] theorem Die.holdFc_debt (d : Die) : d.holdFc.debt = d.debt := by unfold Die.holdFc; split <;> rfl

/-- A frozen cycle counts in TICK and pays debt (R17, R18). -/
theorem Die.clock_frozen (d : Die) (hold : Bool) : (d.clock true hold).tick = d.tick + 1 ∧ (d.clock true hold).scy = d.scy ∧
    (d.clock true hold).debt = d.debt - 1 := ⟨rfl, rfl, rfl⟩

/-- An unfrozen cycle counts in TICK and in SCY (R17). -/
theorem Die.clock_unfrozen (d : Die) (hold : Bool) : (d.clock false hold).tick = d.tick + 1 ∧
    (d.clock false hold).scy = d.scy + 1 ∧ (d.clock false hold).debt = d.debt := by
  cases hold <;> simp [Die.clock]

/-- In a frozen cycle nothing issues (R18). -/
theorem State.startCycle_of_frozen {s : State} (frozen : s.cycleStart.die.frozen = true) :
    s.startCycle = .idle (s.cycleStart.endCycle true false) := by
  simp only [State.startCycle, frozen, if_true]

/-! ### The group that a cycle opens -/

/-- What the group that a context opens does: its first slot runs. -/
theorem State.issueGroup_of_openAt {s s2 : State} {c : CtxId} {nf : Flags} {na : List (Fin 4 × Bool × BitVec 32)}
    (fresh : (s.die.ctxAt c).resumes = none) (opens : (s.atGroup c).openAt nf na = .ok s2) {x : Slot} {l : List Slot}
    (left : s2.group.left = x :: l) : s.issueGroup c nf na = s2.traceGroup.runSlot x := by
  simp only [State.issueGroup, State.openNext, fresh, opens, left]

/-- A cycle in which a context issues opens its next group (R144, R145). -/
theorem State.startCycle_of_issues {s s1 : State} {c : CtxId} {nf : Flags} {na : List (Fin 4 × Bool × BitVec 32)}
    (runs : s.cycleStart.die.frozen = false) (issues : Claims.Issues s c s1 nf na) : s.startCycle = s1.issueGroup c nf na := by
  cases issues with
  | timed h1 h2 h3 h4 => simp only [State.startCycle, runs, h1, h2, h3, h4, Bool.false_eq_true, if_false, if_true]
  | free h1 h2 h3 h4 h5 h6 =>
    simp only [State.startCycle, State.freeIssue, State.issueFree, runs, h1, h2, h3, h4, h5, h6, Option.isSome_none,
      Bool.false_eq_true, if_false, if_true]

/-- A group is cut from the bundles from its place on, so that its first slot stands there (R286, R288). -/
theorem collect_succ_fst (fetch : Nat → BitVec 256) (e n b i : Nat) :
    ∃ l, (collect fetch e (n + 1) b i).1 = ⟨b, i, Sys2Proof.slotOf (fetch b) i⟩ :: l := by
  simp only [collect]
  split
  · exact ⟨[], rfl⟩
  · split
    · exact ⟨_, rfl⟩
    · split <;> exact ⟨_, rfl⟩

/-- An open group holds the slots from its context's place on. -/
theorem State.left_of_openAt {s s2 : State} {nf : Flags} {na : List (Fin 4 × Bool × BitVec 32)} (opens : s.openAt nf na = .ok s2) :
    ∃ l, s2.group.left = ⟨s.ctx.bundle, s.ctx.slot, Sys2Proof.slotOf (s.die.bundle s.ctx.bundle) s.ctx.slot⟩ :: l := by
  obtain ⟨l, first⟩ := collect_succ_fst s.die.bundle s.ctx.issueEnd 7 s.ctx.bundle s.ctx.slot
  unfold State.openAt at opens
  dsimp only at opens
  split at opens
  · cases opens
  · split at opens
    · cases opens
    · split at opens
      · cases opens
      · cases opens
      · split at opens
        · cases opens
        · cases opens
          exact ⟨l, (congrArg GroupCtx.left (State.group_of_grp (by rw [State.ctx_onCtx]))).trans first⟩

/-- A context that has nothing to re-enter stands past its pads when its group opens (R288). -/
theorem State.atGroup_of_resumes {s : State} {c : CtxId} (fresh : (s.die.ctxAt c).resumes = none) :
    (s.atGroup c).ctx = s.die.pastPads (s.die.pastPads (s.die.ctxAt c)) ∧ (s.atGroup c).die.pstore = s.die.pstore := by
  have at' : (s.onDie fun d => { d with issuing := c }).die = { s.die with issuing := c } := State.die_onDie ..
  have here : (s.onDie fun d => { d with issuing := c }).ctx = s.die.ctxAt c := by rw [State.ctx, at']; rfl
  constructor
  · rw [State.atGroup, State.ctx_onCtx, here, at', Die.atNext, fresh]; rfl
  · rw [State.atGroup, State.onCtx, State.die_onDie, at']; rfl

end Sys2Proof.Machine

namespace Sys2Proof.Proofs

open Sys2Proof.Machine Sys2Proof.Claims

/-- Settles O2: the cycle opens the context's group past its pads, whose first slot is cut from the bundle there. -/
theorem stepFetchesTheNextGroup : Obligations.StepFetchesTheNextGroup := by
  intro s c s1 nf na s2 i clocked closed agenda due runs issues fresh opens
  obtain ⟨place, code⟩ := State.atGroup_of_resumes fresh
  obtain ⟨l, left⟩ := State.left_of_openAt opens
  rw [Die.bundle, place, code] at left
  refine ⟨⟨l, left⟩, fun decodes => ?_⟩
  rw [step_of_idle (State.midGroup_of_grp_none closed) agenda due, State.nextMove_of_grp_none clocked closed,
    State.startCycle_of_issues runs issues, State.issueGroup_of_openAt fresh opens left, State.runSlot_of_decode decodes]
  rfl

/-- Settles O31: the debt is paid in the cycle, which issues nothing. -/
theorem freezeDebtIsPaid : Obligations.FreezeDebtIsPaid := by
  intro s clocked debt goes closed
  have due : (s.dieAt s.turn).debt = 1 := debt
  have running : (s.dieAt s.turn).stopFrozen = false := goes
  simp [exec_freezeDebtPaid, execFreezeDebtPaid, State.debtPaid, clocked, due, running, closed, enabled]

/-- Settles O56: the clock of a frozen cycle and that of an unfrozen one, and a frozen cycle as a step. -/
theorem clocksCountUnfrozenCycles : Obligations.ClocksCountUnfrozenCycles := by
  refine ⟨fun d hold => ?frozen, fun d hold => ?unfrozen, fun s clocked closed agenda due frozen => ?step⟩
  case frozen =>
    obtain ⟨tick, scy, debt⟩ := d.clock_frozen hold
    exact ⟨tick, scy, debt, by rw [tick, scy]; ring⟩
  case unfrozen =>
    obtain ⟨tick, scy, debt⟩ := d.clock_unfrozen hold
    exact ⟨tick, scy, debt, by rw [tick, scy]; ring⟩
  case step =>
    rw [step_of_idle (State.midGroup_of_grp_none closed) agenda due, State.nextMove_of_grp_none clocked closed,
      State.startCycle_of_frozen frozen]
    rfl

/-- Settles O1: the branches of a step, and a word placed for the host, which stands in an open group. -/
theorem stepRunsTheDecodedSlot : Obligations.StepRunsTheDecodedSlot := by
  refine ⟨fun s g x l i clocked opened left decodes => step_of_slot clocked opened left decodes,
    fun s g x l e clocked opened left illegal => ?illegal, fun s i l outside next event => ?agenda,
    fun s i outside none due => ?due, fun s n w i decodes => ?word⟩
  case illegal =>
    rw [step_of_midGroup (State.midGroup_of_grp clocked opened), State.nextMove_of_slot clocked opened left, State.runSlot, illegal]
    rfl
  case agenda => simp only [step, State.advance, outside, next, event, Bool.false_eq_true, if_false, if_true]
  case due => simp only [step, State.advance, outside, none, due, Bool.false_eq_true, if_false]
  case word =>
    obtain ⟨clocked, g, opened, left⟩ := s.withWord_opened (BitVec.ofNat 24 w)
    exact step_of_slot clocked opened left decodes

/-- Settles O3: each word's fields and ports are looked up. -/
theorem wordsOfTheSpecificationDecode : Obligations.WordsOfTheSpecificationDecode := by
  unfold Obligations.WordsOfTheSpecificationDecode
  and_intros <;> rfl

end Sys2Proof.Proofs
end

section
/-! What reset leaves (Tables 01.2 to 16.10, log 4, 6). -/

namespace Sys2Proof.Machine

theorem State.reset_dieAt (d : DieId) : State.reset.dieAt d = Die.reset d := by fin_cases d <;> rfl

theorem State.reset_fn (f : Fin 64) : State.reset.host.fns.get f = Fn.reset f.val := Vector.getElem_ofFn f.isLt

end Sys2Proof.Machine

namespace Sys2Proof.Proofs

open Sys2Proof.Machine Sys2Proof.Claims

/-- Settles O6: every die, plane, function, queue, space, channel, breakpoint and stream has the values of its reset record. -/
theorem resetState : Obligations.ResetState := by
  refine ⟨fun d => ?dies, rfl, rfl, rfl, rfl, rfl, rfl, Vector.get_replicate _ _, fun f => ?functions, fun q => ?queues,
    Vector.get_replicate _ _, fun d c => ?channels, fun d => ?breakpoints, fun d => ?trace, fun d n => ?streams, rfl, rfl, rfl, rfl,
    fun d => ?memories⟩
  case functions => rw [State.reset_fn]; exact ⟨rfl, rfl, rfl⟩
  case queues =>
    have fresh : State.reset.host.queues.get q = Queue.reset := Vector.get_replicate _ _ q
    rw [fresh]; exact ⟨rfl, rfl⟩
  all_goals rw [State.reset_dieAt]
  case channels =>
    have fresh : (Die.reset d).chans.get c = Chan.reset := Vector.get_replicate _ _ c
    rw [fresh]; exact ⟨rfl, rfl⟩
  case breakpoints => exact Vector.get_replicate _ _
  case streams => exact congrArg Stream.cfg (Vector.get_replicate _ _ n)
  case dies | trace | memories => simp [Die.reset]

end Sys2Proof.Proofs
end

section
/-! The SBI calls of a pen's hart (R225). -/

namespace Sys2Proof.Machine

theorem Hart.getX_setX (h : Hart) {r : Nat} (v : Word) (small : r < 32) (pos : r ≠ 0) : (h.setX r v).getX r = v := by
  simp [Hart.getX, Hart.setX, pos, small]

theorem Hart.getX_setX_ne (h : Hart) {r q : Nat} (v : Word) (ne : q ≠ r) : (h.setX r v).getX q = h.getX q := by
  by_cases zero : r = 0
  · rw [Hart.setX, if_pos zero]
  · simp [Hart.setX, Hart.getX, zero, List.getElem?_set_ne ne.symm]

/-- The monitor answers a call in a0 and a1 and returns behind it (R225). -/
theorem Hart.getX_answered (h : Hart) (r : Word × Word) :
    (h.answered r).getX 10 = r.1 ∧ (h.answered r).getX 11 = r.2 ∧ (h.answered r).pc = h.pc + 4 := by
  refine ⟨?_, ?_, rfl⟩
  · exact (Hart.getX_setX_ne ((h.trapM 9 0).setX 10 r.1) r.2 (by decide)).trans
      (Hart.getX_setX (h.trapM 9 0) r.1 (by decide) (by decide))
  · exact Hart.getX_setX ((h.trapM 9 0).setX 10 r.1) r.2 (by decide) (by decide)

/-- A hart at a call of the base extension is answered, and its pen goes on. -/
theorem State.sbi_answered {s : State} {n : Nat} {e : RvEnv} {h : Hart} (env : s.penEnv n = some e) (awake : e.p.waiting = false)
    (next : e.next = .sbi h) :
    s.sbi (sbiCall h) n = some ((s.putPen n
      { e.p with hart := e.p.hart.answered (sbiAnswer h (Config.freeWord s.fresh) (sbiCall h)) }).penActed n) := by
  simp [State.sbi, env, awake, next]

end Sys2Proof.Machine

namespace Sys2Proof.Proofs

open Sys2Proof.Machine Sys2Proof.Claims

/-- A call of the base extension leaves 0 in a0 and its value in a1. -/
theorem calls_of_sbi {i : Nat → Instr} {c : SbiCall} {v : Hart → Word} {name : String}
    (meaning : ∀ n s, exec (i n) s = enabled name (s.sbi c n)) (value : ∀ h x, sbiAnswer h x c = (0, v h)) : Calls i c v := by
  rintro s n e h env awake next rfl
  have answered := State.sbi_answered env awake next
  rw [value] at answered
  exact answers_enabled (meaning n s) answered ⟨_, State.pen?_putPen .., e.p.hart.getX_answered (0, v h)⟩

/-- Settles O44: every call is `State.sbi`, which leaves its answer in a0 and a1. -/
theorem sbiCallsComplete : Obligations.SbiCallsComplete := by
  refine ⟨calls_of_sbi exec_sbiGetSpecVersion fun _ _ => rfl, calls_of_sbi exec_sbiGetImplId fun _ _ => rfl,
    calls_of_sbi exec_sbiGetImplVersion fun _ _ => rfl, calls_of_sbi exec_sbiProbeExtension fun _ _ => rfl,
    calls_of_sbi exec_sbiGetMvendorid fun _ _ => rfl, calls_of_sbi exec_sbiGetMarchid fun _ _ => rfl,
    calls_of_sbi exec_sbiGetMimpid fun _ _ => rfl, fun s n e h env awake next other => ?_⟩
  have answered := State.sbi_answered env awake next
  rw [other] at answered
  exact answers_enabled (exec_sbiNotSupported n s) answered
    ⟨_, State.pen?_putPen .., (Hart.getX_answered e.p.hart (sbiAnswer h (Config.freeWord s.fresh) .other)).1⟩

end Sys2Proof.Proofs
end

section
/-! Taking an exception (R265 to R271): what event records leave of the package, and what entry to a handler, a hold for the system and the
stop of a fold leave of the context. -/

namespace Sys2Proof.Machine

/-! ### Event records -/

/-- An event record changes the host side only (R104, R105). -/
theorem State.postRecord_eq (s : State) (i : BitVec 6) (r : List Byte) : ∃ h, s.postRecord i r = { s with host := h } := by
  unfold State.postRecord
  dsimp only
  split
  · exact ⟨_, rfl⟩
  · split <;> exact ⟨_, rfl⟩

theorem State.postEvent_eq (s : State) (fn : BitVec 6) (code : Nat) (d : DieId) (queue : Nat) (payload : List Byte) :
    ∃ h, s.postEvent fn code d queue payload = { s with host := h } := by
  unfold State.postEvent
  dsimp only
  split
  · obtain ⟨h, own⟩ := s.postRecord_eq fn (eventBytes code d.val queue fn.toNat (s.dieAt d).tick payload)
    obtain ⟨h', also⟩ := (s.postRecord fn (eventBytes code d.val queue fn.toNat (s.dieAt d).tick payload)).postRecord_eq 0
      (eventBytes code d.val queue fn.toNat (s.dieAt d).tick [])
    exact ⟨h', also.trans (by rw [own])⟩
  · exact s.postRecord_eq _ _

section

variable (s : State) (fn : BitVec 6) (code : Nat) (d : DieId) (queue : Nat) (payload : List Byte)

@[simp] theorem State.postEvent_pkg : (s.postEvent fn code d queue payload).pkg = s.pkg := by
  obtain ⟨h, e⟩ := s.postEvent_eq fn code d queue payload; rw [e]

@[simp] theorem State.postEvent_links : (s.postEvent fn code d queue payload).links = s.links := by
  obtain ⟨h, e⟩ := s.postEvent_eq fn code d queue payload; rw [e]

@[simp] theorem State.postEvent_dies : (s.postEvent fn code d queue payload).dies = s.dies := by
  obtain ⟨h, e⟩ := s.postEvent_eq fn code d queue payload; rw [e]

@[simp] theorem State.postEvent_dieAt (e : DieId) : (s.postEvent fn code d queue payload).dieAt e = s.dieAt e :=
  s.dieAt_postEvent fn code d queue payload e

@[simp] theorem State.postEvent_hbm : (s.postEvent fn code d queue payload).hbm = s.hbm := by
  obtain ⟨h, e⟩ := s.postEvent_eq fn code d queue payload; rw [e]

@[simp] theorem State.postEvent_hbmEcc : (s.postEvent fn code d queue payload).hbmEcc = s.hbmEcc := by
  obtain ⟨h, e⟩ := s.postEvent_eq fn code d queue payload; rw [e]

@[simp] theorem State.postEvent_sched : (s.postEvent fn code d queue payload).sched = s.sched := by
  obtain ⟨h, e⟩ := s.postEvent_eq fn code d queue payload; rw [e]

@[simp] theorem State.postEvent_paddock : (s.postEvent fn code d queue payload).paddock = s.paddock := by
  obtain ⟨h, e⟩ := s.postEvent_eq fn code d queue payload; rw [e]

end

/-! ### Tasks -/

theorem State.task?_congr {s t : State} (same : t.sched = s.sched) (lid : BitVec 32) : t.task? lid = s.task? lid := by
  rw [State.task?, State.task?, same]

theorem State.lid_of_task? {s : State} {lid : BitVec 32} {k : Task} (task : s.task? lid = some k) : k.lid = lid := by
  simpa using List.find?_some task

/-- A change of a task that keeps its number is found under it. -/
theorem State.task?_onTask {s : State} {lid : BitVec 32} {k : Task} {f : Task → Task} (task : s.task? lid = some k)
    (same : ∀ x : Task, (f x).lid = x.lid) : (s.onTask lid f).task? lid = some (f k) := by
  have number := State.lid_of_task? task
  have search (l : List Task) (found : l.find? (fun t => t.lid == lid) = some k) :
      (l.map fun t => if t.lid == lid then f t else t).find? (fun t => t.lid == lid) = some (f k) := by
    induction l with
    | nil => cases found
    | cons x l ih =>
      by_cases mine : x.lid = lid
      · obtain rfl : x = k := by simpa [mine] using found
        simp [mine, same]
      · have later : l.find? (fun t => t.lid == lid) = some k := by simpa [mine] using found
        simpa [mine] using ih later
  exact search _ task

@[simp] theorem State.dieAt_onTask (s : State) (lid : BitVec 32) (f : Task → Task) (d : DieId) :
    (s.onTask lid f).dieAt d = s.dieAt d := rfl

/-! ### Entry to a handler -/

/-- A context but for the registers that a write under way outside a handler may change (R272, R320, R332). -/
def Ctx.unwritten (c : Ctx) : Ctx :=
  { c with rot := { c.rot with lc := 0 }, tvec := 0, tvecValid := false, fflags := 0, rmode := 0, amax := .replicate 4 (false, 0),
           rngKey := 0, rngCtr := 0 }

theorem Ctx.unwritten_takeEffect {c : Ctx} (outside : c.inh = false) (e : Effect) : (c.takeEffect e).unwritten = c.unwritten := by
  cases e with
  | sreg r v =>
    simp only [Ctx.takeEffect, Ctx.setSreg]
    split <;> simp [Ctx.unwritten, outside]
  | _ => rfl

/-- Outside a handler no operation under way changes any other register but the operations themselves (R272). -/
theorem Ctx.unwritten_takeUnderWay {c : Ctx} (outside : c.inh = false) (p : Effect → Bool) :
    ∃ l, (c.takeUnderWay p).unwritten = ({ c with pend := l } : Ctx).unwritten := by
  have each (l : List Pending) (x : Ctx) (outside : x.inh = false) :
      (l.foldl (fun c y => c.takeEffect y.eff) x).unwritten = x.unwritten := by
    induction l generalizing x with
    | nil => rfl
    | cons y l ih =>
      have same := Ctx.unwritten_takeEffect outside y.eff
      have stays : (x.takeEffect y.eff).inh = false := (congrArg Ctx.inh same).trans outside
      exact (ih (x.takeEffect y.eff) stays).trans same
  exact ⟨_, each _ _ outside⟩

/-- What the entry to a handler leaves of a context outside one (R268, R275, Table 11.2): the fault registers name the place, what was
in flight is kept for the return but for the writes of special registers, and the handler issues from its entry. -/
structure Ctx.Entered (x y : Ctx) (f : Flt) (cnt e : Nat) : Prop where
  interrupted : Claims.Interrupted x y f cnt
  kind : y.kind = x.kind
  inh : y.inh = true
  bundle : y.bundle = e
  slot : y.slot = 0
  hc : y.hc = 0
  status : y.status = .run
  delay : y.delay = none
  pend : y.pend = (x.takeUnderWay Effect.isSreg).pend.filter fun p => p.eff.isSreg
  snap : y.snap = some { ports := x.ports, pend := (x.takeUnderWay Effect.isSreg).pend.filter fun p => !p.eff.isSreg, reent := x.reent,
                         delay := x.delay, status := x.status, late := [] }

/-- What stays under way are the writes that an event performs, due at once, and what is not taken (R272). -/
theorem Ctx.pend_takeUnderWay (c : Ctx) (p : Effect → Bool) : (c.takeUnderWay p).pend =
    ((c.pend.filter fun x => p x.eff).filter fun x => x.eff.byEvent).map (fun x => { x with due := 0 }) ++
      c.pend.filter fun x => !p x.eff := by
  have pend_takeEffect (c : Ctx) (e : Effect) : (c.takeEffect e).pend = c.pend := by
    cases e with
    | sreg r v => simp only [Ctx.takeEffect, Ctx.setSreg]; split <;> simp only [apply_ite Ctx.pend, ite_self]
    | _ => rfl
  have each (l : List Pending) (x : Ctx) : (l.foldl (fun c y => c.takeEffect y.eff) x).pend = x.pend := by
    induction l generalizing x with
    | nil => rfl
    | cons y l ih => exact (ih _).trans (pend_takeEffect x y.eff)
  exact each _ _

theorem Ctx.entered_enterHandler {x : Ctx} (outside : x.inh = false) (f : Flt) (cnt e : Nat) :
    x.Entered ((x.setFaultRegs f cnt).enterHandler e) f cnt e := by
  obtain ⟨l, same⟩ := Ctx.unwritten_takeUnderWay (c := x.setFaultRegs f cnt) outside Effect.isSreg
  have pend : ((x.setFaultRegs f cnt).takeUnderWay Effect.isSreg).pend = (x.takeUnderWay Effect.isSreg).pend := by
    rw [Ctx.pend_takeUnderWay, Ctx.pend_takeUnderWay]; rfl
  unfold Ctx.enterHandler
  revert same pend
  generalize (x.setFaultRegs f cnt).takeUnderWay Effect.isSreg = z
  intro same pend
  have kind : z.kind = x.kind := (congrArg Ctx.kind same :)
  exact ⟨⟨congrArg Ctx.fcode same, congrArg Ctx.reason same, congrArg Ctx.faddr same, congrArg Ctx.fcnt same, congrArg Ctx.epc same,
    congrArg Ctx.cswSlot same⟩, kind, rfl, rfl, rfl, rfl, rfl, rfl, by dsimp only; rw [pend], by
      have ports : z.ports = x.ports := (congrArg Ctx.ports same :)
      have reent : z.reent = x.reent := (congrArg Ctx.reent same :)
      have delay : z.delay = x.delay := (congrArg Ctx.delay same :)
      have status : z.status = x.status := (congrArg Ctx.status same :)
      dsimp only; rw [pend, ports, reent, delay, status]⟩

end Sys2Proof.Machine
end

section
/-! Taking an exception: the stop of its fold and the report to the system (R169, R267 to R270). -/

namespace Sys2Proof.Machine

/-! ### The stop of a fold -/

theorem State.traceTrigger_sched (s : State) (d : DieId) (c : CtxId) (place : Nat × Nat) :
    (s.traceTrigger d c place).sched = s.sched := by
  simp only [State.traceTrigger]
  split
  · exact (State.postEvent_sched ..).trans rfl
  · rfl

/-- The record of a trap changes no context of its die, and no task (R284). -/
theorem State.traceTrap_keeps (s : State) (d : DieId) (c : CtxId) (place : Nat × Nat) (code : BitVec 8) (reason : BitVec 4)
    (cnt : Nat) : ((s.traceTrap d c place code reason cnt).dieAt d).ctxs = (s.dieAt d).ctxs ∧
      (s.traceTrap d c place code reason cnt).sched = s.sched := by
  obtain ⟨-, buf, ctl, post, die⟩ := s.traceTrap_eq d c place code reason cnt
  refine ⟨by rw [die], ?_⟩
  simp only [State.traceTrap]
  split
  · rfl
  · split
    · exact (State.traceTrigger_sched ..).trans rfl
    · rfl

/-- The stop of a member captures the rows of its lanes in its timed context (R275). -/
theorem Die.ctxAt_stopMember (d : Die) (c : CtxId) :
    ∃ l, ({ d.stopMember c with stopDue := false } : Die).ctxAt c = { d.ctxAt c with far := l } := by
  have drained (l : List (BitVec 4 × Row × BitVec 16)) (rx : Vector (List (Row × BitVec 16)) 16) :
      (({ d with rx := rx } : Die).onCtxAt c fun x => { x with far := x.far ++ l }).ctxAt c =
        { d.ctxAt c with far := (d.ctxAt c).far ++ l } := Die.ctxAt_onCtxAt { d with rx := rx } c _
  exact ⟨_, drained _ _⟩

/-- A change of any context that leaves one as it is leaves it. -/
theorem State.ctxAt_onCtxAt_of (s : State) {d e : DieId} {c b : CtxId} {f : Ctx → Ctx} (same : f ((s.dieAt d).ctxAt c) = (s.dieAt d).ctxAt c) :
    (((s.onCtxAt e b f).dieAt d).ctxAt c) = (s.dieAt d).ctxAt c := by
  unfold State.onCtxAt
  by_cases hd : d = e
  · subst hd
    rw [State.dieAt_onDieAt]
    by_cases hc : c = b
    · subst hc; rw [Die.ctxAt_onCtxAt, same]
    · rw [Die.ctxAt_onCtxAt_ne _ f hc]
  · rw [State.dieAt_onDieAt_ne s _ hd]

theorem State.stopFrozen_onCtxAt (s : State) (d e : DieId) (b : CtxId) (f : Ctx → Ctx) :
    ((s.onCtxAt e b f).dieAt d).stopFrozen = (s.dieAt d).stopFrozen := by
  unfold State.onCtxAt
  by_cases hd : d = e
  · subst hd; rw [State.dieAt_onDieAt]; rfl
  · rw [State.dieAt_onDieAt_ne s _ hd]

/-- When a fold stops, its free contexts are held, and no timed one (R169). -/
theorem State.holdFree_keeps (s : State) (t : Task) {d : DieId} {c : CtxId} (timed : ((s.dieAt d).ctxAt c).kind = .timed) :
    ((s.holdFree t).dieAt d).ctxAt c = (s.dieAt d).ctxAt c ∧ ((s.holdFree t).dieAt d).stopFrozen = (s.dieAt d).stopFrozen ∧
      (s.holdFree t).sched = s.sched := by
  unfold State.holdFree
  generalize t.ctxs = l
  induction l generalizing s with
  | nil => exact ⟨rfl, rfl, rfl⟩
  | cons p l ih =>
    have same := s.ctxAt_onCtxAt_of (d := d) (c := c) (e := p.1) (b := p.2) (f := fun c => if c.kind == .free then c.hold else c)
      (by simp [timed])
    obtain ⟨ctx, frozen, sched⟩ := ih (s.onCtxAt p.1 p.2 fun c => if c.kind == .free then c.hold else c) (by rw [same, timed])
    exact ⟨ctx.trans same, frozen.trans (s.stopFrozen_onCtxAt ..), sched⟩

/-- The stop of a fold at a timed context keeps the context but for the rows that it has captured of its lanes (R169, R275), stops its
die, and changes no task but for where it has stopped. -/
theorem State.foldStop_keeps (s : State) (t : Task) {d : DieId} {c : CtxId} (f : Nat) (code : BitVec 8)
    (timed : ((s.dieAt d).ctxAt c).kind = .timed) :
    (∃ l, ((s.foldStop t d c f code).dieAt d).ctxAt c = { (s.dieAt d).ctxAt c with far := l }) ∧
      (t.stopCounts.any (fun x => x.1 == d) = false → ((s.foldStop t d c f code).dieAt d).stopFrozen = true) ∧
      ((s.foldStop t d c f code).sched = s.sched ∨ (s.foldStop t d c f code).sched =
        (s.onTask t.lid fun t => { t with stopCounts := t.stopCounts ++ [(d, f)] }).sched) := by
  unfold State.foldStop
  split
  next stopped => exact ⟨⟨((s.dieAt d).ctxAt c).far, rfl⟩, fun still => Bool.noConfusion (still.symm.trans stopped), .inl rfl⟩
  next =>
    dsimp only
    have stop : ∃ l, (((s.onDieAt d fun x => { x.stopMember c with stopDue := false }).dieAt d).ctxAt c) =
        { (s.dieAt d).ctxAt c with far := l } := by
      rw [State.dieAt_onDieAt]
      exact (s.dieAt d).ctxAt_stopMember c
    have frozen : ((s.onDieAt d fun x => { x.stopMember c with stopDue := false }).dieAt d).stopFrozen = true := by
      rw [State.dieAt_onDieAt]; rfl
    obtain ⟨l, stop⟩ := stop
    split
    · obtain ⟨ctx, stays, sched⟩ := State.holdFree_keeps (((s.onDieAt d fun x => { x.stopMember c with stopDue := false }).onTask t.lid
        fun t => { t with stopCounts := t.stopCounts ++ [(d, f)] }).onDieAt d fun x =>
          { x with msgQueue := x.msgQueue ++ [.stop (x.eseq + 1) (BitVec.ofNat 48 f) f code], eseq := x.eseq + 1 }) t (d := d) (c := c)
        (by rw [State.dieAt_onDieAt]; exact (congrArg Ctx.kind stop).trans timed)
      rw [State.dieAt_onDieAt] at ctx stays
      exact ⟨⟨l, ctx.trans stop⟩, fun _ => stays.trans frozen, .inr sched⟩
    · obtain ⟨ctx, stays, sched⟩ := State.holdFree_keeps ((s.onDieAt d fun x => { x.stopMember c with stopDue := false }).onTask t.lid
        fun t => { t with stopCounts := t.stopCounts ++ [(d, f)] }) t (d := d) (c := c)
        ((congrArg Ctx.kind stop).trans timed)
      exact ⟨⟨l, ctx.trans stop⟩, fun _ => stays.trans frozen, .inr sched⟩

/-! ### The report to the system -/

/-- A task that no machine check has met and that is not being pre-empted: an exception of it is only reported (R270). -/
def Task.Calm (k : Task) : Prop := k.agreed = none ∧ k.st ≠ .saving ∧ ∀ z ∈ k.causes, fltKind z.code ≠ .machine

theorem Task.Calm.victim {k : Task} (calm : k.Calm) : k.victim = false := by
  simp [Task.victim, calm.1, calm.2.1]

/-- An exception that is only reported posts an event. -/
theorem State.report_eq (s : State) {k : Task} (calm : k.victim = false) (c : Cause) (sec : BitVec 8 × Nat) :
    ∃ h, s.report k c sec false = { s with host := h } := by
  unfold State.report
  simp only [calm, Bool.false_eq_true, if_false]
  split <;> exact State.postEvent_eq ..

/-- The report of a fold's causes changes no die, and leaves its task in its state. -/
theorem State.reportStop_keeps {s : State} {lid : BitVec 32} {k : Task} (task : s.task? lid = some k) (calm : k.Calm) :
    (s.reportStop lid).dies = s.dies ∧ ∃ k', (s.reportStop lid).task? lid = some k' ∧ k'.st = k.st := by
  unfold State.reportStop
  simp only [task]
  split
  · exact ⟨rfl, k, task, rfl⟩
  · next c _ =>
    have none : ((s.foldCauses k).any fun x => fltKind x.code == .machine) = false := by
      simp only [List.any_eq_false, beq_iff_eq]
      exact fun z hz => calm.2.2 z (List.mem_of_mem_filter hz)
    simp only [none]
    split
    · exact ⟨rfl, k, task, rfl⟩
    · have noted := State.task?_onTask task (f := fun t => { t with reported := true, primary := some (BitVec.ofNat 32 c.detail) })
        fun _ => rfl
      rw [State.lid_of_task? task]
      obtain ⟨h, e⟩ := State.report_eq (s.onTask lid fun t => { t with reported := true, primary := some (BitVec.ofNat 32 c.detail) })
        calm.victim c (secondaryOf ((s.foldCauses k).filter fun x => x != c))
      rw [e]
      exact ⟨rfl, _, noted, rfl⟩

/-- The task as it hears of a cause (R270). -/
def Task.hear (k : Task) (x : Cause) : Task :=
  { k with causes := k.causes ++ [x], st := if k.st == .saving then .saving else .held,
           primary := k.primary <|> some (BitVec.ofNat 32 x.detail) }

theorem Task.Calm.hear {k : Task} (calm : k.Calm) {x : Cause} (other : fltKind x.code ≠ .machine) :
    (k.hear x).Calm ∧ (k.hear x).st = .held := by
  have st : (k.hear x).st = .held := if_neg (by simpa using calm.2.1)
  refine ⟨⟨calm.1, by rw [st]; decide, fun z hz => ?_⟩, st⟩
  rcases List.mem_append.1 hz with old | new
  · exact calm.2.2 z old
  · rw [List.mem_singleton.1 new]; exact other

/-- The cause that reaches the system is the one told, with the note whether its fold was stopping (R270). -/
theorem State.toSystem_outside (s : State) (k : Task) (c : Cause) (timed : Bool) (old : BitVec 8) :
    ∃ x : Cause, x.die = c.die ∧ x.cid = c.cid ∧ x.code = c.code ∧
      s.toSystem k c timed false old =
        let u := s.onTask k.lid fun t => t.hear x
        if timed then
          let v := u.foldStop k x.die x.cid x.count x.code
          if k.multiDie && (foldDies k.fold).any (fun o => (v.dieAt o).stopFrozen) then v else v.reportStop k.lid
        else u.report k x (secondaryOf []) (fltKind x.code == .machine) :=
  ⟨{ c with second := timed && !false && s.stopping k c.die }, rfl, rfl, rfl, rfl⟩

/-- A stop of a fold leaves its task calm and in its state. -/
theorem State.foldStop_task {s : State} {k j : Task} {d : DieId} {c : CtxId} (f : Nat) (code : BitVec 8)
    (timed : ((s.dieAt d).ctxAt c).kind = .timed) (task : s.task? k.lid = some j) (calm : j.Calm) :
    ∃ j', (s.foldStop k d c f code).task? k.lid = some j' ∧ j'.Calm ∧ j'.st = j.st := by
  obtain ⟨-, -, same | stops⟩ := s.foldStop_keeps k f code timed
  · exact ⟨j, (State.task?_congr same _).trans task, calm, rfl⟩
  · exact ⟨_, (State.task?_congr stops _).trans (State.task?_onTask task fun _ => rfl), calm, rfl⟩

/-- An exception of a calm task reaches the system: the task is held, and the context stays but for the rows it has captured. -/
theorem State.toSystem_keeps {s : State} {k : Task} {c : Cause} {timed : Bool} (old : BitVec 8) (task : s.task? k.lid = some k)
    (calm : k.Calm) (other : fltKind c.code ≠ .machine) (kind : timed = true → ((s.dieAt c.die).ctxAt c.cid).kind = .timed) :
    (∃ l, ((s.toSystem k c timed false old).dieAt c.die).ctxAt c.cid = { (s.dieAt c.die).ctxAt c.cid with far := l }) ∧
      ∃ k', (s.toSystem k c timed false old).task? k.lid = some k' ∧ k'.st = .held := by
  obtain ⟨x, die, cid, code, e⟩ := s.toSystem_outside k c timed old
  rw [← die, ← cid] at kind ⊢
  rw [← code] at other
  have heard := State.task?_onTask task (f := fun t => t.hear x) fun _ => rfl
  obtain ⟨waits, st⟩ := calm.hear other
  rw [e]
  cases timed with
  | false =>
    obtain ⟨h, reported⟩ := State.report_eq (s.onTask k.lid fun t => t.hear x) calm.victim x (secondaryOf [])
    have plain : (fltKind x.code == .machine) = false := beq_eq_false_iff_ne.2 other
    simp only [Bool.false_eq_true, if_false, plain, reported]
    exact ⟨⟨((s.dieAt x.die).ctxAt x.cid).far, rfl⟩, _, heard, st⟩
  | true =>
    obtain ⟨l, ctx⟩ := (State.foldStop_keeps (s.onTask k.lid fun t => t.hear x) k x.count x.code (kind rfl)).1
    obtain ⟨j, stopped, calm', same⟩ := State.foldStop_task (s := s.onTask k.lid fun t => t.hear x) x.count x.code (kind rfl) heard waits
    simp only [if_true]
    split
    · exact ⟨⟨l, ctx⟩, j, stopped, same.trans st⟩
    · obtain ⟨dies, j', reported, same'⟩ := State.reportStop_keeps stopped calm'
      refine ⟨⟨l, Eq.trans ?_ ctx⟩, j', reported, (same'.trans same).trans st⟩
      rw [State.dieAt, dies]; rfl

/-! ### Delivery -/

theorem Ctx.handler_eq_some {c : Ctx} {code : BitVec 8} {e : Nat} : c.handler code = some e ↔
    fltKind code = .handler ∧ c.tvecValid = true ∧ c.inh = false ∧ c.tvec.toNat < c.codeLen ∧ e = c.base + c.tvec.toNat := by
  simp only [Ctx.handler, Option.ite_none_right_eq_some, Bool.and_eq_true, beq_iff_eq, Bool.not_eq_true', decide_eq_true_eq,
    Option.some.injEq, and_assoc, eq_comm (a := e)]

theorem Ctx.inh_of_handler {c : Ctx} {code : BitVec 8} {e : Nat} (handler : c.handler code = some e) : c.inh = false :=
  (Ctx.handler_eq_some.1 handler).2.2.1

theorem Ctx.Entered.far {x y : Ctx} {f : Flt} {cnt e : Nat} (h : x.Entered y f cnt e) (l : List (BitVec 4 × Row × BitVec 16)) :
    x.Entered { y with far := l } f cnt e :=
  ⟨⟨h.interrupted.code, h.interrupted.reason, h.interrupted.addr, h.interrupted.count, h.interrupted.bundle, h.interrupted.slot⟩,
    h.kind, h.inh, h.bundle, h.slot, h.hc, h.status, h.delay, h.pend, h.snap⟩

/-- The state in which an exception has written the fault registers and its trace record. -/
def State.noteFault (s : State) (d : DieId) (c : CtxId) (f : Flt) (cnt : Nat) : State :=
  (s.onCtxAt d c fun x => x.setFaultRegs f cnt).traceTrap d c ((s.dieAt d).ctxAt c).place f.code f.reason cnt

theorem State.noteFault_keeps (s : State) (d : DieId) (c : CtxId) (f : Flt) (cnt : Nat) :
    ((s.noteFault d c f cnt).dieAt d).ctxAt c = ((s.dieAt d).ctxAt c).setFaultRegs f cnt ∧ (s.noteFault d c f cnt).sched = s.sched := by
  obtain ⟨ctxs, sched⟩ := State.traceTrap_keeps (s.onCtxAt d c fun x => x.setFaultRegs f cnt) d c ((s.dieAt d).ctxAt c).place f.code
    f.reason cnt
  refine ⟨(congrArg (fun l => l.get c) ctxs).trans ?_, sched⟩
  rw [State.onCtxAt, State.dieAt_onDieAt]
  exact (s.dieAt d).ctxAt_onCtxAt c _

theorem State.ctxAt_onCtxAt (s : State) (d : DieId) (c : CtxId) (f : Ctx → Ctx) :
    ((s.onCtxAt d c f).dieAt d).ctxAt c = f ((s.dieAt d).ctxAt c) := by
  rw [State.onCtxAt, State.dieAt_onDieAt, Die.ctxAt_onCtxAt]

/-- An exception with a handler enters it; of a timed context its fold stops (R267, R268, R270). -/
theorem State.entered_deliver {s : State} {d : DieId} {c : CtxId} {f : Flt} {e : Nat} (cnt queue seq : Nat)
    (handler : ((s.dieAt d).ctxAt c).handler f.code = some e) :
    ((s.dieAt d).ctxAt c).Entered (((s.deliver d c f cnt queue seq).dieAt d).ctxAt c) f cnt e ∧
      (∀ k, ((s.dieAt d).ctxAt c).kind = .timed → s.task? ((s.dieAt d).ctxAt c).lid = some k →
        k.stopCounts.any (fun x => x.1 == d) = false → ((s.deliver d c f cnt queue seq).dieAt d).stopFrozen = true) := by
  obtain ⟨ctx, sched⟩ := s.noteFault_keeps d c f cnt
  have entered : ((s.dieAt d).ctxAt c).Entered ((((s.noteFault d c f cnt).onCtxAt d c fun x => x.enterHandler e).dieAt d).ctxAt c) f cnt
      e := by
    rw [State.ctxAt_onCtxAt, ctx]
    exact Ctx.entered_enterHandler (Ctx.inh_of_handler handler) f cnt e
  have delivered : s.deliver d c f cnt queue seq =
      match s.task? ((s.dieAt d).ctxAt c).lid with
      | some t => if ((s.dieAt d).ctxAt c).kind == .timed then ((s.noteFault d c f cnt).onCtxAt d c fun x => x.enterHandler e).foldStop t d c
          (((s.dieAt d).ctxAt c).baseCount (s.dieAt d).scy) f.code
        else (s.noteFault d c f cnt).onCtxAt d c fun x => x.enterHandler e
      | none => (s.noteFault d c f cnt).onCtxAt d c fun x => x.enterHandler e := by
    rw [← State.task?_congr sched ((s.dieAt d).ctxAt c).lid]
    simp only [State.deliver, handler] <;> rfl
  rw [delivered]
  split
  next t task =>
    by_cases timed : ((s.dieAt d).ctxAt c).kind = .timed
    · obtain ⟨⟨l, same⟩, stopped, -⟩ := State.foldStop_keeps ((s.noteFault d c f cnt).onCtxAt d c fun x => x.enterHandler e) t
        (((s.dieAt d).ctxAt c).baseCount (s.dieAt d).scy) f.code (entered.kind.trans timed)
      rw [if_pos (beq_iff_eq.2 timed), same]
      refine ⟨entered.far l, fun k _ mine first => stopped ?_⟩
      obtain rfl := Option.some.inj (task.symm.trans mine)
      exact first
    · rw [if_neg (by simpa using timed)]
      exact ⟨entered, fun k kind => absurd kind timed⟩
  next task => exact ⟨entered, fun k _ mine => by rw [task] at mine; cases mine⟩

/-- Before its hold a context that is not retired goes on; held, it keeps its place and its registers. -/
theorem Ctx.hold_eq {c : Ctx} (goes : c.status ≠ .retired) : c.hold.status = .held ∧ ∃ st st0, c.hold = { c with status := st, status0 := st0 } := by
  unfold Ctx.hold
  split
  next held => exact ⟨held, c.status, c.status0, rfl⟩
  next retired => exact absurd retired goes
  next => exact ⟨rfl, _, _, rfl⟩

/-- An exception without a handler holds its context and reaches the system (R270). -/
theorem State.held_deliver {s : State} {d : DieId} {c : CtxId} {f : Flt} {k : Task} (cnt queue seq : Nat)
    (handler : ((s.dieAt d).ctxAt c).handler f.code = none) (task : s.task? ((s.dieAt d).ctxAt c).lid = some k) (calm : k.Calm)
    (other : fltKind f.code ≠ .machine) (outside : ((s.dieAt d).ctxAt c).inh = false) (goes : ((s.dieAt d).ctxAt c).status ≠ .retired) :
    (∃ l st0, ((s.deliver d c f cnt queue seq).dieAt d).ctxAt c =
      { ((s.dieAt d).ctxAt c).setFaultRegs f cnt with far := l, status := .held, status0 := st0 }) ∧
      ∃ k', (s.deliver d c f cnt queue seq).task? k.lid = some k' ∧ k'.st = .held := by
  obtain ⟨ctx, sched⟩ := s.noteFault_keeps d c f cnt
  obtain ⟨held, st, st0, same⟩ := Ctx.hold_eq (c := ((s.dieAt d).ctxAt c).setFaultRegs f cnt) goes
  have stands : (((s.noteFault d c f cnt).onCtxAt d c fun x => x.hold).dieAt d).ctxAt c =
      { ((s.dieAt d).ctxAt c).setFaultRegs f cnt with status := .held, status0 := st0 } := by
    rw [State.ctxAt_onCtxAt, ctx, same]
    rw [same] at held
    exact congrArg (fun st => ({ ((s.dieAt d).ctxAt c).setFaultRegs f cnt with status := st, status0 := st0 } : Ctx)) held
  have found : ((s.noteFault d c f cnt).onCtxAt d c fun x => x.hold).task? ((s.dieAt d).ctxAt c).lid = some k :=
    (State.task?_congr sched _).trans task
  have lid := State.lid_of_task? task
  obtain ⟨x, die, cid, code, delivered⟩ : ∃ x : Cause, x.die = d ∧ x.cid = c ∧ x.code = f.code ∧ s.deliver d c f cnt queue seq =
      ((s.noteFault d c f cnt).onCtxAt d c fun x => x.hold).toSystem k x (((s.dieAt d).ctxAt c).kind == .timed) false
        ((s.dieAt d).ctxAt c).fcode := by
    refine ⟨
      { die := d, cid := c, code := f.code, reason := f.reason, count := ((s.dieAt d).ctxAt c).baseCount (s.dieAt d).scy,
        slot := ((s.dieAt d).ctxAt c).slot, epc := ((s.dieAt d).ctxAt c).bundle, fcnt := cnt, faddr := f.addr, queue := queue,
        seq := seq, second := false }, rfl, rfl, rfl, ?_⟩
    unfold State.noteFault at found ⊢
    simp only [State.deliver, handler, Option.getD_none, found, outside]
  have kind : (((s.dieAt d).ctxAt c).kind == .timed) = true →
      (((((s.noteFault d c f cnt).onCtxAt d c fun x => x.hold).dieAt x.die).ctxAt x.cid).kind = .timed) := fun timed => by
    rw [die, cid]
    exact (congrArg Ctx.kind stands).trans (beq_iff_eq.1 timed)
  obtain ⟨⟨l, y⟩, told⟩ := State.toSystem_keeps (c := x) ((s.dieAt d).ctxAt c).fcode (by rwa [← lid] at found) calm (by rwa [code]) kind
  rw [die, cid, stands] at y
  rw [delivered]
  exact ⟨⟨l, st0, y⟩, told⟩

end Sys2Proof.Machine

namespace Sys2Proof.Proofs
open Sys2Proof.Machine Sys2Proof.Claims

/-- Settles O53: with a handler the context is as its entry leaves it, without one it is held and its task with it; the fold of a timed
context stops. -/
theorem exceptionsAreTaken : Obligations.ExceptionsAreTaken := by
  refine ⟨fun c code e => Ctx.handler_eq_some, fun s d c f cnt q n e handler => ?_,
    fun s d c f cnt q n k handler task other causes outside agreed st goes => ?_,
    fun s d c f cnt q n k timed task first handled => ?_⟩
  · obtain ⟨interrupted, -, inh, bundle, slot, hc, status, delay, pend, snap⟩ := (State.entered_deliver cnt q n handler).1
    exact ⟨interrupted, inh, bundle, slot, hc, status, delay, pend, snap⟩
  · obtain ⟨⟨l, st0, y⟩, told⟩ := State.held_deliver cnt q n handler task ⟨agreed, st, causes⟩ other outside goes
    dsimp only
    rw [y]
    exact ⟨⟨rfl, rfl, rfl, rfl, rfl, rfl⟩, rfl, outside, rfl, rfl, told⟩
  · obtain ⟨e, handler⟩ := Option.ne_none_iff_exists'.1 handled
    exact (State.entered_deliver cnt q n handler).2 k timed task first

end Sys2Proof.Proofs
end

section
/-! Power and the work queues of the host (R26, R94 to R97, R148 to R151): what each event leaves. -/

namespace Sys2Proof.Machine

/-! ### Power -/

/-- The debt of a tick is raised by the cycles that it owes, when its die raises it and there are any (R151). -/
theorem Die.debt_raiseFreeze (d : Die) (n : Nat) (cause : BitVec 2) : (d.raiseFreeze n cause).debt = d.debt + n := rfl

/-- A tick of a governor's interval that is due (R151). -/
theorem State.raiseDebt_due {s : State} {d : DieId} {v : Interval} (interval : s.pkg.interval.get d = some v)
    (run : s.clockedAt d = true) (ticks : v.sub < 50) (due : 2000 * v.sub ≤ ((s.dieAt d).tick - v.since).toNat) :
    ∃ t, s.raiseDebt d = some t ∧ t.pkg.interval.get d = some { v with sub := v.sub + 1 } ∧
      (t.dieAt d).debt = (s.dieAt d).debt + if s.raises d then v.n * (v.sub + 1) / 50 - v.n * v.sub / 50 else 0 := by
  simp only [State.raiseDebt, interval, run, Nat.not_le.2 ticks, Nat.not_lt.2 due, Bool.not_true, decide_false, Bool.or_self,
    Bool.false_eq_true, if_false]
  refine ⟨_, rfl, ?_, ?_⟩
  · split
    · exact Vector.getElem_set_self d.isLt
    · exact Vector.getElem_set_self d.isLt
  · split
    next h =>
      obtain ⟨-, raises⟩ := Bool.and_eq_true_iff.1 h
      rw [raises, State.dieAt_onDieAt, Die.debt_raiseFreeze]; rfl
    next h =>
      by_cases raises : s.raises d = true
      · have none : v.n * (v.sub + 1) / 50 - v.n * v.sub / 50 = 0 := by simpa [raises] using h
        rw [none, ite_self]; rfl
      · rw [if_neg raises]; rfl

/-- A settlement that is due decides the limit, the part of the cycles that runs, and the intervals of the dies (R148 to R150). -/
theorem State.settlement_due {s : State} (r : Readings) (power : s.pkg.power = true)
    (due : 100000 ≤ ((s.dieAt 1).tick - s.pkg.settleAt).toNat) : ∃ t, s.settlement r = some t ∧
      t.pkg.pwrLimit = s.pkg.pwrNext.getD s.pkg.pwrLimit ∧ t.pkg.pwrNext = none ∧ t.pkg.settleAt = (s.dieAt 1).tick ∧
      t.pkg.inForce = (s.pkg.lowPwr && !s.pkg.hold) ∧ ((s.pkg.lowPwr && !s.pkg.hold) = true → t.pkg.pass = 1) ∧
      (t.pkg.interval.get 1) = some { n := 100 * (1000 - t.pkg.pass), sub := 0, since := (s.dieAt 1).tick } := by
  have open' : (!s.pkg.power || decide (((s.dieAt 1).tick - s.pkg.settleAt).toNat < 100000)) = false := by
    rw [power, Bool.not_true, Bool.false_or, decide_eq_false (Nat.not_lt.2 due)]
  unfold State.settlement
  simp only [open', Bool.false_eq_true, if_false]
  exact ⟨_, rfl, rfl, rfl, rfl, rfl, fun low => by simp only [low, if_true], rfl⟩

/-! ### Work queues -/

@[simp] theorem State.queue_onQueue (s : State) (q : BitVec 10) (f : Queue → Queue) : (s.onQueue q f).queue q = f (s.queue q) :=
  Vector.getElem_set_self q.isLt

@[simp] theorem State.postRecord_queues (s : State) (i : BitVec 6) (r : List Byte) : (s.postRecord i r).host.queues = s.host.queues := by
  unfold State.postRecord
  dsimp only
  split
  · rfl
  · split <;> rfl

@[simp] theorem State.postEvent_queues (s : State) (fn : BitVec 6) (code : Nat) (d : DieId) (queue : Nat) (payload : List Byte) :
    (s.postEvent fn code d queue payload).host.queues = s.host.queues := by
  unfold State.postEvent
  dsimp only
  split
  · exact (State.postRecord_queues ..).trans (State.postRecord_queues ..)
  · exact State.postRecord_queues ..

theorem State.queue_congr {s t : State} (same : t.host.queues = s.host.queues) (q : BitVec 10) : t.queue q = s.queue q :=
  congrArg (fun v => v.get ⟨q.toNat, q.isLt⟩) same

theorem State.queue_wake (s : State) (q : BitVec 10) : s.wake.queue q = s.queue q := rfl

theorem State.stageOpen_owner {s : State} {fn : BitVec 6} {q : BitVec 10} (up : s.hostUp = true) (owner : (s.queue q).func = fn) :
    s.stageOpen fn q = true := by
  simp [State.stageOpen, up, owner]

/-- A staging write that R95 takes and that does not reach the last 8 bytes is staged. -/
theorem State.stageWrite_wide {s : State} {fn : BitVec 6} {q : BitVec 10} {off : Nat} {bs : List Byte} (up : s.hostUp = true)
    (owner : (s.queue q).func = fn) (wide : stagingWide off bs.length = true) (short : off + bs.length < 64) :
    s.stageWrite fn q off bs = some (s.onQueue q fun x => x.stagePut off bs) := by
  simp only [State.stageWrite, stagingSubmits, wide, Nat.ne_of_lt short, decide_false, Bool.and_false, Bool.false_eq_true, if_false,
    State.hostWrite_of_hostUp up, State.stageOpen_owner up owner, Bool.not_true, if_true]

theorem State.stageWrite_refused {s : State} {fn : BitVec 6} {q : BitVec 10} {off : Nat} {bs : List Byte} (up : s.hostUp = true)
    (owner : (s.queue q).func = fn) (bad : stagingWide off bs.length = false) :
    s.stageWrite fn q off bs = some (s.onQueue q fun x => { x with stageErr := true }) := by
  simp only [State.stageWrite, stagingSubmits, bad, Bool.false_and, Bool.false_eq_true, if_false, State.hostWrite_of_hostUp up,
    State.stageOpen_owner up owner, Bool.not_true]

theorem State.recordSubmit_owner {s : State} {fn : BitVec 6} {q : BitVec 10} {off : Nat} {bs : List Byte} (up : s.hostUp = true)
    (owner : (s.queue q).func = fn) (wide : stagingWide off bs.length = true) (last : off + bs.length = 64) :
    s.recordSubmit fn q off bs = some ((s.onQueue q fun x => x.stagePut off bs).submit q) := by
  simp only [State.recordSubmit, stagingSubmits, wide, last, decide_true, Bool.and_self, Bool.not_true, Bool.false_eq_true, if_false,
    State.hostWrite_of_hostUp up, State.stageOpen_owner up owner, if_true]

theorem State.submit_room {s : State} {q : BitVec 10} (room : (s.queue q).recs.length < 64) : (s.submit q).queue q =
    { s.queue q with
      stage := List.replicate 64 0, accepted := (s.queue q).accepted + 1,
      recs := (s.queue q).recs ++ [(BitVec.ofNat 32 (q.toNat * 2 ^ 22 + (s.queue q).accepted.toNat % 2 ^ 22), (s.queue q).stage)] } := by
  simp only [State.submit, if_pos room]
  rw [State.queue_wake, State.queue_onQueue, State.queue_onQueue]

/-- A full queue discards the record and counts it (R96). -/
theorem State.submit_full {s : State} {q : BitVec 10} (full : 64 ≤ (s.queue q).recs.length) : (s.submit q).queue q =
    { s.queue q with stage := List.replicate 64 0, ovfcnt := satInc16 (s.queue q).ovfcnt 1 } := by
  simp only [State.submit, if_neg (Nat.not_lt.2 full)]
  rw [State.queue_congr (State.postEvent_queues ..), State.queue_onQueue, State.queue_onQueue]

theorem State.flush_records {s : State} {fn : BitVec 6} {q : BitVec 10} (up : s.hostUp = true) (window : s.windowOpen fn q = true)
    (records : (s.queue q).recs ≠ []) : s.flush fn q =
      ((s.queue q).recs.foldl (fun s r => s.dropRecord q r.1 r.2 6 0) s).onQueue q fun x =>
        { x with deficit := if s.savedHead q then x.deficit else 0 } := by
  have some : (s.queue q).recs.isEmpty = false := by simpa using records
  simp only [State.flush, State.hostWrite_of_hostUp up, window, some, Bool.not_false, Bool.and_self, if_true]

theorem State.flush_empty {s : State} (fn : BitVec 6) {q : BitVec 10} (up : s.hostUp = true) (none : (s.queue q).recs = []) :
    s.flush fn q = s := by
  simp only [State.flush, State.hostWrite_of_hostUp up, none, List.isEmpty_nil, Bool.not_true, Bool.and_false, Bool.false_eq_true,
    if_false]

/-- The PF configures a queue of a function outside sealed operation, unless the queue is busy (R94). -/
theorem State.writeQcfg_open {s : State} {q : BitVec 10} (v : Word) (up : s.hostUp = true) (unsealed : s.sealed (s.queue q).func = false)
    (clean : s.refusesPf (s.queue q).func = false) : s.writeQcfg 0 q v =
      if s.queueBusy q then s.onQueue q fun x => { x with cfgRef := true }
      else s.onQueue q fun x =>
        { x with func := BitVec.ofNat 6 (fld v 0 6), weight := BitVec.ofNat 8 (fld v 8 8), vector := BitVec.ofNat 6 (fld v 16 6),
                 irq := bit v 22, deficit := 0 } := by
  simp only [State.writeQcfg, State.hostWrite_of_hostUp up, unsealed, clean, ne_eq, not_true_eq_false, decide_false, Bool.or_self,
    Bool.false_eq_true, if_false]

end Sys2Proof.Machine

namespace Sys2Proof.Proofs
open Sys2Proof.Machine Sys2Proof.Claims

/-- Settles O34: each event's state, with the legal limits of the power register on either side. -/
theorem powerEventsComplete : Obligations.PowerEventsComplete := by
  refine ⟨fun s v run low high => ?_, fun s v run illegal => ?_, fun s v run idle => ?_, fun s v run wakes => ?_,
    fun s => ⟨s.wake, rfl, rfl, rfl, rfl, rfl⟩, fun s hold due => ?_, fun s r power due => ?_,
    fun s d v interval run ticks due raises => ?_, fun s d v interval run ticks due raises => ?_⟩
  · have legal : decide (1200 ≤ fld v 0 12 ∧ fld v 0 12 ≤ 2800) = true := decide_eq_true ⟨low, high⟩
    refine ⟨_, congrArg Host.Outcome.next (State.onMgmt_of_clockedAt run _), ?_⟩
    simp only [State.writePwrlim, legal, Bool.not_true, Bool.false_or, if_true, and_self]
  · have bad : decide (1200 ≤ fld v 0 12 ∧ fld v 0 12 ≤ 2800) = false := decide_eq_false (by omega)
    refine ⟨_, congrArg Host.Outcome.next (State.onMgmt_of_clockedAt run _), ?_⟩
    simp only [State.writePwrlim, bad, Bool.not_false, Bool.true_or, Bool.false_eq_true, if_false, and_self]
  · refine ⟨_, congrArg Host.Outcome.next (State.onMgmt_of_clockedAt run _), ?_⟩
    simp only [State.writePwrmode, idle, Bool.false_eq_true, if_false, and_self]
  · refine ⟨_, congrArg Host.Outcome.next (State.onMgmt_of_clockedAt run _), ?_⟩
    simp only [State.writePwrmode, wakes, if_true]
    exact ⟨rfl, rfl, rfl⟩
  · exact answers_enabled (exec_wakeHoldEnd s) (if_pos (Bool.and_eq_true_iff.2 ⟨hold, decide_eq_true due⟩)) ⟨rfl, rfl⟩
  · obtain ⟨t, settled, holds⟩ := State.settlement_due r power due
    exact answers_enabled (exec_governorSettlement r s) settled holds
  · obtain ⟨t, raised, next, debt⟩ := State.raiseDebt_due interval run ticks due
    exact answers_enabled (exec_freezeDebtRaise d s) raised ⟨debt.trans (by rw [if_pos raises]), next⟩
  · obtain ⟨t, raised, -, debt⟩ := State.raiseDebt_due interval run ticks due
    exact answers_enabled (exec_freezeDebtRaise d s) raised (debt.trans (by rw [raises, if_neg Bool.false_ne_true, Nat.add_zero]))

/-- Settles O32: each event's state, by what the queue holds. -/
theorem hostQueueEventsComplete : Obligations.HostQueueEventsComplete := by
  refine ⟨fun s fn q off bs up owner wide short => ?_, fun s fn q off bs up owner bad => ?_,
    fun s fn q off bs up owner wide last room => ?_, fun s fn q off bs up owner wide last full => ?_,
    fun s fn q up window records => ?_, fun s fn q up none => ?_, fun s q v up unsealed clean free => ?_,
    fun s q v up unsealed clean busy => ?_⟩
  · exact exec_event (exec_stageWrite fn q off bs s) (State.stageWrite_wide up owner wide short)
  · exact exec_event (exec_stageWrite fn q off bs s) (State.stageWrite_refused up owner bad)
  · refine answers_enabled (exec_recordSubmit fn q off bs s) (State.recordSubmit_owner up owner wide last) ?_
    rw [State.submit_room (by rwa [State.queue_onQueue]), State.queue_onQueue]
    exact ⟨rfl, rfl, rfl⟩
  · refine answers_enabled (exec_recordSubmit fn q off bs s) (State.recordSubmit_owner up owner wide last) ?_
    rw [State.submit_full (by rwa [State.queue_onQueue]), State.queue_onQueue]
    exact ⟨rfl, rfl, rfl⟩
  · exact congrArg Host.Outcome.next (State.flush_records up window records)
  · exact congrArg Host.Outcome.next (State.flush_empty fn up none)
  · refine ⟨_, congrArg Host.Outcome.next (State.writeQcfg_open v up unsealed clean), ?_⟩
    dsimp only
    rw [free, if_neg Bool.false_ne_true, State.queue_onQueue]
    exact ⟨rfl, rfl, rfl, rfl, rfl⟩
  · refine ⟨_, congrArg Host.Outcome.next (State.writeQcfg_open v up unsealed clean), ?_⟩
    dsimp only
    rw [busy, if_pos rfl, State.queue_onQueue]
    exact ⟨rfl, rfl⟩

end Sys2Proof.Proofs
end

section
/-! The SPDM responder of a function and its TDI (R79 to R85, R91, R92): what each request leaves. -/

namespace Sys2Proof.Machine

/-! ### Requests of the exchange -/

/-- A request whose step the exchange has come to is answered (R80). -/
theorem State.spdmRequest_reached {s : State} {fn : BitVec 6} {x : Spdm} (up : s.hostUp = true) (reached : x.rank ≤ (s.fn fn).spdm.rank)
    (f : State → State) : s.spdmRequest fn x f = some (f s) := by
  simp only [State.spdmRequest, up, Bool.not_true, Bool.false_eq_true, if_false, if_neg (Nat.not_lt.2 reached)]

/-- A request of one step is answered when the exchange stands there (R80). -/
theorem State.spdmAt_stands {s : State} {fn : BitVec 6} {x : Spdm} (up : s.hostUp = true) (stands : (s.fn fn).spdm = x)
    (f : State → State) : s.spdmAt fn x f = some (f s) := by
  simp only [State.spdmAt, up, Bool.not_true, Bool.false_eq_true, if_false, stands, bne_self_eq_false]

@[simp] theorem State.fn_answer (s : State) (fn i : BitVec 6) (m : DoeMsg) : (s.answer fn m).fn i = s.fn i := rfl

@[simp] theorem State.fn_setSpdm (s : State) (fn : BitVec 6) (x : Spdm) : (s.setSpdm fn x).fn fn = { s.fn fn with spdm := x } :=
  s.fn_onFn fn _

theorem State.getVersion_outside {s : State} {fn : BitVec 6} (up : s.hostUp = true) (outside : (s.fn fn).spdm ≠ .session) :
    s.getVersion fn = some ((s.setSpdm fn .version).answer fn (.version spdmVersions)) := by
  have no : ((s.fn fn).spdm == .session) = false := beq_eq_false_iff_ne.2 outside
  simp only [State.getVersion, up, no, Bool.not_true, Bool.false_eq_true, if_false]

/-- The algorithms are negotiated when the requester offers the choices of Table 03.3. -/
theorem State.negotiate_offered {s : State} {fn : BitVec 6} {l : List SpdmAlg} (up : s.hostUp = true)
    (stands : (s.fn fn).spdm = .capabilities) (offered : ∀ x ∈ spdmAlgs, x ∈ l) :
    s.negotiate fn l = some ((s.setSpdm fn .negotiated).answer fn (.algorithms spdmAlgs)) :=
  (State.spdmAt_stands up stands _).trans (by rw [if_pos (List.all_eq_true.2 fun x hx => List.contains_iff_mem.2 (offered x hx))])

theorem State.getMeasurements_one {s : State} {fn : BitVec 6} {k : Nat} (sign : Bool) (nonce : List Byte) (up : s.hostUp = true)
    (reached : Spdm.negotiated.rank ≤ (s.fn fn).spdm.rank) (low : 1 ≤ k) (high : k ≤ 10) : s.getMeasurements fn k sign nonce =
      some (s.answer fn (.measurements (s.blockBytes fn k) (if sign then some (s.aliasSign (s.blockBytes fn k) nonce) else none))) := by
  have one : blockList k = [k] := by rw [blockList, if_neg (by omega), if_pos ⟨low, high⟩]
  refine (State.spdmRequest_reached up reached _).trans ?_
  rw [one, List.flatMap_singleton, if_neg (by simp)]

theorem State.keyExchange_usable {s : State} {fn : BitVec 6} (req : List Byte) (up : s.hostUp = true)
    (stands : (s.fn fn).spdm = .negotiated) (usable : s.pkg.idOk = true) :
    s.keyExchange fn req = some ((s.setSpdm fn .exchanged).answer fn (.keyExchange (s.aliasSign [] req))) :=
  (State.spdmAt_stands up stands _).trans (congrArg some (if_pos usable))

/-! ### The TDI -/

/-- The end of a session leaves an unlocked TDI as it is (R92). -/
theorem State.fn_endSession {s : State} {fn : BitVec 6} (unlocked : (s.fn fn).tdi = .unlocked) :
    (s.endSession fn).fn fn = { s.fn fn with spdm := .none, secret := [] } := by
  have same : ((s.setSpdm fn .none).onFn fn fun f => { f with secret := [] }).fn fn = { s.fn fn with spdm := .none, secret := [] } := by
    rw [State.fn_onFn, State.fn_setSpdm]
  rw [State.endSession, State.tdiError, same, unlocked]
  exact same

theorem State.tdiError_unlocked {s : State} {fn : BitVec 6} (unlocked : (s.fn fn).tdi = .unlocked) (cause : Nat) :
    s.tdiError fn cause = s := by
  rw [State.tdiError, unlocked]; rfl

theorem State.endSession_event {s : State} {fn : BitVec 6} (up : s.hostUp = true) (session : (s.fn fn).spdm = .session) :
    (if s.hostUp && (s.fn fn).spdm == .session then some (s.endSession fn) else none) = some (s.endSession fn) :=
  if_pos (by rw [up, session]; rfl)

theorem State.ideKey_free {s : State} {fn : BitVec 6} {k : BitVec 3} (up : s.hostUp = true) (session : (s.fn fn).spdm = .session)
    (free : ∀ n < 64, BitVec.ofNat 6 n ≠ fn → (s.fn (BitVec.ofNat 6 n)).ides.contains k = false) :
    s.ideKey fn k = some ((s.onFn fn fun f => { f with ides := k :: f.ides.filter fun x => x != k }).answer fn .ideKey) := by
  refine (State.spdmRequest_reached up (by rw [session]) _).trans (congrArg some (if_neg ?_))
  simp only [List.any_eq_true, List.mem_range, Bool.and_eq_true, bne_iff_ne, not_exists, not_and]
  exact fun n small other => by rw [free n small other]; exact Bool.false_ne_true

theorem State.ideInsecure_unlocked {s : State} {fn : BitVec 6} {k : BitVec 3} (up : s.hostUp = true) (own : k ∈ (s.fn fn).ides)
    (unlocked : (s.fn fn).tdi = .unlocked) :
    s.ideInsecure fn k = some (s.onFn fn fun f => { f with ides := f.ides.filter fun x => x != k }) := by
  have bound : (s.fn fn).ides.contains k = true := List.contains_iff_mem.2 own
  simp only [State.ideInsecure, up, bound, Bool.not_true, Bool.or_self, Bool.false_eq_true, if_false]
  rw [State.tdiError_unlocked (by rw [State.fn_onFn]; exact unlocked)]

/-- An unlocked TDI of a VF with a stream is locked under the lowest free slot (R84, R85). -/
theorem State.lock_free {s : State} {fn : BitVec 6} {k : BitVec 4} (up : s.hostUp = true) (session : (s.fn fn).spdm = .session)
    (vf : fn ≠ 0) (unlocked : (s.fn fn).tdi = .unlocked) (few : s.lockedVfs < 15) (streams : (s.fn fn).ides ≠ [])
    (slot : s.freeTenantSlot = some k) : s.lock fn = some ((s.giveSlot fn k).answer fn (.tdisp .locked)) := by
  have stream : (s.fn fn).ides.isEmpty = false := by simpa using streams
  refine (State.spdmRequest_reached up (by rw [session]) _).trans (congrArg some ?_)
  simp only [if_neg vf, unlocked, bne_self_eq_false, Bool.false_eq_true, if_false, Nat.not_le.2 few, decide_false, stream,
    Bool.or_self, slot]

theorem State.fn_giveSlot (s : State) (fn : BitVec 6) (k : BitVec 4) : (s.giveSlot fn k).fn fn =
    { s.fn fn with tdi := .locked, slot := k, ctrIn := 0, ctrOut := 0, xferKey := xferKeyOf (s.fn fn).secret k } :=
  State.fn_onFn _ fn _

theorem State.startTdi_locked {s : State} {fn : BitVec 6} (up : s.hostUp = true) (session : (s.fn fn).spdm = .session)
    (locked : (s.fn fn).tdi = .locked) :
    s.startTdi fn = some ((s.onFn fn fun f => { f with tdi := .run }).answer fn (.tdisp .run)) :=
  (State.spdmRequest_reached up (by rw [session]) _).trans (congrArg some (if_pos (by rw [locked]; rfl)))

end Sys2Proof.Machine

namespace Sys2Proof.Proofs
open Sys2Proof.Machine Sys2Proof.Claims

/-- Settles O35: each request at its step of the exchange. -/
theorem spdmEventsComplete : Obligations.SpdmEventsComplete := by
  refine ⟨fun s fn up outside => ?_, fun s fn up stands => ?_, fun s fn l up stands offered => ?_, fun s fn up reached => ?_,
    fun s fn off n up reached => ?_, fun s fn nonce up reached => ?_, fun s fn k nonce up reached low high => ⟨?_, ?_⟩,
    fun s fn req up stands usable => ?_, fun s fn up stands => ?_, fun s fn up session => ⟨?_, ?_⟩,
    fun s fn up session unlocked => ⟨?_, ?_⟩, fun s fn up session sealed => ?_⟩
  case refine_1 =>
    refine answers_enabled (exec_getVersion fn s) (State.getVersion_outside up outside) ?_
    rw [State.fn_answer, State.fn_setSpdm]
  case refine_2 =>
    refine answers_enabled (exec_getCapabilities fn s) (State.spdmAt_stands up stands _) ?_
    rw [State.fn_answer, State.fn_setSpdm]
  case refine_3 =>
    refine answers_enabled (exec_negotiateAlgorithms fn l s) (State.negotiate_offered up stands offered) ?_
    rw [State.fn_answer, State.fn_setSpdm]
  case refine_4 => exact exec_event (exec_getDigests fn s) (State.spdmRequest_reached (x := .negotiated) up reached _)
  case refine_5 => exact exec_event (exec_getCertificate fn off n s) (State.spdmRequest_reached (x := .negotiated) up reached _)
  case refine_6 => exact exec_event (exec_challenge fn nonce s) (State.spdmRequest_reached (x := .negotiated) up reached _)
  case refine_7 => exact exec_event (exec_getMeasurements fn k false nonce s) (State.getMeasurements_one false nonce up reached low high)
  case refine_8 => exact exec_event (exec_getMeasurements fn k true nonce s) (State.getMeasurements_one true nonce up reached low high)
  case refine_9 =>
    refine answers_enabled (exec_keyExchange fn req s) (State.keyExchange_usable req up stands usable) ?_
    rw [State.fn_answer, State.fn_setSpdm]
  case refine_10 =>
    refine answers_enabled (exec_finish fn true s) (State.spdmAt_stands up stands _) ?_
    rw [if_pos rfl, State.fn_answer]
    exact congrArg Fn.spdm (s.fn_onFn fn fun f => { f with spdm := .session, secret := freeBytes s.fresh 64 })
  case refine_11 => exact exec_event (exec_heartbeat fn s) (State.spdmRequest_reached up (by rw [session]) _)
  case refine_12 => exact exec_event (exec_keyUpdate fn s) (State.spdmRequest_reached up (by rw [session]) _)
  case refine_13 =>
    refine answers_enabled (exec_endSession fn s) (State.spdmRequest_reached up (by rw [session]) _) ?_
    rw [State.fn_endSession (by rwa [State.fn_answer])]
    exact ⟨rfl, rfl⟩
  case refine_14 =>
    refine answers_enabled (exec_heartbeatFailure fn s) (State.endSession_event up session) ?_
    rw [State.fn_endSession unlocked]
    exact ⟨rfl, rfl⟩
  case refine_15 =>
    refine exec_event (exec_attestationLogRead fn s) ((State.spdmRequest_reached up (by rw [session]) _).trans ?_)
    rw [sealed, if_pos rfl]; rfl

/-- Settles O36: each step of the interface where its conditions hold. -/
theorem tdispEventsComplete : Obligations.TdispEventsComplete := by
  refine ⟨fun s fn k up session free => ?_, fun s fn k up own unlocked => ?_,
    fun s fn k up session vf unlocked few streams slot => ?_, fun s fn up session locked => ?_, fun s fn up session => ?_,
    fun s fn up vf => ?_⟩
  · refine answers_enabled (exec_ideKeyManagement fn k s) (State.ideKey_free up session free) ?_
    rw [State.fn_answer, State.fn_onFn]
    exact List.mem_cons_self
  · refine answers_enabled (exec_ideStreamInsecure fn k s) (State.ideInsecure_unlocked up own unlocked) ?_
    rw [State.fn_onFn]
    exact ⟨by simp, unlocked⟩
  · refine answers_enabled (exec_lockInterface fn s) (State.lock_free up session vf unlocked few streams slot) ?_
    rw [State.fn_answer, State.fn_giveSlot]
    exact ⟨rfl, rfl, rfl, rfl, rfl⟩
  · refine answers_enabled (exec_startInterface fn s) (State.startTdi_locked up session locked) ?_
    rw [State.fn_answer, State.fn_onFn]
  · refine answers_enabled (exec_stopInterface fn s) (State.spdmRequest_reached up (by rw [session]) _) ?_
    rw [State.fn_answer, State.fn_onFn]
  · refine answers_enabled (exec_functionLevelReset fn s) (if_neg (by rw [up, Bool.not_true, Bool.false_or, decide_eq_true_eq]; exact vf)) ?_
    rw [State.fn_onFn]
    exact ⟨rfl, rfl, rfl, rfl⟩

end Sys2Proof.Proofs
end

section
/-! The optical ports and the planes (R54 to R57, R60 to R63, R66 to R70): what each event leaves of its port. -/

namespace Sys2Proof.Machine

/-! ### A port -/

@[simp] theorem State.port_onPort (s : State) (p : Fin 12) (f : Port → Port) : (s.onPort p f).links.port p = f (s.links.port p) :=
  Vector.getElem_set_self p.isLt

/-- A link event changes no port. -/
@[simp] theorem State.links_linkEvent (s : State) (p : Fin 12) (code : Nat) (before after : BitVec 16) (n : Nat) :
    (s.linkEvent p code before after n).links = s.links := State.postEvent_links ..

/-- A flit that is sent again goes on the wavelengths of the port. -/
@[simp] theorem State.port_resend (s : State) (p : Fin 12) : (s.resend p).links.port p =
    { s.links.port p with sent := (s.links.port p).sent ++ (s.links.port p).unacked.map (s.links.port p).waves } :=
  s.port_onPort p fun y => { y with sent := y.sent ++ y.unacked.map y.waves }

theorem State.control_receives {s : State} {p : Fin 12} (up : s.receives p = true) (f : State → State) : s.control p f = some (f s) :=
  if_pos up

/-! ### Light -/

theorem Port.st_lose {x y : Port} {l : Light} (lose : x.lose l = some y) : y.st = x.st := by
  cases l <;> simp only [Port.lose, Option.ite_none_left_eq_some, Option.some.injEq] at lose <;> obtain ⟨-, rfl⟩ := lose
  case wave w => split <;> rfl
  case comb c => split <;> rfl
  all_goals rfl

/-- What a port that is up is after the steps of R55: the live set without the lost quad, the marker, every unacknowledged flit again. -/
def Port.narrowed (x : Port) : Port :=
  { ({ x with live := x.mask }.say (.restripe x.mask)) with
    sent := ({ x with live := x.mask }.say (.restripe x.mask)).sent ++
      x.unacked.map fun f => stripe (popcount 16 x.mask.toNat) (f.bytes x.txKey) }

theorem State.port_narrow {s : State} {p : Fin 12} (up : (s.links.port p).st = .up) (light : (s.links.port p).mask ≠ 0) :
    (s.narrow p).links.port p = (s.links.port p).narrowed := by
  have carries : ((s.links.port p).st != .up) = false := by rw [up]; rfl
  simp only [State.narrow, if_neg light, carries, Bool.false_eq_true, if_false, State.links_linkEvent]
  rw [State.port_resend, State.port_onPort, State.port_onPort]
  rfl

/-- A port that is up and keeps a quad takes the steps of R55 when its own laser fails, or a spare source that stood in does. -/
theorem State.lossOfLight_own {s : State} {p : Fin 12} {l : Light} {x : Port} (optics : bit s.pkg.caps 2 = true)
    (up : (s.links.port p).st = .up) (lose : (s.links.port p).lose l = some x) (own : ∀ w, l ≠ .seen w)
    (data : x.mask ≠ x.live ∨ (∃ w, l = .wave w) ∨ ∃ c, l = .comb c) :
    s.lossOfLight p l = some ((s.onPort p fun _ => x).narrow p) := by
  have up' : (x.st == .down) = false := by rw [Port.st_lose lose, up]; rfl
  have lost : (s.onPort p fun _ => x).lost p l = (s.onPort p fun _ => x).narrow p := by
    unfold State.lost
    dsimp only
    rw [State.port_onPort, up', Bool.false_or]
    rcases data with moved | ⟨w, rfl⟩ | ⟨c, rfl⟩
    · exact if_neg (by rw [beq_eq_false_iff_ne.2 moved, Bool.and_false]; exact Bool.false_ne_true)
    · rfl
    · rfl
  simp only [State.lossOfLight, optics, Bool.not_true, Bool.false_eq_true, if_false, lose, Option.map_some]
  cases l with
  | seen w => exact absurd rfl (own w)
  | _ => exact congrArg some lost

/-- A port whose receiver misses a wavelength says so, and keeps its own stripe (R55). -/
theorem Port.lose_seen {x y : Port} {w : BitVec 4} (lose : x.lose (.seen w) = some y) : y.out = x.out ++ [.dark w] ∧ y.live = x.live := by
  simp only [Port.lose, Option.ite_none_left_eq_some, Option.some.injEq] at lose
  obtain ⟨-, rfl⟩ := lose
  exact ⟨rfl, rfl⟩

/-- What a repair leaves of the sources that stand in (R56). -/
theorem State.spares_widen (s : State) (p : Fin 12) : ((s.widen p).links.port p).spare = (s.links.port p).spare ∧
    ((s.widen p).links.port p).spareWait = (s.links.port p).spareWait ∧ ((s.widen p).links.port p).lambda16 = (s.links.port p).lambda16 ∧
    ((s.widen p).links.port p).lambdaWait = (s.links.port p).lambdaWait := by
  unfold State.widen
  dsimp only
  split
  · exact ⟨rfl, rfl, rfl, rfl⟩
  · rw [State.links_linkEvent]
    split
    · rw [State.port_onPort, State.port_onPort]; exact ⟨rfl, rfl, rfl, rfl⟩
    · rw [State.port_onPort]; exact ⟨rfl, rfl, rfl, rfl⟩

theorem State.spareLock_waits {s : State} {p : Fin 12} {q : BitVec 2} (waits : (s.links.port p).spareWait = some q) :
    s.spareLock p = some ((s.onPort p fun y => { y with spare := some q, spareWait := none }).widen p) := by
  simp only [State.spareLock, waits]

theorem State.lambdaLock_waits {s : State} {p : Fin 12} {w : BitVec 4} (waits : (s.links.port p).lambdaWait = some w) :
    s.lambdaLock p = some ((s.onPort p fun y => { y with lambda16 := some w, lambdaWait := none }).widen p) := by
  simp only [State.lambdaLock, waits]

/-- The port with fresh keys (R61). -/
theorem State.port_newKeys (s : State) (p : Fin 12) : (s.newKeys p).links.port p =
    { s.links.port p with txKey := freeKey s.fresh, rxKey := freeKey (s.fresh + 4), nonce := 0, rxNonce := 0 } :=
  State.port_onPort { s with fresh := s.fresh + 8 } p _

/-! ### Flits -/

/-- Byte j of a flit goes on live wavelength j mod W (R54). -/
theorem getD_stripe {w : Nat} (bs : List Byte) {j : Nat} (waves : 0 < w) (within : j < bs.length) :
    ((stripe w bs).getD (j % w) []).getD (j / w) 0 = bs.getD j 0 := by
  have wave : j % w < w := Nat.mod_lt j waves
  have place : j / w < (bs.length + w - 1 - j % w) / w := by
    rw [Nat.lt_div_iff_mul_lt waves]
    have parts := Nat.div_add_mod j w
    rw [Nat.mul_comm] at parts
    omega
  have at' : (stripe w bs).getD (j % w) [] =
      (List.range ((bs.length + w - 1 - j % w) / w)).map fun k => bs.getD (w * k + j % w) 0 := by
    rw [stripe, List.getD_eq_getElem _ _ (by simpa using wave), List.getElem_map, List.getElem_range]
  rw [at', List.getD_eq_getElem _ _ (by simpa using place), List.getElem_map, List.getElem_range, Nat.div_add_mod]

theorem Port.gap_askReplay (x : Port) : x.askReplay.gap = true := by
  unfold Port.askReplay
  split
  next gap => exact gap
  next => rfl

theorem Port.rxSeq_askReplay (x : Port) : x.askReplay.rxSeq = x.rxSeq := by
  unfold Port.askReplay
  split <;> rfl

/-- An acknowledgement changes what is unacknowledged and the run of replays alone (R62). -/
theorem Port.unacked_ack (x : Port) (k : BitVec 16) : (x.ack k).rxSeq = x.rxSeq ∧ (x.ack k).sent = x.sent ∧ (x.ack k).waves = x.waves := by
  unfold Port.ack
  split <;> exact ⟨rfl, rfl, rfl⟩

/-- The flit that a port reads on its wavelengths, as they come to it (R54). -/
def State.flitAt (s : State) (p : Fin 12) (bs : List Byte) : RxFlit :=
  (s.links.port p).read (stripe (popcount 16 (s.links.port p).rxLive.toNat) bs)

section

variable {s : State} {p : Fin 12} (up : s.receives p = true) (peer : BitVec 7) {bs : List Byte}
include up

theorem State.dataFlit_lost (read : s.flitAt p bs = .lost) : s.dataFlit p peer bs = some (s.onPort p Port.askReplay) := by
  unfold State.flitAt at read
  exact (State.control_receives up _).trans (by simp only [read])

theorem State.dataFlit_good {f : Flit} (read : s.flitAt p bs = .good f) : s.dataFlit p peer bs = some (s.takeFlit p peer f) := by
  unfold State.flitAt at read
  exact (State.control_receives up _).trans (by simp only [read])

end

/-- The next flit in LSEQ order inside the window is acknowledged for, accepted and put into its window (R62, R63). -/
theorem State.takeFlit_next {s : State} {p : Fin 12} {peer : BitVec 7} {f : Flit} (next : f.lseq = (s.links.port p).rxSeq)
    (inside : s.links.aheadOfWindow peer f = false) : s.takeFlit p peer f =
      ((s.onPort p fun y => { y.ack f.lack with tagFails := 0 }).onPort p fun y => y.accept f.vc).resequence peer f := by
  simp only [State.takeFlit, next, BEq.rfl, if_true, inside, Bool.false_eq_true, if_false]

/-- Below eight replays without progress, every unacknowledged flit is sent again (R62). -/
theorem State.port_replay {s : State} {p : Fin 12} (some : (s.links.port p).unacked ≠ []) (few : (s.links.port p).replays < 8) :
    (s.replay p).links.port p = { s.links.port p with
      sent := (s.links.port p).sent ++ (s.links.port p).unacked.map (s.links.port p).waves, replays := (s.links.port p).replays + 1 } := by
  have more : (s.links.port p).unacked.isEmpty = false := by simpa using some
  simp only [State.replay, more, Bool.false_eq_true, if_false, if_neg (Nat.not_le.2 few)]
  rw [State.port_onPort, State.port_resend]

end Sys2Proof.Machine

namespace Sys2Proof.Proofs
open Sys2Proof.Machine Sys2Proof.Claims

/-- Settles O37: each loss, lock and marker at its port. -/
theorem lightEventsComplete : Obligations.LightEventsComplete := by
  refine ⟨fun s p l x optics up lose own light data => ?_, fun s p w x optics lose => ?_, fun s p q waits => ?_, fun s p w waits => ?_,
    fun s p m up => ?_, fun s p up sent => ?_⟩
  · refine answers_enabled (exec_lossOfLight p l s) (State.lossOfLight_own optics up lose own data) ?_
    have narrow := State.port_narrow (s := s.onPort p fun _ => x) (p := p) (by rw [State.port_onPort, Port.st_lose lose, up])
      (by rwa [State.port_onPort])
    rw [State.port_onPort] at narrow
    rw [narrow]
    exact ⟨rfl, (Port.st_lose lose).trans up, rfl, rfl⟩
  · refine answers_enabled (exec_lossOfLight p (.seen w) s) (t := s.onPort p fun _ => x) ?_
      ⟨s.port_onPort p fun _ => x, Port.lose_seen lose⟩
    rw [State.lossOfLight, optics, Bool.not_true, if_neg Bool.false_ne_true, lose]; rfl
  · obtain ⟨spare, waiting, -, -⟩ := (s.onPort p fun y => { y with spare := some q, spareWait := none }).spares_widen p
    refine answers_enabled (exec_spareLaserLock p s) (State.spareLock_waits waits) ?_
    rw [spare, waiting, State.port_onPort]
    exact ⟨rfl, rfl⟩
  · obtain ⟨-, -, lambda, waiting⟩ := (s.onPort p fun y => { y with lambda16 := some w, lambdaWait := none }).spares_widen p
    refine answers_enabled (exec_spareWavelengthLock p s) (State.lambdaLock_waits waits) ?_
    rw [lambda, waiting, State.port_onPort]
    exact ⟨rfl, rfl⟩
  · refine answers_enabled (exec_restripeMarker p m s) (State.control_receives up _) ?_
    rw [State.takeCtl, State.port_onPort]
    exact ⟨rfl, rfl⟩
  · refine answers_enabled (exec_keyRenewalRetraining p s)
      ((if_neg (by rw [sent]; exact Bool.false_ne_true)).trans (State.control_receives up _)) ?_
    rw [State.port_onPort, State.port_newKeys]
    exact ⟨rfl, rfl, rfl, rfl, rfl⟩

/-- Settles O38: each flit and marker at a port that is up. -/
theorem linkLayerEventsComplete : Obligations.LinkLayerEventsComplete := by
  refine ⟨fun w bs j waves within => getD_stripe bs waves within, fun s p peer h data crc tag up read => ?_,
    fun s p peer h data crc tag f up read next inside => ?_, fun s p peer h data crc tag up => ?_, fun s p k up => ?_, fun s p k up => ?_,
    fun s p v n up => ?_, fun s p up => ?_, fun s p k up more few => ?_, fun s p up more few => ?_, fun s p up gap => ?_, fun s p up => ?_⟩
  case refine_1 =>
    refine answers_enabled (exec_dataFlit p peer h data crc tag s) (State.dataFlit_lost up peer read) ?_
    rw [State.port_onPort]
    exact ⟨rfl, Port.rxSeq_askReplay _, Port.gap_askReplay _⟩
  case refine_2 =>
    exact exec_event (exec_dataFlit p peer h data crc tag s)
      ((State.dataFlit_good up peer read).trans (congrArg some (State.takeFlit_next next inside)))
  case refine_3 =>
    refine answers_enabled (exec_dataFlit p peer h data crc tag s) (State.control_receives up _) fun k c read => ?_
    unfold arrives at read
    simp only [read] <;> rfl
  case refine_4 =>
    refine answers_enabled (exec_idleFlit p k s) (State.control_receives up _) ?_
    rw [State.takeCtl, State.port_onPort]
    exact ⟨rfl, (Port.unacked_ack _ k).1⟩
  case refine_5 =>
    refine answers_enabled (exec_acknowledgement p k s) (State.control_receives up _) ?_
    rw [State.takeCtl, State.port_onPort]
    exact ⟨rfl, (Port.unacked_ack _ k).1⟩
  case refine_6 =>
    refine answers_enabled (exec_creditReturn p v n s) (State.control_receives up _) ?_
    rw [State.takeCtl, State.port_onPort]
    exact Vector.getElem_set_self v.isLt
  case refine_7 => exact exec_event (exec_drainMarker p s) (State.control_receives up _)
  case refine_8 =>
    refine answers_enabled (exec_replayRequest p k s) (State.control_receives up _) ?_
    have port := s.port_onPort p fun x => x.ack k
    rw [State.takeCtl, State.port_replay (by rwa [port]) (by rwa [port]), port]
    obtain ⟨-, sent, waves⟩ := (s.links.port p).unacked_ack k
    rw [sent, waves]
  case refine_9 =>
    have some : (s.links.port p).unacked.isEmpty = false := by simpa using more
    refine answers_enabled (exec_replayTimeout p s)
      ((if_neg (by rw [some]; exact Bool.false_ne_true)).trans (State.control_receives up _)) ?_
    rw [State.port_replay more few]
    exact ⟨rfl, rfl⟩
  case refine_10 =>
    refine answers_enabled (exec_replayRequestRepeat p s)
      ((if_neg (by rw [gap]; exact Bool.false_ne_true)).trans (State.control_receives up _)) ?_
    rw [State.port_onPort]; rfl
  case refine_11 =>
    refine answers_enabled (exec_acknowledgementTimer p s) (State.control_receives up _) ?_
    rw [State.port_onPort]
    exact ⟨rfl, rfl⟩

end Sys2Proof.Proofs
end

section
/-! Planes and membership (R66 to R70): drain, enable and the writes of MEMBERSET. -/

namespace Sys2Proof.Machine

@[simp] theorem State.plane_setPlane (s : State) (k : Fin 4) (v : PlaneSt) : (s.setPlane k v).links.planes.get k = v :=
  Vector.getElem_set_self k.isLt

/-- What changes ports alone leaves the planes. -/
theorem State.planes_foldPorts (f : Fin 12 → Port → Port) (l : List (Fin 12)) (s : State) :
    (l.foldl (fun s p => s.onPort p (f p)) s).links.planes = s.links.planes ∧
      (l.foldl (fun s p => s.onPort p (f p)) s).links.planeCommit = s.links.planeCommit := by
  induction l generalizing s with
  | nil => exact ⟨rfl, rfl⟩
  | cons p l ih => exact ih (s.onPort p (f p))

theorem State.get_of_allPlanes {s : State} {v : PlaneSt} (all : s.links.planes.toList.all (fun x => x == v) = true) (k : Fin 4) :
    s.links.planes.get k = v :=
  beq_iff_eq.1 (List.all_eq_true.1 all _ (by
    rw [show s.links.planes.get k = s.links.planes[k.val] from rfl]
    exact Vector.mem_toList_iff.2 (Vector.getElem_mem k.isLt)))

/-- With all four planes enabled a plane drains without FORCE (R70). -/
theorem State.planeDrain_all {s : State} (all : s.links.planes.toList.all (fun x => x == .enabled) = true) (k : Fin 4) :
    s.planeDrain k false = s.drainPlane k := by
  have on : (s.links.planes.get k != .enabled) = false := by rw [State.get_of_allPlanes all]; rfl
  have four : (s.links.planes.toList.filter fun x => x == .enabled).length = 4 := by
    rw [List.filter_eq_self.2 (List.all_eq_true.1 all), Vector.length_toList]
  simp only [State.planeDrain, on, four, Bool.false_eq_true, if_false, Nat.lt_irrefl, decide_false, Bool.and_false]

theorem State.planeDrain_force {s : State} {k : Fin 4} (on : s.links.planes.get k = .enabled) :
    s.planeDrain k true = { s.drainPlane k with links := { (s.drainPlane k).links with leaving := true } } := by
  have on : (s.links.planes.get k != .enabled) = false := by rw [on]; rfl
  simp only [State.planeDrain, on, Bool.false_eq_true, if_false, Bool.not_true, Bool.false_and, if_true]

theorem State.planeEnable_refused {s : State} {k : Fin 4} (optics : bit s.pkg.caps 2 = true) (carries : s.links.planes.get k ≠ .drained)
    (commit : Bool) : s.planeEnable k commit = s.cfgError 2 := by
  have carries : (s.links.planes.get k != .drained) = true := bne_iff_ne.2 carries
  simp only [State.planeEnable, optics, Bool.not_true, Bool.false_eq_true, if_false, carries, if_true]

/-- A bit of the field that says whether a plane's ENABLE commits (R70). -/
theorem getLsbD_setBits (x : BitVec 4) (k : Fin 4) (b : Bool) :
    (BitVec.ofNat 4 (setBits x.toNat k.val 1 b.toNat)).getLsbD k.val = b := by
  rw [BitVec.getLsbD_ofNat, decide_eq_true k.isLt, Bool.true_and, testBit_setBits, if_pos ⟨Nat.le_refl _, Nat.lt_succ_self _⟩,
    Nat.sub_self]
  cases b <;> rfl

/-- A drained plane trains, and notes whether its end commits (R67, R70). -/
theorem State.planeEnable_drained {s : State} {k : Fin 4} (optics : bit s.pkg.caps 2 = true) (drained : s.links.planes.get k = .drained)
    (commit : Bool) : ((s.planeEnable k commit).links.planes.get k = .training) ∧
      (s.planeEnable k commit).links.planeCommit.getLsbD k.val = commit := by
  have carries : (s.links.planes.get k != .drained) = false := by rw [drained]; rfl
  simp only [State.planeEnable, optics, Bool.not_true, Bool.false_eq_true, if_false, carries]
  obtain ⟨planes, commits⟩ := State.planes_foldPorts (fun _ x => { x with st := .training }.say .train) (planePorts k)
    { s.setPlane k .training with links := { (s.setPlane k .training).links with
      planeCommit := BitVec.ofNat 4 (setBits s.links.planeCommit.toNat k.val 1 commit.toNat) } }
  rw [planes, commits]
  exact ⟨s.plane_setPlane k .training, getLsbD_setBits s.links.planeCommit k commit⟩

theorem State.planeDrained_empty {s : State} {k : Fin 4} (draining : s.links.planes.get k = .draining)
    (empty : ∀ p ∈ planePorts k, (s.links.port p).unacked = []) :
    ∃ t, s.planeDrained k = some t ∧ t.links.planes.get k = .drained := by
  have waits : (planePorts k).any (fun p => !(s.links.port p).unacked.isEmpty) = false :=
    List.any_eq_false.2 fun p hp => by rw [empty p hp]; exact Bool.false_ne_true
  simp only [State.planeDrained, draining, bne_self_eq_false, waits, Bool.or_self, Bool.false_eq_true, if_false]
  refine ⟨_, rfl, ?_⟩
  rw [State.postEvent_links, (State.planes_foldPorts (fun _ x => { x with st := if x.st == .down then .down else .drained }) _ _).1]
  exact s.plane_setPlane k .drained

theorem State.planeEnabled_trained {s : State} {k : Fin 4} (training : s.links.planes.get k = .training) (optics : s.opticsUp = true) :
    s.planeEnabled k =
      let x := (planePorts k).foldl (fun s p => ((s.onPort p Port.trained).newKeys p).floorBack p) (s.setPlane k .enabled)
      some ((if s.links.planeCommit.getLsbD k.val then ({ x with links := x.links.commit } : State) else x).routesLost.postEvent
        0 0x55 1 0 (leBytes 8 (k.val * 2 ^ 48))) := by
  simp only [State.planeEnabled, training, optics, bne_self_eq_false, Bool.not_true, Bool.or_self, Bool.false_eq_true, if_false]

theorem State.writeMember_optics {s : State} (optics : bit s.pkg.caps 2 = true) (v : Word) : s.writeMember v =
    if s.links.planes.toList.all fun x => x == .drained then { s with links := { s.links with memberSet := BitVec.ofNat 7 v.toNat } }
    else s.cfgError 1 := by
  simp only [State.writeMember, optics, Bool.not_true, Bool.false_eq_true, if_false]

end Sys2Proof.Machine

namespace Sys2Proof.Proofs
open Sys2Proof.Machine Sys2Proof.Claims

/-- Settles O39: each event by the state of its plane. -/
theorem planeEventsComplete : Obligations.PlaneEventsComplete := by
  refine ⟨fun s k run all => ?_, fun s k run on => ?_, fun s k run optics carries => ?_, fun s k run optics drained => ?_,
    fun s k run optics drained => ?_, fun s k draining empty => ?_, fun s k x training optics trained => ?_,
    fun s v run optics all => ?_, fun s v run optics some => ?_⟩
  · exact congrArg Host.Outcome.next ((State.onMgmt_of_clockedAt run _).trans (State.planeDrain_all all k))
  · exact congrArg Host.Outcome.next ((State.onMgmt_of_clockedAt run _).trans (State.planeDrain_force on))
  · exact ⟨_, congrArg Host.Outcome.next ((State.onMgmt_of_clockedAt run _).trans (State.planeEnable_refused optics carries false)),
      rfl, rfl⟩
  · exact ⟨_, congrArg Host.Outcome.next (State.onMgmt_of_clockedAt run _), State.planeEnable_drained optics drained false⟩
  · exact ⟨_, congrArg Host.Outcome.next (State.onMgmt_of_clockedAt run _), State.planeEnable_drained optics drained true⟩
  · obtain ⟨t, result, holds⟩ := State.planeDrained_empty draining empty
    exact answers_enabled (exec_planeDrained k s) result holds
  · subst trained
    exact exec_event (exec_planeEnabled k s) (State.planeEnabled_trained training optics)
  · exact ⟨_, congrArg Host.Outcome.next ((State.onMgmt_of_clockedAt run _).trans ((State.writeMember_optics optics v).trans
      (if_pos all))), rfl⟩
  · exact ⟨_, congrArg Host.Outcome.next ((State.onMgmt_of_clockedAt run _).trans ((State.writeMember_optics optics v).trans
      (if_neg (by rw [some]; exact Bool.false_ne_true)))), rfl, rfl⟩

end Sys2Proof.Proofs
end

section
/-! Requests of other packages and what is told of a superstep or a stream (R72, R75, R387, R389, R393, R394, R397, R398). -/

namespace Sys2Proof.Machine

/-! ### Requests at their owner or consumer -/

/-- A request that fails a check at its first touch is refused with the status of that check (R72). -/
theorem State.serve_refused {s : State} {i : Nat} {p : Packet} {r : Nat} {ev : Bool} (first : p.checked = false) (k : List Nat)
    (check : (Claims.noted s p).requestCheck p = .error (r, ev)) (good : ev = true → (Claims.noted s p).requestBad p = none) :
    s.serve i p k = ((Claims.noted s p).dropInbox i).refuse p r ev := by
  have told : (ev && ((Claims.noted s p).requestBad p).isSome) = false := by
    cases ev with
    | false => rfl
    | true => rw [good rfl]; rfl
  unfold Claims.noted at check told ⊢
  simp only [State.serve, first, Bool.false_eq_true, if_false, check, told]

theorem State.serve_performed {s s1 : State} {i : Nat} {p q : Packet} {work : List Piece} (first : p.checked = false)
    (check : (Claims.noted s p).requestCheck p = .ok work) (good : (Claims.noted s p).requestBad p = none)
    (performed : (Claims.noted s p).performPieces { p with checked := true, work := work } work = (s1, some q)) (done : q.work = []) :
    s.serve i p [] = (s1.dropInbox i).finishRequest q := by
  unfold Claims.noted at check good performed
  simp only [State.serve, first, Bool.false_eq_true, if_false, check, good, Option.isSome_none, Bool.and_false, List.isEmpty_nil,
    if_true, performed, done]

theorem State.serveAt_all {s : State} {op : BitVec 6} {i : Nat} {p : Packet} (received : s.inboxAt op i = some p)
    (run : (s.workOf p).any s.pieceRests = false) : s.serveAt op i [] = some (s.serve i p []) := by
  simp only [State.serveAt, received, Option.bind_some, List.isEmpty_nil, if_true, run, Bool.false_eq_true, if_false]

/-! ### Atomics -/

theorem State.serveAmo_applied {s s1 : State} {i : Nat} {p : Packet} {op : AmoOp} {work : List Piece} {old : Word}
    (received : s.inboxAt 0x06 i = some p) (form : aopOf p.aop = some op) (check : s.requestCheck p = .ok work)
    (good : s.requestBad p = none) (run : (s.workOf p).any s.pieceRests = false)
    (applied : (s.dropInbox i).applyAmo { p with work := work } op = (s1, some old)) :
    s.serveAmo i = some (s1.answerTo p p.src 0x07 stOk old) := by
  simp only [State.serveAmo, received, run, Bool.not_false, Option.filter_some, if_true, Option.map_some, form, check, good,
    Option.isSome_none, Bool.false_eq_true, if_false, applied]

theorem State.serveAmo_refused {s : State} {i : Nat} {p : Packet} {op : AmoOp} {r : Nat} {ev : Bool}
    (received : s.inboxAt 0x06 i = some p) (form : aopOf p.aop = some op) (check : s.requestCheck p = .error (r, ev))
    (good : ev = true → s.requestBad p = none) (run : (s.workOf p).any s.pieceRests = false) :
    s.serveAmo i = some ((s.dropInbox i).refuse p r ev) := by
  have told : (ev && (s.requestBad p).isSome) = false := by
    cases ev with
    | false => rfl
    | true => rw [good rfl]; rfl
  simp only [State.serveAmo, received, run, Bool.not_false, Option.filter_some, if_true, Option.map_some, form, check, told,
    Bool.false_eq_true, if_false]

theorem State.hbm_emit (s : State) (p : Packet) : (s.emit p).hbm = s.hbm ∧ (s.emit p).links.ordHeld = s.links.ordHeld := by
  unfold State.emit
  split <;> exact ⟨rfl, rfl⟩

/-- An ordered atomic that its owner accepts is held until its superstep closes, and nothing is written (R388). -/
theorem State.serveOrd_accepted {s : State} {i : Nat} {p : Packet} {op : AmoOp} {work : List Piece}
    (received : s.inboxAt 0x08 i = some p) (form : aopOf p.aop = some op) (check : s.requestCheck p = .ok work)
    (good : s.requestBad p = none) (member : (s.links.groupMembers p.group.toNat).contains p.src = true)
    (under : s.links.stepOver p.group (s.links.stepOf p.src p.group) = false) :
    ∃ t, s.serveOrd i = some t ∧ t.links.ordHeld = s.links.ordHeld ++
      [⟨p.group, s.links.stepOf p.src p.group, { p with checked := true, work := work }⟩] ∧ t.hbm = s.hbm := by
  simp only [State.serveOrd, received, Option.map_some, form, check, good, Option.isSome_none, Bool.false_eq_true, if_false, member,
    under, Bool.not_true, Bool.or_self]
  obtain ⟨hbm, held⟩ := (s.dropInbox i).hbm_emit { packet0 with
    op := 0x0A, src := (s.dropInbox i).links.memberSet, dst := p.src, die := BitVec.ofNat 2 (p.reqctx.toNat / 4), vc := 1, rtag := p.rtag,
    taddr := p.taddr, status := BitVec.ofNat 8 stOk, reqm := p.reqm, group := p.group, reqctx := p.reqctx, operand := 0 }
  exact ⟨_, rfl, congrArg (· ++ _) held, hbm⟩

/-! ### Supersteps and streams -/

/-- A message of a member, whose superstep is not over, is kept, and the superstep moves on (R394). -/
theorem State.sstepMsg_kept {s : State} {op : BitVec 6} {i : Nat} {p : Packet} {l : Links} (received : s.inboxAt op i = some p)
    (member : (s.links.groupMembers p.group.toNat).contains p.src = true) (ready : op = opReady → s.closeRests p.group p.seq.toNat = false)
    (arrivals : l = if op = opArrive then (s.dropInbox i).links.arrived p.src p.group (p.seq.toNat + 1)
      else if op = opAbort then (s.dropInbox i).links.arrived p.src p.group
        (max ((s.dropInbox i).links.stepOf p.src p.group) (p.seq.toNat + 1))
      else (s.dropInbox i).links) (under : l.stepOver p.group p.seq.toNat = false) :
    s.sstepMsg op i = some (State.stepOn p.group p.seq.toNat 5 { s.dropInbox i with
      links := { l with smsgs := l.smsgs ++ [⟨op, p.src, p.group, p.seq.toNat, p.status, BitVec.ofNat 7 p.operand.toNat⟩] } }) := by
  have moves : (op == opReady && s.closeRests p.group p.seq.toNat) = false := by
    by_cases own : op = opReady
    · rw [ready own, Bool.and_false]
    · rw [beq_eq_false_iff_ne.2 own, Bool.false_and]
  simp only [← beq_iff_eq (a := op)] at arrivals
  simp only [State.sstepMsg, received, moves, Bool.not_false, Option.filter_some, if_true, Option.map_some, member, Bool.not_true,
    Bool.false_eq_true, if_false, ← arrivals, under]

theorem State.sstepTimeout_due {s : State} {k : Nat} {x : SStep} {m : BitVec 7} (under : s.links.ssteps[k]? = some x)
    (waits : x.phase = 1) (due : fabricWait ≤ ((s.dieAt x.die).tick - x.since).toNat)
    (missing : (s.links.stepMembers x).find? (fun m => !s.links.holds x opArrive m) = some m) :
    s.sstepTimeout k = some (s.abortStep x stTimeout m.toNat) := by
  have open' : ¬(x.phase ≠ 1 ∨ ((s.dieAt x.die).tick - x.since).toNat < fabricWait) := fun h =>
    h.elim (fun other => other waits) (Nat.not_lt.2 due)
  simp only [State.sstepTimeout, under, if_neg open', missing, Option.map_some]

theorem State.streamRow_matches {s : State} {i : Nat} {p : Packet} (received : s.inboxAt 0x14 i = some p)
    (own : streamMatches (s.streamAt p.router (BitVec.ofNat 4 p.taddr.toNat)).cfg p = true) : s.streamRow i =
      some (((s.dropInbox i).onStreamAt p.router (BitVec.ofNat 4 p.taddr.toNat) fun x =>
        { x with buf := x.buf ++ [BitVec.ofNat 2048 (leAt p.data 0 256)] }).feedSpop p.router (BitVec.ofNat 4 p.taddr.toNat)) := by
  simp only [State.streamRow, received, Option.map_some, own, if_true]

theorem State.streamAt_onStreamAt (s : State) (d : DieId) (n : BitVec 4) (f : Stream → Stream) :
    (s.onStreamAt d n f).streamAt d n = f (s.streamAt d n) := by
  rw [State.streamAt, State.onStreamAt, State.dieAt_onDieAt]
  exact Vector.getElem_set_self n.isLt

theorem State.streamCredit_matches {s : State} {i : Nat} {p : Packet} (received : s.inboxAt 0x15 i = some p)
    (own : streamMatches (s.streamAt p.router (BitVec.ofNat 4 p.taddr.toNat)).cfg p = true) : s.streamCredit i =
      some ((s.dropInbox i).onStreamAt p.router (BitVec.ofNat 4 p.taddr.toNat) fun x => { x with credits := min 32 (x.credits + 1) }) := by
  simp only [State.streamCredit, received, Option.map_some, own, if_true]

/-- A wait on a stream that has lasted longer than its watchdog ends with the group opened at the slot that waits (R398). -/
theorem State.streamTimeout_due {s u : State} {c : CtxId} {n : BitVec 4} {t : BitVec 64} {b : Bool} {x : State}
    (waits : (s.die.ctxAt c).blocked = some (n, t, b)) (dog : fld (s.streamAt s.turn n).cfg 32 24 ≠ 0)
    (due : 2000 * fld (s.streamAt s.turn n).cfg 32 24 < (s.die.tick - t).toNat) (run : s.die.frozen = false)
    (opened : ((s.onCtxAt s.turn c fun y => { y with blocked := some (n, t, true) }).settled c).1.openNext c 0 [] = (x, .ok u)) :
    s.streamTimeout s.turn c = some u := by
  have open' : ¬(s.turn ≠ s.turn ∨ fld (s.streamAt s.turn n).cfg 32 24 = 0 ∨
      ((s.dieAt s.turn).tick - t).toNat ≤ 2000 * fld (s.streamAt s.turn n).cfg 32 24 ∨ s.die.frozen = true) := by
    rw [run]
    rintro (h | h | h | h)
    · exact h rfl
    · exact dog h
    · exact absurd due (Nat.not_lt.2 h)
    · exact Bool.noConfusion h
  have waits : ((s.dieAt s.turn).ctxAt c).blocked = some (n, t, b) := waits
  simp only [State.streamTimeout, waits, if_neg open', opened]

end Sys2Proof.Machine

namespace Sys2Proof.Proofs
open Sys2Proof.Machine Sys2Proof.Claims

/-- A code whose packets are served as R72 says is served so whole. -/
theorem serves_of_serveAt {i : Nat → List Nat → Instr} {op : BitVec 6} {name : String}
    (meaning : ∀ n s, exec (i n []) s = enabled name (s.serveAt op n [])) : Serves i op := by
  refine ⟨fun s n p r ev received first run check good => ?_, fun s n p work s1 q received first run check good performed done => ?_⟩
  · exact exec_event (meaning n s) ((State.serveAt_all received run).trans (congrArg some (State.serve_refused first [] check good)))
  · exact exec_event (meaning n s)
      ((State.serveAt_all received run).trans (congrArg some (State.serve_performed first check good performed done)))

/-- Settles O40: each request by its checks. -/
theorem fabricRequestsComplete : Obligations.FabricRequestsComplete := by
  refine ⟨serves_of_serveAt fun n s => exec_readRequest n [] s, serves_of_serveAt fun n s => exec_writeRequest n [] s,
    serves_of_serveAt (i := fun p _ => .flagRequest p) fun n s => exec_flagRequest n s,
    serves_of_serveAt fun n s => exec_threePartyRequest n [] s, serves_of_serveAt fun n s => exec_delivery n [] s,
    serves_of_serveAt fun n s => exec_reductionRead n [] s, fun s i p op work s1 old received form check good run applied => ?_,
    fun s i p op r ev received form check good run => ?_, fun s i p op work received form check good member under => ?_⟩
  · exact exec_event (exec_atomicRequest i s) (State.serveAmo_applied received form check good run applied)
  · exact exec_event (exec_atomicRequest i s) (State.serveAmo_refused received form check good run)
  · obtain ⟨t, result, holds⟩ := State.serveOrd_accepted received form check good member under
    exact answers_enabled (exec_orderedAtomicRequest i s) result holds

theorem told_of_sstepMsg {i : Nat → Instr} {op : BitVec 6} {name : String} (meaning : ∀ n s, exec (i n) s = enabled name (s.sstepMsg op n)) :
    Told i op :=
  fun s n _ _ received member ready arrivals under =>
    exec_event (meaning n s) (State.sstepMsg_kept received member ready arrivals under)

/-- Settles O42: each message, row and credit where it belongs to a superstep or a stream, and the two waits that end. -/
theorem superstepAndStreamEventsComplete : Obligations.SuperstepAndStreamEventsComplete := by
  refine ⟨told_of_sstepMsg exec_superstepArrive, told_of_sstepMsg exec_superstepReady, told_of_sstepMsg exec_superstepAbort,
    told_of_sstepMsg exec_superstepDone, fun s k x m under waits due missing => ?_, fun s i p received own => ?_,
    fun s i p received own => ?_, fun s c n t b x u waits dog due run opened => ?_⟩
  · exact exec_event (exec_superstepTimeout k s) (State.sstepTimeout_due under waits due missing)
  · exact exec_event (exec_streamRow i s) (State.streamRow_matches received own)
  · refine answers_enabled (exec_streamCredit i s) (State.streamCredit_matches received own) ?_
    rw [State.streamAt_onStreamAt]; rfl
  · exact exec_event (exec_streamtimeout s.turn c s) (State.streamTimeout_due waits dog due run opened)

end Sys2Proof.Proofs
end

section
/-! Bring-up, resets and errors (R15, R20, R28, R30, R34, R37, R79, R195, R274): what each stage and each loss leaves. -/

namespace Sys2Proof.Machine

/-! ### Stages -/

theorem State.stageA_passes {s : State} (under : s.inStage 1 = true) (passes : s.pkg.failing = none) : s.stageA = some s.bootA := by
  simp only [State.stageA, under, Bool.not_true, Bool.false_eq_true, if_false, passes]

theorem State.stageA_fails {s : State} {k : Nat} (under : s.inStage 1 = true) (fails : s.pkg.failing = some k) : s.stageA =
    some (s.onPkg fun p => { p with bootFail := BitVec.ofNat 4 k, fail := 0x11, halted := true }) := by
  simp only [State.stageA, under, Bool.not_true, Bool.false_eq_true, if_false, fails]

theorem State.stage_of_inStage {s : State} {n : Nat} (under : s.inStage n = true) : s.pkg.stage = n := by
  simp only [State.inStage, Bool.and_eq_true, beq_iff_eq] at under
  exact under.1.2

/-- Dies 0 and 2 leave reset with the code of die 1 (R34, R109). -/
theorem State.stageD_straps {s : State} (under : s.inStage 4 = true) : ∃ t, s.stageD false false = some t ∧
    t.pkg.stage = 5 ∧ t.pkg.level = 2 ∧ t.pkg.dieUp = 7 ∧ t.pkg.hbmFull = true ∧
      t.dieAt 0 = { Die.reset 0 with pstore := (s.dieAt 1).pstore } ∧ t.dieAt 2 = { Die.reset 2 with pstore := (s.dieAt 1).pstore } := by
  simp only [State.stageD, under, Bool.not_true, Bool.or_self, Bool.false_eq_true, if_false]
  exact ⟨_, rfl, rfl, rfl, rfl, rfl,
    ((s.putDieAt 0 _).dieAt_putDieAt_ne (d := 2) (e := 0) _ (by decide)).trans (s.dieAt_putDieAt 0 _),
    (s.putDieAt 0 _).dieAt_putDieAt 2 _⟩

theorem State.stageD_fault {s : State} {x y : Bool} (under : s.inStage 4 = true) (fault : (x || y) = true) :
    s.stageD x y = some (s.onPkg fun p => { p with fail := 0x21, halted := true }) := by
  simp only [State.stageD, under, Bool.not_true, Bool.false_eq_true, if_false, fault, if_true]

/-- Level 3 with the units that the part has and that have not failed (R37). -/
theorem State.stageE_units {s : State} (under : s.inStage 5 = true) (level : s.pkg.level = 2) : ∃ t, s.stageE = some t ∧
    t.pkg.level = 3 ∧ t.pkg.optUp = (!s.pkg.optFail && bit s.pkg.caps 2) ∧ t.pkg.padUp = (!s.pkg.padFail && bit s.pkg.caps 0) := by
  have pkg (s : State) (b : Bool) (l : List Nat) : (if b then s.measure l else s).pkg = s.pkg := by split <;> rfl
  simp only [State.stageE, under, level, BEq.rfl, Bool.and_self, if_true, Option.some.injEq, exists_eq_left', State.onPkg, pkg]
  exact ⟨trivial, trivial, trivial⟩

/-- A stage that fails before stage E keeps the level and halts bring-up (R37). -/
theorem State.stageFailure_halts {s : State} {c : BitVec 8} (power : s.pkg.power = true) (under : s.pkg.stopped = false)
    (early : s.pkg.stage ≠ 5) (code : c.toNat ∈ s.pkg.failsWith) : s.stageFailure c =
      some (if c == 0x21 then
          (s.onPkg fun p => { p with fail := c, halted := true }).onDieAt 1 fun d => { d with heldReset := true }
        else s.onPkg fun p => { p with fail := c, halted := true }) := by
  have early : (s.pkg.stage == 5) = false := beq_eq_false_iff_ne.2 early
  simp only [State.stageFailure, power, under, List.contains_iff_mem.2 code, Bool.not_true, Bool.or_self, Bool.false_eq_true, if_false,
    early]

theorem State.stageFailure_late {s : State} {c : BitVec 8} (power : s.pkg.power = true) (under : s.pkg.stopped = false)
    (late : s.pkg.stage = 5) (code : c.toNat ∈ s.pkg.failsWith) : s.stageFailure c =
      some (s.onPkg fun p => { p with fail := c, optFail := p.optFail || c == 0x32, padFail := p.padFail || c == 0x33 }) := by
  simp only [State.stageFailure, power, under, List.contains_iff_mem.2 code, Bool.not_true, Bool.or_self, Bool.false_eq_true, if_false,
    late, BEq.rfl, if_true]

/-! ### Losses -/

theorem Package.tooHot_of {p : Package} (hot : 115 ≤ p.tempDie.toNat ∨ 80 ≤ p.tempLaser.toNat) : p.tooHot = true := decide_eq_true hot

/-- A die that leaves service is out of it, and no longer up (R20, R47). -/
theorem State.dieOut_self (s : State) (d : DieId) (code fail : BitVec 8) : (s.dieOut d code fail).pkg.fail = fail ∧
    ((s.dieOut d code fail).dieAt d).outOfService = true ∧ (s.dieOut d code fail).pkg.dieUp.getLsbD d.val = false := by
  have cleared (n : Nat) : (setBits n d.val 1 0).testBit d.val = false := by
    rw [testBit_setBits, if_pos ⟨Nat.le_refl _, Nat.lt_succ_self _⟩, Nat.zero_testBit]
  refine ⟨rfl, ?_, (BitVec.getLsbD_ofNat ..).trans (by rw [cleared, Bool.and_false])⟩
  exact congrArg Die.outOfService (State.dieAt_onDieAt _ d fun x => { x with outOfService := true })

/-! ### Errors -/

/-- A soft error of a context with a task waits as a machine check of it (R274). -/
theorem State.parity_task {s : State} {d : DieId} {c : CtxId} {k : Task} (run : s.clockedAt d = true)
    (used : ((s.dieAt d).ctxAt c).kind ≠ .none) (task : s.task? ((s.dieAt d).ctxAt c).lid = some k) :
    s.parity d c = some (s.defer d c ⟨0x43, 0, 0, ((s.dieAt d).ctxAt c).baseCount (s.dieAt d).scy, 2, 0⟩) := by
  have used : (((s.dieAt d).ctxAt c).kind == .none) = false := beq_eq_false_iff_ne.2 used
  simp only [State.parity, run, Bool.not_true, Bool.false_eq_true, if_false, used, task]

theorem State.parity_unused {s : State} {d : DieId} {c : CtxId} (run : s.clockedAt d = true)
    (unused : ((s.dieAt d).ctxAt c).kind = .none) : s.parity d c = some (s.postEvent 0 0x24 d 0 (leBytes 8 0 ++ [0x43])) := by
  simp only [State.parity, run, Bool.not_true, Bool.false_eq_true, if_false, unused, BEq.rfl, if_true]

theorem State.scrub_clocked {s : State} {d : DieId} {u : Nat} (run : s.clockedAt d = true) (unit : u < spUnits) (new : List (Nat × Ecc)) :
    s.scrub d u new = some ((s.onDieAt d fun x => new.foldl Die.hitUnit x).eccRead d u).1 := by
  simp only [State.scrub, run, decide_eq_false (Nat.not_le.2 unit), Bool.not_true, Bool.or_self, Bool.false_eq_true, if_false]

theorem State.onDieAt_same (s : State) (d : DieId) : (s.onDieAt d fun x => x) = s := by
  simp only [State.onDieAt, State.putDieAt]
  rw [show s.dies.set d.val (s.dieAt d) d.isLt = s.dies from Vector.set_getElem_self d.isLt]

/-- A single error that a read meets is corrected, counted and paid for with 32 frozen cycles (R195). -/
theorem State.eccRead_single {s : State} {d : DieId} {u : Nat} (single : (s.dieAt d).spEcc.lookup u = some .single) :
    (s.eccRead d u).1.pkg.errSram = satInc16 s.pkg.errSram 1 ∧
      (s.eccRead d u).1.dieAt d = { (s.dieAt d).raiseFreeze 32 0 with spEcc := (s.dieAt d).spEcc.filter fun y => y.1 != u } := by
  have die := s.dieAt_onDieAt d fun x => { x.raiseFreeze 32 0 with spEcc := x.spEcc.filter fun y => y.1 != u }
  simp only [State.eccRead, single]
  exact ⟨rfl, die⟩

theorem lookup_filter_self {α : Type} (u : Nat) (l : List (Nat × α)) : (l.filter fun y => y.1 != u).lookup u = none := by
  induction l with
  | nil => rfl
  | cons x l ih =>
    by_cases h : x.1 = u
    · rw [List.filter_cons_of_neg (by simp [h])]; exact ih
    · rw [List.filter_cons_of_pos (by simpa using h), List.lookup_cons, beq_eq_false_iff_ne.2 (Ne.symm h)]; exact ih

section

variable {s : State} {pa : Nat} (power : s.pkg.power = true) (inside : pa < hbmSize)
include power inside

theorem State.hbmScrub_powered (bad : List Nat) : s.hbmScrub pa bad =
    let s : State := { s with hbmEcc := bad ++ s.hbmEcc.filter fun a => !bad.contains a }
    if s.hbmBad pa 1 then some (s.postEvent 0 0x24 ⟨hbmDie pa % 3, by omega⟩ 0 (leBytes 8 pa ++ [0x41]))
    else if bad.isEmpty then some { s with pkg := { s.pkg with errHbm := satInc16 s.pkg.errHbm 1 } }
    else some s := by
  simp only [State.hbmScrub, power, decide_eq_false (Nat.not_le.2 inside), Bool.not_true, Bool.or_self, Bool.false_eq_true, if_false]

/-- With no new error a read of the scrubber leaves the list of errors. -/
theorem State.hbmScrub_nil : s.hbmScrub pa [] =
    if s.hbmBad pa 1 then some (s.postEvent 0 0x24 ⟨hbmDie pa % 3, by omega⟩ 0 (leBytes 8 pa ++ [0x41]))
    else some { s with pkg := { s.pkg with errHbm := satInc16 s.pkg.errHbm 1 } } := by
  have same : s.hbmEcc.filter (fun a => !([] : List Nat).contains a) = s.hbmEcc := List.filter_eq_self.2 fun _ _ => rfl
  rw [State.hbmScrub_powered power inside, same]
  rfl

/-- A new error is listed, and no byte of device memory changes (R15). -/
theorem State.hbmScrub_new (bad : List Nat) : ∃ t, s.hbmScrub pa bad = some t ∧ t.hbm = s.hbm ∧
    t.hbmEcc = bad ++ s.hbmEcc.filter fun a => !bad.contains a := by
  rw [State.hbmScrub_powered power inside]
  dsimp only
  split
  · exact ⟨_, rfl, State.postEvent_hbm .., State.postEvent_hbmEcc ..⟩
  · split <;> exact ⟨_, rfl, rfl, rfl⟩

end

end Sys2Proof.Machine

namespace Sys2Proof.Proofs
open Sys2Proof.Machine Sys2Proof.Claims

/-- Settles O27: each stage by its check, each failure by its stage. -/
theorem bringUpStagesComplete : Obligations.BringUpStagesComplete := by
  refine ⟨fun s off => ?_, fun s under passes => ?_, fun s k under fails => ?_, fun s under => ?_, fun s under => ?_, fun s under => ?_,
    fun s x y under fault => ?_, fun s under level => ?_, fun s c power under early code => ?_, fun s c power under late code => ?_⟩
  case refine_1 =>
    refine answers_enabled (exec_perstRelease s) (if_neg (by rw [off]; exact Bool.false_ne_true)) ⟨rfl, rfl, rfl, rfl, rfl, rfl, rfl, ?_, ?_⟩
    · exact congrArg Die.heldReset ((State.dieAt_onDieAt_ne _ _ (by decide)).trans (State.dieAt_onDieAt _ 0 _))
    · exact congrArg Die.heldReset (State.dieAt_onDieAt _ 2 _)
  case refine_2 => exact answers_enabled (exec_stageA s) (State.stageA_passes under passes) ⟨rfl, rfl, rfl, rfl, rfl⟩
  case refine_3 =>
    have stage := State.stage_of_inStage under
    exact answers_enabled (exec_stageA s) (State.stageA_fails under fails) ⟨stage, rfl, rfl, rfl⟩
  case refine_4 => exact answers_enabled (exec_stageB s) (if_pos under) ⟨rfl, rfl⟩
  case refine_5 =>
    exact answers_enabled (exec_stageC s) (if_pos under) ⟨rfl, rfl, rfl, rfl, Vector.getElem_set_self (by decide)⟩
  case refine_6 =>
    obtain ⟨t, result, stage, level, up, full, die0, die2⟩ := State.stageD_straps under
    exact answers_enabled (exec_stageD false false s) result ⟨stage, level, up, full, (congrArg Die.heldReset die0 :),
      (congrArg Die.heldReset die2 :), (congrArg Die.pstore die0 :), (congrArg Die.pstore die2 :)⟩
  case refine_7 =>
    have stage := State.stage_of_inStage under
    exact answers_enabled (exec_stageD x y s) (State.stageD_fault under fault) ⟨stage, rfl, rfl, rfl⟩
  case refine_8 =>
    obtain ⟨t, result, holds⟩ := State.stageE_units under level
    exact answers_enabled (exec_stageE s) result holds
  case refine_9 =>
    refine answers_enabled (exec_stageFailure c s) (State.stageFailure_halts power under early code) ?_
    by_cases straps : c = 0x21
    · rw [if_pos (beq_iff_eq.2 straps)]
      exact ⟨rfl, rfl, rfl, rfl, fun _ => congrArg Die.heldReset (State.dieAt_onDieAt _ 1 _)⟩
    · rw [if_neg (by simpa using straps)]
      exact ⟨rfl, rfl, rfl, rfl, fun h => absurd h straps⟩
  case refine_10 =>
    exact answers_enabled (exec_stageFailure c s) (State.stageFailure_late power under late code) ⟨rfl, rfl, rfl, rfl, rfl⟩

/-- Settles O28: stage A begins from reset, the power goes, or the die leaves service. -/
theorem packageResetsComplete : Obligations.PackageResetsComplete := by
  refine ⟨fun s power => ?_, fun s power hot => ?_, fun s d inService drifts => ?_⟩
  · exact answers_enabled (exec_pfReset s) (if_pos power) ⟨rfl, rfl, rfl, rfl, rfl, rfl, rfl⟩
  · exact answers_enabled (exec_thermalPowerOff s) (if_pos (by rw [power, Package.tooHot_of hot]; rfl)) ⟨rfl, rfl, rfl⟩
  · exact answers_enabled (exec_clockMachineCheck d s) (if_pos (by rw [inService, drifts]; rfl)) (s.dieOut_self d 0x45 0x31)

/-- Settles O30: a soft error by its context, a scrub read by what it meets. -/
theorem errorEventsComplete : Obligations.ErrorEventsComplete := by
  refine ⟨fun s d c k run used task => ?_, fun s d c run unused => ?_, fun s d u run unit clean => ?_, fun s d u run unit => ?_,
    fun s pa power inside good => ?_, fun s pa power inside => ?_, fun s pa power inside bad => ?_⟩
  · refine answers_enabled (exec_controlParity d c s) (State.parity_task run used task)
      ⟨((s.dieAt d).ctxAt c).baseCount (s.dieAt d).scy, ?_⟩
    rw [State.defer, State.onCtxAt, State.dieAt_onDieAt, Die.ctxAt_onCtxAt]
  · exact exec_event (exec_controlParity d c s) (State.parity_unused run unused)
  · refine exec_event (exec_scrubRead d u [] s) ((State.scrub_clocked run unit []).trans (congrArg some ?_))
    rw [show (s.onDieAt d fun x => [].foldl Die.hitUnit x) = s from s.onDieAt_same d, State.eccRead, clean]
  · refine answers_enabled (exec_scrubRead d u [(u, 1)] s) (State.scrub_clocked run unit [(u, .single)]) ?_
    have hit := s.dieAt_onDieAt d fun x => [(u, Ecc.single)].foldl Die.hitUnit x
    obtain ⟨count, die⟩ := State.eccRead_single (s := s.onDieAt d fun x => [(u, Ecc.single)].foldl Die.hitUnit x) (d := d) (u := u)
      (by rw [hit]; exact List.lookup_cons_self)
    rw [die, hit]
    exact ⟨count, rfl, lookup_filter_self u _, rfl⟩
  · exact answers_enabled (exec_hbmRefreshScrub pa [] s)
      ((State.hbmScrub_nil power inside).trans (if_neg (by rw [good]; exact Bool.false_ne_true))) ⟨rfl, rfl, rfl⟩
  · obtain ⟨t, result, hbm, ecc⟩ := State.hbmScrub_new power inside [pa]
    exact answers_enabled (exec_hbmRefreshScrub pa [pa] s) result ⟨by rw [ecc]; exact List.mem_cons_self, hbm⟩
  · exact answers_enabled (exec_hbmRefreshScrub pa [] s) ((State.hbmScrub_nil power inside).trans (if_pos bad))
      ⟨congrArg Package.errHbm (State.postEvent_pkg ..), State.postEvent_hbm .., State.postEvent_hbmEcc ..⟩

end Sys2Proof.Proofs
end

section
/-! Pens as they run (R223, R227, R228, R234, R238 to R240): one lemma per kind of step that a hart takes. -/

namespace Sys2Proof.Machine

section

variable {s : State} {n : Nat} {e : RvEnv} (env : s.penEnv n = some e)
include env

/-- An instruction that no budget forbids retires (R239). -/
theorem State.penRetires_next {h : Hart} {w : List RvWr} {k : RetireKind} (awake : e.p.waiting = false) (next : e.next = .retire h w)
    (kind : retireKind w = k) (within : e.p.overBudget = none) : s.penRetires k n = some ((s.retirePen n e.p h w).penActed n) := by
  simp only [State.penRetires, env, awake, next, kind, bne_self_eq_false, within, Option.isSome_none, Bool.or_self, Bool.false_eq_true,
    if_false]

theorem State.penInstruction_plain {h : Hart} {w : List RvWr} (awake : e.p.waiting = false) (next : e.next = .retire h w)
    (kind : retireKind w = .plain) (within : e.p.overBudget = none) :
    s.penInstruction n = some ((s.retirePen n e.p h w).penActed n) := by
  simp only [State.penInstruction, env, awake, Bool.false_eq_true, if_false, next]
  exact State.penRetires_next env awake next kind within

theorem State.penWfi_waits {h : Hart} (awake : e.p.waiting = false) (next : e.next = .wfi h) (none : e.p.acts = []) :
    s.penWfi n = some ((s.putPen n { e.p with waiting := true }).penActed n) := by
  simp only [State.penWfi, env, awake, Bool.false_eq_true, if_false, next, none, List.isEmpty_nil, if_true]

theorem State.penWfi_retires {h : Hart} (awake : e.p.waiting = false) (next : e.next = .wfi h) (held : e.p.acts ≠ [])
    (within : e.p.overBudget = none) : s.penWfi n = some ((s.putPen n (e.p.retire h)).penActed n) := by
  simp only [State.penWfi, env, awake, Bool.false_eq_true, if_false, next, List.isEmpty_eq_false_iff.2 held, within, Option.isSome_none]

theorem State.penWake_retires (waits : e.p.waiting = true) (held : e.p.acts ≠ []) (within : e.p.overBudget = none) :
    s.penWake n = some ((s.putPen n (e.p.retire (e.p.hart.next 4))).penActed n) := by
  simp only [State.penWake, env, waits, List.isEmpty_eq_false_iff.2 held, within, Option.isSome_none, Bool.not_true, Bool.or_self,
    Bool.false_eq_true, if_false]

/-- A page is copied when all of the image reads and the pen memory may be written (R228). -/
theorem State.copyPage_reads {k : Nat} {bs : List Byte} {runs : List (Nat × Nat)} (awake : e.p.waiting = false) (next : e.next = .copy k)
    (image : (e.runs .rd (splitRuns [(e.p.desc.image + imageHead + 4096 * k, 4096)])).bind e.readRuns = .ok bs)
    (memory : e.runs .wr (splitRuns [(e.p.desc.pbase + 4096 * k, 4096)]) = .ok runs) : s.copyPage n k =
      some (((s.penWrites (wrRuns bs runs)).putPen n
        { e.p with copied := e.p.copied ++ [k], hart := e.moveResv k e.p.hart }).penActed n) := by
  have read : ((e.copyRuns k).bind fun r => (e.readRuns r.1).map fun bs => (bs, r.2)) = .ok (bs, runs) := by
    rw [RvEnv.copyRuns, memory]
    revert image
    cases e.runs .rd (splitRuns [(e.p.desc.image + imageHead + 4096 * k, 4096)]) with
    | error x => exact fun image => Except.noConfusion rfl rfl (heq_of_eq image)
    | ok a =>
      intro image
      have bytes : e.readRuns a = .ok bs := image
      show (e.readRuns a).map (fun bs => (bs, runs)) = _
      rw [bytes]; rfl
  simp only [State.copyPage, env, awake, Bool.false_eq_true, if_false, next, bne_self_eq_false, read]

theorem State.penAccessFault_next {h : Hart} {w : List RvWr} (awake : e.p.waiting = false) (next : e.next = .access h w) :
    s.penAccessFault n =
      some ((((s.penWrites w).putPen n ({ e.p with hart := h }.stageWrites w)).truncatePen n 4).penActed n) := by
  simp only [State.penAccessFault, env, awake, Bool.false_eq_true, if_false, next]

theorem State.penBudget_over {r : Nat} (retires : e.retires = true) (spent : e.p.overBudget = some r) :
    s.penBudget r n = some ((s.truncatePen n r).penActed n) := by
  simp only [State.penBudget, env, retires, spent, BEq.rfl, Bool.and_self, if_true]

end

/-- The wall backstop ends an episode that no budget ends (R238). -/
theorem State.wallBackstop_due {s : State} {n : Nat} {p : Pen} (pen : s.pen? n = some p) (due : s.wallDue p = true)
    (within : ∀ e, s.penEnv n = some e → e.p.overBudget = none) : s.wallBackstop n = some (s.truncatePen n 3) := by
  cases env : s.penEnv n with
  | none => simp only [State.wallBackstop, pen, env, due, Bool.not_false, Bool.and_self, if_true]
  | some e => simp only [State.wallBackstop, pen, env, due, within e env, Option.isSome_none, Bool.and_false, Bool.not_false, Bool.and_self,
      if_true]

theorem State.paddockError_serves {s : State} {n : Nat} {p : Pen} {k : Task} (pen : s.pen? n = some p) (task : s.task? p.owner = some k)
    (under : p.over = false) (hart : (s.paddock.hartOf n).isSome = true) : s.paddockError n = some (s.hardwareError p k n) := by
  have serves : (s.paddock.hartOf n).isNone = false := by rw [← Option.not_isSome, hart]; rfl
  simp only [State.paddockError, pen, task, under, serves, Bool.or_self, Bool.false_eq_true, if_false]

/-- The registers of a hart that a pen of a task is moved to (R226, R227). -/
def HartRegs.forPen (n : Nat) (p : Pen) (k : Task) : HartRegs :=
  { pen := BitVec.ofNat 10 n, asid := k.asid, pmbase := BitVec.ofNat 48 p.desc.pbase, pmsize := BitVec.ofNat 33 p.desc.psize,
    pxbase := BitVec.ofNat 48 p.desc.xbase, pxsize := BitVec.ofNat 29 p.desc.xsize, serving := some n, task := p.owner }

theorem State.hartSwitch_free {s : State} {h n : Nat} {p : Pen} {k : Task} {r : HartRegs} (pen : s.pen? n = some p)
    (hart : s.paddock.harts[h]? = some r) (task : s.task? p.owner = some k) (up : s.pkg.padUp = true) (serves : servesPens h = true)
    (own : h / 32 = p.desc.die.val) (runs : p.st = .running) (free : s.paddock.hartOf n = none) : s.hartSwitch h n =
      some { s with paddock := { s.paddock with harts := s.paddock.harts.setIfInBounds h (.forPen n p k) } } := by
  have may : (!s.pkg.padUp || !servesPens h || h / 32 != p.desc.die.val || p.st != .running || (s.paddock.hartOf n).isSome) = false := by
    rw [up, serves, own, runs, free, bne_self_eq_false]; rfl
  simp only [State.hartSwitch, pen, hart, task, may, Bool.false_eq_true, if_false]
  rfl

end Sys2Proof.Machine

namespace Sys2Proof.Proofs
open Sys2Proof.Machine Sys2Proof.Claims

/-- Settles O43: each step of a hart, by what its program has next. -/
theorem penEventsComplete : Obligations.PenEventsComplete := by
  refine ⟨fun s n e h w env awake next kind within => ?_, fun s n e h w env awake next kind within => ?_,
    fun s n e h w env awake next kind within => ?_, fun s n e h env awake next none => ?_, fun s n e h env awake next held within => ?_,
    fun s n e env waits held within => ?_, fun s n k e bs runs env awake next image memory => ?_, fun s n e h w env awake next => ?_,
    fun s n e env retires spent => ?_, fun s n e env retires spent => ?_, fun s n p pen due idle => ?_,
    fun s n p e pen due env within => ?_, fun s n p k pen task under hart => ?_,
    fun s h n p k r pen hart task up serves own runs free => ?_⟩
  case refine_1 => exact exec_event (exec_penInstruction n s) (State.penInstruction_plain env awake next kind within)
  case refine_2 => exact exec_event (exec_obspost n s) (State.penRetires_next env awake next kind within)
  case refine_3 => exact exec_event (exec_actpop n s) (State.penRetires_next env awake next kind within)
  case refine_4 => exact exec_event (exec_wfi n s) (State.penWfi_waits env awake next none)
  case refine_5 => exact exec_event (exec_wfi n s) (State.penWfi_retires env awake next held within)
  case refine_6 => exact exec_event (exec_wfiWake n s) (State.penWake_retires env waits held within)
  case refine_7 => exact exec_event (exec_copyOnWrite n k s) (State.copyPage_reads env awake next image memory)
  case refine_8 => exact exec_event (exec_penAccessFault n s) (State.penAccessFault_next env awake next)
  case refine_9 => exact exec_event (exec_stepBudget n s) (State.penBudget_over env retires spent)
  case refine_10 => exact exec_event (exec_episodeBudget n s) (State.penBudget_over env retires spent)
  case refine_11 =>
    exact exec_event (exec_wallBackstop n s) (State.wallBackstop_due pen due fun e env => by rw [idle] at env; cases env)
  case refine_12 =>
    refine exec_event (exec_wallBackstop n s) (State.wallBackstop_due pen due fun x at' => ?_)
    obtain rfl := Option.some.inj (env.symm.trans at')
    exact within
  case refine_13 => exact exec_event (exec_paddockHardwareError n s) (State.paddockError_serves pen task under hart)
  case refine_14 =>
    refine answers_enabled (exec_penHartSwitch h n s) (State.hartSwitch_free pen hart task up serves own runs free)
      ⟨.forPen n p k, ?_, rfl, rfl, BitVec.toNat_ofNat .., BitVec.toNat_ofNat ..⟩
    have inside : h < s.paddock.harts.size := (Vector.getElem?_eq_some_iff.1 hart).1
    exact Vector.getElem?_setIfInBounds_self_of_lt inside

end Sys2Proof.Proofs
end

section
/-! Tasks from dispatch to their end (R88, R102, R134, R138, R140 to R142, R146, R161, R270, R280): what each event leaves. -/

namespace Sys2Proof.Machine

/-! ### Writes of device memory leave the host side and the tasks -/

theorem State.asidOf_writeVirt (s : State) (asid : BitVec 8) (va : Nat) (bs : List Byte) (fn : BitVec 6) :
    (s.writeVirt asid va bs).asidOf fn = s.asidOf fn := by
  unfold State.writeVirt
  generalize pagePieces va bs.length = l
  have each (l : List (Nat × Nat)) (t : State) (same : t.asidOf fn = s.asidOf fn) : (l.foldl (fun s a =>
      match s.walk asid a.1 with
      | .ok e => s.hbmPut (e.phys a.1) (slice bs (a.1 - va) a.2)
      | .error _ => s) t).asidOf fn = s.asidOf fn := by
    induction l generalizing t with
    | nil => exact same
    | cons a l ih =>
      refine ih _ ?_
      dsimp only
      split <;> exact same
  exact each l s rfl

theorem State.putArea_keeps (s : State) (k : BitVec 4) (e : List (Nat × Nat)) (off : Nat) (bs : List Byte) :
    (s.putArea k e off bs).sched = s.sched ∧ (s.putArea k e off bs).dies = s.dies := by
  unfold State.putArea
  generalize areaPieces e off 0 bs.length = l
  induction l generalizing s with
  | nil => exact ⟨rfl, rfl⟩
  | cons p l ih => exact ih _

/-! ### Sealed transfers -/

theorem State.transferIn_opened {s : State} {k : BitVec 32} {x : Xfer} {ps : List (Nat × List Byte)} (run : (s.dieAt 1).frozen = false)
    (xfer : s.sched.xfers.find? (fun x => x.lid == k && x.dirIn) = some x)
    (within : s.xferRange x.fn (recFld x.record 2 0 48) (recFld x.record 3 0 40) = false)
    (opened : s.openChunks x (xferChunks (recFld x.record 3 0 40)) = .ok ps) : s.transferIn k =
      some ((ps.foldl (fun s p => s.writeVirt (s.asidOf x.fn) (recFld x.record 2 0 48 + p.1) p.2) s).endXfer x 0 0) := by
  have same (l : List (Nat × List Byte)) (t : State) (asid : t.asidOf x.fn = s.asidOf x.fn) :
      l.foldl (fun u p => u.writeVirt (s.asidOf x.fn) (recFld x.record 2 0 48 + p.1) p.2) t =
        l.foldl (fun u p => u.writeVirt (u.asidOf x.fn) (recFld x.record 2 0 48 + p.1) p.2) t := by
    induction l generalizing t with
    | nil => rfl
    | cons p l ih =>
      rw [List.foldl_cons, List.foldl_cons, asid]
      exact ih _ ((State.asidOf_writeVirt ..).trans asid)
  simp only [State.transferIn, run, Bool.not_false, Bool.and_true, xfer, within, Bool.false_eq_true, if_false, opened, same ps s rfl]

theorem State.transferOut_sealed {s : State} {k : BitVec 32} {x : Xfer} (run : (s.dieAt 1).frozen = false)
    (xfer : s.sched.xfers.find? (fun x => x.lid == k && !x.dirIn) = some x)
    (within : s.xferRange x.fn (recFld x.record 2 0 48) (recFld x.record 3 0 40) = false) : s.transferOut k =
      some (((xferChunks (recFld x.record 3 0 40)).foldl (fun s c => s.sealChunk x c.1 c.2.1 c.2.2) s).endXfer x 0 0) := by
  simp only [State.transferOut, run, Bool.not_false, Bool.and_true, xfer, within, Bool.false_eq_true, if_false]

/-! ### The fold of a task -/

/-- The reference die of a fold starts at the start tick (R138). -/
theorem State.foldStart_reference {s : State} {d : DieId} {k : Task} {c : CtxId} (fold : s.foldTask d = some (k, c))
    (first : k.startedOn d = false) (run : s.clockedAt d = true) (goes : (s.dieAt d).stopFrozen = false)
    (paid : (k.st == .resuming && (s.dieAt d).debt != 0) = false) (reference : d = k.refDie)
    (due : k.startTick.toNat ≤ (s.dieAt d).tick.toNat) : s.foldStart d =
      some ((s.startDie k d).onTask k.lid fun x =>
        if k.startOn ||| BitVec.ofNat 3 (2 ^ d.val) == x.fold then
          { x with startOn := k.startOn ||| BitVec.ofNat 3 (2 ^ d.val), st := if x.heldCtxs.isEmpty then .running else .held,
                   restored := false, heldCtxs := [] }
        else { x with startOn := k.startOn ||| BitVec.ofNat 3 (2 ^ d.val) }) := by
  simp only [State.foldStart, fold, first, run, goes, paid, if_pos reference, decide_eq_true due, Bool.not_true, Bool.or_self,
    Bool.false_eq_true, if_false]

/-- The last member that reaches an agreed count outside every window stops the victim (R140). -/
theorem State.agree_last {s : State} {k : Task} {d : DieId} {c : CtxId} {a : Agreed}
    (all : k.allHere (a.here ++ [(d, false)]) = true) (outside : (a.here.any fun y => y.2) = false) : s.agree k d c a false =
      (s.stopOf d c).stopVictim k (((s.stopOf d c).heldOf k).filter fun p => ((s.dieAt p.1).ctxAt p.2).kind != CtxKind.timed) := by
  have none : ((a.here ++ [(d, false)]).any fun y => y.2) = false := by rw [List.any_append, outside]; rfl
  simp only [State.agree, none, Bool.false_eq_true, if_false, all, if_true]

theorem State.agreedCount_last {s : State} {k : BitVec 32} {d : DieId} {x : Task} {c : CtxId} {a : Agreed} (task : s.task? k = some x)
    (runs : (x.st == .held && x.agreed.isSome && s.foldHeld x && a.here.isEmpty) = false) (agreed : x.agreed = some a)
    (reaches : s.reaches k d = some (x, c, a, false)) (all : x.allHere (a.here ++ [(d, false)]) = true)
    (outside : (a.here.any fun y => y.2) = false) : s.agreedCount k d = some ((s.stopOf d c).stopVictim x
      (((s.stopOf d c).heldOf x).filter fun p => ((s.dieAt p.1).ctxAt p.2).kind != CtxKind.timed)) := by
  rw [agreed] at runs
  simp only [State.agreedCount, task, agreed, Option.map_some, Option.getD_some, runs, Bool.false_eq_true, if_false, reaches,
    Bool.false_and, State.agree_last all outside]

theorem State.overrun_late {s : State} {k : BitVec 32} {d : DieId} {x : Task} {c : CtxId} {a : Agreed}
    (reaches : s.reaches k d = some (x, c, a, true)) (late : a.late = true) : s.overrun k d =
      some ((s.onCtxAt d c fun y => ((s.dieAt d).atNext y).noteGuards).deliver d c ⟨0x15, 0, 0⟩ (s.dieAt d).fcNow 2 0) := by
  simp only [State.overrun, reaches, late, if_true]

theorem State.alignRelease_met {s : State} {d : DieId} {x : Task} {c : CtxId} {n w : Nat} (fold : s.foldTask d = some (x, c))
    (aligning : ((s.dieAt d).ctxAt c).status = .aligning n w) (met : s.alignsMet d ((s.dieAt d).ctxAt c) n = true) :
    s.alignRelease d = some (s.onCtxAt d c fun y => { y.aligned n with status := .run }) := by
  simp only [State.alignRelease, fold, aligning, met, if_true]

theorem State.alignTimeout_due {s : State} {d : DieId} {x : Task} {c : CtxId} {n w : Nat} (fold : s.foldTask d = some (x, c))
    (aligning : ((s.dieAt d).ctxAt c).status = .aligning n w) (due : 2 ^ 20 ≤ w) : s.alignTimeout d =
      some ((s.onCtxAt d c fun y => { ((s.dieAt d).atNext y).noteGuards with status := .aligning n 0 }).deliver
        d c ⟨0x14, 0, 0⟩ (s.dieAt d).fcNow 2 0) := by
  simp only [State.alignTimeout, fold, aligning, if_pos due]

/-! ### Save -/

/-- A read of a unit that succeeds leaves the tasks (R195). -/
theorem State.sched_eccRead {s : State} {d : DieId} {u : Nat} (good : (s.eccRead d u).2 = true) : (s.eccRead d u).1.sched = s.sched := by
  unfold State.eccRead at good ⊢
  split at good
  · rfl
  · rfl
  · split at good <;> exact Bool.noConfusion good

theorem State.sched_eccReads (l : List Nat) {s : State} {d : DieId} (good : (s.eccReads d l).2 = true) :
    (s.eccReads d l).1.sched = s.sched := by
  induction l generalizing s with
  | nil => rfl
  | cons u l ih =>
    obtain ⟨first, others⟩ := Bool.and_eq_true_iff.1 (show ((s.eccRead d u).2 && ((s.eccRead d u).1.eccReads d l).2) = true from good)
    exact (ih others).trans (State.sched_eccRead first)

theorem State.sched_eachCtx {f : State → DieId → CtxId → State} (keeps : ∀ s d c, (f s d c).sched = s.sched) (s : State) (t : Task) :
    (s.eachCtx t f).sched = s.sched := by
  unfold State.eachCtx
  generalize t.ctxs = l
  induction l generalizing s with
  | nil => rfl
  | cons p l ih => exact (ih _).trans (keeps s p.1 p.2)

/-- The rows of a victim that are all read leave the tasks. -/
theorem State.sched_readyRows {s : State} {t : Task} (good : (s.readyRows t).2 = true) : (s.readyRows t).1.sched = s.sched := by
  have each (l : List (DieId × CtxId)) (x : State × Bool) (good : (l.foldl (fun (x : State × Bool) p =>
        let (s2, ok) := x.1.eccReads p.1 (x.1.savedUnits t p.1 p.2)
        (s2, x.2 && ok)) x).2 = true) : x.2 = true ∧ (l.foldl (fun (x : State × Bool) p =>
        let (s2, ok) := x.1.eccReads p.1 (x.1.savedUnits t p.1 p.2)
        (s2, x.2 && ok)) x).1.sched = x.1.sched := by
    induction l generalizing x with
    | nil => exact ⟨good, rfl⟩
    | cons p l ih =>
      obtain ⟨both, sched⟩ := ih _ good
      obtain ⟨before, read⟩ := Bool.and_eq_true_iff.1 both
      exact ⟨before, sched.trans (State.sched_eccReads _ read)⟩
  unfold State.readyRows at good ⊢
  exact (each _ _ good).2.trans (State.sched_eachCtx (fun s d c => by split <;> rfl) s t)

theorem State.saveSections_keeps (s : State) (t : Task) (d : DieId) (c : CtxId) :
    (s.saveSections t d c).sched = s.sched := by
  unfold State.saveSections
  dsimp only
  split <;> simp only [State.putArea_keeps]

/-- A context that leaves its die is as reset left it, and no other context changes (Table 11.7). -/
theorem Die.ctxs_leave (d : Die) (c : CtxId) : ∃ l : Die, l.ctxs = d.ctxs ∧ d.leave c = l.onCtxAt c fun _ => Ctx.reset := by
  have chans (l : List (Fin 16)) (x : Die) : (l.foldl (fun (d : Die) k =>
      { d with chans := d.chans.set k.val (d.chans.get k).left k.isLt }) x).ctxs = x.ctxs := by
    induction l generalizing x with
    | nil => rfl
    | cons k l ih => exact ih _
  refine ⟨_, ?_, rfl⟩
  dsimp only
  split
  · exact chans _ d
  · exact chans _ d

theorem Die.ctxAt_leave (d : Die) (c b : CtxId) : (d.leave c).ctxAt b = if b = c then Ctx.reset else d.ctxAt b := by
  obtain ⟨l, ctxs, e⟩ := d.ctxs_leave c
  rw [e]
  split
  next same => rw [same, Die.ctxAt_onCtxAt]
  next other => rw [Die.ctxAt_onCtxAt_ne l _ other, Die.ctxAt, ctxs, Die.ctxAt]

/-- The contexts of a list that have left are as reset left them. -/
theorem State.ctxAt_leaveAll (l : List (DieId × CtxId)) (s : State) (e : DieId) (b : CtxId) :
    ((l.foldl (fun s p => s.onDieAt p.1 fun x => x.leave p.2) s).dieAt e).ctxAt b =
      if (e, b) ∈ l then Ctx.reset else (s.dieAt e).ctxAt b := by
  induction l generalizing s with
  | nil => simp
  | cons p l ih =>
    rw [List.foldl_cons, ih]
    by_cases later : (e, b) ∈ l
    · rw [if_pos later, if_pos (List.mem_cons_of_mem p later)]
    · rw [if_neg later]
      obtain ⟨d, c⟩ := p
      by_cases here : (e, b) = (d, c)
      · obtain ⟨rfl, rfl⟩ := Prod.mk.inj here
        rw [State.dieAt_onDieAt, Die.ctxAt_leave, if_pos rfl, if_pos List.mem_cons_self]
      · rw [if_neg fun h => (List.mem_cons.1 h).elim here later]
        by_cases die : e = d
        · subst die
          rw [State.dieAt_onDieAt, Die.ctxAt_leave, if_neg fun ctx => here (by rw [ctx])]
        · rw [State.dieAt_onDieAt_ne s _ die]

/-- A task that is saved keeps what its contexts held, and they leave their dies (R142, R280). -/
theorem State.saveAll_leaves {s : State} {x : Task} (task : s.task? x.lid = some x) :
    (∃ y, (s.saveAll x).task? x.lid = some y ∧ y.st = .saved ∧ y.saved = x.ctxs.map fun p => s.keepCtx x p.1 p.2) ∧
      (∀ p ∈ x.ctxs, ((s.saveAll x).dieAt p.1).ctxAt p.2 = Ctx.reset) ∧ (s.saveAll x).sched.want = true := by
  have sections : (s.eachCtx x fun s d c => (s.saveSections x d c).saveHead x d c).sched = s.sched :=
    State.sched_eachCtx (fun s d c => ((State.putArea_keeps ..).1.trans (s.saveSections_keeps x d c))) s x
  have left : ((s.eachCtx x fun s d c => (s.saveSections x d c).saveHead x d c).eachCtx x fun s d c =>
      s.onDieAt d fun x => x.leave c).sched = s.sched := (State.sched_eachCtx (f := fun s d c => s.onDieAt d fun x => x.leave c) (fun _ _ _ => rfl) _ x).trans sections
  refine ⟨⟨_, State.task?_onTask ((State.task?_congr left x.lid).trans task) fun _ => rfl, rfl, rfl⟩, fun p hp => ?_, rfl⟩
  exact (State.ctxAt_leaveAll x.ctxs _ p.1 p.2).trans (if_pos hp)

theorem State.saveTask_ready {s u v w : State} {k : BitVec 32} {x : Task} (task : s.task? k = some x) (savable : s.savable x = true)
    (fills : u = s.finishFills x) (goes : u.stopWaits x = false) (good : u.listBad x = none)
    (rows : u.readyRows x = (w, true)) (begun : v = w.eachCtx x fun s d c => s.saveBegin x d c) (room : v.saveShort x = none) :
    s.saveTask k = some (v.saveAll x) := by
  subst fills begun
  simp only [State.saveTask, task, savable, Bool.not_true, Bool.false_eq_true, if_false, goes, good, rows, room]

/-! ### The end of a task, and the switch of free contexts -/

theorem State.budgetExpiry_due {s : State} {k : BitVec 32} {x : Task} (task : s.task? k = some x) (limited : x.budget ≠ 0)
    (due : 2000 * x.budget ≤ ((s.dieAt 1).tick - x.dispAt).toNat) : s.budgetExpiry k = some (s.endTask x 3 0) := by
  simp only [State.budgetExpiry, task, limited, decide_eq_false (Nat.not_lt.2 due), decide_false, Bool.or_self, Bool.false_eq_true,
    if_false]

theorem State.freeSwitch_next {s : State} {c n : CtxId} (run : s.clocked = true) (boundary : s.ctx.grp = none)
    (free : s.freeCycle = true) (current : s.die.current = some c) (turns : 256 ≤ (s.die.ctxAt c).freeRun)
    (next : s.nextReady c = some n) : s.freeSwitch s.turn = some (s.setCurrent (some n)) := by
  simp only [State.freeSwitch, bne_self_eq_false, run, boundary, free, Option.isSome_none, Bool.not_true, Bool.or_self,
    Bool.false_eq_true, if_false, current, if_neg (Nat.not_lt.2 turns), next, Option.getD_some]

/-- A context that has exited and is quiet retires with the count of its exit (R161). -/
theorem State.retire_quiet {s : State} {d : DieId} {c : CtxId} {x : Task} {n : Nat} (used : ((s.dieAt d).ctxAt c).kind ≠ .none)
    (exiting : ((s.dieAt d).ctxAt c).status = .exiting) (quiet : s.quiet d c = true) (task : s.task? ((s.dieAt d).ctxAt c).lid = some x)
    (count : n = if ((s.dieAt d).ctxAt c).kind ≠ .timed then 0
      else if ((s.dieAt d).ctxAt c).exitQuiet then ((s.dieAt d).ctxAt c).exitAt.getD 0
      else ((s.dieAt d).ctxAt c).fc (s.dieAt d).scy) :
    s.retire d c = some (((if ((s.dieAt d).ctxAt c).kind = .timed then
        s.onDieAt d fun y => (y.settle c (((s.dieAt d).ctxAt c).fc (s.dieAt d).scy)).1 else s).onCtxAt d c fun y =>
      { y with status := .retired, pend := [], retireFc := n }).finish x d c) := by
  have goes : (((s.dieAt d).ctxAt c).kind == .none || ((s.dieAt d).ctxAt c).status != .exiting || !s.quiet d c) = false := by
    rw [beq_eq_false_iff_ne.2 used, exiting, quiet]; rfl
  simp only [State.retire, goes, Bool.false_eq_true, if_false, task, count, bne_iff_ne, ne_eq, beq_iff_eq]
  rfl

/-! ### Writes of special registers by their events -/

/-- A write of STOPCTL that is due is performed as its operation says (R270). -/
theorem State.sregStep_stopctl {s : State} {d : DieId} {c : CtxId} {p : Pending} {v : Word} {k : RegStep}
    (due : ((s.dieAt d).ctxAt c).dueSreg (s.dieAt d).scy = some (p, 0x1804, v)) (step : regStep 0x1804 v = k) : s.sregStep k d c =
      some ((s.onCtxAt d c fun y => { y with pend := y.pend.erase p }).writeSup ((s.dieAt d).ctxAt c).lid d 0x1804 v) := by
  simp only [State.sregStep, due, step, bne_self_eq_false, Bool.false_eq_true, if_false]
  rfl

theorem State.sregStep_rmode {s : State} {d : DieId} {c : CtxId} {p : Pending} {v : Word}
    (due : ((s.dieAt d).ctxAt c).dueSreg (s.dieAt d).scy = some (p, 0x0041, v)) : s.sregStep .rmode d c =
      some ((s.onCtxAt d c fun y => { y with pend := y.pend.erase p }).onCtxAt d c fun y => y.setSreg 0x0041 v) := by
  simp only [State.sregStep, due]
  rfl

end Sys2Proof.Machine

namespace Sys2Proof.Proofs
open Sys2Proof.Machine Sys2Proof.Claims

/-- Settles O47: each event of a task, from its dispatch to its end. -/
theorem taskEventsComplete : Obligations.TaskEventsComplete := by
  refine ⟨fun s power level want => ?_, fun s power level due => ?_, fun s k x ps run xfer within opened => ?_,
    fun s k x run xfer within => ?_, fun s d k c fold first run goes paid reference due => ?_,
    fun s k d x c a task runs agreed reaches all outside => ?_, fun s k d x c a reaches late => ?_,
    fun s k x u w v task savable fills still goes good rows begun room => ?_, fun s k x task limited due => ?_,
    fun s c n run boundary free current turns next => ?_, fun s d c x n used exiting quiet task count => ?_,
    fun s d x c n w fold aligning met => ?_, fun s d x c n w fold aligning due => ?_, fun s d c p v due op => ?_,
    fun s d c p v due op => ?_, fun s d c p v due => ?_⟩
  case refine_1 =>
    exact exec_event (exec_dispatchPass s) (if_pos (by rw [power, decide_eq_true level, want]; rfl))
  case refine_2 =>
    exact exec_event (exec_dispatchPass s) (if_pos (by rw [power, decide_eq_true level, decide_eq_true due, Bool.or_true]; rfl))
  case refine_3 => exact exec_event (exec_sealedTransferIn k s) (State.transferIn_opened run xfer within opened)
  case refine_4 => exact exec_event (exec_sealedTransferOut k s) (State.transferOut_sealed run xfer within)
  case refine_5 => exact exec_event (exec_foldStart d s) (State.foldStart_reference fold first run goes paid reference due)
  case refine_6 =>
    exact exec_event (exec_agreedCount k d s) (State.agreedCount_last task runs agreed reaches all outside)
  case refine_7 => exact exec_event (exec_noPreemptOverrun k d s) (State.overrun_late reaches late)
  case refine_8 =>
    have sched : v.sched = u.sched := by
      rw [begun, State.sched_eachCtx (f := fun s d c => s.saveBegin x d c) fun s d c => (State.putArea_keeps ..).1]
      have read := State.sched_readyRows (s := u) (t := x) (by rw [rows])
      rwa [rows] at read
    obtain rfl := State.lid_of_task? task
    obtain ⟨saved, left, want⟩ := State.saveAll_leaves (s := v) (x := x) ((State.task?_congr sched _).trans still)
    exact answers_enabled (exec_save x.lid s) (State.saveTask_ready task savable fills goes good rows begun room) ⟨saved, left, want⟩
  case refine_9 => exact exec_event (exec_budgetExpiry k s) (State.budgetExpiry_due task limited due)
  case refine_10 => exact exec_event (exec_freeContextSwitch s.turn s) (State.freeSwitch_next run boundary free current turns next)
  case refine_11 => exact exec_event (exec_contextRetire d c s) (State.retire_quiet used exiting quiet task count)
  case refine_12 =>
    refine answers_enabled (exec_alignRelease d s) (State.alignRelease_met fold aligning met) ?_
    rw [State.ctxAt_onCtxAt]
    exact ⟨rfl, rfl⟩
  case refine_13 => exact exec_event (exec_alignmentTimeout d s) (State.alignTimeout_due fold aligning due)
  case refine_14 => exact exec_event (exec_stopctlResume d c s) (State.sregStep_stopctl due (by simp [regStep, op]))
  case refine_15 => exact exec_event (exec_stopctlEnd d c s) (State.sregStep_stopctl due (by simp [regStep, op]))
  case refine_16 =>
    refine answers_enabled (exec_rmodeWrite d c s) (State.sregStep_rmode due) ?_
    rw [State.ctxAt_onCtxAt]
    rfl

end Sys2Proof.Proofs
end

section
/-! What a step does to memory (R182, R368): most functions of the model leave every memory as it is; those that post events write the
host's, those that end tasks clear what the tasks held. -/

namespace Sys2Proof.Machine

/-! ### The memories of a state -/

/-- The memories of a die, and whether it is out of service. -/
def Die.view (d : Die) : Mem × Mem × Mem × Bool := (d.sp, d.spSide, d.pstore, d.outOfService)

/-- The launches of a state. -/
def State.lids (s : State) : List (BitVec 32) := s.sched.tasks.map Task.lid

/-- The memories of a state, and its launches. -/
def State.view (s : State) : Mem × Mem × List (BitVec 32) × (DieId → Mem × Mem × Mem × Bool) :=
  (s.hbm, s.host.mem, s.lids, fun d => (s.dieAt d).view)

theorem Die.view_of {x y : Die} (sp : y.sp = x.sp) (side : y.spSide = x.spSide) (code : y.pstore = x.pstore)
    (service : y.outOfService = x.outOfService) : y.view = x.view := by
  rw [Die.view, Die.view, sp, side, code, service]

theorem State.view_of {s t : State} (device : t.hbm = s.hbm) (host : t.host.mem = s.host.mem)
    (tasks : t.sched.tasks = s.sched.tasks) (dies : t.dies = s.dies) : t.view = s.view := by
  rw [State.view, State.view, device, host, State.lids, State.lids, tasks]
  simp only [State.dieAt, dies]

section

variable (s : State)

theorem State.view_onDieAt {d : DieId} {f : Die → Die} (same : (f (s.dieAt d)).view = (s.dieAt d).view) :
    (s.onDieAt d f).view = s.view := by
  have dies (e : DieId) : ((s.onDieAt d f).dieAt e).view = (s.dieAt e).view := by
    by_cases h : e = d
    · rw [h, State.dieAt_onDieAt, same]
    · rw [State.dieAt_onDieAt_ne s f h]
  simp only [State.view, dies]
  rfl

theorem State.view_onDie {f : Die → Die} (same : (f s.die).view = s.die.view) : (s.onDie f).view = s.view :=
  s.view_onDieAt same

@[simp] theorem State.view_onCtxAt (d : DieId) (c : CtxId) (f : Ctx → Ctx) : (s.onCtxAt d c f).view = s.view := s.view_onDieAt rfl

@[simp] theorem State.view_onCtx (f : Ctx → Ctx) : (s.onCtx f).view = s.view := s.view_onDie rfl

@[simp] theorem State.view_onGroup (f : GroupCtx → GroupCtx) : (s.onGroup f).view = s.view := s.view_onCtx _

@[simp] theorem State.view_after (l : Nat) (e : Effect) : (s.after l e).view = s.view := s.view_onCtx _

theorem State.view_onTask {lid : BitVec 32} {f : Task → Task} (same : ∀ t, (f t).lid = t.lid) : (s.onTask lid f).view = s.view := by
  have lids : (s.onTask lid f).lids = s.lids := by
    simp only [State.lids, State.onTask, List.map_map]
    refine List.map_congr_left fun t _ => ?_
    rw [Function.comp_apply]
    split
    · exact same t
    · rfl
  simp only [State.view, lids]
  rfl

end

/-! ### Traces -/

@[simp] theorem Die.view_trace (d : Die) (kind : Nat) (c : CtxId) (place : Nat × Nat) (a b : Word) :
    (d.trace kind c place a b).view = d.view := by
  obtain ⟨buf, ctl, post, e⟩ := d.trace_eq kind c place a b
  rw [e]
  exact Die.view_of rfl rfl rfl rfl

section

variable (s : State)

@[simp] theorem State.view_trace (kind : Nat) (a b : Word) : (s.trace kind a b).view = s.view := by
  unfold State.trace
  split
  · rfl
  · exact s.view_onDie (Die.view_trace ..)

@[simp] theorem State.view_traceMem (a : Word) (n kind : Nat) : (s.traceMem a n kind).view = s.view := s.view_trace ..

/-! ### Operands and queues -/

@[simp] theorem State.view_emit (p : Packet) : (s.emit p).view = s.view := by
  unfold State.emit
  split <;> rfl

@[simp] theorem State.view_returnCredit (d : DieId) (c : CtxId) (n : BitVec 4) : (s.returnCredit d c n).view = s.view := s.view_emit _

theorem State.view_popStream {s t : State} {n : BitVec 4} {r : Row} (pop : s.popStream n = some (r, t)) : t.view = s.view := by
  unfold State.popStream at pop
  split at pop
  · cases pop
  · obtain ⟨-, rfl⟩ := Prod.mk.inj (Option.some.inj pop)
    rw [State.view_returnCredit]
    exact s.view_onDie rfl

@[simp] theorem State.view_pushStream (n : BitVec 4) (r : Row) : (s.pushStream n r).view = s.view :=
  (State.view_emit _ _).trans (s.view_onDie rfl)

theorem State.view_readSrc {s t : State} {src : Src} {v : Value} (read : s.readSrc src = some (v, t)) : t.view = s.view := by
  cases src with
  | queue p =>
    simp only [State.readSrc] at read
    split at read
    · obtain ⟨-, rfl⟩ := Prod.mk.inj (Option.some.inj read); rfl
    · split at read
      · cases read
      · split at read
        · cases read
        · obtain ⟨-, rfl⟩ := Prod.mk.inj (Option.some.inj read)
          rw [State.view_onGroup, State.view_onCtx]
  | stream n =>
    simp only [State.readSrc] at read
    split at read
    · obtain ⟨-, rfl⟩ := Prod.mk.inj (Option.some.inj read); rfl
    · split at read
      · cases read
      next pop =>
        obtain ⟨-, rfl⟩ := Prod.mk.inj (Option.some.inj read)
        rw [State.view_onGroup, State.view_popStream pop]
  | _ => obtain ⟨-, rfl⟩ := Prod.mk.inj (Option.some.inj read); rfl

theorem State.view_readSrcOf {s t : State} {b : Nat} {src : Src} {v : Value} (read : s.readSrcOf b src = some (v, t)) :
    t.view = s.view := by
  unfold State.readSrcOf at read
  split at read
  · obtain ⟨-, rfl⟩ := Prod.mk.inj (Option.some.inj read); rfl
  · exact State.view_readSrc read

theorem State.view_takeLatch {s t : State} {l : Latch} {v : Value} (take : s.takeLatch l = some (v, t)) : t.view = s.view := by
  unfold State.takeLatch at take
  split at take
  · split at take
    next read =>
      obtain ⟨-, rfl⟩ := Prod.mk.inj (Option.some.inj take)
      rw [State.view_onGroup, State.view_readSrcOf read]
    · cases take
  · split at take
    · cases take
    · obtain ⟨-, rfl⟩ := Prod.mk.inj (Option.some.inj take)
      split
      · rfl
      · exact State.view_onCtx ..

@[simp] theorem State.view_takeLatches (need : List Latch) : (s.takeLatches need).2.view = s.view := by
  induction need generalizing s with
  | nil => rfl
  | cons l need ih =>
    unfold State.takeLatches
    split
    next take => exact (ih _).trans (State.view_takeLatch take)
    next => exact ih s

@[simp] theorem State.view_openGroup : s.openGroup.view = s.view := by
  unfold State.openGroup
  split
  · rfl
  · exact s.view_onCtx _

@[simp] theorem State.view_place (p : QPort) : (s.place p).view = s.view := s.view_onCtx _

@[simp] theorem State.view_push (side : QSide) (op : QOp) (addr : Word) (left : List Nat) : (s.push side op addr left).view = s.view :=
  s.view_onCtx _

@[simp] theorem State.view_fxPlaces (op : RemOp) (st : Bool) : (s.fxPlaces op st).view = s.view := by
  unfold State.fxPlaces
  dsimp only
  split <;> split <;> simp

@[simp] theorem State.view_fxIssue (side : QSide) (op : RemOp) (st : Bool) (addr : Word) :
    (s.fxIssue side op st addr).view = s.view := by
  unfold State.fxIssue
  dsimp only
  split <;> simp

@[simp] theorem State.view_setTok (lid : BitVec 32) (d : DieId) (k : Nat) (v : Tok) : (s.setTok lid d k v).view = s.view := by
  have task : (s.onTask lid fun t => t.setToken d k v).view = s.view := s.view_onTask fun _ => rfl
  unfold State.setTok
  dsimp only
  split
  · exact (State.view_onDieAt _ rfl).trans task
  · exact task

@[simp] theorem State.view_pend (k : Nat) : (s.pend k).view = s.view := s.view_setTok ..

@[simp] theorem State.view_raise (l : Nat) (f : Flags) : (s.raise l f).view = s.view := by
  unfold State.raise
  split
  · rfl
  · exact s.view_after ..

@[simp] theorem State.view_deliverVx (l : Nat) (x : Tile × Flags) : (s.deliverVx l x).view = s.view :=
  (State.view_raise ..).trans (s.view_after ..)

@[simp] theorem State.view_deliverSc (l : Nat) (x : Tile × Flags) : (s.deliverSc l x).view = s.view :=
  (State.view_raise ..).trans (s.view_after ..)

@[simp] theorem State.view_setGen (k : Fin 4) (g : Option Gen) : (s.setGen k g).view = s.view := s.view_onDie rfl

@[simp] theorem State.view_stall (n : Nat) : (s.stall n).view = s.view := s.view_onGroup _

@[simp] theorem State.view_drawnRng : s.drawnRng.view = s.view := s.view_onGroup _

@[simp] theorem State.view_amaxAt (l : Nat) (k : Fin 4) (x : Bool × BitVec 32) : (s.amaxAt l k x).view = s.view := s.view_after ..

@[simp] theorem State.view_loopStep : s.loopStep.view = s.view := s.view_onCtx _

@[simp] theorem State.view_branchTo (v : Word) : (s.branchTo v).view = s.view :=
  (State.view_trace ..).trans ((State.view_onGroup ..).trans (s.view_onCtx _))

@[simp] theorem State.view_discardAll : s.discardAll.view = s.view :=
  (State.view_onGroup ..).trans ((State.view_onCtx ..).trans (s.view_onDie rfl))

@[simp] theorem State.view_sendFar (l : Nat) (r : Row) (stamp : BitVec 16) : (s.sendFar l r stamp).view = s.view := by
  unfold State.sendFar
  split
  · rfl
  · exact s.view_onDieAt rfl

theorem State.view_foldl {α : Type} {f : State → α → State} (same : ∀ s x, (f s x).view = s.view) (l : List α) :
    (l.foldl f s).view = s.view := by
  induction l generalizing s with
  | nil => rfl
  | cons x l ih => exact (ih _).trans (same s x)

@[simp] theorem State.view_gatherFar (y : Tile) (l : List FarWord) : (s.gatherFar y l).2.view = s.view := by
  induction l generalizing s y with
  | nil => rfl
  | cons f l ih => exact (ih _ _).trans (s.view_onDie rfl)

@[simp] theorem State.view_waitSpop (n : BitVec 4) : (s.waitSpop n).view = s.view := rfl

@[simp] theorem State.view_store (a : Word) (op : QOp) (bs side : List Byte) (keep keepSide : Nat → Bool) :
    (s.store a op bs side keep keepSide).view = s.view := by
  unfold State.store
  dsimp only
  split
  · split <;> simp
  · split
    · split <;> simp
    · split <;> simp

@[simp] theorem State.view_swr (n : Nat) (v : Word) : (s.swr n v).view = s.view := by
  unfold State.swr
  split
  · simp
  · split
    · simp
    · split <;> simp

@[simp] theorem State.view_writeDst (dst : Dst) (h : Bool) (v : Value) : (s.writeDst dst h v).view = s.view := by
  cases dst <;> simp only [State.writeDst, State.view_onCtx, State.view_after, State.view_pushStream, State.view_trace]
  case t r => exact s.view_onDie rfl
  case m i => exact s.view_onDie rfl

end

end Sys2Proof.Machine
end

section
/-! What ends a slot, a group or a task does to memory (R91, R179, R182, R270, R368): device memory and the program stores stay, and so
do the scratchpads while no task ends. -/

namespace Sys2Proof.Machine

/-! ### The relation -/

theorem State.memOk_of_view {s t : State} (same : t.view = s.view) (h : s.memOk = true) : t.memOk = true := by
  rw [State.memOk_iff] at h ⊢
  obtain ⟨dies, device, host⟩ := h
  simp only [State.view, Prod.mk.injEq] at same
  obtain ⟨hbm, mem, -, views⟩ := same
  refine ⟨fun d => ?_, by rwa [hbm], by rwa [mem]⟩
  have view := congrFun views d
  simp only [Die.view, Prod.mk.injEq] at view
  obtain ⟨sp, side, code, -⟩ := view
  have own := dies d
  rw [Die.memOk] at own ⊢
  rwa [sp, side, code]

/-- What `t` has of the memories of `s`: device memory and the program stores are the same, and so are the scratchpads unless a task
has ended; no launch is new, every memory that was canonical is, and a die is out of service that was. -/
structure State.Quiet (s t : State) : Prop where
  device : t.hbm = s.hbm
  code : ∀ d, (t.dieAt d).pstore = (s.dieAt d).pstore
  service : ∀ d, (t.dieAt d).outOfService = (s.dieAt d).outOfService
  lids : t.lids.Sublist s.lids
  scratch : t.lids = s.lids → ∀ d, (t.dieAt d).sp = (s.dieAt d).sp ∧ (t.dieAt d).spSide = (s.dieAt d).spSide
  memOk : s.memOk = true → t.memOk = true

theorem State.Quiet.refl (s : State) : s.Quiet s := ⟨rfl, fun _ => rfl, fun _ => rfl, List.Sublist.refl _, fun _ _ => ⟨rfl, rfl⟩, id⟩

theorem State.Quiet.trans {s t u : State} (h : s.Quiet t) (k : t.Quiet u) : s.Quiet u where
  device := k.device.trans h.device
  code d := (k.code d).trans (h.code d)
  service d := (k.service d).trans (h.service d)
  lids := k.lids.trans h.lids
  scratch same d := by
    have first : t.lids = s.lids := h.lids.eq_of_length_le (by rw [← same]; exact k.lids.length_le)
    obtain ⟨sp, side⟩ := h.scratch first d
    obtain ⟨sp', side'⟩ := k.scratch (same.trans first.symm) d
    exact ⟨sp'.trans sp, side'.trans side⟩
  memOk := k.memOk ∘ h.memOk

theorem State.quiet_of_view {s t : State} (same : t.view = s.view) : s.Quiet t := by
  have parts := same
  simp only [State.view, Prod.mk.injEq] at parts
  obtain ⟨hbm, -, lids, views⟩ := parts
  have dies (d : DieId) := congrFun views d
  simp only [Die.view, Prod.mk.injEq] at dies
  exact ⟨hbm, fun d => (dies d).2.2.1, fun d => (dies d).2.2.2, lids ▸ List.Sublist.refl _, fun _ d => ⟨(dies d).1, (dies d).2.1⟩,
    State.memOk_of_view same⟩

/-- What changes the host side alone, and its memory by writes. -/
theorem State.quiet_of_host {s t : State} (device : t.hbm = s.hbm) (dies : t.dies = s.dies) (tasks : t.sched.tasks = s.sched.tasks)
    (host : Mem.wf s.host.mem = true → Mem.wf t.host.mem = true) : s.Quiet t := by
  have die (d : DieId) : t.dieAt d = s.dieAt d := by rw [State.dieAt, dies]; rfl
  have lids : t.lids = s.lids := by rw [State.lids, tasks]; rfl
  refine ⟨device, fun d => by rw [die], fun d => by rw [die], lids ▸ List.Sublist.refl _, fun _ d => by rw [die]; exact ⟨rfl, rfl⟩,
    fun h => ?_⟩
  rw [State.memOk_iff] at h ⊢
  obtain ⟨ok, dev, mem⟩ := h
  exact ⟨fun d => by rw [die]; exact ok d, by rwa [device], host mem⟩

theorem State.quiet_foldl {α : Type} {f : State → α → State} (step : ∀ (s : State) (x : α), s.Quiet (f s x)) (l : List α) (s : State) :
    s.Quiet (l.foldl f s) := by
  induction l generalizing s with
  | nil => exact State.Quiet.refl s
  | cons x l ih => exact (step s x).trans (ih _)

/-! ### Event records and completions -/

theorem State.quiet_hostPut (s : State) (fn : BitVec 6) (a : Nat) (bs : List Byte) : s.Quiet (s.hostPut fn a bs) :=
  State.quiet_of_host rfl rfl rfl fun h => Mem.wf_write h _ _

theorem State.quiet_postRecord (s : State) (i : BitVec 6) (r : List Byte) : s.Quiet (s.postRecord i r) := by
  unfold State.postRecord
  dsimp only
  split
  · exact State.quiet_of_host rfl rfl rfl id
  · split
    · exact (s.quiet_hostPut ..).trans (State.quiet_of_host rfl rfl rfl id)
    · exact (s.quiet_hostPut ..).trans (State.quiet_of_host rfl rfl rfl id)

theorem State.quiet_postEvent (s : State) (fn : BitVec 6) (code : Nat) (d : DieId) (queue : Nat) (payload : List Byte) :
    s.Quiet (s.postEvent fn code d queue payload) := by
  unfold State.postEvent
  dsimp only
  split
  · exact (s.quiet_postRecord ..).trans (State.quiet_postRecord ..)
  · exact s.quiet_postRecord ..

theorem State.quiet_taskEvent (s : State) (t : Task) (code : Nat) (d : DieId) (payload : List Byte) :
    s.Quiet (s.taskEvent t code d payload) := s.quiet_postEvent ..

theorem State.quiet_launchDone (s : State) (lid : BitVec 32) : s.Quiet (s.launchDone lid) := by
  unfold State.launchDone
  dsimp only
  split <;> exact State.quiet_of_host rfl rfl rfl id

theorem State.quiet_complete (s : State) (lid : BitVec 32) (compl : Nat) (outcome scyrun detail : Nat) :
    s.Quiet (s.complete lid compl outcome scyrun detail) := by
  unfold State.complete
  dsimp only
  refine State.Quiet.trans ?_ (State.quiet_launchDone ..)
  split
  · exact State.quiet_of_host rfl rfl rfl id
  · exact State.quiet_of_host rfl rfl rfl fun h => Mem.wf_write h _ _

/-! ### The end of a task -/

/-- A die whose scratchpad may have been cleared: its program store and its service are as they were. -/
structure Die.Cleared (x y : Die) : Prop where
  code : y.pstore = x.pstore
  service : y.outOfService = x.outOfService
  memOk : x.memOk = true → y.memOk = true

theorem Die.Cleared.trans {x y z : Die} (h : x.Cleared y) (k : y.Cleared z) : x.Cleared z :=
  ⟨k.code.trans h.code, k.service.trans h.service, k.memOk ∘ h.memOk⟩

theorem Die.cleared_zeroUnits (d : Die) (u n : Nat) : d.Cleared (d.zeroUnits u n) :=
  ⟨rfl, rfl, fun h => Die.memOk_zeroUnits h u n⟩

theorem Die.cleared_releaseBlocks (d : Die) : d.Cleared d.releaseBlocks := by
  have each (l : List (Nat × Nat)) (d : Die) : d.Cleared (l.foldl (fun d b => d.zeroUnits b.2 328) d) := by
    induction l generalizing d with
    | nil => exact ⟨rfl, rfl, fun ok => ok⟩
    | cons b l ih => exact (d.cleared_zeroUnits b.2 328).trans (ih _)
  exact (each d.wall.blocks d).trans ⟨rfl, rfl, fun ok => ok⟩

theorem Die.cleared_freeCtx (d : Die) (c : CtxId) : d.Cleared (d.freeCtx c) := by
  unfold Die.freeCtx
  dsimp only
  split
  · exact (d.cleared_releaseBlocks).trans ⟨rfl, rfl, fun ok => ok⟩
  · exact ⟨rfl, rfl, fun ok => ok⟩

/-- The dies whose contexts a task leaves. -/
structure State.Cleared (s t : State) : Prop where
  device : t.hbm = s.hbm
  lids : t.lids = s.lids
  dies : ∀ d, (s.dieAt d).Cleared (t.dieAt d)
  host : t.host.mem = s.host.mem

theorem State.Cleared.trans {s t u : State} (h : s.Cleared t) (k : t.Cleared u) : s.Cleared u :=
  ⟨k.device.trans h.device, k.lids.trans h.lids, fun d => (h.dies d).trans (k.dies d), k.host.trans h.host⟩

theorem State.cleared_onDieAt (s : State) {d : DieId} {f : Die → Die} (h : (s.dieAt d).Cleared (f (s.dieAt d))) :
    s.Cleared (s.onDieAt d f) := by
  refine ⟨rfl, rfl, fun e => ?_, rfl⟩
  by_cases he : e = d
  · rw [he, State.dieAt_onDieAt]; exact h
  · rw [State.dieAt_onDieAt_ne s f he]; exact ⟨rfl, rfl, fun ok => ok⟩

theorem State.cleared_freeTask (s : State) (t : Task) : s.Cleared (s.freeTask t) := by
  unfold State.freeTask
  generalize t.ctxs = l
  induction l generalizing s with
  | nil => exact ⟨rfl, rfl, fun _ => ⟨rfl, rfl, fun ok => ok⟩, rfl⟩
  | cons p l ih =>
    refine (s.cleared_onDieAt ?_).trans (ih _)
    split
    · exact (Die.cleared_freeCtx _ _).trans ⟨rfl, rfl, fun ok => ok⟩
    · exact ⟨rfl, rfl, fun ok => ok⟩

theorem State.Cleared.memOk {s t : State} (h : s.Cleared t) (ok : s.memOk = true) : t.memOk = true := by
  rw [State.memOk_iff] at ok ⊢
  obtain ⟨dies, device, host⟩ := ok
  exact ⟨fun d => (h.dies d).memOk (dies d), by rwa [h.device], by rwa [h.host]⟩

/-- The steps of an end before its launch leaves the list. -/
theorem State.cleared_endTaskAt (s : State) (t : Task) (outcome detail run : Nat) : ∃ u v, s.Quiet u ∧ u.Cleared v ∧
    s.endTaskAt t outcome detail run = { v with
      sched := { v.sched with tasks := v.sched.tasks.filter fun x => x.lid != t.lid }, paddock := v.paddock.dropOwner t.lid,
      links := { v.links with trans := v.links.trans.filter fun x => x.lid != t.lid } } := by
  refine ⟨_, _, (s.quiet_complete t.lid (leAt t.record 56 8) outcome run detail).trans ?_, State.cleared_freeTask _ t, rfl⟩
  split
  · exact State.quiet_of_host rfl rfl rfl id
  · exact State.Quiet.refl _

theorem State.memOk_endTaskAt {s : State} (ok : s.memOk = true) (t : Task) (outcome detail run : Nat) :
    (s.endTaskAt t outcome detail run).memOk = true := by
  obtain ⟨u, v, first, cleared, e⟩ := s.cleared_endTaskAt t outcome detail run
  rw [e]
  exact cleared.memOk (first.memOk ok)

/-- The end of a launch of the list clears what it held (R91, R368). -/
theorem State.quiet_endTaskAt {s : State} {t : Task} (listed : t.lid ∈ s.lids) (outcome detail run : Nat) :
    s.Quiet (s.endTaskAt t outcome detail run) := by
  have ok := fun h => State.memOk_endTaskAt (s := s) h t outcome detail run
  obtain ⟨u, v, first, cleared, e⟩ := s.cleared_endTaskAt t outcome detail run
  rw [e] at ok ⊢
  have sub : (v.sched.tasks.filter fun x => x.lid != t.lid).map Task.lid |>.Sublist v.lids := (List.filter_sublist).map _
  have under : v.lids.Sublist s.lids := cleared.lids ▸ first.lids
  refine ⟨cleared.device.trans first.device, fun d => (cleared.dies d).code.trans (first.code d),
    fun d => (cleared.dies d).service.trans (first.service d), sub.trans under, fun same => ?_, ok⟩
  have still : t.lid ∈ (v.sched.tasks.filter fun x => x.lid != t.lid).map Task.lid := by
    have all : (v.sched.tasks.filter fun x => x.lid != t.lid).map Task.lid = s.lids := same
    rw [all]; exact listed
  obtain ⟨x, mem, lid⟩ := List.mem_map.1 still
  have other := (List.mem_filter.1 mem).2
  rw [lid] at other
  simp at other

theorem State.quiet_endTask {s : State} {t : Task} (listed : t.lid ∈ s.lids) (outcome detail : Nat) :
    s.Quiet (s.endTask t outcome detail) := State.quiet_endTaskAt listed ..

theorem State.lid_mem_lids {s : State} {lid : BitVec 32} {t : Task} (task : s.task? lid = some t) : t.lid ∈ s.lids :=
  List.mem_map_of_mem (List.mem_of_find?_eq_some task)

/-! ### Machine checks and exceptions -/

theorem State.lids_postEvent (s : State) (fn : BitVec 6) (code : Nat) (d : DieId) (queue : Nat) (payload : List Byte) :
    (s.postEvent fn code d queue payload).lids = s.lids := by
  rw [State.lids, State.postEvent_sched]; rfl

theorem State.quiet_checkTask {s : State} {t : Task} (listed : t.lid ∈ s.lids) (d : DieId) (code : BitVec 8) (addr : Word) :
    s.Quiet (s.checkTask t d code addr) := by
  unfold State.checkTask
  split
  · exact (s.quiet_taskEvent ..).trans (State.quiet_endTask (by rw [State.taskEvent, State.lids_postEvent]; exact listed) ..)
  · split
    · exact State.quiet_of_view (s.view_onCtxAt ..)
    · exact State.Quiet.refl s

theorem State.lids_of_view {s t : State} (same : t.view = s.view) : t.lids = s.lids := by
  simp only [State.view, Prod.mk.injEq] at same
  exact same.2.2.1

theorem State.quiet_report {s : State} {t : Task} (listed : t.lid ∈ s.lids) (c : Cause) (sec : BitVec 8 × Nat) (machine : Bool) :
    s.Quiet (s.report t c sec machine) := by
  have told (code : Nat) (d : DieId) (payload : List Byte) : t.lid ∈ (s.taskEvent t code d payload).lids := by
    rw [State.taskEvent, State.lids_postEvent]; exact listed
  unfold State.report
  split
  · exact (s.quiet_taskEvent ..).trans (State.quiet_endTask (told ..) ..)
  · split
    · exact s.quiet_taskEvent ..
    · dsimp only
      split
      · exact (s.quiet_taskEvent ..).trans (State.quiet_endTask (told ..) ..)
      · exact s.quiet_taskEvent ..

theorem State.view_reportedAs (s : State) (lid : BitVec 32) (p : Option (BitVec 32)) :
    (s.onTask lid fun t => { t with reported := true, primary := p }).view = s.view := s.view_onTask fun _ => rfl

theorem State.quiet_reportStop (s : State) (lid : BitVec 32) : s.Quiet (s.reportStop lid) := by
  unfold State.reportStop
  split
  · exact State.Quiet.refl s
  next t task =>
    dsimp only
    split
    · exact State.Quiet.refl s
    · split
      · exact State.Quiet.refl s
      · refine State.Quiet.trans (State.quiet_of_view ?_) (State.quiet_report (?_ : t.lid ∈ State.lids _) ..)
        · exact s.view_reportedAs t.lid _
        · rw [State.lids_of_view (s.view_reportedAs t.lid _)]; exact State.lid_mem_lids task

@[simp] theorem State.view_holdFree (s : State) (t : Task) : (s.holdFree t).view = s.view :=
  s.view_foldl (fun _ _ => State.view_onCtxAt ..) _

@[simp] theorem State.view_foldStop (s : State) (t : Task) (d : DieId) (c : CtxId) (f : Nat) (code : BitVec 8) :
    (s.foldStop t d c f code).view = s.view := by
  have stopped : ((s.onDieAt d fun x => { x.stopMember c with stopDue := false }).onTask t.lid fun t =>
      { t with stopCounts := t.stopCounts ++ [(d, f)] }).view = s.view :=
    (State.view_onTask (f := fun t => { t with stopCounts := t.stopCounts ++ [(d, f)] }) _ fun _ => rfl).trans (s.view_onDieAt rfl)
  unfold State.foldStop
  split
  · rfl
  · dsimp only
    rw [State.view_holdFree]
    split
    · exact (State.view_onDieAt _ rfl).trans stopped
    · exact stopped

theorem State.quiet_traceTrigger (s : State) (d : DieId) (c : CtxId) (place : Nat × Nat) : s.Quiet (s.traceTrigger d c place) := by
  have put (x : Die) (same : x.view = (s.dieAt d).view) : s.Quiet (s.putDieAt d x) :=
    State.quiet_of_view (s.view_onDieAt (f := fun _ => x) same)
  obtain ⟨buf, ctl, post, written⟩ := (s.dieAt d).traceWrite_eq (traceBits (s.dieAt d).tick 6 c place.1 place.2 0 0)
  have view : ((s.dieAt d).traceWrite (traceBits (s.dieAt d).tick 6 c place.1 place.2 0 0)).view = (s.dieAt d).view := by
    rw [written]; exact Die.view_of rfl rfl rfl rfl
  unfold State.traceTrigger
  dsimp only
  split
  · refine (put _ ?_).trans (State.quiet_postEvent ..)
    split
    · exact view
    · split
      · simp only [Die.traceFreeze, written]; exact Die.view_of rfl rfl rfl rfl
      · rw [written]; exact Die.view_of rfl rfl rfl rfl
  · exact State.Quiet.refl s

theorem State.quiet_traceTrap (s : State) (d : DieId) (c : CtxId) (place : Nat × Nat) (code : BitVec 8) (reason : BitVec 4) (cnt : Nat) :
    s.Quiet (s.traceTrap d c place code reason cnt) := by
  have traced (a b : Word) : s.Quiet (s.onDieAt d fun y => y.trace 5 c place a b) := State.quiet_of_view (s.view_onDieAt (Die.view_trace ..))
  unfold State.traceTrap
  split
  · exact State.Quiet.refl s
  · dsimp only
    split
    · exact (traced ..).trans (State.quiet_traceTrigger ..)
    · exact traced ..

theorem State.quiet_toSystem {s : State} {t : Task} (listed : t.lid ∈ s.lids) (c : Cause) (timed inh : Bool) (old : BitVec 8) :
    s.Quiet (s.toSystem t c timed inh old) := by
  have heard (l : List Cause) (p : Option (BitVec 32)) : (s.onTask t.lid fun t => { t with
      causes := t.causes ++ l, st := if t.st == .saving then .saving else .held, primary := t.primary <|> p }).view = s.view :=
    s.view_onTask fun _ => rfl
  have held (u : State) (same : u.view = s.view) (d : DieId) (c : CtxId) (f : Nat) (code : BitVec 8) (b : Bool) :
      s.Quiet (if b = true then u.foldStop t d c f code else (u.foldStop t d c f code).reportStop t.lid) := by
    have stopped : s.Quiet (u.foldStop t d c f code) := State.quiet_of_view ((u.view_foldStop ..).trans same)
    split
    · exact stopped
    · exact stopped.trans (State.quiet_reportStop ..)
  unfold State.toSystem
  dsimp only
  by_cases stops : timed = true
  · rw [if_pos stops]
    exact held _ (heard ..) ..
  · rw [if_neg stops]
    exact (State.quiet_of_view (heard ..)).trans (State.quiet_report (by rw [State.lids_of_view (heard ..)]; exact listed) ..)

theorem State.quiet_deliver (s : State) (d : DieId) (c : CtxId) (f : Flt) (cnt queue seq : Nat) (place : Option (Nat × Nat)) :
    s.Quiet (s.deliver d c f cnt queue seq place) := by
  have noted (place : Nat × Nat) (g : Ctx → Ctx) :
      s.Quiet (((s.onCtxAt d c fun x => x.setFaultRegs f cnt).traceTrap d c place f.code f.reason cnt).onCtxAt d c g) :=
    ((State.quiet_of_view (s.view_onCtxAt ..)).trans (State.quiet_traceTrap ..)).trans (State.quiet_of_view (State.view_onCtxAt ..))
  unfold State.deliver
  dsimp only
  split
  · split
    · split
      · exact (noted ..).trans (State.quiet_of_view (State.view_foldStop ..))
      · exact noted ..
    · exact noted ..
  · split
    · exact noted ..
    next task => exact (noted ..).trans (State.quiet_toSystem (State.lid_mem_lids task) ..)

/-! ### The end of a cycle -/

@[simp] theorem State.view_sendMsg (s : State) (d : DieId) (m : Msg) : (s.sendMsg d m).view = s.view := by
  refine s.view_foldl (fun s o => ?_) _
  split
  · rfl
  · exact s.view_onDieAt rfl

@[simp] theorem State.view_sendSideband (s : State) (d : DieId) : (s.sendSideband d).view = s.view := by
  unfold State.sendSideband
  dsimp only
  split
  · exact (State.view_onDieAt _ rfl).trans (s.view_sendMsg ..)
  · split
    · exact (State.view_onDieAt _ rfl).trans (s.view_sendMsg ..)
    · split
      · exact (State.view_onDieAt _ rfl).trans (s.view_sendMsg ..)
      · rfl

theorem Die.view_holdFc (d : Die) : d.holdFc.view = d.view := by
  unfold Die.holdFc
  dsimp only
  split <;> rfl

theorem Die.view_clock (d : Die) (froze hold : Bool) : (d.clock froze hold).view = d.view := by
  have held (x : Die) : (if hold then x.holdFc else x).view = x.view := by
    split
    · exact x.view_holdFc
    · rfl
  have scy (x : Die) : ({ x with scy := x.scy + 1 } : Die).view = x.view := Die.view_of rfl rfl rfl rfl
  unfold Die.clock
  dsimp only
  split
  · exact Die.view_of rfl rfl rfl rfl
  · exact (scy _).trans ((held _).trans (Die.view_of rfl rfl rfl rfl))

theorem State.quiet_handOver (s : State) (d : DieId) : s.Quiet (s.handOver d) := by
  unfold State.handOver
  split
  · exact State.Quiet.refl s
  · dsimp only
    split
    · split
      · exact s.quiet_reportStop _
      · exact State.Quiet.refl s
    · exact State.Quiet.refl s

theorem State.view_nextTurn (s : State) : s.nextTurn.view = s.view := by
  unfold State.nextTurn
  split <;> rfl

theorem State.quiet_endCycle (s : State) (froze hold : Bool) : s.Quiet (s.endCycle froze hold) := by
  have clocked : ((s.sendSideband s.turn).onDieAt s.turn fun x => x.clock froze hold).view = s.view :=
    (State.view_onDieAt _ (Die.view_clock ..)).trans (s.view_sendSideband _)
  unfold State.endCycle
  dsimp only
  generalize (s.sendSideband s.turn).onDieAt s.turn (fun x => x.clock froze hold) = u at clocked ⊢
  refine State.Quiet.trans ?_ (State.quiet_of_view (State.view_nextTurn _))
  split
  · split
    · exact (State.quiet_of_view ((u.view_onDieAt rfl).trans clocked)).trans (State.quiet_handOver ..)
    · exact State.quiet_of_view ((u.view_onDieAt rfl).trans clocked)
  · exact State.quiet_of_view clocked

/-! ### The end of a group -/

@[simp] theorem State.view_resumeTask (s : State) (t : Task) (keep : List (DieId × CtxId)) : (s.resumeTask t keep).view = s.view := by
  unfold State.resumeTask
  dsimp only
  split
  · refine (State.view_onTask _ ?_).trans ((State.view_foldl _ (fun _ _ => State.view_onCtxAt ..) _).trans (State.view_onTask _ ?_))
    · exact fun _ => rfl
    · exact fun _ => rfl
  · refine (State.view_onTask _ ?_).trans ((State.view_foldl _ (fun s p => ?_) _).trans (State.view_onTask _ ?_))
    · exact fun _ => rfl
    · split
      · rfl
      · refine (State.view_onDieAt _ ?_).trans (State.view_onCtxAt ..)
        split <;> rfl
    · exact fun _ => rfl

@[simp] theorem State.view_rfe (s : State) : s.rfe.view = s.view := by
  unfold State.rfe
  dsimp only
  split
  · split
    · exact s.view_onCtx _
    · split
      · exact (State.view_onCtx ..).trans (s.view_onCtx _)
      · exact (State.view_resumeTask ..).trans (s.view_onCtx _)
  · exact s.view_onCtx _

@[simp] theorem State.view_noteExit (s : State) (d : DieId) (c : CtxId) : (s.noteExit d c).view = s.view := by
  unfold State.noteExit
  dsimp only
  split
  · exact s.view_onCtxAt ..
  · rfl

theorem State.quiet_raiseWhole (s : State) (stall : Bool) (d : DieId) (c : CtxId) (cnt : Nat) (place : Option (Nat × Nat)) (l : List Flt) :
    s.Quiet (s.raiseWhole stall d c cnt place l) := by
  cases l with
  | nil => exact State.Quiet.refl s
  | cons f l =>
    simp only [State.raiseWhole]
    split
    · exact State.quiet_of_view (s.view_onCtxAt ..)
    · exact ((State.quiet_of_view (s.view_onCtxAt ..)).trans (State.quiet_deliver ..)).trans (State.quiet_of_view (State.view_onCtxAt ..))

theorem State.quiet_closeWhole (s : State) (trap : List Flt) (place : Option (Nat × Nat)) : s.Quiet (s.closeWhole trap place) := by
  unfold State.closeWhole
  dsimp only
  refine State.Quiet.trans (State.Quiet.trans (State.Quiet.trans (State.quiet_of_view ?_) (State.quiet_raiseWhole ..))
    (State.quiet_of_view (State.view_noteExit ..))) (State.quiet_endCycle ..)
  split
  · exact s.view_onCtx _
  · split
    · exact (State.view_rfe _).trans (s.view_onCtx _)
    · exact (State.view_onCtx ..).trans (s.view_onCtx _)

theorem State.quiet_finishSlot (s : State) : s.Quiet s.finishSlot := by
  unfold State.finishSlot
  split
  · exact State.quiet_of_view (s.view_onGroup _)
  · exact s.quiet_closeWhole ..

theorem State.quiet_takeFault (s : State) (f : Flt) (next : Bool) : s.Quiet (s.takeFault f next) := by
  unfold State.takeFault
  dsimp only
  split
  · exact ((State.quiet_of_view (s.view_onCtx _)).trans (State.quiet_deliver ..)).trans (State.quiet_endCycle ..)
  · exact s.quiet_closeWhole ..

theorem State.quiet_waitCycle (s : State) : s.Quiet s.waitCycle := by
  unfold State.waitCycle
  split
  · exact s.quiet_takeFault ..
  · exact s.quiet_endCycle ..

/-! ### Errors that reads meet -/

theorem State.quiet_eccRead (s : State) (d : DieId) (u : Nat) : s.Quiet (s.eccRead d u).1 := by
  unfold State.eccRead
  split
  · exact State.Quiet.refl s
  · have cleared : (s.onDieAt d fun x => { x.raiseFreeze 32 0 with spEcc := x.spEcc.filter fun y => y.1 != u }).view = s.view :=
      s.view_onDieAt rfl
    exact State.quiet_of_view cleared
  · split
    next owner => exact State.quiet_checkTask (List.mem_map_of_mem (List.mem_of_find?_eq_some owner)) ..
    next => exact s.quiet_postEvent 0 0x24 d 0 _

theorem State.quiet_eccReads (s : State) (d : DieId) (l : List Nat) : s.Quiet (s.eccReads d l).1 := by
  induction l generalizing s with
  | nil => exact State.Quiet.refl s
  | cons u l ih => exact (s.quiet_eccRead d u).trans (ih _)

end Sys2Proof.Machine
end

section
/-! Every move's slot (R182, R292): it is passed where its guard is off, and it writes no memory. -/

namespace Sys2Proof.Machine

open Sys2Proof.Claims

/-- What the slot of a move with guard `g` leaves: it writes no memory, and where the guard is off it is passed. -/
structure SlotOf (g : Guard) (s t : State) : Prop where
  quiet : s.Quiet t
  passed : s.openGroup.takes g = false → t = s.openGroup.finishSlot

section

variable {g : Guard} {src : Src} {port : BitVec 9} {need : List Latch} {chk : Args → List Flt} {waits : Args → Bool}
  {act : Args → State} {s : State} {h : Bool}

theorem State.quiet_openGroup (s : State) : s.Quiet s.openGroup := State.quiet_of_view s.view_openGroup

/-! ### The shapes of a slot -/

theorem slot_runTrigTo (keeps : ∀ a : Args, a.st.Quiet (act a)) : SlotOf g s (runTrigTo g src port need chk waits act s) := by
  refine ⟨?_, runTrigTo_off⟩
  obtain passed | waited | ⟨f, faulted⟩ | ⟨v, s1, -, read, -, -, acted⟩ :=
    runTrigTo_cases (g := g) (src := src) (port := port) (need := need) (chk := chk) (waits := waits) (act := act) (s := s)
  · rw [passed]; exact s.quiet_openGroup.trans (State.quiet_finishSlot _)
  · rw [waited]; exact s.quiet_openGroup.trans (State.quiet_waitCycle _)
  · rw [faulted]; exact s.quiet_openGroup.trans (State.quiet_takeFault ..)
  · rw [acted]
    refine State.Quiet.trans (State.quiet_of_view ?_) (keeps ⟨(s1.takeLatches need).2, v, (s1.takeLatches need).1⟩)
    exact (State.view_takeLatches ..).trans ((State.view_readSrc read).trans s.view_openGroup)

theorem slot_runTrig (keeps : ∀ a : Args, a.st.Quiet (act a)) : SlotOf g s (runTrig g src port need chk waits act s) :=
  slot_runTrigTo fun a => (keeps a).trans (State.quiet_finishSlot _)

theorem slot_of_view (keeps : ∀ a : Args, (act a).view = a.st.view) : SlotOf g s (runTrig g src port need chk waits act s) :=
  slot_runTrig fun a => State.quiet_of_view (keeps a)

@[simp] theorem slot_runMove (dst : Dst) : SlotOf g s (runMove g h src dst s) := by
  refine ⟨?_, runMove_off⟩
  unfold runMove
  dsimp only
  split
  · exact s.quiet_openGroup.trans (State.quiet_finishSlot _)
  · split
    · split
      · exact s.quiet_openGroup.trans (State.quiet_takeFault ..)
      · exact s.quiet_openGroup.trans (State.quiet_waitCycle _)
    next read =>
      split
      · exact s.quiet_openGroup.trans (State.quiet_takeFault ..)
      · split
        · exact s.quiet_openGroup.trans (State.quiet_waitCycle _)
        · exact (State.quiet_of_view ((State.view_writeDst ..).trans ((State.view_readSrc read).trans s.view_openGroup))).trans
            (State.quiet_finishSlot _)

/-! ### Scalar, control and synchronisation units -/

@[simp] theorem slot_runIa (p : LatPort) (f : Args → Word) : SlotOf g s (runIa p port need f g src s) := slot_of_view fun _ => State.view_after ..

@[simp] theorem slot_runIm (lat : Nat) (f : Word → Word → Word × Word) : SlotOf g s (runIm port lat f g src s) :=
  slot_of_view fun _ => (State.view_after ..).trans (State.view_after ..)

@[simp] theorem slot_runJmp : SlotOf g s (runJmp g src s) := slot_of_view fun _ => State.view_branchTo ..

@[simp] theorem slot_runCall : SlotOf g s (runCall g src s) := slot_of_view fun _ => (State.view_branchTo ..).trans (State.view_onCtx ..)

@[simp] theorem slot_runLoop : SlotOf g s (runLoop g src s) := by
  refine slot_of_view fun a => ?_
  split <;> simp

@[simp] theorem slot_runRotcfg : SlotOf g s (runRotcfg g src s) := slot_of_view fun _ => State.view_onCtx ..

@[simp] theorem slot_runYield : SlotOf g s (runYield g src s) := slot_of_view fun _ => State.view_onGroup ..

@[simp] theorem slot_runAlign : SlotOf g s (runAlign g src s) := by
  refine slot_of_view fun a => ?_
  split
  · split
    · exact State.view_onGroup ..
    · rfl
  · rfl

@[simp] theorem slot_runExit : SlotOf g s (runExit g src s) := slot_of_view fun _ => State.view_onGroup ..

@[simp] theorem slot_runAbandon : SlotOf g s (runAbandon g src s) := slot_of_view fun _ => State.view_discardAll _

@[simp] theorem slot_runTrap : SlotOf g s (runTrap g src s) := slot_runTrigTo fun _ => State.quiet_takeFault ..

@[simp] theorem slot_runBrk : SlotOf g s (runBrk g src s) := slot_runTrigTo fun _ => State.quiet_takeFault ..

@[simp] theorem slot_runRfe : SlotOf g s (runRfe g src s) := slot_of_view fun _ => State.view_onGroup ..

@[simp] theorem slot_runFence (loads stores : Bool) : SlotOf g s (runFence port loads stores g src s) := slot_of_view fun _ => State.view_onCtx ..

@[simp] theorem slot_runBarArrive : SlotOf g s (runBarArrive g src s) := slot_of_view fun _ => State.view_onCtx ..

@[simp] theorem slot_runBarWait : SlotOf g s (runBarWait g src s) := slot_of_view fun _ => rfl

@[simp] theorem slot_runTokWait : SlotOf g s (runTokWait g src s) := slot_of_view fun _ => rfl

@[simp] theorem slot_runTokTest : SlotOf g s (runTokTest g src s) := slot_of_view fun _ => State.view_after ..

@[simp] theorem slot_runTokClr : SlotOf g s (runTokClr g src s) := slot_of_view fun _ => State.view_setTok ..

@[simp] theorem slot_runTokId : SlotOf g s (runTokId g src s) := by
  refine slot_of_view fun a => ?_
  dsimp only
  split
  · rfl
  · split
    · exact (State.view_setTok ..).trans (State.view_after ..)
    · refine (State.view_onCtx ..).trans ((State.view_onTask _ ?_).trans ((State.view_setTok ..).trans (State.view_after ..)))
      exact fun _ => rfl

@[simp] theorem slot_runPhase : SlotOf g s (runPhase g src s) := slot_of_view fun a => a.st.view_onTask fun _ => rfl

@[simp] theorem slot_runClaim : SlotOf g s (runClaim g src s) := slot_of_view fun a => a.st.view_onTask fun _ => rfl

@[simp] theorem slot_runPublish : SlotOf g s (runPublish g src s) := slot_of_view fun _ => (State.view_push ..).trans (State.view_place ..)

@[simp] theorem slot_runSrd : SlotOf g s (runSrd g src s) := by
  refine slot_of_view fun a => ?_
  dsimp only
  split
  · exact (State.view_push ..).trans (State.view_place ..)
  · exact State.view_after ..

@[simp] theorem slot_runSwr : SlotOf g s (runSwr g src s) := slot_of_view fun _ => State.view_swr ..

/-! ### Loads, stores and atomics -/

@[simp] theorem slot_runLoad (op : QOp) (n : Nat) (row : Bool) : SlotOf g s (runLoad port op n row g src s) :=
  slot_of_view fun _ => (State.view_traceMem ..).trans ((State.view_push ..).trans (State.view_place ..))

@[simp] theorem slot_runStore (w : Wid) : SlotOf g s (runStore port w g src s) := slot_of_view fun _ => State.view_store ..

@[simp] theorem slot_runStrow : SlotOf g s (runStrow g src s) := slot_of_view fun _ => State.view_store ..

@[simp] theorem slot_runStrowm : SlotOf g s (runStrowm g src s) := by
  refine slot_of_view fun a => ?_
  dsimp only
  split
  · rfl
  · exact State.view_store ..

@[simp] theorem slot_runQmark : SlotOf g s (runQmark g src s) := slot_of_view fun _ => State.view_onCtx ..

@[simp] theorem slot_runAmo (op : AmoOp) (wide : Bool) : SlotOf g s (runAmo port op wide g src s) :=
  slot_of_view fun _ => (State.view_traceMem ..).trans ((State.view_push ..).trans (State.view_place ..))

/-! ### Vector and cross-slice units -/

theorem slot_runVx (l : Nat) (f : Args → Tile × Flags) : SlotOf g s (runVx port need chk l f g src s) :=
  slot_of_view fun _ => State.view_deliverVx ..

@[simp] theorem slot_runLanes (l w : Nat) (op : RMode → Nat → Nat → Nat → Res) : SlotOf g s (runLanes port need l w op g src s) := slot_runVx ..

@[simp] theorem slot_runBytes (f : Args → Nat → Row) : SlotOf g s (runBytes port need f g src s) := slot_runVx ..

@[simp] theorem slot_runShift (limit l : Nat) (f : Args → Nat → Row) : SlotOf g s (runShift port need limit l f g src s) := slot_runVx ..

@[simp] theorem slot_runReduce (w : Nat) (cv : Nat → Res) (ident : Nat) (op : Res → Res → Res) :
    SlotOf g s (runReduce port w cv ident op g src s) := slot_runVx ..

@[simp] theorem slot_runBscale (f : Fmt) : SlotOf g s (runBscale port f g src s) := slot_runVx ..

@[simp] theorem slot_runBquant (f : Fmt) : SlotOf g s (runBquant port f g src s) := by
  refine slot_of_view fun a => ?_
  dsimp only
  split <;> simp

@[simp] theorem slot_runCvt (k : CvtForm) : SlotOf g s (runCvt port k g src s) := by
  have amax (u : State) (l : Nat) (n : Fin 4) (m : Option Fmt) (x : Fmt → Bool × BitVec 32) :
      (match m with | some f => u.amaxAt l n (x f) | none => u).view = u.view := by
    cases m
    · rfl
    · exact u.view_amaxAt ..
  have drawn (u : State) (b : Bool) : (if b then u.drawnRng else u).view = u.view := by
    cases b
    · rfl
    · exact u.view_drawnRng
  have slowed (u : State) (b : Bool) : (if b then u.stall 16 else u).view = u.view := by
    cases b
    · rfl
    · exact u.view_stall 16
  refine slot_of_view fun a => ?_
  exact (slowed ..).trans ((drawn ..).trans ((amax ..).trans (State.view_deliverVx ..)))

@[simp] theorem slot_runFun (l : Nat) (f2 : Nat → Res) (p1 : Option (Nat × (Nat → Res))) : SlotOf g s (runFun port l f2 p1 g src s) := by
  refine slot_of_view fun a => ?_
  dsimp only
  split
  · split <;> simp
  · exact State.view_deliverVx ..

@[simp] theorem slot_runScan (cv : Nat → Res) (ident : Nat) (op : Res → Res → Res) : SlotOf g s (runScan port cv ident op g src s) :=
  slot_of_view fun _ => State.view_deliverSc ..

@[simp] theorem slot_runXred (cv : Nat → Res) (ident : Nat) (op : Res → Res → Res) : SlotOf g s (runXred port cv ident op g src s) :=
  slot_of_view fun _ => State.view_deliverSc ..

@[simp] theorem slot_runXscan (cv : Nat → Res) (ident : Nat) (op : Res → Res → Res) : SlotOf g s (runXscan port cv ident op g src s) := by
  refine slot_of_view fun a => ?_
  cases taken : a.st.takeLatch .scf with
  | none => exact State.view_deliverSc ..
  | some p => exact (State.view_deliverSc ..).trans (State.view_takeLatch taken)

/-! ### Matrix, network and fill units -/

@[simp] theorem slot_runPush (f : MxForm) : SlotOf g s (runPush port f g src s) := slot_of_view fun _ => State.view_after ..

@[simp] theorem slot_runPushIx : SlotOf g s (runPushIx g src s) := slot_of_view fun _ => State.view_after ..

@[simp] theorem slot_runPushSp : SlotOf g s (runPushSp g src s) := by
  refine slot_of_view fun a => ?_
  split
  · exact State.view_after ..
  · rfl

@[simp] theorem slot_runAcc (f : MxForm) : SlotOf g s (runAcc port f g src s) := slot_of_view fun _ => State.view_after ..

@[simp] theorem slot_runAccSp : SlotOf g s (runAccSp g src s) := by
  refine slot_of_view fun a => ?_
  dsimp only
  split
  · rfl
  · exact State.view_after ..

@[simp] theorem slot_runSwap : SlotOf g s (runSwap g src s) := slot_of_view fun _ => State.view_after ..

@[simp] theorem slot_runZero : SlotOf g s (runZero g src s) := slot_of_view fun _ => State.view_after ..

@[simp] theorem slot_runDrain (step : Nat) (f : Nat → Cell → Row × Flags) : SlotOf g s (runDrain port step f g src s) :=
  slot_of_view fun _ => (State.view_raise ..).trans (State.view_after ..)

@[simp] theorem slot_runAgSet (k : Fin 4) (r : BitVec 5) : SlotOf g s (runAgSet k port g r s) := slot_of_view fun _ => State.view_setGen ..

@[simp] theorem slot_runAgStep (k : Fin 4) : SlotOf g s (runAgStep k port g src s) := slot_of_view fun _ => State.view_setGen ..

@[simp] theorem slot_runAgRd (k : Fin 4) (out : LatPort) (routeOf : GroupCtx → BitVec 9) : SlotOf g s (runAgRd k port out routeOf g src s) := by
  refine slot_runTrig fun a => ?_
  dsimp only
  split
  · exact State.Quiet.refl _
  next x _ =>
    have gathered (u : State) (y : Tile) (l : List FarWord) : ((u.gatherFar y l).2.setGen k (some (x.advance 1))).view = u.view :=
      (State.view_setGen ..).trans (u.view_gatherFar ..)
    refine (a.st.quiet_eccReads a.st.turn x.units).trans (State.quiet_of_view ?_)
    split
    · exact (State.view_after ..).trans (gathered ..)
    · exact gathered ..

@[simp] theorem slot_runAgWr (k : Fin 4) : SlotOf g s (runAgWr k port g src s) := by
  refine slot_of_view fun a => ?_
  dsimp only
  split
  · rfl
  · exact (State.view_after ..).trans ((State.view_setGen ..).trans (State.view_foldl _ (fun _ _ => State.view_sendFar ..) _))

@[simp] theorem slot_runLoadTable (kind top : Nat) : SlotOf g s (runLoadTable port kind top g src s) := by
  refine slot_of_view fun a => ?_
  split
  · exact (State.view_after ..).trans (State.view_pend ..)
  · rfl

@[simp] theorem slot_runSolve : SlotOf g s (runSolve g src s) := by
  refine slot_of_view fun a => ?_
  dsimp only
  split
  · rfl
  · exact (State.view_after ..).trans ((State.view_after ..).trans ((State.view_pend ..).trans (State.view_onDie _ rfl)))

@[simp] theorem slot_runFarclr : SlotOf g s (runFarclr g src s) := slot_of_view fun a => a.st.view_onDie rfl

@[simp] theorem slot_runFarstat : SlotOf g s (runFarstat g src s) := slot_of_view fun _ => State.view_after ..

@[simp] theorem slot_runFill (k : FillKind) : SlotOf g s (runFill port k g src s) := by
  refine slot_of_view fun a => ?_
  dsimp only
  split
  · rfl
  · exact (State.view_trace ..).trans ((State.view_pend ..).trans (State.view_onDie _ rfl))

@[simp] theorem slot_runPin : SlotOf g s (runPin g src s) := slot_of_view fun a => (State.view_after ..).trans (a.st.view_onDie rfl)

/-! ### The fabric -/

theorem slot_runFx {side : QSide} {mk : Args → RemOp × Word} : SlotOf g s (runFx port side need mk chk g h src s) :=
  slot_of_view fun _ => State.view_fxIssue ..

@[simp] theorem slot_runRld (wide : Bool) : SlotOf g s (runRld port wide g h src s) := slot_runFx

@[simp] theorem slot_runRldrow : SlotOf g s (runRldrow g h src s) := slot_runFx

@[simp] theorem slot_runRst (wide : Bool) : SlotOf g s (runRst port wide g h src s) := slot_runFx

@[simp] theorem slot_runRstrow : SlotOf g s (runRstrow g h src s) := slot_runFx

@[simp] theorem slot_runRamo (op : AmoOp) : SlotOf g s (runRamo port op g h src s) := slot_runFx

@[simp] theorem slot_runRamoOrd (op : AmoOp) : SlotOf g s (runRamoOrd port op g h src s) :=
  slot_of_view fun _ => (State.view_fxIssue ..).trans (State.view_onCtx ..)

@[simp] theorem slot_runRdel : SlotOf g s (runRdel g h src s) := slot_runFx

@[simp] theorem slot_runRdelg : SlotOf g s (runRdelg g h src s) := slot_runFx

@[simp] theorem slot_runMlr (op : MlrOp) : SlotOf g s (runMlr port op g h src s) := slot_runFx

@[simp] theorem slot_runFlag : SlotOf g s (runFlag g h src s) := slot_runFx

@[simp] theorem slot_runSstep : SlotOf g s (runSstep g h src s) := slot_runFx

@[simp] theorem slot_runSpush : SlotOf g s (runSpush g src s) := slot_of_view fun _ => State.view_pushStream ..

@[simp] theorem slot_runSpop : SlotOf g s (runSpop g src s) := by
  refine slot_of_view fun a => (State.view_onCtx ..).trans ?_
  split
  next popped =>
    split at popped
    · cases popped
    · exact (State.view_onCtx ..).trans ((State.view_popStream popped).trans (State.view_place ..))
  next => exact (State.view_waitSpop ..).trans (State.view_place ..)

@[simp] theorem slot_runMbsend : SlotOf g s (runMbsend g h src s) := slot_runFx

@[simp] theorem slot_runMbrecv : SlotOf g s (runMbrecv g h src s) := slot_runFx

@[simp] theorem slot_runMbpeek : SlotOf g s (runMbpeek g h src s) := slot_runFx

@[simp] theorem slot_runPen : SlotOf g s (runPen g h src s) := slot_runFx

end

/-! ### Every instruction -/

/-- What an outcome is for the slot of a move with guard `g`. -/
def SlotOut (g : Guard) (s : State) (o : Out) : Prop := ∃ t, o = .next t ∧ SlotOf g s t

theorem slotOut_next {g : Guard} {s t : State} (h : SlotOf g s t) : SlotOut g s (.next t) := ⟨t, rfl, h⟩

/-- The slot of every guarded instruction, unit by unit. -/
theorem slotOut_exec {i : Instr} {g : Guard} {s : State} (guarded : guardOf i = some g) : SlotOut g s (exec i s) := by
  cases i <;> cases guarded
  all_goals refine slotOut_next ?_
  all_goals simp

/-- An instruction that is no event is a NOP or has a guard. -/
theorem guardOf_of_not_event {i : Instr} (move : i.parts ≠ .event) : i.parts = .nop ∨ ∃ g, guardOf i = some g := by
  unfold guardOf
  cases parts : i.parts with
  | move g h src dst => exact .inr ⟨g, rfl⟩
  | trig g h src port => exact .inr ⟨g, rfl⟩
  | agSet g r port => exact .inr ⟨g, rfl⟩
  | nop => exact .inl rfl
  | event => exact absurd parts move

theorem eq_nop_of_parts {i : Instr} (parts : i.parts = .nop) : i = .nop := by
  cases i <;> cases parts <;> rfl

theorem quiet_exec {i : Instr} {s t : State} (move : i.parts ≠ .event) (run : exec i s = .next t) : s.Quiet t := by
  obtain nop | ⟨g, guarded⟩ := guardOf_of_not_event move
  · have passed : exec .nop s = .next s.openGroup.finishSlot := rfl
    rw [eq_nop_of_parts nop, passed] at run
    exact Host.Outcome.next.inj run ▸ s.quiet_openGroup.trans (State.quiet_finishSlot _)
  · obtain ⟨u, out, slot⟩ := slotOut_exec (s := s) guarded
    rw [out] at run
    exact Host.Outcome.next.inj run ▸ slot.quiet

end Sys2Proof.Machine

namespace Sys2Proof.Proofs

open Sys2Proof.Machine Sys2Proof.Claims

/-- Settles O7: every guarded instruction is a `runTrigTo` or a `runMove`, which test the guard first (R292). -/
theorem guardedOffMovesDoNothing : Obligations.GuardedOffMovesDoNothing := by
  intro i g s guarded off
  obtain ⟨t, out, slot⟩ := slotOut_exec (s := s) guarded
  rw [out, slot.passed off]

/-- Settles O8: what a slot does, its end included, leaves every memory but the scratchpad of a task that ends. -/
theorem movesWriteNoMemory : Obligations.MovesWriteNoMemory := by
  intro i s t move run
  have quiet := quiet_exec move run
  refine ⟨fun a => by rw [quiet.device], fun d a => by rw [quiet.code], fun same d a => ?_⟩
  obtain ⟨sp, side⟩ := quiet.scratch same d
  rw [sp, side]
  exact ⟨rfl, rfl⟩

end Sys2Proof.Proofs
end

section
/-! The sideband and the far lanes (R44, R45, R47, R49 to R51, R168, R169). -/

namespace Sys2Proof.Machine

/-! ### The message that a die hears -/

theorem State.nextMsg_of {s : State} {d : DieId} {w : Wire} {l : List Wire} (run : s.clockedAt d = true)
    (inbox : (s.dieAt d).inbox = w :: l) (usable : w.usable ≤ (s.dieAt d).tick) :
    s.nextMsg d = some (w, s.onDieAt d fun x => { x with inbox := l }) := by
  simp only [State.nextMsg, inbox, run, usable, decide_true, Bool.and_self, if_true]

@[simp] theorem Die.partner_onPartner (x : Die) (o : DieId) (f : Partner → Partner) : (x.onPartner o f).partners.get o = f (x.partners.get o) :=
  Vector.getElem_set_self o.isLt

/-- The fold of a die is told by its timed context and the tasks. -/
theorem State.foldTask_onDieAt (s : State) (d : DieId) {f : Die → Die} (ctxs : (f (s.dieAt d)).ctxs = (s.dieAt d).ctxs) :
    (s.onDieAt d f).foldTask d = s.foldTask d := by
  have timed : (f (s.dieAt d)).timedCid = (s.dieAt d).timedCid := by simp only [Die.timedCid, Die.ctxAt, ctxs]
  have ctx (c : CtxId) : (f (s.dieAt d)).ctxAt c = (s.dieAt d).ctxAt c := by rw [Die.ctxAt, ctxs]; rfl
  rw [State.foldTask, State.dieAt_onDieAt, timed]
  simp only [ctx]
  rfl

/-! ### Count messages -/

@[simp] theorem Partner.missing_compare (p : Partner) (tick own : Word) : (p.compare tick own).missing = p.missing := by
  unfold Partner.compare
  split
  · rfl
  · dsimp only
    split
    · rfl
    · split <;> rfl

/-- A message that comes without a gap clears the count of the missing ones (R50). -/
theorem State.partner_takeCount (s : State) (d o : DieId) (tick scy : Word) (fold : Bool) : ∃ p : Partner,
    ((s.takeCount d o tick scy fold).dieAt d).partners.get o = p ∧ p.lastTick = tick ∧ p.lastArr = (s.dieAt d).tick ∧
      (((s.dieAt d).partners.get o).missing < 3 → ticksMissing ((s.dieAt d).partners.get o).lastTick tick < 3 → p.missing = 0) := by
  refine ⟨_, by rw [State.takeCount, State.dieAt_onDieAt, Die.partner_onPartner], rfl, rfl, fun few gap => if_neg ?_⟩
  have same : (if neighbours d o then ((s.dieAt d).partners.get o).compare tick (s.dieAt d).tick
      else (s.dieAt d).partners.get o).missing = ((s.dieAt d).partners.get o).missing := by
    split
    · exact Partner.missing_compare ..
    · rfl
  rw [same, decide_eq_false (Nat.not_le.2 few), decide_eq_false (Nat.not_le.2 gap)]
  simp

theorem State.inbox_takeCount (s : State) (d o : DieId) (tick scy : Word) (fold : Bool) :
    ((s.takeCount d o tick scy fold).dieAt d).inbox = (s.dieAt d).inbox :=
  (congrArg Die.inbox (s.dieAt_onDieAt d _) :)

/-! ### Event messages -/

/-- An event message that comes in its order from a member of the die's fold has its effect (R168, R169). -/
theorem State.takeEvent_inOrder {s : State} {d o : DieId} {e : BitVec 8} {k : Task} {c : CtxId} {f : Task → CtxId → State → State}
    (fold : s.foldTask d = some (k, c)) (member : k.fold.getLsbD o.val = true) (next : e = ((s.dieAt d).partners.get o).eseq + 1) :
    s.takeEvent d o e true f = f k c (s.onDieAt d fun x => x.onPartner o fun p => { p with eseq := e }) := by
  subst next
  simp only [State.takeEvent, fold, member, bne_self_eq_false, Bool.not_true, Bool.or_self, Bool.false_eq_true, if_false]

/-- What is the same of a die whichever contexts change is the same after the free contexts of a task are held. -/
theorem State.proj_holdFree {α : Type} {F : Die → α} (same : ∀ (x : Die) c f, F (x.onCtxAt c f) = F x) (s : State) (t : Task) (d : DieId) :
    F ((s.holdFree t).dieAt d) = F (s.dieAt d) := by
  have each (u : State) (e : DieId) (c : CtxId) (f : Ctx → Ctx) : F ((u.onCtxAt e c f).dieAt d) = F (u.dieAt d) := by
    by_cases here : d = e
    · subst here
      exact (congrArg F (State.dieAt_onDieAt u d _)).trans (same ..)
    · exact congrArg F (State.dieAt_onDieAt_ne u _ here)
  unfold State.holdFree
  generalize t.ctxs = l
  induction l generalizing s with
  | nil => rfl
  | cons p l ih => exact (ih _).trans (each ..)

/-- A member that joins the stop of its fold waits 64 ticks for its hand-over, with the rows of its lanes taken over (R169, R275). -/
theorem State.die_joinStop {s : State} {t : Task} {d : DieId} (c : CtxId) (first : (t.stopCounts.any fun z => z.1 == d) = false) :
    ((s.joinStop t d c).dieAt d).stopFrozen = true ∧ ((s.joinStop t d c).dieAt d).stopHand = 64 ∧
      ((s.joinStop t d c).dieAt d).rx = .replicate 16 [] := by
  have all : (fun x : Die => (x.stopFrozen, x.stopHand, x.rx)) ((s.joinStop t d c).dieAt d) = (true, 64, .replicate 16 []) := by
    simp only [State.joinStop, first, Bool.false_eq_true, if_false]
    refine (State.proj_holdFree (F := fun x => (x.stopFrozen, x.stopHand, x.rx)) (fun _ _ _ => rfl) _ t d).trans ?_
    have stopped (u : State) (lid : BitVec 32) (g : Task → Task) :
        (((u.onDieAt d fun x => x.stopMember c).onCtxAt d c Ctx.hold).onTask lid g).dieAt d =
          ((u.dieAt d).stopMember c).onCtxAt c Ctx.hold :=
      (State.dieAt_onDieAt _ d fun x => x.onCtxAt c Ctx.hold).trans (congrArg (fun x => x.onCtxAt c Ctx.hold) (u.dieAt_onDieAt d _))
    rw [stopped]
    rfl
  simpa only [Prod.mk.injEq] using all

/-- A die that hears in its order that its fold stops joins the stop, while it issues (R169). -/
theorem State.stopMessage_joins {s : State} {d : DieId} {w : Wire} {l : List Wire} {k : Task} {c : CtxId} {e : BitVec 8} {x : BitVec 48}
    {y : Nat} {n : BitVec 8} (run : s.clockedAt d = true) (inbox : (s.dieAt d).inbox = w :: l) (usable : w.usable ≤ (s.dieAt d).tick)
    (msg : w.msg = .stop e x y n) (fold : s.foldTask d = some (k, c)) (member : k.fold.getLsbD w.origin.val = true)
    (next : e = ((s.dieAt d).partners.get w.origin).eseq + 1) (issues : ∀ m, ((s.dieAt d).ctxAt c).status ≠ .stalled m) :
    ∃ u : State, s.stopMessage d true = some (u.joinStop k d c) := by
  have kept : (s.onDieAt d fun x => { x with inbox := l }).foldTask d = some (k, c) := (s.foldTask_onDieAt d rfl).trans fold
  refine ⟨(s.onDieAt d fun x => { x with inbox := l }).onDieAt d fun x => x.onPartner w.origin fun p => { p with eseq := e }, ?_⟩
  simp only [State.stopMessage, State.nextMsg_of run inbox usable, msg]
  refine congrArg some ((State.takeEvent_inOrder kept member (by rw [State.dieAt_onDieAt]; exact next)).trans ?_)
  split
  next m stalled =>
    simp only [State.dieAt_onDieAt] at stalled
    exact absurd stalled (issues m)
  next => rfl

/-! ### Frames of the far lanes -/

/-- A row that comes on a lane joins those that wait there, if its sender is of the fold, the lanes go on and there is room (R44, R45). -/
theorem State.laneRow_joins {s : State} {d o : DieId} {f : Frame} {t : Task} {c : CtxId} {p : Nat} {q : Bool}
    (fold : s.foldTask d = some (t, c)) (peer : lanePeer d f.lane.toNat = some (o, p, q)) (member : t.fold.getLsbD o.val = true)
    (goes : s.lanesStopped t d c = false) (room : ((s.dieAt d).lane f.lane.toNat).length < 24) : s.laneRow d f =
      s.onDieAt d fun y => { y with rx := y.rx.setIfInBounds f.lane.toNat (y.lane f.lane.toNat ++ [(f.row, f.stamp)]) } := by
  simp only [State.laneRow, fold, peer, member, goes, Nat.not_le.2 room, Bool.not_true, Bool.false_eq_true, if_false]

/-- The rows that wait on a lane of a die, with one more there. -/
theorem Die.lane_push (x : Die) (l : BitVec 4) (r : Row × BitVec 16) :
    ({ x with rx := x.rx.setIfInBounds l.toNat (x.lane l.toNat ++ [r]) } : Die).lane l.toNat = x.lane l.toNat ++ [r] := by
  have inside : l.toNat < 16 := l.isLt
  simp [Die.lane, List.getD_eq_getElem?_getD, inside]

/-- A good frame takes its row to the lane of its die, and the bits that were corrected are counted (R44). -/
theorem State.farFrame_lands {s : State} {d o : DieId} {l : BitVec 4} (n : Nat) {f : Frame} {k : Task} {c : CtxId} {p : Nat} {q : Bool}
    (waiting : (s.dieAt d).flight.find? (fun f => f.lane == l && decide (f.arrive ≤ (s.dieAt d).tick)) = some f)
    (fold : s.foldTask d = some (k, c)) (peer : lanePeer d l.toNat = some (o, p, q)) (member : k.fold.getLsbD o.val = true)
    (goes : s.lanesStopped k d c = false) (room : ((s.dieAt d).lane l.toNat).length < 24) : ∃ t, s.farFrame d l n false = some t ∧
      (t.dieAt d).lane l.toNat = (s.dieAt d).lane l.toNat ++ [(f.row, f.stamp)] ∧
      (t.dieAt d).flight = (s.dieAt d).flight.erase f ∧ t.links.errFar = satInc16 s.links.errFar n := by
  obtain ⟨rfl, -⟩ : f.lane = l ∧ f.arrive ≤ (s.dieAt d).tick := by simpa using List.find?_some waiting
  obtain ⟨u, arrived, die, tasks, links⟩ : ∃ u : State, s.farFrame d f.lane n false = some (u.laneRow d f) ∧
      u.dieAt d = { s.dieAt d with flight := (s.dieAt d).flight.erase f } ∧ u.sched = s.sched ∧
      u.links.errFar = satInc16 s.links.errFar n :=
    ⟨{ s.onDieAt d fun y => { y with flight := y.flight.erase f } with links := { s.links with errFar := satInc16 s.links.errFar n } },
      by simp only [State.farFrame, waiting, Bool.false_eq_true, if_false]; rfl,
      s.dieAt_onDieAt d fun y => { y with flight := y.flight.erase f }, rfl, rfl⟩
  have still : u.foldTask d = some (k, c) := by
    rw [← fold, State.foldTask, die, State.foldTask]
    simp only [State.task?_congr tasks]
    rfl
  refine ⟨_, arrived, ?_⟩
  rw [State.laneRow_joins still peer member (by rw [State.lanesStopped, die]; exact goes) (by rw [die]; exact room),
    State.dieAt_onDieAt, die]
  exact ⟨Die.lane_push .., rfl, links⟩

/-! ### The loss of the far path -/

theorem State.service_endTaskAt (s : State) (t : Task) (outcome detail run : Nat) (d : DieId) :
    ((s.endTaskAt t outcome detail run).dieAt d).outOfService = (s.dieAt d).outOfService := by
  obtain ⟨u, v, first, cleared, e⟩ := s.cleared_endTaskAt t outcome detail run
  rw [e]
  exact (cleared.dies d).service.trans (first.service d)

theorem State.service_checkTask (s : State) (t : Task) (d : DieId) (code : BitVec 8) (addr : Word) (e : DieId) :
    ((s.checkTask t d code addr).dieAt e).outOfService = (s.dieAt e).outOfService := by
  unfold State.checkTask
  split
  · exact (State.service_endTaskAt ..).trans ((s.quiet_taskEvent ..).service e)
  · split
    · exact (State.quiet_of_view (s.view_onCtxAt ..)).service e
    · rfl

/-- A die that is out of service stays so when another leaves it. -/
theorem State.service_dieOut {s : State} {e : DieId} (gone : (s.dieAt e).outOfService = true) (d : DieId) (code fail : BitVec 8) :
    ((s.dieOut d code fail).dieAt e).outOfService = true := by
  have told (l : List Task) (u : State) : ((l.foldl (fun s t => s.checkTask t d code 0) u).dieAt e).outOfService = (u.dieAt e).outOfService := by
    induction l generalizing u with
    | nil => rfl
    | cons t l ih => exact (ih _).trans (u.service_checkTask ..)
  have left (u : State) (same : (u.dieAt e).outOfService = true) :
      ((u.onDieAt d fun x => { x with outOfService := true }).dieAt e).outOfService = true := by
    by_cases here : e = d
    · subst here
      exact congrArg Die.outOfService (State.dieAt_onDieAt ..)
    · rw [State.dieAt_onDieAt_ne u _ here, same]
  unfold State.dieOut
  refine left _ ?_
  split
  · rw [(s.quiet_postEvent ..).service, gone]
  · rw [told, gone]

/-- What the two ends of the far path leave when it is lost (R47). -/
theorem State.farPathLost_leaves {s : State} {b : Bool} (up : (s.inService 1 || s.inService (if b then 2 else 0)) = true) :
    ∃ t, s.farPathLost b = some t ∧ t.pkg.fail = 0x24 ∧ (s.inService 1 = true → (t.dieAt 1).outOfService = true) ∧
      (s.inService (if b then 2 else 0) = true → (t.dieAt (if b then 2 else 0)).outOfService = true) := by
  generalize o_is : (if b then 2 else (0 : DieId)) = o at up
  have self (s : State) (d : DieId) := (s.dieOut_self d 0x46 0x24).2.1
  by_cases near : s.inService 1 = true
  · by_cases far : s.inService o = true
    · exact ⟨(s.dieOut 1 0x46 0x24).dieOut o 0x46 0x24, by simp [State.farPathLost, o_is, near, far], rfl,
        fun _ => State.service_dieOut (self ..) .., fun _ => self ..⟩
    · exact ⟨s.dieOut 1 0x46 0x24, by simp [State.farPathLost, o_is, near, far], rfl, fun _ => self .., fun h => absurd h far⟩
  · have far : s.inService o = true := by simpa [near] using up
    exact ⟨s.dieOut o 0x46 0x24, by simp [State.farPathLost, o_is, near, far], rfl, fun h => absurd h near, fun _ => self ..⟩

end Sys2Proof.Machine

namespace Sys2Proof.Proofs

open Sys2Proof.Machine Sys2Proof.Claims

/-- Settles O29: each message or frame is heard at its receiver, in its order, by the fold that the die works for. -/
theorem sidebandEventsComplete : Obligations.SidebandEventsComplete := by
  refine ⟨fun s d run due unsent => ?_, fun s d w l k y f run inbox usable msg => ?_, fun s d w l k y f run inbox usable msg => ?_,
    fun s d o k c fold other member started missing => ?_,
    fun s d w l k c a e n y run inbox usable msg fold member next => ?_,
    fun s d w l k c e x y n run inbox usable msg fold member next first issues => ?_,
    fun s d l n f k c o p q waiting fold peer member goes room => ?_, fun s b up => ?_⟩
  · refine answers_enabled (exec_countMessageSend d s) (if_pos ?_) ?_
    · simp only [run, beq_iff_eq.2 due, bne_iff_ne.2 unsent, Bool.and_self]
    · rw [State.dieAt_onDieAt]; exact ⟨rfl, rfl⟩
  · have heard : s.countMessage d true = some ((s.onDieAt d fun x => { x with inbox := l }).takeCount d w.origin k y f) := by
      simp only [State.countMessage, State.nextMsg_of run inbox usable, msg, if_true]
    obtain ⟨p, partner, tick, arrived, none⟩ := (s.onDieAt d fun x => { x with inbox := l }).partner_takeCount d w.origin k y f
    rw [State.dieAt_onDieAt] at arrived none
    refine answers_enabled (exec_countMessage d true s) heard ⟨?_, ?_, ?_, fun few gap => ?_⟩
    · rw [State.inbox_takeCount, State.dieAt_onDieAt]
    · rw [partner, tick]
    · rw [partner, arrived]
    · rw [partner, none few gap]
  · have heard : s.countMessage d false = some (({ s.onDieAt d fun x => { x with inbox := l } with
        links := { s.links with errCount := satInc16 s.links.errCount 1 } } : State).onDieAt d fun x =>
          x.onPartner w.origin fun p => { p with missing := p.missing + 1 }) := by
      simp only [State.countMessage, State.nextMsg_of run inbox usable, msg]
      rfl
    refine answers_enabled (exec_countMessage d false s) heard ?_
    rw [State.dieAt_onDieAt, Die.partner_onPartner]
    exact ⟨(congrArg Die.inbox (s.dieAt_onDieAt d fun x => { x with inbox := l }) :),
      (congrArg (fun x => (x.partners.get w.origin).missing + 1) (s.dieAt_onDieAt d fun x => { x with inbox := l }) :), rfl⟩
  · refine exec_event (exec_countMessagesMissing d o s) ?_
    simp only [State.countsMissing, fold, bne_iff_ne.2 other, member, started, missing, decide_true, Bool.true_or, Bool.and_self, if_true]
  · have kept : (s.onDieAt d fun x => { x with inbox := l }).foldTask d = some (k, c) := (s.foldTask_onDieAt d rfl).trans fold
    have heard := State.takeEvent_inOrder (e := e) (f := fun _ _ s => if true then s.onDieAt d fun x => { x with debt := x.debt + n.toNat } else s)
      kept member (by rw [State.dieAt_onDieAt]; exact next)
    refine answers_enabled (exec_freezeEventMessage d true s) (Eq.trans ?_ (congrArg some heard)) ?_
    · simp only [State.freezeMessage, State.nextMsg_of run inbox usable, msg]
    · simp only [if_true, State.dieAt_onDieAt]
      exact ⟨rfl, rfl, congrArg Partner.eseq (Die.partner_onPartner ..)⟩
  · obtain ⟨u, heard⟩ := State.stopMessage_joins run inbox usable msg fold member next issues
    exact answers_enabled (exec_stopEventMessage d true s) heard (State.die_joinStop c first)
  · obtain ⟨t, landed, holds⟩ := State.farFrame_lands n waiting fold peer member goes room
    exact answers_enabled (exec_farLaneFrame d l n false s) landed holds
  · obtain ⟨t, lost, holds⟩ := State.farPathLost_leaves up
    exact answers_enabled (exec_farPathLost b s) lost holds

end Sys2Proof.Proofs
end

section
/-! The canonical form of the memories (log 4): what keeps it, operation by operation. -/

namespace Sys2Proof.Machine

/-- Every memory of the package is in canonical form. -/
def State.Canon (s : State) : Prop := s.memOk = true

/-- Every memory of a die is in canonical form. -/
def Die.Canon (d : Die) : Prop := d.memOk = true

/-- A result, where there is one, has its memories in canonical form. -/
def CanonOpt (o : Option State) : Prop := ∀ t, o = some t → t.Canon

theorem canonOpt_none : CanonOpt none := fun _ e => nomatch e

theorem canonOpt_some {s : State} (h : s.Canon) : CanonOpt (some s) := fun _ e => Option.some.inj e ▸ h

theorem canonOpt_map {α : Type} {f : α → State} {o : Option α} (h : ∀ x, (f x).Canon) : CanonOpt (o.map f) := by
  cases o with
  | none => exact canonOpt_none
  | some x => exact canonOpt_some (h x)

theorem canonOpt_bind {α : Type} {f : α → Option State} {o : Option α} (h : ∀ x, CanonOpt (f x)) : CanonOpt (o.bind f) := by
  cases o with
  | none => exact canonOpt_none
  | some x => exact h x

/-- The state of a pair that a function answers. -/
theorem State.canon_of_eq {α : Type} {p : State × α} {t : State} {x : α} (run : p = (t, x)) (h : p.1.Canon) : t.Canon := by
  rw [run] at h; exact h

/-- What leaves every memory of a die keeps their form. -/
theorem Die.canon_same {x y : Die} (h : x.Canon) (sp : y.sp = x.sp) (side : y.spSide = x.spSide) (code : y.pstore = x.pstore) :
    y.Canon := by
  rw [Die.Canon, Die.memOk] at h ⊢
  rwa [sp, side, code]

/-- What leaves every memory of a state keeps their form. -/
theorem State.canon_same {s t : State} (h : s.Canon) (dies : t.dies = s.dies) (device : t.hbm = s.hbm) (host : t.host.mem = s.host.mem) :
    t.Canon := by
  rw [State.Canon, State.memOk] at h ⊢
  simp only [State.dieAt, dies, device, host] at h ⊢
  exact h

/-- What changes neither the dies nor device memory nor the host's memory keeps their form. -/
theorem State.canon_with {s : State} {pkg : Package} {links : Links} {ecc : List Nat} {host : HostSide} {sched : Sched} {paddock : Paddock}
    {agenda : List Instr} {turn : DieId} {order : List DieId} {fresh : Nat} (h : s.Canon) (mem : host.mem = s.host.mem) :
    State.Canon ⟨pkg, links, s.dies, s.hbm, ecc, host, sched, paddock, agenda, turn, order, fresh⟩ :=
  State.canon_same h rfl rfl mem

theorem State.canon_of_view {s t : State} (same : t.view = s.view) (h : s.Canon) : t.Canon := State.memOk_of_view same h

theorem Die.canon_of_view {x y : Die} (same : y.view = x.view) (h : x.Canon) : y.Canon := by
  simp only [Die.view, Prod.mk.injEq] at same
  obtain ⟨sp, side, code, -⟩ := same
  exact Die.canon_same h sp side code

theorem State.Quiet.canon {s t : State} (quiet : s.Quiet t) (h : s.Canon) : t.Canon := quiet.memOk h

theorem State.canon_dieAt {s : State} {d : DieId} (h : s.Canon) : (s.dieAt d).Canon := ((State.memOk_iff s).1 h).1 _

theorem State.canon_onDieAt {s : State} {d : DieId} {f : Die → Die} (h : s.Canon) (keeps : (s.dieAt d).Canon → (f (s.dieAt d)).Canon) :
    (s.onDieAt d f).Canon := State.memOk_onDieAt h d keeps

theorem State.canon_onDie {s : State} {f : Die → Die} (h : s.Canon) (keeps : s.die.Canon → (f s.die).Canon) : (s.onDie f).Canon :=
  State.canon_onDieAt h keeps

theorem State.canon_putDieAt {s : State} {d : DieId} {x : Die} (h : s.Canon) (k : x.Canon) : (s.putDieAt d x).Canon :=
  State.canon_onDieAt (f := fun _ => x) h fun _ => k

theorem State.canon_foldl {α : Type} {s : State} {f : State → α → State} {l : List α} (h : s.Canon)
    (keeps : ∀ (u : State) x, u.Canon → (f u x).Canon) : (l.foldl f s).Canon := by
  induction l generalizing s with
  | nil => exact h
  | cons x l ih => exact ih (keeps _ x h)

/-- A fold that carries a state and more. -/
theorem State.canon_foldFst {α β : Type} {p : State × β} {f : State × β → α → State × β} {l : List α} (h : p.1.Canon)
    (keeps : ∀ (q : State × β) x, q.1.Canon → (f q x).1.Canon) : (l.foldl f p).1.Canon := by
  induction l generalizing p with
  | nil => exact h
  | cons x l ih => exact ih (keeps _ x h)

theorem Die.canon_foldl {α : Type} {d : Die} {f : Die → α → Die} {l : List α} (h : d.Canon)
    (keeps : ∀ (y : Die) x, y.Canon → (f y x).Canon) : (l.foldl f d).Canon := by
  induction l generalizing d with
  | nil => exact h
  | cons x l ih => exact ih (keeps _ x h)

theorem Die.canon_onCtxAt {d : Die} {c : CtxId} {f : Ctx → Ctx} (h : d.Canon) : (d.onCtxAt c f).Canon := h

theorem State.canon_onCtxAt {s : State} {d : DieId} {c : CtxId} {f : Ctx → Ctx} (h : s.Canon) : (s.onCtxAt d c f).Canon :=
  State.memOk_onCtxAt h d c f

theorem State.canon_onCtx {s : State} {f : Ctx → Ctx} (h : s.Canon) : (s.onCtx f).Canon := State.memOk_onCtx h f

theorem State.canon_onTask {s : State} {lid : BitVec 32} {f : Task → Task} (h : s.Canon) : (s.onTask lid f).Canon := h

/-! ### Changes under a condition -/

theorem State.canon_ite {p : Prop} [Decidable p] {s t : State} (h : s.Canon) (k : t.Canon) : (if p then s else t).Canon := by
  split
  · exact h
  · exact k

theorem State.canon_onMgmt {s : State} {f : State → State} (h : s.Canon) (k : (f s).Canon) : (s.onMgmt f).Canon := by
  unfold State.onMgmt
  split
  · exact k
  · exact h

theorem State.canon_hostWrite {s : State} {f : State → State} (h : s.Canon) (k : (f s).Canon) : (s.hostWrite f).Canon := by
  unfold State.hostWrite
  split
  · exact k
  · exact h

theorem State.canon_control {s : State} {p : Fin 12} {f : State → State} (k : (f s).Canon) : CanonOpt (s.control p f) := by
  unfold State.control
  split
  · exact canonOpt_some k
  · exact canonOpt_none

theorem State.canon_eachCtx {s : State} {t : Task} {f : State → DieId → CtxId → State} (h : s.Canon)
    (keeps : ∀ (u : State) d c, u.Canon → (f u d c).Canon) : (s.eachCtx t f).Canon := State.canon_foldl h fun u _ k => keeps u _ _ k

/-! ### What writes memory -/

theorem Die.canon_writeRow {d : Die} {u : Nat} {r : Row} (h : d.Canon) : (d.writeRow u r).Canon := Die.memOk_writeRow h u r

theorem Die.canon_writeRows {d : Die} {l : List (Nat × Row)} (h : d.Canon) : (d.writeRows l).Canon := Die.memOk_writeRows l h

theorem Die.canon_writeBytes {d : Die} {bytes side : List (Nat × Byte)} (h : d.Canon) : (d.writeBytes bytes side).Canon :=
  Die.memOk_writeBytes h bytes side

theorem Die.canon_zeroUnits {d : Die} {u n : Nat} (h : d.Canon) : (d.zeroUnits u n).Canon := Die.memOk_zeroUnits h u n

theorem State.canon_hbmPut {s : State} {pa : Nat} {bs : List Byte} (h : s.Canon) : (s.hbmPut pa bs).Canon := State.memOk_hbmPut h pa bs

theorem State.canon_writeVirt {s : State} {asid : BitVec 8} {va : Nat} {bs : List Byte} (h : s.Canon) : (s.writeVirt asid va bs).Canon :=
  State.memOk_writeVirt h asid va bs

theorem State.canon_endTaskAt {s : State} {t : Task} {outcome detail run : Nat} (h : s.Canon) : (s.endTaskAt t outcome detail run).Canon :=
  State.memOk_endTaskAt h ..

theorem State.canon_endTask {s : State} {t : Task} {outcome detail : Nat} (h : s.Canon) : (s.endTask t outcome detail).Canon :=
  State.canon_endTaskAt h ..

theorem Die.canon_spWrite {d : Die} {a : Nat} {bs : List Byte} (h : d.Canon) : ({ d with sp := d.sp.write a bs } : Die).Canon := by
  rw [Die.Canon, Die.memOk, Bool.and_eq_true, Bool.and_eq_true] at h ⊢
  obtain ⟨⟨sp, side⟩, code⟩ := h
  exact ⟨⟨Mem.wf_write sp _ _, side⟩, code⟩

theorem Die.canon_putSettings {d : Die} (h : d.Canon) : d.putSettings.Canon := Die.canon_foldl h fun _ _ k => Die.canon_spWrite k

theorem Die.canon_codeWrite {d : Die} {a : Nat} {bs : List Byte} (h : d.Canon) :
    ({ d with pstore := d.pstore.write a bs } : Die).Canon := by
  rw [Die.Canon, Die.memOk, Bool.and_eq_true, Bool.and_eq_true] at h ⊢
  obtain ⟨⟨sp, side⟩, code⟩ := h
  exact ⟨⟨sp, side⟩, Mem.wf_write code _ _⟩

/-- What reset leaves, with a host memory that was there before. -/
theorem State.canon_of_reset {t : State} (dies : ∀ d, (t.dieAt d).sp = [] ∧ (t.dieAt d).spSide = [] ∧ (t.dieAt d).pstore = [])
    (device : t.hbm = []) (host : Mem.wf t.host.mem = true) : t.Canon := by
  refine (State.memOk_iff t).2 ⟨fun d => ?_, by rw [device]; rfl, host⟩
  obtain ⟨sp, side, code⟩ := dies d
  rw [Die.memOk, sp, side, code]
  rfl

theorem State.canon_restart {s : State} {power : Bool} (h : s.Canon) : (s.restart power).Canon := by
  refine State.canon_of_reset (fun d => ?_) rfl ((State.memOk_iff s).1 h).2.2
  fin_cases d <;> exact ⟨rfl, rfl, rfl⟩

end Sys2Proof.Machine
end

section
/-! The canonical form of the memories (log 4), operation by operation in the order of the model. -/

namespace Sys2Proof.Machine

/-! ### Tasks -/

theorem State.canon_onFn {s : State} {i : BitVec 6} {f : Fn → Fn} (ok : s.Canon) : (s.onFn i f).Canon := State.canon_same ok rfl rfl rfl

theorem State.canon_onQueue {s : State} {q : BitVec 10} {f : Queue → Queue} (ok : s.Canon) : (s.onQueue q f).Canon :=
  State.canon_same ok rfl rfl rfl

theorem State.canon_onObj {s : State} {i : BitVec 10} {f : ObjSlot → ObjSlot} (ok : s.Canon) : (s.onObj i f).Canon :=
  State.canon_same ok rfl rfl rfl

theorem State.canon_hostPut {s : State} {fn : BitVec 6} {a : Nat} {bs : List Byte} (ok : s.Canon) :
    (s.hostPut fn a bs).Canon := (State.quiet_hostPut ..).canon ok

theorem State.canon_postRecord {s : State} {i : BitVec 6} {rec : List Byte} (ok : s.Canon) :
    (s.postRecord i rec).Canon := (State.quiet_postRecord ..).canon ok

theorem State.canon_postEvent {s : State} {fn : BitVec 6} {code : Nat} {d : DieId} {queue : Nat} {payload : List Byte} (ok : s.Canon) :
    (s.postEvent fn code d queue payload).Canon := (State.quiet_postEvent ..).canon ok

theorem State.canon_taskEvent {s : State} {t : Task} {code : Nat} {d : DieId} {payload : List Byte} (ok : s.Canon) :
    (s.taskEvent t code d payload).Canon := (State.quiet_taskEvent ..).canon ok

theorem State.canon_wake {s : State} (ok : s.Canon) : s.wake.Canon := State.canon_same ok rfl rfl rfl

theorem State.canon_launchDone {s : State} {lid : BitVec 32} (ok : s.Canon) :
    (s.launchDone lid).Canon := (State.quiet_launchDone ..).canon ok

theorem State.canon_complete {s : State} {lid : BitVec 32} {compl : Nat} {outcome : Nat} {scyrun : Nat} {detail : Nat} (ok : s.Canon) :
    (s.complete lid compl outcome scyrun detail).Canon := (State.quiet_complete ..).canon ok

/-! ### Ops -/

theorem Die.canon_onCells {d : Die} {f : List Cell → List Cell} (ok : d.Canon) : (d.onCells f).Canon := Die.canon_same ok rfl rfl rfl

theorem Die.canon_applyEffect {d : Die} {c : CtxId} {e : Effect} (ok : d.Canon) : (d.applyEffect c e).1.Canon := by
  unfold Die.applyEffect
  split
  · exact Die.canon_onCtxAt ok
  · exact Die.canon_onCtxAt ok
  · exact Die.canon_onCtxAt ok
  · exact Die.canon_writeRows ok
  · exact Die.canon_writeBytes ok
  · exact Die.canon_onCtxAt (Die.canon_onCells ok)
  · exact Die.canon_onCells ok
  · exact Die.canon_onCells ok
  · exact Die.canon_onCells ok
  · exact Die.canon_onCells ok
  · exact Die.canon_onCtxAt ok
  · exact Die.canon_onCtxAt ok
  · exact ok
  · exact ok
  · exact ok

theorem Die.canon_applyAll {c : CtxId} {n : Nat} {d : Die} {l : List Pending} (ok : d.Canon) : (Die.applyAll c n d l).1.Canon := by
  induction l generalizing d with
  | nil => exact ok
  | cons p l ih => exact ih (Die.canon_applyEffect ok)

theorem Die.canon_settle {d : Die} {c : CtxId} {n : Nat} (ok : d.Canon) : (d.settle c n).1.Canon :=
  Die.canon_applyAll (Die.canon_onCtxAt ok)

theorem Die.canon_settleWrites {d : Die} {c : CtxId} {n : Nat} (ok : d.Canon) : (d.settleWrites c n).Canon :=
  Die.canon_applyAll (Die.canon_onCtxAt ok)

theorem Die.canon_timedWrites {d : Die} (ok : d.Canon) : d.timedWrites.Canon := by
  unfold Die.timedWrites
  split
  · split
    · exact ok
    · exact Die.canon_settleWrites ok
  · exact ok

theorem Die.canon_trace {d : Die} {kind : Nat} {c : CtxId} {place : Nat × Nat} {a : Word} {b : Word} (ok : d.Canon) :
    (d.trace kind c place a b).Canon := Die.canon_of_view (Die.view_trace ..) ok

theorem State.canon_traceTrigger {s : State} {d : DieId} {c : CtxId} {place : Nat × Nat} (ok : s.Canon) :
    (s.traceTrigger d c place).Canon := (State.quiet_traceTrigger ..).canon ok

theorem Die.canon_raiseFreeze {d : Die} {cycles : Nat} {cause : BitVec 2} (ok : d.Canon) : (d.raiseFreeze cycles cause).Canon :=
  Die.canon_same ok rfl rfl rfl

theorem Die.canon_drainLanes {d : Die} {c : CtxId} (ok : d.Canon) : (d.drainLanes c).Canon :=
  Die.canon_onCtxAt (Die.canon_same ok rfl rfl rfl)

theorem Die.canon_stopMember {d : Die} {c : CtxId} (ok : d.Canon) : (d.stopMember c).Canon := by
  have drained : (d.drainLanes c).Canon := Die.canon_drainLanes ok
  unfold Die.stopMember
  generalize d.drainLanes c = x at drained ⊢
  exact Die.canon_same drained rfl rfl rfl

theorem State.canon_holdFree {s : State} {t : Task} (ok : s.Canon) :
    (s.holdFree t).Canon := State.canon_of_view (State.view_holdFree ..) ok

theorem State.canon_deliver {s : State} {d : DieId} {c : CtxId} {f : Flt} {cnt : Nat} {queue : Nat} {seq : Nat}
    {place : Option (Nat × Nat)} (ok : s.Canon) : (s.deliver d c f cnt queue seq place).Canon :=
  (State.quiet_deliver ..).canon ok

theorem State.canon_nextTurn {s : State} (ok : s.Canon) : s.nextTurn.Canon := State.canon_of_view (State.view_nextTurn ..) ok

theorem State.canon_endCycle {s : State} {froze : Bool} {hold : Bool} (ok : s.Canon) :
    (s.endCycle froze hold).Canon := (State.quiet_endCycle ..).canon ok

theorem State.canon_defer {s : State} {d : DieId} {c : CtxId} {x : Defer} (ok : s.Canon) : (s.defer d c x).Canon := State.canon_onCtxAt ok

theorem Die.canon_refillLanes {d : Die} {c : CtxId} (ok : d.Canon) : (d.refillLanes c).Canon :=
  Die.canon_onCtxAt (Die.canon_same ok rfl rfl rfl)

theorem State.canon_resumeTask {s : State} {t : Task} {keep : List (DieId × CtxId)} (ok : s.Canon) :
    (s.resumeTask t keep).Canon := State.canon_of_view (State.view_resumeTask ..) ok

theorem State.canon_closeWhole {s : State} {trap : List Flt} {place : Option (Nat × Nat)} (ok : s.Canon) :
    (s.closeWhole trap place).Canon := (State.quiet_closeWhole ..).canon ok

theorem State.canon_endGroup {s : State} (ok : s.Canon) : s.endGroup.Canon := State.canon_closeWhole ok

theorem State.canon_checkTask {s : State} {t : Task} {d : DieId} {code : BitVec 8} {addr : Word} (ok : s.Canon) :
    (s.checkTask t d code addr).Canon := by
  unfold State.checkTask
  split
  · exact State.canon_endTask (State.canon_taskEvent ok)
  · split
    · exact State.canon_defer ok
    · exact ok

theorem State.canon_checkFold {s : State} {d : DieId} {code : BitVec 8} (ok : s.Canon) : (s.checkFold d code).Canon := by
  unfold State.checkFold
  split
  · split
    · exact State.canon_checkTask ok
    · exact ok
  · exact State.canon_postEvent ok

/-! ### Operands -/

theorem State.canon_emit {s : State} {p : Packet} (ok : s.Canon) : (s.emit p).Canon := State.canon_of_view (State.view_emit ..) ok

theorem Die.canon_onStream {d : Die} {n : BitVec 4} {f : Stream → Stream} (ok : d.Canon) : (d.onStream n f).Canon :=
  Die.canon_same ok rfl rfl rfl

theorem State.canon_returnCredit {s : State} {d : DieId} {c : CtxId} {n : BitVec 4} (ok : s.Canon) :
    (s.returnCredit d c n).Canon := State.canon_of_view (State.view_returnCredit ..) ok

/-! ### Space -/

theorem State.canon_eccRead {s : State} {d : DieId} {u : Nat} (ok : s.Canon) :
    (s.eccRead d u).1.Canon := (State.quiet_eccRead ..).canon ok

theorem State.canon_eccReads {s : State} {d : DieId} {a2 : List Nat} (ok : s.Canon) :
    (s.eccReads d a2).1.Canon := (State.quiet_eccReads ..).canon ok

/-! ### Sync -/

theorem State.canon_setTok {s : State} {lid : BitVec 32} {d : DieId} {k : Nat} {v : Tok} (ok : s.Canon) :
    (s.setTok lid d k v).Canon := State.canon_of_view (State.view_setTok ..) ok

/-! ### Network -/

theorem Die.canon_setLive {d : Die} {route : Nat} {perm : List Nat} {u : Nat} (ok : d.Canon) : (d.setLive route perm u).Canon :=
  Die.canon_same (Die.canon_foldl ok (fun y x k => Die.canon_zeroUnits k)) rfl rfl rfl

theorem State.canon_tableDone {s : State} {d : DieId} (ok : s.Canon) : CanonOpt (s.tableDone d) := by
  unfold State.tableDone
  split
  · exact canonOpt_none
  · split
    · exact canonOpt_some (State.canon_setTok (State.canon_onDieAt (State.canon_onCtxAt ok) (fun k => Die.canon_same k rfl rfl rfl)))
    · exact canonOpt_none

theorem State.canon_solveDone {s : State} {d : DieId} (ok : s.Canon) : CanonOpt (s.solveDone d) := by
  unfold State.solveDone
  split
  · exact canonOpt_none
  · split
    · exact canonOpt_some (State.canon_setTok (State.canon_onDieAt (State.canon_onCtxAt ok) (fun k => Die.canon_setLive k)))
    · exact canonOpt_none

/-! ### BringUp -/

theorem State.canon_onPkg {s : State} {f : Package → Package} (ok : s.Canon) : (s.onPkg f).Canon := State.canon_same ok rfl rfl rfl

theorem State.canon_beginStageA {s : State} (ok : s.Canon) : s.beginStageA.Canon :=
  State.canon_onDieAt (State.canon_onDieAt (State.canon_onPkg (State.canon_restart ok)) (fun k => Die.canon_same k rfl rfl rfl))
    (fun k => Die.canon_same k rfl rfl rfl)

theorem State.canon_perst {s : State} (ok : s.Canon) : CanonOpt s.perst := by
  unfold State.perst
  split
  · exact canonOpt_none
  · exact canonOpt_some (State.canon_beginStageA ok)

theorem State.canon_measure {s : State} {l : List Nat} (ok : s.Canon) : (s.measure l).Canon := State.canon_same ok rfl rfl rfl

theorem State.canon_bootA {s : State} (ok : s.Canon) : s.bootA.Canon := State.canon_with (State.canon_measure (State.canon_onPkg ok)) rfl

theorem State.canon_stageA {s : State} (ok : s.Canon) : CanonOpt s.stageA := by
  unfold State.stageA
  split
  · exact canonOpt_none
  · refine canonOpt_some ?_
    split
    · exact State.canon_onPkg ok
    · exact State.canon_bootA ok

theorem State.canon_stageB {s : State} (ok : s.Canon) : CanonOpt s.stageB := by
  unfold State.stageB
  split
  · exact canonOpt_some (State.canon_onPkg ok)
  · exact canonOpt_none

theorem State.canon_stageC {s : State} (ok : s.Canon) : CanonOpt s.stageC := by
  unfold State.stageC
  split
  · exact canonOpt_some (State.canon_with (State.canon_onPkg (State.canon_measure ok)) rfl)
  · exact canonOpt_none

theorem State.canon_stageD {s : State} {strap0 strap2 : Bool} (ok : s.Canon) : CanonOpt (s.stageD strap0 strap2) := by
  have code : (s.dieAt 1).pstore.wf = true := by
    have all : (s.dieAt 1).Canon := State.canon_dieAt ok
    rw [Die.Canon, Die.memOk, Bool.and_eq_true] at all
    exact all.2
  have copied (d : DieId) : ({ Die.reset d with pstore := (s.dieAt 1).pstore } : Die).Canon := code
  unfold State.stageD
  split
  · exact canonOpt_none
  · split
    · exact canonOpt_some (State.canon_with ok rfl)
    · have loaded : ((s.putDieAt 0 { Die.reset 0 with pstore := (s.dieAt 1).pstore }).putDieAt 2
          { Die.reset 2 with pstore := (s.dieAt 1).pstore }).Canon :=
  State.canon_putDieAt (State.canon_putDieAt ok (copied 0)) (copied 2)
      exact canonOpt_some (State.canon_with (State.canon_onPkg (State.canon_measure loaded)) rfl)

theorem State.canon_stageE {s : State} (ok : s.Canon) : CanonOpt s.stageE := by
  unfold State.stageE
  split
  · refine canonOpt_some (State.canon_with (State.canon_onPkg ?_) rfl)
    split
    · refine State.canon_measure ?_
      split
      · exact State.canon_measure ok
      · exact ok
    · split
      · exact State.canon_measure ok
      · exact ok
  · exact canonOpt_none

theorem State.canon_stageFailure {s : State} {code : BitVec 8} (ok : s.Canon) : CanonOpt (s.stageFailure code) := by
  unfold State.stageFailure
  split
  · exact canonOpt_none
  · split
    · exact canonOpt_some (State.canon_onPkg ok)
    · refine canonOpt_some ?_
      split
      · exact State.canon_onDieAt (State.canon_onPkg ok) (fun k => Die.canon_same k rfl rfl rfl)
      · exact State.canon_onPkg ok

theorem State.canon_pfReset {s : State} (ok : s.Canon) : CanonOpt s.pfReset := by
  unfold State.pfReset
  split
  · exact canonOpt_some (State.canon_beginStageA ok)
  · exact canonOpt_none

theorem State.canon_thermalOff {s : State} (ok : s.Canon) : CanonOpt s.thermalOff := by
  unfold State.thermalOff
  split
  · exact canonOpt_some (State.canon_onPkg (State.canon_restart ok))
  · exact canonOpt_none

theorem State.canon_dieOut {s : State} {d : DieId} {code : BitVec 8} {fail : BitVec 8} (ok : s.Canon) : (s.dieOut d code fail).Canon := by
  unfold State.dieOut
  refine State.canon_onPkg (State.canon_onDieAt ?_ (fun k => Die.canon_same k rfl rfl rfl))
  split
  · exact State.canon_postEvent ok
  · exact State.canon_foldl ok (fun u x k => State.canon_checkTask k)

theorem State.canon_clockCheck {s : State} {d : DieId} (ok : s.Canon) : CanonOpt (s.clockCheck d) := by
  unfold State.clockCheck
  split
  · exact canonOpt_some (State.canon_dieOut ok)
  · exact canonOpt_none

/-! ### Fill -/

theorem State.canon_writePieces {s : State} {l : List (Nat × Nat)} {bs : List Byte} (ok : s.Canon) : (s.writePieces l bs).Canon := by
  induction l generalizing s bs with
  | nil => exact ok
  | cons p l ih => exact ih (State.canon_hbmPut ok)

theorem State.canon_writePinned {s : State} {lid : BitVec 32} {d : DieId} {va : Nat} {bs : List Byte} (ok : s.Canon) :
    (s.writePinned lid d va bs).Canon :=
  State.canon_writePieces ok

theorem State.canon_fillCheck {s : State} {d : DieId} {f : Fill} {code : BitVec 8} {addr : Nat} (ok : s.Canon) :
    (s.fillCheck d f code addr).Canon := by
  unfold State.fillCheck
  split
  · exact State.canon_checkTask ok
  · exact ok

theorem State.canon_moveRow {s : State} {d : DieId} {f : Fill} {i : Nat} (ok : s.Canon) : (s.moveRow d f i).Canon := by
  unfold State.moveRow
  dsimp only
  split
  · split
    · exact State.canon_eccRead ok
    · split
      · split
        · exact State.canon_fillCheck (State.canon_eccRead ok)
        · exact State.canon_onDieAt (State.canon_eccRead ok) (fun k => Die.canon_writeRows k)
      · split
        · exact State.canon_writePinned (State.canon_eccRead (State.canon_eccRead ok))
        · exact State.canon_eccRead (State.canon_eccRead ok)
  · split
    · exact ok
    · split
      · split
        · exact State.canon_fillCheck ok
        · exact State.canon_onDieAt ok (fun k => Die.canon_writeRows k)
      · split
        · exact State.canon_writePinned (State.canon_eccRead ok)
        · exact State.canon_eccRead ok

theorem Die.canon_dropRow {d : Die} {order : Nat} {i : Nat} (ok : d.Canon) : (d.dropRow order i).Canon := Die.canon_same ok rfl rfl rfl

theorem State.canon_transfer {s : State} {d : DieId} {f : Fill} {i : Nat} (ok : s.Canon) : (s.transfer d f i).Canon :=
  State.canon_foldl ok (fun u x k => State.canon_onDieAt (State.canon_moveRow k) (fun k1 => Die.canon_dropRow k1))

theorem State.canon_transfers {s : State} {d : DieId} {order : Nat} {rows : List Nat} (ok : s.Canon) :
    (s.transfers d order rows).Canon := by
  unfold State.transfers
  refine State.canon_foldl ok (fun u x k => ?_)
  split
  · split
    · exact State.canon_transfer k
    · exact k
  · exact k

theorem Die.canon_dropFill {d : Die} {f : Fill} (ok : d.Canon) : (d.dropFill f).Canon := Die.canon_same ok rfl rfl rfl

theorem State.canon_fillStart {s : State} {d : DieId} {k : Nat} {rows : List Nat} (ok : s.Canon) : CanonOpt (s.fillStart d k rows) := by
  unfold State.fillStart
  dsimp only
  split
  · exact canonOpt_none
  · split
    · exact canonOpt_none
    · split
      · exact canonOpt_some (State.canon_transfers (State.canon_onDieAt ok (fun k => Die.canon_timedWrites k)))
      · split
        · exact canonOpt_some (State.canon_transfers (State.canon_onDieAt (State.canon_onDieAt ok (fun k => Die.canon_timedWrites k))
            (fun k => Die.canon_same k rfl rfl rfl)))
        · exact canonOpt_some (State.canon_defer (State.canon_setTok (State.canon_onDieAt (State.canon_onDieAt ok
            (fun k => Die.canon_timedWrites k)) (fun k => Die.canon_dropFill k))))

theorem State.canon_fillDone {s : State} {d : DieId} {k : Nat} (ok : s.Canon) : CanonOpt (s.fillDone d k) := by
  unfold State.fillDone
  split
  · exact canonOpt_none
  · split
    · exact canonOpt_none
    · exact canonOpt_some (State.canon_setTok (State.canon_onDieAt (State.canon_transfers (State.canon_onDieAt ok
        (fun k => Die.canon_timedWrites k))) (fun k => Die.canon_dropFill k)))

theorem State.canon_pinDone {s : State} {d : DieId} (ok : s.Canon) : CanonOpt (s.pinDone d) := by
  unfold State.pinDone
  dsimp only
  split
  · exact canonOpt_none
  · split
    · split
      · exact canonOpt_none
      · split
        · refine canonOpt_some (State.canon_onTask ?_)
          split
          · exact State.canon_checkTask (State.canon_onCtxAt ok)
          · exact State.canon_onCtxAt ok
        · refine canonOpt_some ?_
          split
          · exact State.canon_checkTask (State.canon_onCtxAt ok)
          · exact State.canon_onCtxAt ok
    · exact canonOpt_none

/-! ### System -/

theorem State.canon_writeFabric {s : State} {d : DieId} {n : Nat} {v : Word} (ok : s.Canon) : (s.writeFabric d n v).Canon := by
  unfold State.writeFabric
  dsimp only
  split
  · exact State.canon_with ok rfl
  · split
    · exact State.canon_with ok rfl
    · split
      · exact State.canon_with ok rfl
      · split
        · exact ok
        · exact State.canon_onDieAt ok (fun k => Die.canon_same k rfl rfl rfl)

theorem State.canon_privilegeEvent {s : State} {lid : BitVec 32} {d : DieId} (ok : s.Canon) : (s.privilegeEvent lid d).Canon :=
  State.canon_postEvent ok

theorem State.canon_writeQueued {s : State} {lid : BitVec 32} {d : DieId} {n : Nat} {v : Word} (ok : s.Canon) :
    (s.writeQueued lid d n v).Canon := by
  unfold State.writeQueued
  split
  · exact State.canon_onTask ok
  · split
    · split
      · exact State.canon_privilegeEvent ok
      · exact State.canon_writeFabric ok
    · exact ok

theorem State.canon_resumeHeld {s : State} {t : Task} (ok : s.Canon) : (s.resumeHeld t).Canon := by
  unfold State.resumeHeld
  split
  · refine State.canon_onTask (State.canon_foldl ok (fun u x k => ?_))
    split
    · exact State.canon_onCtxAt k
    · exact k
  · exact State.canon_resumeTask ok

theorem State.canon_stopctl {s : State} {v : Word} (ok : s.Canon) : (s.stopctl v).Canon := by
  unfold State.stopctl
  split
  · exact ok
  · split
    · exact ok
    · split
      · split
        · exact ok
        · exact State.canon_resumeHeld ok
      · split
        · exact State.canon_endTask ok
        · exact ok

theorem State.canon_invalidate {s : State} {v : Word} (ok : s.Canon) : (s.invalidate v).Canon :=
  State.canon_foldl ok (fun u x k => State.canon_onDieAt k (fun k1 => Die.canon_same k1 rfl rfl rfl))

theorem State.canon_rekey {s : State} {page : Nat} (ok : s.Canon) : (s.rekey page).Canon :=
  State.canon_same (State.canon_hbmPut ok) rfl rfl rfl

theorem State.canon_moveSlots {s : State} {first : Nat} {count : Nat} {slot : Nat} (ok : s.Canon) :
    (s.moveSlots first count slot).Canon :=
  State.canon_same (State.canon_foldl ok (fun u x k => State.canon_rekey k)) rfl rfl rfl

theorem State.canon_writeSlotmap {s : State} {lid : BitVec 32} {d : DieId} {v : Word} (ok : s.Canon) :
    (s.writeSlotmap lid d v).Canon := by
  unfold State.writeSlotmap
  dsimp only
  split
  · exact State.canon_privilegeEvent ok
  · split
    · exact ok
    · exact State.canon_moveSlots ok

theorem Die.canon_writeTrcCtl {d : Die} {v : Word} (ok : d.Canon) : (d.writeTrcCtl v).Canon := Die.canon_same ok rfl rfl rfl

theorem State.canon_writeSup {s : State} {lid : BitVec 32} {d : DieId} {n : Nat} {v : Word} (ok : s.Canon) :
    (s.writeSup lid d n v).Canon := by
  have die {f : Die → Die} (sp : ∀ x, (f x).sp = x.sp) (side : ∀ x, (f x).spSide = x.spSide) (code : ∀ x, (f x).pstore = x.pstore) :
      (s.onDieAt d f).Canon := State.canon_onDieAt ok fun k => Die.canon_same k (sp _) (side _) (code _)
  unfold State.writeSup
  refine State.canon_ite (State.canon_with ok rfl) (State.canon_ite (State.canon_invalidate ok) (State.canon_ite
    (State.canon_writeSlotmap ok) (State.canon_ite (State.canon_ite ok ?saved) (State.canon_ite (State.canon_stopctl ok)
    (State.canon_ite (State.canon_ite ok ?control) (State.canon_ite (State.canon_ite ok ?breakpoint) (State.canon_ite
    (State.canon_onDieAt ok Die.canon_writeTrcCtl) (State.canon_ite ?trigger (State.canon_ite ?index ok)))))))))
  case saved => exact die (fun _ => rfl) (fun _ => rfl) fun _ => rfl
  case control => exact die (fun _ => rfl) (fun _ => rfl) fun _ => rfl
  case breakpoint => exact die (fun _ => rfl) (fun _ => rfl) fun _ => rfl
  case trigger => exact die (fun _ => rfl) (fun _ => rfl) fun _ => rfl
  case index => exact die (fun _ => rfl) (fun _ => rfl) fun _ => rfl

/-! ### Router -/

theorem State.canon_onPort {s : State} {p : Fin 12} {f : Port → Port} (ok : s.Canon) : (s.onPort p f).Canon :=
  State.canon_same ok rfl rfl rfl

theorem State.canon_flushOutbox {s : State} (ok : s.Canon) : s.flushOutbox.Canon := State.canon_same ok rfl rfl rfl

theorem State.canon_leftOver {s : State} {link : BitVec 7} {f : Flit} (ok : s.Canon) : (s.leftOver link f).Canon := by
  unfold State.leftOver
  split
  · exact State.canon_same ok rfl rfl rfl
  · split
    · exact State.canon_same ok rfl rfl rfl
    · exact ok

theorem State.canon_viaArrived {s : State} (ok : s.Canon) : s.viaArrived.Canon := by
  unfold State.viaArrived
  split
  · exact ok
  · exact State.canon_same ok rfl rfl rfl

theorem State.canon_sendFlits {s : State} {l : List (Option (BitVec 7) × Flit)} (ok : s.Canon) : (s.sendFlits l).Canon := by
  induction l generalizing s with
  | nil => exact ok
  | cons f l ih =>
    unfold State.sendFlits
    dsimp only
    split
    · exact ih (State.canon_onPort (State.canon_leftOver (State.canon_with ok rfl)))
    · exact ih (State.canon_with ok rfl)

theorem State.canon_pump {s : State} (ok : s.Canon) : s.pump.Canon := by
  unfold State.pump
  split
  · exact ok
  · exact State.canon_sendFlits (State.canon_with (State.canon_viaArrived (State.canon_flushOutbox ok)) rfl)

/-! ### Trans -/

theorem State.canon_onOwner {s : State} {lid : BitVec 32} {d : DieId} {c : CtxId} {f : Ctx → Ctx} (ok : s.Canon) :
    (s.onOwner lid d c f).Canon := by
  unfold State.onOwner
  dsimp only
  split
  · exact State.canon_onCtxAt ok
  · exact State.canon_onTask ok

theorem State.canon_traceOf {s : State} {lid : BitVec 32} {d : DieId} {c : CtxId} {seq : Nat} {kind : Nat} {a : Word}
    {b : Word} (ok : s.Canon) : (s.traceOf lid d c seq kind a b).Canon := by
  unfold State.traceOf
  split
  · split
    · exact ok
    · exact State.canon_onDieAt ok (fun k => Die.canon_trace k)
  · exact ok

theorem State.canon_fxEnd {s : State} {lid : BitVec 32} {d : DieId} {c : CtxId} {seq : Nat} {op : RemOp} {st : Bool} {addr : Word}
    {status : Nat} {who : Nat} {info : Nat} {v : Value} (ok : s.Canon) : (s.fxEnd lid d c seq op st addr status who info v).Canon :=
  State.canon_onOwner (State.canon_traceOf ok)

theorem State.canon_endTrans {s : State} {t : Trans} {status : Nat} {who : Nat} {info : Nat} {v : Value} (ok : s.Canon) :
    (s.endTrans t status who info v).Canon := by
  unfold State.endTrans
  split
  · split
    · exact State.canon_same ok rfl rfl rfl
    · exact State.canon_same ok rfl rfl rfl
  · exact State.canon_fxEnd (State.canon_same ok rfl rfl rfl)

theorem State.canon_endMembers {s : State} {t : Trans} (ok : s.Canon) : (s.endMembers t).Canon := by
  unfold State.endMembers
  split
  · exact State.canon_endTrans ok
  · exact State.canon_endTrans ok

theorem State.canon_endMlr {s : State} {t : Trans} {op : MlrOp} {len : Nat} (ok : s.Canon) : (s.endMlr t op len).Canon := by
  unfold State.endMlr
  split
  · exact State.canon_endMembers ok
  · exact State.canon_onOwner (State.canon_same ok rfl rfl rfl)

theorem State.canon_stepTrans {s : State} {old : Trans} {t : Trans} (ok : s.Canon) : (s.stepTrans old t).Canon := by
  unfold State.stepTrans
  split
  · split
    · exact State.canon_endMlr (State.canon_same ok rfl rfl rfl)
    · exact State.canon_endMembers (State.canon_same ok rfl rfl rfl)
  · exact State.canon_same ok rfl rfl rfl

theorem State.canon_memberFails {s : State} {t : Trans} {m : BitVec 7} {status : Nat} (ok : s.Canon) :
    (s.memberFails t m status).Canon := by
  unfold State.memberFails
  split
  · exact State.canon_stepTrans ok
  · exact State.canon_endTrans ok
  · exact State.canon_endTrans ok

theorem State.canon_sendRemote {s : State} {d : DieId} {c : CtxId} {e : Entry} {op : RemOp} {st : Bool} (ok : s.Canon) :
    CanonOpt (s.sendRemote d c e op st) := by
  unfold State.sendRemote
  dsimp only
  split
  · split
    · exact canonOpt_some (State.canon_fxEnd ok)
    · split
      · exact canonOpt_none
      · split
        · refine canonOpt_some ?_
          split
          · exact State.canon_endMembers (State.canon_foldl (State.canon_onCtxAt (State.canon_with ok rfl))
              (fun u x k => State.canon_emit k))
          · exact State.canon_foldl (State.canon_onCtxAt (State.canon_with ok rfl)) (fun u x k => State.canon_emit k)
        · exact canonOpt_some (State.canon_memberFails (State.canon_onCtxAt (State.canon_with ok rfl)))
        · exact canonOpt_some (State.canon_foldl (State.canon_onCtxAt (State.canon_with ok rfl)) (fun u x k => State.canon_emit k))
  · split
    · exact canonOpt_some (State.canon_fxEnd ok)
    · split
      · exact canonOpt_none
      · split
        · refine canonOpt_some ?_
          split
          · exact State.canon_endMembers (State.canon_foldl (State.canon_onCtxAt (State.canon_with ok rfl))
              (fun u x k => State.canon_emit k))
          · exact State.canon_foldl (State.canon_onCtxAt (State.canon_with ok rfl)) (fun u x k => State.canon_emit k)
        · exact canonOpt_some (State.canon_memberFails (State.canon_onCtxAt (State.canon_with ok rfl)))
        · exact canonOpt_some (State.canon_foldl (State.canon_onCtxAt (State.canon_with ok rfl)) (fun u x k => State.canon_emit k))

theorem State.canon_dropInbox {s : State} {i : Nat} (ok : s.Canon) : (s.dropInbox i).Canon := State.canon_same ok rfl rfl rfl

theorem State.canon_respond {s : State} {op : BitVec 6} {i : Nat} (ok : s.Canon) : CanonOpt (s.respond op i) := by
  unfold State.respond
  refine canonOpt_map (fun x => ?_)
  split
  · exact State.canon_dropInbox ok
  · exact State.canon_endTrans (State.canon_dropInbox ok)

theorem State.canon_writeResponse {s : State} {i : Nat} (ok : s.Canon) : CanonOpt (s.writeResponse i) := by
  unfold State.writeResponse
  split
  · split
    · exact canonOpt_some (State.canon_with (State.canon_dropInbox ok) rfl)
    · exact State.canon_respond ok
  · exact canonOpt_none

theorem State.canon_threePartyStatus {s : State} {i : Nat} (ok : s.Canon) : CanonOpt (s.threePartyStatus i) := by
  unfold State.threePartyStatus
  dsimp only
  refine canonOpt_map (fun x => ?_)
  split
  · exact State.canon_dropInbox ok
  · split
    · split
      · exact State.canon_endTrans (State.canon_dropInbox ok)
      · exact State.canon_stepTrans (State.canon_dropInbox ok)
    · exact State.canon_endTrans (State.canon_dropInbox ok)

theorem State.canon_reductionValue {s : State} {i : Nat} (ok : s.Canon) : CanonOpt (s.reductionValue i) := by
  unfold State.reductionValue
  refine canonOpt_map (fun x => ?_)
  split
  · exact State.canon_dropInbox ok
  · split
    · exact State.canon_stepTrans (State.canon_dropInbox ok)
    · exact State.canon_memberFails (State.canon_dropInbox ok)

theorem State.canon_ordAccepted {s : State} {t : Trans} (ok : s.Canon) : (s.ordAccepted t).Canon :=
  State.canon_onOwner (State.canon_with ok rfl)

theorem State.canon_ordStatus {s : State} {i : Nat} (ok : s.Canon) : CanonOpt (s.ordStatus i) := by
  unfold State.ordStatus
  refine canonOpt_map (fun x => ?_)
  split
  · exact State.canon_dropInbox ok
  · split
    · exact State.canon_ordAccepted (State.canon_dropInbox ok)
    · exact State.canon_endTrans (State.canon_dropInbox ok)

theorem State.canon_fabricTimeout {s : State} {k : Nat} (ok : s.Canon) : CanonOpt (s.fabricTimeout k) := by
  unfold State.fabricTimeout
  dsimp only
  split
  · exact canonOpt_none
  · split
    · exact canonOpt_none
    · split
      · exact canonOpt_some (State.canon_stepTrans ok)
      · refine canonOpt_some ?_
        split
        · exact State.canon_stepTrans (State.canon_same ok rfl rfl rfl)
        · exact State.canon_memberFails (State.canon_same ok rfl rfl rfl)
      · exact canonOpt_some (State.canon_endTrans (State.canon_same ok rfl rfl rfl))
      · exact canonOpt_some (State.canon_memberFails ok)

theorem State.canon_linkLost {s : State} {m : BitVec 7} (ok : s.Canon) : (s.linkLost m).Canon := by
  unfold State.linkLost
  refine State.canon_foldl ok (fun u x k => ?_)
  split
  · split
    · exact k
    · split
      · exact State.canon_stepTrans k
      · exact State.canon_memberFails k
  · split
    · exact State.canon_memberFails k
    · exact k

/-! ### Issue -/

theorem State.canon_boundaryFault {s : State} {c : CtxId} (ok : s.Canon) : (s.boundaryFault c).Canon := by
  unfold State.boundaryFault
  split
  · exact ok
  · split
    · exact State.canon_deliver (State.canon_onCtxAt ok)
    · exact ok

theorem State.canon_boundaryFaults {s : State} (ok : s.Canon) : s.boundaryFaults.Canon :=
  State.canon_foldl ok (fun u x k => State.canon_boundaryFault k)

theorem State.canon_joinStop {s : State} {t : Task} {d : DieId} {c : CtxId} (ok : s.Canon) : (s.joinStop t d c).Canon := by
  unfold State.joinStop
  split
  · exact State.canon_onDieAt ok (fun k => Die.canon_same k rfl rfl rfl)
  · exact State.canon_holdFree (State.canon_onTask (State.canon_onCtxAt (State.canon_onDieAt (State.canon_onDieAt ok
      (fun k => Die.canon_same k rfl rfl rfl)) (fun k => Die.canon_stopMember k))))

theorem State.canon_timedMode {s : State} {c : CtxId} (ok : s.Canon) : (s.timedMode c).Canon := by
  unfold State.timedMode
  dsimp only
  split
  · exact ok
  · split
    · exact State.canon_onCtxAt ok
    · split
      · exact State.canon_joinStop (State.canon_onCtxAt ok)
      · split
        · exact State.canon_onCtxAt ok
        · exact State.canon_onCtxAt (State.canon_onCtxAt ok)

theorem State.canon_settled {s : State} {c : CtxId} (ok : s.Canon) : (s.settled c).1.Canon :=
  State.canon_onDie ok (fun k => Die.canon_settle k)

theorem State.canon_atGroup {s : State} {c : CtxId} (ok : s.Canon) : (s.atGroup c).Canon :=
  State.canon_onCtx (State.canon_onDie ok (fun k => Die.canon_same k rfl rfl rfl))

theorem State.canon_openAt {s t : State} {nf : Flags} {na : List (Fin 4 × Bool × BitVec 32)} (ok : s.Canon)
    (run : s.openAt nf na = .ok t) : t.Canon := by
  unfold State.openAt at run
  dsimp only at run
  split at run
  · cases run
  · split at run
    · cases run
    · split at run
      · cases run
      · cases run
      · split at run
        · cases run
        · cases run; exact State.canon_onCtx ok

theorem State.canon_reopen {s : State} {g : GroupCtx} (ok : s.Canon) : (s.reopen g).Canon := State.canon_onCtx ok

theorem State.canon_openNext {s u : State} {c : CtxId} {nf : Flags} {na : List (Fin 4 × Bool × BitVec 32)} {r : Except Flt State}
    (ok : s.Canon) (run : s.openNext c nf na = (u, r)) : u.Canon ∧ ∀ t, r = .ok t → t.Canon := by
  unfold State.openNext at run
  dsimp only at run
  split at run
  · obtain ⟨rfl, rfl⟩ := Prod.mk.inj run
    have issues : (s.onDie fun d => { d with issuing := c }).Canon := State.canon_onDie ok fun k => Die.canon_same k rfl rfl rfl
    exact ⟨issues, fun t e => by cases e; exact State.canon_reopen issues⟩
  · obtain ⟨rfl, rfl⟩ := Prod.mk.inj run
    exact ⟨State.canon_atGroup ok, fun t e => State.canon_openAt (State.canon_atGroup ok) e⟩

theorem State.canon_groupFault {s : State} {f : Flt} (ok : s.Canon) : (s.groupFault f).Canon :=
  State.canon_endCycle (State.canon_deliver (State.canon_onCtx ok))

theorem State.canon_traceGroup {s : State} (ok : s.Canon) : s.traceGroup.Canon := by
  unfold State.traceGroup
  split
  · exact State.canon_traceTrigger ok
  · exact ok

theorem State.canon_markWake {s : State} {c : CtxId} (ok : s.Canon) : (s.markWake c).Canon := by
  unfold State.markWake
  split
  · exact State.canon_onCtxAt ok
  · exact State.canon_onCtxAt ok

theorem State.canon_setCurrent {s : State} {c : Option CtxId} (ok : s.Canon) : (s.setCurrent c).Canon := by
  unfold State.setCurrent
  split
  · exact State.canon_onCtxAt (State.canon_onDie ok (fun k => Die.canon_same k rfl rfl rfl))
  · exact State.canon_onDie ok (fun k => Die.canon_same k rfl rfl rfl)

theorem State.canon_markBlocked {s : State} {c : CtxId} (ok : s.Canon) : (s.markBlocked c).Canon := State.canon_onCtxAt ok

theorem State.canon_emptyCycle {s : State} (ok : s.Canon) : s.emptyCycle.Canon := State.canon_endCycle ok

theorem State.canon_traceTick {s : State} (ok : s.Canon) : s.traceTick.Canon := by
  unfold State.traceTick
  split
  · split
    · exact State.canon_traceTrigger ok
    · exact State.canon_traceTrigger ok
  · exact ok

theorem State.canon_timedWrites {s : State} (ok : s.Canon) : s.timedWrites.Canon :=
  State.canon_onDie ok (fun k => Die.canon_timedWrites k)

theorem State.canon_cycleStart {s : State} (ok : s.Canon) : s.cycleStart.Canon := by
  unfold State.cycleStart
  dsimp only
  split
  · exact State.canon_foldl (State.canon_foldl (State.canon_boundaryFaults (State.canon_timedWrites (State.canon_traceTick
      (State.canon_pump ok)))) (fun u x k => State.canon_markBlocked k)) (fun u x k => State.canon_markWake k)
  · split
    · exact State.canon_timedMode (State.canon_foldl (State.canon_foldl (State.canon_boundaryFaults (State.canon_timedWrites
        (State.canon_traceTick (State.canon_pump ok)))) (fun u x k => State.canon_markBlocked k)) (fun u x k => State.canon_markWake k))
    · exact State.canon_foldl (State.canon_foldl (State.canon_boundaryFaults (State.canon_timedWrites (State.canon_traceTick
        (State.canon_pump ok)))) (fun u x k => State.canon_markBlocked k)) (fun u x k => State.canon_markWake k)

/-! ### Walk -/

theorem State.canon_learn {s : State} {t : Task} {d : DieId} {va : Nat} {n : Nat} (ok : s.Canon) : (s.learn t d va n).Canon := by
  unfold State.learn
  refine State.canon_same (State.canon_foldl ok (fun u x k => ?_)) rfl rfl rfl
  split
  · exact State.canon_onDieAt k (fun k => Die.canon_same k rfl rfl rfl)
  · exact k

theorem State.canon_writeDev {s : State} {t : Task} {d : DieId} {va : Nat} {bs : List Byte} (ok : s.Canon) :
    (s.writeDev t d va bs).Canon := by
  unfold State.writeDev
  refine State.canon_foldl ok (fun u x k => ?_)
  split
  · exact State.canon_hbmPut k
  · exact k

/-! ### Owner -/

theorem State.canon_answerTo {s : State} {p : Packet} {dst : BitVec 7} {op : BitVec 6} {status : Nat} {operand : Word} (ok : s.Canon) :
    (s.answerTo p dst op status operand).Canon :=
  State.canon_emit ok

theorem State.canon_tellParty {s : State} {p : Packet} {status : Nat} {who : BitVec 7} (ok : s.Canon) :
    (s.tellParty p status who).Canon :=
  State.canon_answerTo ok

theorem State.canon_refuse {s : State} {p : Packet} {status : Nat} {event : Bool} (ok : s.Canon) : (s.refuse p status event).Canon := by
  unfold State.refuse
  dsimp only
  split
  · refine State.canon_tellParty ?_
    split
    · refine State.canon_postEvent ?_
      split
      · exact State.canon_postEvent ok
      · exact ok
    · split
      · exact State.canon_postEvent ok
      · exact ok
  · refine State.canon_answerTo ?_
    split
    · refine State.canon_postEvent ?_
      split
      · exact State.canon_postEvent ok
      · exact ok
    · split
      · exact State.canon_postEvent ok
      · exact ok

theorem State.canon_asidCheck {s : State} {asid : BitVec 8} {d : DieId} {code : BitVec 8} {addr : Nat} (ok : s.Canon) :
    (s.asidCheck asid d code addr).Canon := by
  unfold State.asidCheck
  split
  · exact State.canon_checkTask ok
  · exact State.canon_postEvent ok

theorem State.canon_readPiece {s : State} {asid : BitVec 8} {x : Piece} (ok : s.Canon) : (s.readPiece asid x).1.Canon := by
  unfold State.readPiece
  split
  · split
    · exact State.canon_asidCheck ok
    · exact ok
  · exact State.canon_eccRead ok

theorem State.canon_writePiece {s : State} {x : Piece} {bs : List Byte} (ok : s.Canon) : (s.writePiece x bs).Canon := by
  unfold State.writePiece
  split
  · exact State.canon_hbmPut ok
  · exact State.canon_onDieAt ok Die.canon_spWrite

theorem State.canon_performPiece {s : State} {p : Packet} {x : Piece} (ok : s.Canon) : (s.performPiece p x).1.Canon := by
  unfold State.performPiece
  split
  · exact State.canon_writePiece ok
  · split
    next t0 v1 run2 =>
      exact State.canon_of_eq run2 (State.canon_readPiece ok)
    next t0 run1 =>
      exact State.canon_of_eq run1 (State.canon_readPiece ok)

theorem State.canon_performPieces {s : State} {p : Packet} {l : List Piece} (ok : s.Canon) : (s.performPieces p l).1.Canon := by
  induction l generalizing s p with
  | nil => exact ok
  | cons x l ih =>
    unfold State.performPieces
    have first : (s.performPiece p x).1.Canon := State.canon_performPiece ok
    split
    next u q run => exact ih (State.canon_of_eq run first)
    next u run => exact State.canon_of_eq run first

theorem State.canon_deliverTo {s : State} {p : Packet} {bs : List Byte} {m : BitVec 7} (ok : s.Canon) : (s.deliverTo p bs m).Canon := by
  unfold State.deliverTo
  split
  · exact State.canon_tellParty ok
  · exact State.canon_emit ok

theorem State.canon_raiseArrcnt {s : State} {w : Nat} {n : Nat} (ok : s.Canon) : (s.raiseArrcnt w n).Canon :=
  State.canon_same ok rfl rfl rfl

theorem State.canon_finishRequest {s : State} {p : Packet} (ok : s.Canon) : (s.finishRequest p).Canon := by
  unfold State.finishRequest
  split
  · exact State.canon_foldl ok (fun u x k => State.canon_deliverTo k)
  · exact State.canon_tellParty (State.canon_raiseArrcnt ok)
  · exact State.canon_emit ok
  · exact State.canon_emit ok
  · exact State.canon_answerTo ok

theorem State.canon_setInbox {s : State} {i : Nat} {p : Packet} (ok : s.Canon) : (s.setInbox i p).Canon := State.canon_same ok rfl rfl rfl

theorem State.canon_withholdAt {s : State} {i : Nat} {p : Packet} (ok : s.Canon) : (s.withholdAt i p).Canon :=
  State.canon_asidCheck (State.canon_dropInbox ok)

theorem State.canon_serve {s : State} {i : Nat} {p : Packet} {k : List Nat} (ok : s.Canon) : (s.serve i p k).Canon := by
  unfold State.serve
  dsimp only
  split
  · split
    · exact State.canon_withholdAt (State.canon_with ok rfl)
    · exact State.canon_refuse (State.canon_dropInbox (State.canon_with ok rfl))
  · split
    · exact State.canon_withholdAt (State.canon_with ok rfl)
    · split
      next t0 run1 =>
        exact State.canon_dropInbox (State.canon_of_eq run1 (State.canon_performPieces (State.canon_with ok rfl)))
      next t0 v1 run2 =>
        split
        · exact State.canon_finishRequest (State.canon_dropInbox (State.canon_of_eq run2 (State.canon_performPieces
            (State.canon_with ok rfl))))
        · exact State.canon_setInbox (State.canon_of_eq run2 (State.canon_performPieces (State.canon_with ok rfl)))

theorem State.canon_serveAt {s : State} {op : BitVec 6} {i : Nat} {k : List Nat} (ok : s.Canon) : CanonOpt (s.serveAt op i k) := by
  unfold State.serveAt
  dsimp only
  refine canonOpt_bind (fun x => ?_)
  split
  · split
    · exact canonOpt_none
    · exact canonOpt_some (State.canon_serve ok)
  · split
    · exact canonOpt_none
    · exact canonOpt_some (State.canon_serve ok)

theorem State.canon_applyAmo {s : State} {p : Packet} {op : AmoOp} (ok : s.Canon) : (s.applyAmo p op).1.Canon := by
  unfold State.applyAmo
  dsimp only
  split
  next t0 run1 =>
    exact State.canon_of_eq run1 (State.canon_performPieces ok)
  next t0 v1 run2 =>
    split
    · exact State.canon_of_eq run2 (State.canon_performPieces ok)
    · exact State.canon_foldl (State.canon_of_eq run2 (State.canon_performPieces ok)) (fun u x k => State.canon_writePiece k)

theorem State.canon_serveAmo {s : State} {i : Nat} (ok : s.Canon) : CanonOpt (s.serveAmo i) := by
  unfold State.serveAmo
  dsimp only
  refine canonOpt_map (fun x => ?_)
  split
  · exact State.canon_dropInbox ok
  · split
    · exact State.canon_withholdAt ok
    · exact State.canon_refuse (State.canon_dropInbox ok)
  · split
    · exact State.canon_withholdAt ok
    · split
      next t0 run1 =>
        exact State.canon_of_eq run1 (State.canon_applyAmo (State.canon_dropInbox ok))
      next t0 v1 run2 =>
        exact State.canon_answerTo (State.canon_of_eq run2 (State.canon_applyAmo (State.canon_dropInbox ok)))

theorem State.canon_serveOrd {s : State} {i : Nat} (ok : s.Canon) : CanonOpt (s.serveOrd i) := by
  unfold State.serveOrd
  dsimp only
  refine canonOpt_map (fun x => ?_)
  split
  · exact State.canon_dropInbox ok
  · split
    · exact State.canon_withholdAt ok
    · exact State.canon_refuse (State.canon_dropInbox ok)
  · split
    · exact State.canon_withholdAt ok
    · split
      · exact State.canon_answerTo (State.canon_dropInbox ok)
      · exact State.canon_with (State.canon_answerTo (State.canon_dropInbox ok)) rfl

theorem State.canon_creditBack {s : State} {p : Packet} (ok : s.Canon) : (s.creditBack p).Canon := State.canon_emit ok

theorem State.canon_onStreamAt {s : State} {d : DieId} {n : BitVec 4} {f : Stream → Stream} (ok : s.Canon) :
    (s.onStreamAt d n f).Canon :=
  State.canon_onDieAt ok (fun k => Die.canon_onStream k)

theorem State.canon_feedSpop {s : State} {d : DieId} {n : BitVec 4} (ok : s.Canon) : (s.feedSpop d n).Canon := by
  unfold State.feedSpop
  split
  · exact State.canon_onOwner (State.canon_same (State.canon_returnCredit (State.canon_onStreamAt ok)) rfl rfl rfl)
  · exact ok

theorem State.canon_streamRow {s : State} {i : Nat} (ok : s.Canon) : CanonOpt (s.streamRow i) := by
  unfold State.streamRow
  dsimp only
  refine canonOpt_map (fun x => ?_)
  split
  · exact State.canon_feedSpop (State.canon_onStreamAt (State.canon_dropInbox ok))
  · exact State.canon_creditBack (State.canon_dropInbox ok)

theorem State.canon_streamCredit {s : State} {i : Nat} (ok : s.Canon) : CanonOpt (s.streamCredit i) := by
  unfold State.streamCredit
  dsimp only
  refine canonOpt_map (fun x => ?_)
  split
  · exact State.canon_onStreamAt (State.canon_dropInbox ok)
  · exact State.canon_dropInbox ok

theorem State.canon_streamTimeout {s : State} {d : DieId} {c : CtxId} (ok : s.Canon) : CanonOpt (s.streamTimeout d c) := by
  unfold State.streamTimeout
  dsimp only
  split
  · exact canonOpt_none
  · split
    · exact canonOpt_none
    · split
      next run => exact canonOpt_some ((State.canon_openNext (State.canon_settled (State.canon_onCtxAt ok)) run).2 _ rfl)
      next => exact canonOpt_none

/-! ### Copy -/

theorem State.canon_readSpan {s : State} {t : Task} {d : DieId} {a : Word} {n : Nat} (ok : s.Canon) : (s.readSpan t d a n).1.Canon := by
  unfold State.readSpan
  split
  · split
    · exact State.canon_checkTask ok
    · exact ok
  · exact State.canon_eccReads ok
  · exact ok

theorem State.canon_writeSpan {s : State} {t : Task} {d : DieId} {a : Word} {bs : List Byte} (ok : s.Canon) :
    (s.writeSpan t d a bs).Canon := by
  unfold State.writeSpan
  split
  · exact State.canon_writeDev ok
  · exact State.canon_onDieAt ok Die.canon_spWrite
  · exact ok

theorem State.canon_sendPiece {s : State} {t : Task} {d : DieId} {ch : Fin 16} {cp : Copy} {i : Nat} {dst : Word} {off : Nat}
    {bs : List Byte} (ok : s.Canon) : CanonOpt (s.sendPiece t d ch cp i dst off bs) := by
  unfold State.sendPiece
  dsimp only
  split
  · exact canonOpt_none
  · split
    · exact canonOpt_some (State.canon_same ok rfl rfl rfl)
    · exact canonOpt_some (State.canon_emit (State.canon_same ok rfl rfl rfl))

section

variable {s u : State} {t : Task} {d : DieId} {ch : Fin 16} {cp : Copy} {i : Nat} {dst : Word} {bs : List Byte}

theorem State.sendPieces_nil : s.sendPieces t d ch cp i dst bs [] = some s := rfl

/-- The recursion of `sendPieces`, unfolded by hand: its own equations would evaluate the search for a free tag. -/
theorem State.sendPieces_none {p : Nat × Nat} {l : List (Nat × Nat)}
    (run : s.sendPiece t d ch cp i dst p.1 (slice bs p.1 p.2) = none) : s.sendPieces t d ch cp i dst bs (p :: l) = none := by
  delta State.sendPieces
  refine (congrFun (List.brecOn.eq (motive := fun _ => State → Option State) (p :: l) _) s).trans ?_
  delta State.sendPieces._f
  dsimp only
  rw [run]

theorem State.sendPieces_some {p : Nat × Nat} {l : List (Nat × Nat)}
    (run : s.sendPiece t d ch cp i dst p.1 (slice bs p.1 p.2) = some u) :
    s.sendPieces t d ch cp i dst bs (p :: l) = u.sendPieces t d ch cp i dst bs l := by
  delta State.sendPieces
  refine (congrFun (List.brecOn.eq (motive := fun _ => State → Option State) (p :: l) _) s).trans ?_
  delta State.sendPieces._f
  dsimp only
  rw [run]

theorem State.canon_sendPieces {l : List (Nat × Nat)} (ok : s.Canon) : CanonOpt (s.sendPieces t d ch cp i dst bs l) := by
  induction l generalizing s with
  | nil =>
    rw [State.sendPieces_nil]
    exact canonOpt_some ok
  | cons p l ih =>
    cases run : s.sendPiece t d ch cp i dst p.1 (slice bs p.1 p.2) with
    | none =>
      rw [State.sendPieces_none run]
      exact canonOpt_none
    | some u =>
      rw [State.sendPieces_some run]
      exact ih (State.canon_sendPiece ok u run)

end

theorem State.canon_bytesOut {s : State} {t : Task} {d : DieId} {cp : Copy} {m : Tmpl} {i : Nat} {bs : List Byte} (ok : s.Canon) :
    (s.bytesOut t d cp m i bs).1.Canon := by
  unfold State.bytesOut
  dsimp only
  split
  · exact State.canon_same ok rfl rfl rfl
  · exact ok

theorem State.canon_moveBlock {s : State} {t : Task} {d : DieId} {ch : Fin 16} {cp : Copy} {m : Tmpl} {i : Nat} (ok : s.Canon) :
    CanonOpt (s.moveBlock t d ch cp m i) := by
  unfold State.moveBlock
  split
  · exact canonOpt_some (State.canon_checkTask ok)
  next t0 run1 run2 =>
    exact canonOpt_some (State.canon_of_eq run2 (State.canon_readSpan ok))
  next t0 v1 run2 run3 =>
    split
    · exact State.canon_sendPieces (State.canon_bytesOut (State.canon_of_eq run3 (State.canon_readSpan ok)))
    · exact canonOpt_some (State.canon_writeSpan (State.canon_bytesOut (State.canon_of_eq run3 (State.canon_readSpan ok))))

theorem State.canon_onChan {s : State} {d : DieId} {ch : Fin 16} {f : Chan → Chan} (ok : s.Canon) : (s.onChan d ch f).Canon :=
  State.canon_onDieAt ok (fun k => Die.canon_same k rfl rfl rfl)

theorem State.canon_startCopy {s : State} {d : DieId} {ch : Fin 16} {cp : Copy} (ok : s.Canon) : (s.startCopy d ch cp).Canon :=
  State.canon_onChan ok

theorem State.canon_setHead {s : State} {d : DieId} {ch : Fin 16} {cp : Copy} (ok : s.Canon) : (s.setHead d ch cp).Canon :=
  State.canon_onChan ok

theorem State.canon_wakeIds {s : State} {d : DieId} {ch : Fin 16} (ok : s.Canon) : (s.wakeIds d ch).Canon := by
  unfold State.wakeIds
  dsimp only
  refine State.canon_foldl ok (fun u x k => State.canon_foldl k (fun u1 x1 k1 => ?_))
  split
  · exact State.canon_foldl k1 (fun u x k => State.canon_setTok k)
  · exact State.canon_onTask (State.canon_foldl k1 (fun u x k => State.canon_setTok k))

theorem State.canon_copyOver {s : State} {d : DieId} {ch : Fin 16} {cp : Copy} (ok : s.Canon) : (s.copyOver d ch cp).Canon :=
  State.canon_wakeIds (State.canon_onChan (State.canon_same ok rfl rfl rfl))

theorem State.canon_moveBlocks {t : Task} {d : DieId} {ch : Fin 16} {m : Tmpl} {l : List Nat} {cp : Copy} {s : State} (ok : s.Canon) :
    (State.moveBlocks t d ch m l cp s).2.Canon := by
  induction l generalizing cp s with
  | nil => exact ok
  | cons i l ih =>
    unfold State.moveBlocks
    split
    next u run => exact ih (State.canon_moveBlock ok u run)
    next => exact ih ok

theorem State.canon_copyStep {s : State} {d : DieId} {ch : Fin 16} {named : List Nat} (ok : s.Canon) :
    CanonOpt (s.copyStep d ch named) := by
  unfold State.copyStep
  split
  · exact canonOpt_none
  · split
    · exact canonOpt_none
    · split
      · exact canonOpt_none
      · extract_lets left now
        split
        · exact canonOpt_none
        · dsimp only
          split
          · exact canonOpt_some (State.canon_copyOver (State.canon_setHead (State.canon_moveBlocks ok)))
          · split
            · exact canonOpt_none
            · exact canonOpt_some (State.canon_setHead (State.canon_moveBlocks ok))

theorem State.canon_haltChan {s : State} {d : DieId} {ch : Fin 16} {cp : Copy} {cls : Nat} {reason : Nat} (ok : s.Canon) :
    (s.haltChan d ch cp cls reason).Canon :=
  State.canon_defer (State.canon_onChan ok)

theorem State.canon_copyFailure {s : State} {d : DieId} {ch : Fin 16} (ok : s.Canon) : CanonOpt (s.copyFailure d ch) := by
  unfold State.copyFailure
  split
  · exact canonOpt_none
  · split
    · exact canonOpt_none
    · split
      · exact canonOpt_some (State.canon_haltChan ok)
      · split
        · exact canonOpt_none
        · exact canonOpt_map (fun x => State.canon_haltChan ok)

theorem State.canon_clearErr {s : State} {d : DieId} {ch : Fin 16} (ok : s.Canon) : (s.clearErr d ch).Canon := by
  unfold State.clearErr
  split
  · exact State.canon_copyOver ok
  · exact ok

/-! ### Engines -/

theorem State.canon_parity {s : State} {d : DieId} {c : CtxId} (ok : s.Canon) : CanonOpt (s.parity d c) := by
  unfold State.parity
  dsimp only
  split
  · exact canonOpt_none
  · split
    · exact canonOpt_some (State.canon_defer ok)
    · exact canonOpt_some (State.canon_postEvent ok)

theorem Die.canon_hitUnit {d : Die} {x : Nat × Ecc} (ok : d.Canon) : (d.hitUnit x).Canon := Die.canon_same ok rfl rfl rfl

theorem State.canon_scrub {s : State} {d : DieId} {u : Nat} {new : List (Nat × Ecc)} (ok : s.Canon) : CanonOpt (s.scrub d u new) := by
  unfold State.scrub
  split
  · exact canonOpt_none
  · exact canonOpt_some (State.canon_eccRead (State.canon_onDieAt ok (fun k => Die.canon_foldl k (fun y1 x1 k1 => Die.canon_hitUnit k1))))

theorem State.canon_hbmScrub {s : State} {pa : Nat} {bad : List Nat} (ok : s.Canon) : CanonOpt (s.hbmScrub pa bad) := by
  unfold State.hbmScrub
  dsimp only
  split
  · exact canonOpt_none
  · split
    · exact canonOpt_some (State.canon_postEvent (State.canon_same ok rfl rfl rfl))
    · split
      · exact canonOpt_some (State.canon_same ok rfl rfl rfl)
      · exact canonOpt_some (State.canon_same ok rfl rfl rfl)

theorem State.canon_freeSwitch {s : State} {d : DieId} (ok : s.Canon) : CanonOpt (s.freeSwitch d) := by
  unfold State.freeSwitch
  split
  · exact canonOpt_none
  · split
    · split
      · exact canonOpt_none
      · exact canonOpt_some (State.canon_setCurrent ok)
    · exact canonOpt_none

theorem State.canon_postDiscards {s : State} {t : Task} {l : List (DieId × CtxId × Nat × Nat × Nat × Nat)} (ok : s.Canon) :
    (s.postDiscards t l).Canon :=
  State.canon_foldl ok (fun u x k => State.canon_taskEvent k)

theorem State.canon_finish {s : State} {t : Task} {d : DieId} {c : CtxId} (ok : s.Canon) : (s.finish t d c).Canon := by
  unfold State.finish
  split
  · split
    · exact State.canon_endTaskAt (State.canon_postDiscards ok)
    · exact State.canon_endTaskAt ok
  · exact ok

theorem State.canon_retire {s : State} {d : DieId} {c : CtxId} (ok : s.Canon) : CanonOpt (s.retire d c) := by
  unfold State.retire
  dsimp only
  split
  · exact canonOpt_none
  · split
    · exact canonOpt_none
    · refine canonOpt_some (State.canon_finish (State.canon_onCtxAt ?_))
      split
      · exact State.canon_onDieAt ok (fun k => Die.canon_settle k)
      · exact ok

/-! ### Fold -/

theorem State.canon_checkMembers {s : State} {t : Task} {code : BitVec 8} (ok : s.Canon) : (s.checkMembers t code).Canon :=
  State.canon_foldl ok (fun u x k => State.canon_checkTask k)

theorem State.canon_laneRow {s : State} {d : DieId} {f : Frame} (ok : s.Canon) : (s.laneRow d f).Canon := by
  unfold State.laneRow
  split
  · split
    · exact ok
    · split
      · exact State.canon_onCtxAt ok
      · split
        · exact State.canon_defer ok
        · exact State.canon_onDieAt ok (fun k => Die.canon_same k rfl rfl rfl)
  · exact ok

theorem State.canon_farFrame {s : State} {d : DieId} {l : BitVec 4} {fixed : Nat} {bad : Bool} (ok : s.Canon) :
    CanonOpt (s.farFrame d l fixed bad) := by
  unfold State.farFrame
  dsimp only
  split
  · split
    · refine canonOpt_some ?_
      split
      · exact State.canon_checkFold (State.canon_with ok rfl)
      · exact State.canon_with ok rfl
    · exact canonOpt_none
  · refine canonOpt_some ?_
    split
    · exact State.canon_checkFold (State.canon_with (State.canon_onDieAt ok (fun k => Die.canon_same k rfl rfl rfl)) rfl)
    · exact State.canon_laneRow (State.canon_with (State.canon_onDieAt ok (fun k => Die.canon_same k rfl rfl rfl)) rfl)

theorem State.canon_farPathLost {s : State} {b : Bool} (ok : s.Canon) : CanonOpt (s.farPathLost b) := by
  unfold State.farPathLost
  dsimp only
  split
  · split
    · exact canonOpt_none
    · exact canonOpt_some (State.canon_foldl ok (fun u x k => State.canon_dieOut k))
  · split
    · exact canonOpt_none
    · exact canonOpt_some (State.canon_foldl ok (fun u x k => State.canon_dieOut k))

theorem Die.canon_onPartner {d : Die} {o : DieId} {f : Partner → Partner} (ok : d.Canon) : (d.onPartner o f).Canon :=
  Die.canon_same ok rfl rfl rfl

theorem State.canon_countSend {s : State} {d : DieId} (ok : s.Canon) : CanonOpt (s.countSend d) := by
  unfold State.countSend
  dsimp only
  split
  · exact canonOpt_some (State.canon_onDieAt ok (fun k => Die.canon_same k rfl rfl rfl))
  · exact canonOpt_none

theorem State.canon_nextMsg {s t : State} {d : DieId} {w : Wire} (ok : s.Canon) (run : s.nextMsg d = some (w, t)) : t.Canon := by
  unfold State.nextMsg at run
  split at run
  · cases run
  · split at run
    · obtain ⟨-, rfl⟩ := Prod.mk.inj (Option.some.inj run)
      exact State.canon_onDieAt ok fun k => Die.canon_same k rfl rfl rfl
    · cases run

theorem State.canon_takeCount {s : State} {d : DieId} {o : DieId} {tick : Word} {scy : Word} {fold : Bool} (ok : s.Canon) :
    (s.takeCount d o tick scy fold).Canon :=
  State.canon_onDieAt ok (fun k => Die.canon_onPartner k)

theorem State.canon_countMessage {s : State} {d : DieId} {crc : Bool} (ok : s.Canon) : CanonOpt (s.countMessage d crc) := by
  unfold State.countMessage
  split
  next w u run =>
    have heard : u.Canon := State.canon_nextMsg ok run
    split
    · split
      · exact canonOpt_some (State.canon_takeCount heard)
      · exact canonOpt_some (State.canon_onDieAt (State.canon_with heard rfl) Die.canon_onPartner)
    · exact canonOpt_none
  next => exact canonOpt_none

theorem State.canon_countsMissing {s : State} {d : DieId} {o : DieId} (ok : s.Canon) : CanonOpt (s.countsMissing d o) := by
  unfold State.countsMissing
  dsimp only
  split
  · split
    · exact canonOpt_some (State.canon_checkMembers (State.canon_onDieAt ok (fun k => Die.canon_onPartner k)))
    · exact canonOpt_none
  · exact canonOpt_none

theorem State.canon_takeEvent {s : State} {d o : DieId} {eseq : BitVec 8} {crc : Bool} {f : Task → CtxId → State → State} (ok : s.Canon)
    (keeps : ∀ t c (u : State), u.Canon → (f t c u).Canon) : (s.takeEvent d o eseq crc f).Canon := by
  have heard : (s.onDieAt d fun x => x.onPartner o fun p => { p with eseq := eseq }).Canon := State.canon_onDieAt ok Die.canon_onPartner
  unfold State.takeEvent
  dsimp only
  split
  · split
    · exact heard
    · split
      · exact State.canon_checkMembers heard
      · exact keeps _ _ _ heard
  · exact heard

theorem State.canon_freezeMessage {s : State} {d : DieId} {crc : Bool} (ok : s.Canon) : CanonOpt (s.freezeMessage d crc) := by
  unfold State.freezeMessage
  split
  next w u run =>
    split
    · refine canonOpt_some (State.canon_takeEvent (State.canon_nextMsg ok run) fun t c v k => ?_)
      split
      · exact State.canon_onDieAt k fun y => Die.canon_same y rfl rfl rfl
      · exact k
    · exact canonOpt_none
  next => exact canonOpt_none

theorem State.canon_stopMessage {s : State} {d : DieId} {crc : Bool} (ok : s.Canon) : CanonOpt (s.stopMessage d crc) := by
  unfold State.stopMessage
  split
  next w u run =>
    split
    · refine canonOpt_some (State.canon_takeEvent (State.canon_nextMsg ok run) fun t c v k => ?_)
      split
      · split
        · exact State.canon_joinStop k
        · exact State.canon_onDieAt k fun y => Die.canon_same y rfl rfl rfl
      · exact State.canon_joinStop k
    · exact canonOpt_none
  next => exact canonOpt_none

theorem State.canon_debtPaid {s : State} {d : DieId} (ok : s.Canon) : CanonOpt (s.debtPaid d) := by
  unfold State.debtPaid
  split
  · exact canonOpt_some (State.canon_endCycle (State.canon_cycleStart ok))
  · exact canonOpt_none

theorem State.canon_startDie {s : State} {t : Task} {d : DieId} (ok : s.Canon) : (s.startDie t d).Canon := by
  unfold State.startDie
  dsimp only
  refine State.canon_foldl (State.canon_onDieAt (State.canon_foldl ok (fun u x k => ?_)) (fun k => Die.canon_same k rfl rfl rfl))
      (fun u x k => ?_)
  · split
    · exact k
    · exact State.canon_onDieAt k (fun k => Die.canon_onPartner k)
  · split
    · exact k
    · split
      · split
        · refine State.canon_onDieAt ?_ (fun k => Die.canon_refillLanes k)
          split
          · exact State.canon_onCtxAt k
          · exact k
        · split
          · exact State.canon_onCtxAt k
          · exact k
      · refine State.canon_onCtxAt ?_
        split
        · refine State.canon_onDieAt ?_ (fun k => Die.canon_refillLanes k)
          split
          · exact State.canon_onCtxAt k
          · exact k
        · split
          · exact State.canon_onCtxAt k
          · exact k

theorem State.canon_foldStart {s : State} {d : DieId} (ok : s.Canon) : CanonOpt (s.foldStart d) := by
  unfold State.foldStart
  dsimp only
  split
  · exact canonOpt_none
  · split
    · split
      · exact canonOpt_none
      · exact canonOpt_some (State.canon_onTask (State.canon_startDie ok))
    · split
      · exact canonOpt_none
      · exact canonOpt_some (State.canon_onTask (State.canon_startDie ok))

theorem State.canon_alignRelease {s : State} {d : DieId} (ok : s.Canon) : CanonOpt (s.alignRelease d) := by
  unfold State.alignRelease
  split
  · exact canonOpt_none
  · split
    · split
      · exact canonOpt_some (State.canon_onCtxAt ok)
      · exact canonOpt_none
    · exact canonOpt_none

theorem State.canon_alignTimeout {s : State} {d : DieId} (ok : s.Canon) : CanonOpt (s.alignTimeout d) := by
  unfold State.alignTimeout
  split
  · exact canonOpt_none
  · split
    · split
      · exact canonOpt_some (State.canon_deliver (State.canon_onCtxAt ok))
      · exact canonOpt_none
    · exact canonOpt_none

theorem State.canon_stopOf {s : State} {d : DieId} {c : CtxId} (ok : s.Canon) : (s.stopOf d c).Canon := by
  unfold State.stopOf
  refine State.canon_onDieAt ok (fun k => Die.canon_onCtxAt ?_)
  split
  · exact Die.canon_drainLanes k
  · exact k

theorem State.canon_stopVictim {s : State} {t : Task} {held : List (DieId × CtxId)} (ok : s.Canon) : (s.stopVictim t held).Canon :=
  State.canon_onTask (State.canon_foldl ok (fun u x k => State.canon_stopOf k))

theorem State.canon_goOn {s : State} {t : Task} (ok : s.Canon) : (s.goOn t).Canon := by
  unfold State.goOn
  refine State.canon_foldl ok (fun u x k => ?_)
  split
  · exact State.canon_onDieAt (State.canon_onCtxAt k) (fun k => Die.canon_refillLanes k)
  · exact k

theorem State.canon_agree {s : State} {t : Task} {d : DieId} {c : CtxId} {a : Agreed} {inside : Bool} (ok : s.Canon) :
    (s.agree t d c a inside).Canon := by
  unfold State.agree
  dsimp only
  split
  · refine State.canon_onTask ?_
    split
    · exact ok
    · exact State.canon_goOn ok
  · split
    · exact State.canon_stopVictim (State.canon_stopOf ok)
    · exact State.canon_onTask (State.canon_stopOf ok)

theorem State.canon_leaveReport {s : State} {lid : BitVec 32} {d : DieId} (ok : s.Canon) : CanonOpt (s.leaveReport lid d) := by
  unfold State.leaveReport
  split
  · exact canonOpt_none
  · split
    · split
      · exact canonOpt_some (State.canon_onTask ok)
      · exact canonOpt_none
    · exact canonOpt_none

theorem State.canon_agreedCount {s : State} {lid : BitVec 32} {d : DieId} (ok : s.Canon) : CanonOpt (s.agreedCount lid d) := by
  unfold State.agreedCount
  split
  · exact canonOpt_none
  · split
    · split
      · exact canonOpt_none
      · exact canonOpt_some (State.canon_stopVictim ok)
    · split
      · exact State.canon_leaveReport ok
      · split
        · exact canonOpt_none
        · exact canonOpt_some (State.canon_agree ok)

theorem State.canon_overrun {s : State} {lid : BitVec 32} {d : DieId} (ok : s.Canon) : CanonOpt (s.overrun lid d) := by
  unfold State.overrun
  split
  · split
    · exact canonOpt_some (State.canon_deliver (State.canon_onCtxAt ok))
    · exact canonOpt_none
  · exact canonOpt_none

/-! ### Power -/

theorem State.canon_writePwrlim {s : State} {v : Word} (ok : s.Canon) : (s.writePwrlim v).Canon := State.canon_with ok rfl

theorem State.canon_writePwrmode {s : State} {v : Word} (ok : s.Canon) : (s.writePwrmode v).Canon := by
  unfold State.writePwrmode
  split
  · exact State.canon_wake (State.canon_with ok rfl)
  · exact State.canon_with ok rfl

theorem State.canon_wakeHoldEnd {s : State} (ok : s.Canon) : CanonOpt s.wakeHoldEnd := by
  unfold State.wakeHoldEnd
  split
  · exact canonOpt_some (State.canon_with ok rfl)
  · exact canonOpt_none

theorem State.canon_settlement {s : State} {r : Readings} (ok : s.Canon) : CanonOpt (s.settlement r) := by
  unfold State.settlement
  dsimp only
  split
  · exact canonOpt_none
  · exact canonOpt_some (State.canon_with ok rfl)

theorem State.canon_raiseDebt {s : State} {d : DieId} (ok : s.Canon) : CanonOpt (s.raiseDebt d) := by
  unfold State.raiseDebt
  split
  · exact canonOpt_none
  · split
    · exact canonOpt_none
    · refine canonOpt_some ?_
      split
      · exact State.canon_onDieAt (State.canon_with ok rfl) (fun k => Die.canon_raiseFreeze k)
      · exact State.canon_with ok rfl

/-! ### SregEvents -/

theorem State.canon_sregStep {s : State} {k : RegStep} {d : DieId} {c : CtxId} (ok : s.Canon) : CanonOpt (s.sregStep k d c) := by
  unfold State.sregStep
  dsimp only
  split
  · exact canonOpt_none
  · split
    · exact canonOpt_none
    · refine canonOpt_some ?_
      split
      · exact State.canon_onCtxAt (State.canon_onCtxAt ok)
      · exact State.canon_writeSup (State.canon_onCtxAt ok)

/-! ### Superstep -/

theorem State.canon_tellAll {s : State} {op : BitVec 6} {g : BitVec 6} {k : Nat} {status : Nat} {who : Nat} {d : DieId} (ok : s.Canon) :
    (s.tellAll op g k status who d).Canon := by
  unfold State.tellAll
  refine State.canon_foldl ok (fun u x k => ?_)
  split
  · exact k
  · exact State.canon_emit k

theorem State.canon_endOrd {s : State} {g : BitVec 6} {k : Nat} {status : Nat} {who : Nat} (ok : s.Canon) :
    (s.endOrd g k status who).Canon := by
  unfold State.endOrd
  refine State.canon_foldl ok (fun u x k => ?_)
  split
  · split
    · split
      · exact State.canon_endTrans k
      · split
        · exact State.canon_endTrans k
        · exact State.canon_endTrans k
    · exact k
  · exact k

theorem State.canon_endStep {s : State} {x : SStep} {status : Nat} {who : Nat} (ok : s.Canon) : (s.endStep x status who).Canon :=
  State.canon_fxEnd (State.canon_endOrd (State.canon_same ok rfl rfl rfl))

theorem State.canon_abortStep {s : State} {x : SStep} {status : Nat} {who : Nat} (ok : s.Canon) : (s.abortStep x status who).Canon :=
  State.canon_endStep (State.canon_tellAll ok)

theorem State.canon_applyOrd {s : State} {x : SStep} {p : Packet} (ok : s.Canon) : (s.applyOrd x p).Canon := by
  unfold State.applyOrd
  split
  · exact ok
  · split
    next t0 run1 =>
      exact State.canon_of_eq run1 (State.canon_applyAmo ok)
    next t0 v1 run2 =>
      exact State.canon_emit (State.canon_with (State.canon_of_eq run2 (State.canon_applyAmo ok)) rfl)

theorem State.canon_finishArrived {s : State} (ok : s.Canon) : s.finishArrived.Canon := by
  unfold State.finishArrived
  refine State.canon_foldl ok (fun u x k => ?_)
  split
  · split
    · exact State.canon_serve k
    · exact k
  · exact k

theorem State.canon_close {s : State} {x : SStep} (ok : s.Canon) : (s.close x).Canon :=
  State.canon_foldl (State.canon_finishArrived ok) (fun u x k => State.canon_applyOrd k)

theorem State.canon_onStep {s : State} {x : SStep} {f : SStep → SStep} (ok : s.Canon) : (s.onStep x f).Canon :=
  State.canon_same ok rfl rfl rfl

theorem State.canon_stepOnce {s : State} {x : SStep} (ok : s.Canon) : CanonOpt (s.stepOnce x) := by
  unfold State.stepOnce
  dsimp only
  split
  · split
    · exact canonOpt_some (State.canon_abortStep ok)
    · split
      · exact canonOpt_some (State.canon_abortStep ok)
      · split
        · exact canonOpt_some (State.canon_onStep (State.canon_tellAll ok))
        · exact canonOpt_none
  · split
    · exact canonOpt_some (State.canon_endStep ok)
    · split
      · exact canonOpt_some (State.canon_close (State.canon_onStep ok))
      · exact canonOpt_map (fun x => State.canon_endStep (State.canon_tellAll ok))
  · split
    · exact canonOpt_some (State.canon_onStep (State.canon_tellAll ok))
    · exact canonOpt_map (fun x => State.canon_endStep (State.canon_tellAll ok))
  · split
    · exact canonOpt_some (State.canon_endStep ok)
    · exact canonOpt_map (fun x => State.canon_endStep ok)

theorem State.canon_stepOn {g : BitVec 6} {k n : Nat} {s : State} (ok : s.Canon) : (State.stepOn g k n s).Canon := by
  induction n generalizing s with
  | zero => exact ok
  | succ n ih =>
    unfold State.stepOn
    split
    · exact ok
    · split
      next u run => exact ih (State.canon_stepOnce ok u run)
      next => exact ok

theorem State.canon_stepsOn {s : State} (ok : s.Canon) : s.stepsOn.Canon := State.canon_foldl ok (fun u x k => State.canon_stepOn k)

theorem State.canon_arrive {s : State} {d : DieId} {c : CtxId} {e : Entry} {g : BitVec 6} {st : Bool} (ok : s.Canon) :
    (s.arrive d c e g st).Canon := by
  unfold State.arrive
  dsimp only
  split
  · exact State.canon_fxEnd (State.canon_endOrd ok)
  · split
    · exact State.canon_abortStep (State.canon_onCtxAt (State.canon_with ok rfl))
    · exact State.canon_stepOn (State.canon_tellAll (State.canon_onCtxAt (State.canon_with ok rfl)))

theorem State.canon_sstepMsg {s : State} {op : BitVec 6} {i : Nat} (ok : s.Canon) : CanonOpt (s.sstepMsg op i) := by
  unfold State.sstepMsg
  dsimp only
  refine canonOpt_map (fun x => ?_)
  split
  · exact State.canon_dropInbox ok
  · split
    · split
      · exact State.canon_with (State.canon_dropInbox ok) rfl
      · exact State.canon_stepOn (State.canon_with (State.canon_dropInbox ok) rfl)
    · split
      · split
        · exact State.canon_with (State.canon_dropInbox ok) rfl
        · exact State.canon_stepOn (State.canon_with (State.canon_dropInbox ok) rfl)
      · split
        · exact State.canon_with (State.canon_dropInbox ok) rfl
        · exact State.canon_stepOn (State.canon_with (State.canon_dropInbox ok) rfl)

theorem State.canon_sstepTimeout {s : State} {k : Nat} (ok : s.Canon) : CanonOpt (s.sstepTimeout k) := by
  unfold State.sstepTimeout
  split
  · exact canonOpt_none
  · split
    · exact canonOpt_none
    · exact canonOpt_map (fun x => State.canon_abortStep ok)

theorem State.canon_fetchedWrite {s : State} {i : Nat} (ok : s.Canon) : CanonOpt (s.fetchedWrite i) := by
  refine canonOpt_map fun p => ?_
  dsimp only
  split
  · exact State.canon_answerTo (State.canon_dropInbox ok)
  · exact State.canon_answerTo (State.canon_with (State.canon_onDieAt (State.canon_dropInbox ok) Die.canon_spWrite) rfl)

theorem State.canon_writeAnswer {s : State} {i : Nat} (ok : s.Canon) : CanonOpt (s.writeAnswer i) := by
  unfold State.writeAnswer
  cases run : s.writeResponse i with
  | none => exact canonOpt_none
  | some u => exact canonOpt_some (State.canon_stepsOn (State.canon_writeResponse ok u run))

/-! ### LinkEvents -/

theorem State.canon_linkEvent {s : State} {p : Fin 12} {code : Nat} {before : BitVec 16} {after : BitVec 16}
    {replayed : Nat} (ok : s.Canon) : (s.linkEvent p code before after replayed).Canon :=
  State.canon_postEvent ok

theorem State.canon_takeBack {s : State} {p : Fin 12} {which : Flit → Bool} (ok : s.Canon) : (s.takeBack p which).Canon :=
  State.canon_with (State.canon_onPort ok) rfl

theorem State.canon_routesLost {s : State} (ok : s.Canon) : s.routesLost.Canon := by
  unfold State.routesLost
  dsimp only
  refine State.canon_stepsOn (State.canon_foldl ok (fun u x k => ?_))
  split
  · exact State.canon_linkLost k
  · exact k

theorem State.canon_portDown {s : State} {p : Fin 12} {code : Nat} {before : BitVec 16} {replayed : Nat} (ok : s.Canon) :
    (s.portDown p code before replayed).Canon :=
  State.canon_routesLost (State.canon_linkEvent (State.canon_takeBack (State.canon_onPort ok)))

theorem State.canon_resend {s : State} {p : Fin 12} (ok : s.Canon) : (s.resend p).Canon := State.canon_with (State.canon_onPort ok) rfl

theorem State.canon_narrow {s : State} {p : Fin 12} (ok : s.Canon) : (s.narrow p).Canon := by
  unfold State.narrow
  dsimp only
  split
  · exact State.canon_portDown (State.canon_linkEvent (State.canon_onPort ok))
  · split
    · exact State.canon_linkEvent (State.canon_onPort ok)
    · exact State.canon_linkEvent (State.canon_resend (State.canon_onPort (State.canon_onPort ok)))

theorem State.canon_widen {s : State} {p : Fin 12} (ok : s.Canon) : (s.widen p).Canon := by
  unfold State.widen
  dsimp only
  split
  · exact ok
  · refine State.canon_linkEvent ?_
    split
    · exact State.canon_onPort (State.canon_onPort ok)
    · exact State.canon_onPort ok

theorem State.canon_lost {s : State} {p : Fin 12} {l : Light} (ok : s.Canon) : (s.lost p l).Canon := by
  unfold State.lost
  dsimp only
  split
  · split
    · exact State.canon_linkEvent (State.canon_onPort ok)
    · exact State.canon_narrow ok
  · split
    · exact State.canon_linkEvent (State.canon_onPort ok)
    · exact State.canon_narrow ok
  · split
    · exact State.canon_linkEvent (State.canon_onPort ok)
    · exact State.canon_narrow ok

theorem State.canon_lossOfLight {s : State} {p : Fin 12} {l : Light} (ok : s.Canon) : CanonOpt (s.lossOfLight p l) := by
  unfold State.lossOfLight
  split
  · exact canonOpt_none
  · refine canonOpt_map (fun x => ?_)
    split
    · exact State.canon_onPort ok
    · exact State.canon_lost (State.canon_onPort ok)

theorem State.canon_spareLock {s : State} {p : Fin 12} (ok : s.Canon) : CanonOpt (s.spareLock p) := by
  unfold State.spareLock
  dsimp only
  split
  · exact canonOpt_none
  · exact canonOpt_some (State.canon_widen (State.canon_onPort ok))

theorem State.canon_lambdaLock {s : State} {p : Fin 12} (ok : s.Canon) : CanonOpt (s.lambdaLock p) := by
  unfold State.lambdaLock
  dsimp only
  split
  · exact canonOpt_none
  · exact canonOpt_some (State.canon_widen (State.canon_onPort ok))

theorem State.canon_replay {s : State} {p : Fin 12} (ok : s.Canon) : (s.replay p).Canon := by
  unfold State.replay
  dsimp only
  split
  · exact ok
  · split
    · exact State.canon_portDown ok
    · exact State.canon_onPort (State.canon_resend ok)

theorem State.canon_takeCtl {s : State} {p : Fin 12} {a2 : Ctl} (ok : s.Canon) : (s.takeCtl p a2).Canon := by
  unfold State.takeCtl
  split
  · exact State.canon_onPort ok
  · exact State.canon_onPort ok
  · exact State.canon_onPort ok
  · exact State.canon_replay (State.canon_onPort ok)
  · exact ok
  · exact ok
  · exact ok

theorem State.canon_transitAbsent {s : State} {p : Packet} (ok : s.Canon) : (s.transitAbsent p).Canon := by
  unfold State.transitAbsent
  split
  · exact State.canon_emit ok
  · exact State.canon_emit ok
  · exact State.canon_emit ok
  · exact State.canon_emit ok
  · exact State.canon_emit ok
  · exact State.canon_emit ok
  · exact State.canon_emit ok
  · exact State.canon_emit ok
  · exact State.canon_emit ok
  · exact ok

theorem State.canon_release {s : State} {peer : BitVec 7} {f : Flit} (ok : s.Canon) : (s.release peer f).Canon := by
  unfold State.release
  dsimp only
  split
  · exact ok
  · split
    · split
      · split
        · exact State.canon_transitAbsent ok
        · exact ok
      · exact State.canon_same ok rfl rfl rfl
    · split
      · split
        · split
          · split
            · exact State.canon_wake (State.canon_same ok rfl rfl rfl)
            · exact State.canon_same ok rfl rfl rfl
          · exact State.canon_same ok rfl rfl rfl
        · exact ok
      · exact State.canon_same ok rfl rfl rfl

theorem State.canon_releaseNext {peer dst : BitVec 7} {n : Nat} {s : State} (ok : s.Canon) : (State.releaseNext peer dst n s).Canon := by
  induction n generalizing s with
  | zero => exact ok
  | succ n ih =>
    unfold State.releaseNext
    dsimp only
    split
    · exact ok
    · exact ih (State.canon_release (State.canon_with ok rfl))

theorem State.canon_resequence {s : State} {peer : BitVec 7} {f : Flit} (ok : s.Canon) : (s.resequence peer f).Canon := by
  unfold State.resequence
  dsimp only
  split
  · exact ok
  · exact State.canon_releaseNext (State.canon_with ok rfl)

theorem State.canon_takeFlit {s : State} {p : Fin 12} {peer : BitVec 7} {f : Flit} (ok : s.Canon) : (s.takeFlit p peer f).Canon := by
  unfold State.takeFlit
  dsimp only
  split
  · split
    · exact State.canon_onPort (State.canon_onPort ok)
    · exact State.canon_resequence (State.canon_onPort (State.canon_onPort ok))
  · split
    · exact State.canon_onPort ok
    · exact State.canon_onPort (State.canon_onPort ok)

theorem State.canon_dataFlit {s : State} {p : Fin 12} {peer : BitVec 7} {bs : List Byte} (ok : s.Canon) :
    CanonOpt (s.dataFlit p peer bs) := by
  unfold State.dataFlit
  dsimp only
  refine State.canon_control ?_
  split
  · exact State.canon_onPort ok
  · split
    · exact State.canon_portDown (State.canon_onPort ok)
    · exact State.canon_onPort ok
  · exact State.canon_onPort ok
  · exact State.canon_takeFlit ok
  · split
    · exact State.canon_takeCtl (State.canon_onPort ok)
    · exact State.canon_onPort ok

theorem State.canon_setPlane {s : State} {k : Fin 4} {v : PlaneSt} (ok : s.Canon) : (s.setPlane k v).Canon :=
  State.canon_same ok rfl rfl rfl

theorem State.canon_cfgError {s : State} {i : Nat} (ok : s.Canon) : (s.cfgError i).Canon := State.canon_same ok rfl rfl rfl

theorem State.canon_drainPlane {s : State} {k : Fin 4} (ok : s.Canon) : (s.drainPlane k).Canon := by
  unfold State.drainPlane
  refine State.canon_foldl (State.canon_setPlane ok) (fun u x k => ?_)
  split
  · exact k
  · exact State.canon_takeBack (State.canon_onPort k)

theorem State.canon_planeDrain {s : State} {k : Fin 4} {force : Bool} (ok : s.Canon) : (s.planeDrain k force).Canon := by
  unfold State.planeDrain
  split
  · exact ok
  · split
    · exact State.canon_cfgError ok
    · split
      · exact State.canon_with (State.canon_drainPlane ok) rfl
      · exact State.canon_drainPlane ok

theorem State.canon_planeEnable {s : State} {k : Fin 4} {commit : Bool} (ok : s.Canon) : (s.planeEnable k commit).Canon := by
  unfold State.planeEnable
  split
  · exact ok
  · split
    · exact State.canon_cfgError ok
    · exact State.canon_foldl (State.canon_with (State.canon_setPlane ok) rfl) (fun u x k => State.canon_onPort k)

theorem State.canon_planeDrained {s : State} {k : Fin 4} (ok : s.Canon) : CanonOpt (s.planeDrained k) := by
  unfold State.planeDrained
  split
  · exact canonOpt_none
  · exact canonOpt_some (State.canon_postEvent (State.canon_foldl (State.canon_setPlane ok) (fun u x k => State.canon_onPort k)))

theorem State.canon_newKeys {s : State} {p : Fin 12} (ok : s.Canon) : (s.newKeys p).Canon := State.canon_onPort (State.canon_with ok rfl)

theorem State.canon_floorBack {s : State} {p : Fin 12} (ok : s.Canon) : (s.floorBack p).Canon := State.canon_same ok rfl rfl rfl

theorem State.canon_planeEnabled {s : State} {k : Fin 4} (ok : s.Canon) : CanonOpt (s.planeEnabled k) := by
  unfold State.planeEnabled
  split
  · exact canonOpt_none
  · refine canonOpt_some (State.canon_postEvent (State.canon_routesLost ?_))
    split
    · exact State.canon_with (State.canon_foldl (State.canon_setPlane ok) (fun u x k => State.canon_floorBack (State.canon_newKeys
        (State.canon_onPort k)))) rfl
    · exact State.canon_foldl (State.canon_setPlane ok) (fun u x k => State.canon_floorBack (State.canon_newKeys (State.canon_onPort k)))

theorem State.canon_writeMember {s : State} {v : Word} (ok : s.Canon) : (s.writeMember v).Canon := by
  unfold State.writeMember
  split
  · exact ok
  · split
    · exact State.canon_with ok rfl
    · exact State.canon_cfgError ok

/-! ### Loader -/

theorem State.canon_clearWrite {s : State} {asid : BitVec 8} {va : Nat} {n : Nat} (ok : s.Canon) : (s.clearWrite asid va n).Canon :=
  State.canon_foldl ok (fun u x k => State.canon_foldl (State.canon_hbmPut k) (fun u1 x1 k1 => State.canon_onDieAt k1
    (fun k2 => Die.canon_same k2 rfl rfl rfl)))

theorem State.canon_copySects {s : State} {fn : BitVec 6} {img : List Byte} (ok : s.Canon) : (s.copySects fn img).Canon := by
  unfold State.copySects
  refine State.canon_foldl ok (fun u x k => ?_)
  split
  · exact State.canon_writeVirt k
  · exact State.canon_clearWrite (State.canon_writeVirt k)
  · exact k

theorem State.canon_logObject {s : State} {e : LogEntry} (ok : s.Canon) : (s.logObject e).Canon :=
  State.canon_onFn (State.canon_with ok rfl)

theorem State.canon_writeCode {s : State} {base : Nat} {bs : List Byte} (ok : s.Canon) : (s.writeCode base bs).Canon := by
  refine State.canon_foldl ok fun u d k => ?_
  split
  · exact State.canon_onDieAt k Die.canon_codeWrite
  · exact k

theorem State.canon_placeObject {s : State} {fn : BitVec 6} {kind : BitVec 8} {img : List Byte} {slot : BitVec 10}
    {base : Nat} (ok : s.Canon) : (s.placeObject fn kind img slot base).1.Canon :=
  State.canon_foldl (State.canon_logObject (State.canon_onObj (State.canon_writeCode (State.canon_copySects ok))))
    (fun u x k => State.canon_logObject k)

theorem State.canon_loadImage {s : State} {fn : BitVec 6} {kind : BitVec 8} {img : List Byte} {len : Nat} (ok : s.Canon) :
    (s.loadImage fn kind img len).1.Canon := by
  unfold State.loadImage
  split
  · exact ok
  · split
    · exact ok
    · split
      · exact ok
      · exact State.canon_placeObject ok

theorem State.canon_loadVirt {s : State} {fn : BitVec 6} {kind : BitVec 8} {va : Nat} {len : Nat} (ok : s.Canon) :
    (s.loadVirt fn kind va len).1.Canon := by
  unfold State.loadVirt
  split
  · exact ok
  · exact State.canon_loadImage ok

theorem State.canon_freeObject {s : State} {i : BitVec 10} {wipe : Bool} (ok : s.Canon) : (s.freeObject i wipe).Canon := by
  unfold State.freeObject
  split
  · exact ok
  · refine State.canon_onObj ?_
    split
    · exact State.canon_writeCode ok
    · exact ok

theorem State.canon_unload {s : State} {fn : BitVec 6} {h : BitVec 32} (ok : s.Canon) : (s.unload fn h).1.Canon := by
  unfold State.unload
  split
  · exact ok
  · split
    · exact ok
    · split
      · exact ok
      · exact State.canon_freeObject ok

theorem State.canon_load {s : State} {fn : BitVec 6} {src : Nat} {addr : Nat} {len : Nat} (ok : s.Canon) :
    (s.load fn src addr len).1.Canon := by
  unfold State.load
  split
  · exact ok
  · split
    · exact ok
    · split
      · exact ok
      · split
        · exact ok
        · split
          · exact State.canon_loadImage ok
          · exact State.canon_loadVirt ok

theorem State.canon_respondDoe {s : State} {fn : BitVec 6} {m : DoeMsg} (ok : s.Canon) : (s.respondDoe fn m).Canon :=
  State.canon_same ok rfl rfl rfl

theorem State.canon_respondObj {s : State} {fn : BitVec 6} {status : Nat} {h : BitVec 32} {detail : Nat} (ok : s.Canon) :
    (s.respondObj fn status h detail).Canon :=
  State.canon_respondDoe ok

theorem State.canon_publish {s : State} {fn : BitVec 6} {addr : Word} {len : Word} (ok : s.Canon) : (s.publish fn addr len).1.Canon := by
  unfold State.publish
  split
  · exact ok
  · exact State.canon_loadVirt ok

/-! ### Trust -/

theorem State.canon_answer {s : State} {fn : BitVec 6} {m : DoeMsg} (ok : s.Canon) : (s.answer fn m).Canon := State.canon_respondDoe ok

theorem State.canon_answerError {s : State} {fn : BitVec 6} {e : DoeErr} (ok : s.Canon) : (s.answerError fn e).Canon :=
  State.canon_answer ok

theorem State.canon_spdmRequest {s : State} {fn : BitVec 6} {a : Spdm} {f : State → State} (ok : s.Canon) (k : (f s).Canon) :
    CanonOpt (s.spdmRequest fn a f) := by
  unfold State.spdmRequest
  split
  · exact canonOpt_none
  · split
    · exact canonOpt_some (State.canon_answerError ok)
    · exact canonOpt_some k

theorem State.canon_spdmAt {s : State} {fn : BitVec 6} {a : Spdm} {f : State → State} (ok : s.Canon) (k : (f s).Canon) :
    CanonOpt (s.spdmAt fn a f) := by
  unfold State.spdmAt
  split
  · exact canonOpt_none
  · split
    · exact canonOpt_some (State.canon_answerError ok)
    · exact canonOpt_some k

theorem State.canon_setSpdm {s : State} {fn : BitVec 6} {x : Spdm} (ok : s.Canon) : (s.setSpdm fn x).Canon := State.canon_onFn ok

theorem State.canon_discardRecords {s : State} {fn : BitVec 6} (ok : s.Canon) : (s.discardRecords fn).Canon :=
  State.canon_same ok rfl rfl rfl

theorem State.canon_stopTasks {s : State} {fn : BitVec 6} (ok : s.Canon) : (s.stopTasks fn).Canon :=
  State.canon_foldl (State.canon_foldl ok (fun u x k => State.canon_endTask k)) (fun u x k => State.canon_same
    (State.canon_launchDone k) rfl rfl rfl)

theorem State.canon_zeroRanges {s : State} {ts : List Task} (ok : s.Canon) : (s.zeroRanges ts).Canon :=
  State.canon_foldl ok (fun u x k => State.canon_foldl k (fun u1 x1 k1 => State.canon_foldl k1
    (fun u2 x2 k2 => State.canon_onDieAt k2 (fun k3 => Die.canon_zeroUnits k3))))

theorem State.canon_slotKeys {s : State} {keys : Vector Nat 16} {sched : Sched} (ok : s.Canon) :
    ({ s with host := { s.host with slotKeys := keys }, sched := sched } : State).Canon := State.canon_with ok rfl

theorem State.canon_teardown {s : State} {fn : BitVec 6} (ok : s.Canon) : (s.teardown fn).Canon := by
  unfold State.teardown
  generalize List.range 1024 = objects
  dsimp only
  refine State.canon_onFn (State.canon_slotKeys (State.canon_foldl (State.canon_foldl ?_ fun _ _ k => State.canon_moveSlots k)
      fun u i k => ?_))
  · exact State.canon_zeroRanges (State.canon_discardRecords (State.canon_stopTasks ok))
  · split
    · split
      · exact State.canon_freeObject k
      · exact k
    · exact k

theorem State.canon_tdiError {s : State} {fn : BitVec 6} {cause : Nat} (ok : s.Canon) : (s.tdiError fn cause).Canon := by
  unfold State.tdiError
  dsimp only
  split
  · exact State.canon_postRecord (State.canon_postRecord (State.canon_onFn (State.canon_teardown ok)))
  · exact ok

theorem State.canon_endSession {s : State} {fn : BitVec 6} (ok : s.Canon) : (s.endSession fn).Canon :=
  State.canon_tdiError (State.canon_onFn (State.canon_setSpdm ok))

theorem State.canon_getVersion {s : State} {fn : BitVec 6} (ok : s.Canon) : CanonOpt (s.getVersion fn) := by
  unfold State.getVersion
  split
  · exact canonOpt_none
  · refine canonOpt_some (State.canon_answer (State.canon_setSpdm ?_))
    split
    · exact State.canon_endSession ok
    · exact ok

theorem State.canon_negotiate {s : State} {fn : BitVec 6} {offered : List SpdmAlg} (ok : s.Canon) :
    CanonOpt (s.negotiate fn offered) := by
  unfold State.negotiate
  refine State.canon_spdmAt ok ?_
  split
  · exact State.canon_answer (State.canon_setSpdm ok)
  · exact State.canon_answerError ok

theorem State.canon_getMeasurements {s : State} {fn : BitVec 6} {index : Nat} {sign : Bool} {nonce : List Byte} (ok : s.Canon) :
    CanonOpt (s.getMeasurements fn index sign nonce) := by
  unfold State.getMeasurements
  refine State.canon_spdmRequest ok ?_
  split
  · exact State.canon_answerError ok
  · exact State.canon_answer ok

theorem State.canon_keyExchange {s : State} {fn : BitVec 6} {req : List Byte} (ok : s.Canon) : CanonOpt (s.keyExchange fn req) := by
  unfold State.keyExchange
  refine State.canon_spdmAt ok ?_
  split
  · exact State.canon_answer (State.canon_setSpdm ok)
  · exact State.canon_answerError ok

theorem State.canon_finishSession {s : State} {fn : BitVec 6} {good : Bool} (ok : s.Canon) : CanonOpt (s.finishSession fn good) := by
  unfold State.finishSession
  refine State.canon_spdmAt ok ?_
  split
  · exact State.canon_answer (State.canon_with (State.canon_onFn ok) rfl)
  · exact State.canon_answerError (State.canon_setSpdm ok)

theorem State.canon_ideKey {s : State} {fn : BitVec 6} {stream : BitVec 3} (ok : s.Canon) : CanonOpt (s.ideKey fn stream) := by
  unfold State.ideKey
  refine State.canon_spdmRequest ok ?_
  split
  · exact State.canon_answerError ok
  · exact State.canon_answer (State.canon_onFn ok)

theorem State.canon_ideInsecure {s : State} {fn : BitVec 6} {stream : BitVec 3} (ok : s.Canon) : CanonOpt (s.ideInsecure fn stream) := by
  unfold State.ideInsecure
  split
  · exact canonOpt_none
  · exact canonOpt_some (State.canon_tdiError (State.canon_onFn ok))

theorem State.canon_giveSlot {s : State} {fn : BitVec 6} {k : BitVec 4} (ok : s.Canon) : (s.giveSlot fn k).Canon :=
  State.canon_onFn (State.canon_same ok rfl rfl rfl)

theorem State.canon_lock {s : State} {fn : BitVec 6} (ok : s.Canon) : CanonOpt (s.lock fn) := by
  unfold State.lock
  refine State.canon_spdmRequest ok ?_
  split
  · exact State.canon_answerError ok
  · split
    · exact State.canon_answerError ok
    · split
      · exact State.canon_answerError ok
      · split
        · exact State.canon_answerError ok
        · exact State.canon_answer (State.canon_giveSlot ok)

theorem State.canon_startTdi {s : State} {fn : BitVec 6} (ok : s.Canon) : CanonOpt (s.startTdi fn) := by
  unfold State.startTdi
  refine State.canon_spdmRequest ok ?_
  split
  · exact State.canon_answer (State.canon_onFn ok)
  · exact State.canon_answerError ok

theorem State.canon_stopTdi {s : State} {fn : BitVec 6} (ok : s.Canon) : CanonOpt (s.stopTdi fn) := by
  unfold State.stopTdi
  refine State.canon_spdmRequest ok (State.canon_answer (State.canon_onFn ?_))
  split
  · exact State.canon_teardown ok
  · exact ok

theorem State.canon_logRead {s : State} {fn : BitVec 6} (ok : s.Canon) : CanonOpt (s.logRead fn) := by
  unfold State.logRead
  refine State.canon_spdmRequest ok ?_
  split
  · exact State.canon_answer ok
  · exact State.canon_answerError ok

theorem State.canon_flr {s : State} {fn : BitVec 6} (ok : s.Canon) : CanonOpt (s.flr fn) := by
  unfold State.flr
  split
  · exact canonOpt_none
  · exact canonOpt_some (State.canon_onFn (State.canon_with (State.canon_discardRecords (State.canon_stopTasks
      (State.canon_tdiError ok))) rfl))

/-! ### HostPort -/

theorem State.canon_stageWrite {s : State} {fn : BitVec 6} {q : BitVec 10} {off : Nat} {bs : List Byte} (ok : s.Canon) :
    CanonOpt (s.stageWrite fn q off bs) := by
  unfold State.stageWrite
  split
  · exact canonOpt_none
  · refine canonOpt_some (State.canon_hostWrite ok ?_)
    split
    · exact ok
    · split
      · exact State.canon_onQueue ok
      · exact State.canon_onQueue ok

theorem State.canon_submit {s : State} {q : BitVec 10} (ok : s.Canon) : (s.submit q).Canon := by
  unfold State.submit
  dsimp only
  split
  · exact State.canon_wake (State.canon_onQueue (State.canon_onQueue ok))
  · exact State.canon_postEvent (State.canon_onQueue (State.canon_onQueue ok))

theorem State.canon_dropRecord {s : State} {q : BitVec 10} {lid : BitVec 32} {rec : List Byte} {outcome : Nat}
    {detail : Nat} (ok : s.Canon) : (s.dropRecord q lid rec outcome detail).Canon :=
  State.canon_complete (State.canon_onQueue ok)

theorem State.canon_flush {s : State} {fn : BitVec 6} {q : BitVec 10} (ok : s.Canon) : (s.flush fn q).Canon := by
  unfold State.flush
  refine State.canon_hostWrite ok ?_
  split
  · exact State.canon_onQueue (State.canon_foldl ok (fun u x k => State.canon_dropRecord k))
  · exact ok

theorem State.canon_writeQcfg {s : State} {fn : BitVec 6} {q : BitVec 10} {v : Word} (ok : s.Canon) : (s.writeQcfg fn q v).Canon := by
  unfold State.writeQcfg
  dsimp only
  refine State.canon_hostWrite ok ?_
  split
  · exact ok
  · split
    · exact State.canon_tdiError (State.canon_onQueue ok)
    · split
      · exact State.canon_onQueue ok
      · exact State.canon_onQueue ok

theorem State.canon_writeDmwin {s : State} {v : Word} (ok : s.Canon) : (s.writeDmwin v).Canon := by
  unfold State.writeDmwin
  refine State.canon_hostWrite ok ?_
  split
  · exact ok
  · split
    · refine State.canon_foldl ok (fun u x k => ?_)
      split
      · exact State.canon_tdiError k
      · exact k
    · split
      · exact ok
      · exact State.canon_with ok rfl

theorem State.canon_unsupported {s : State} (ok : s.Canon) : s.unsupported.Canon := State.canon_onFn ok

/-- One piece that a read of BAR4 meets: an uncorrected error is an event (R195). -/
theorem State.canon_bar4Piece {x : Nat × Nat} {s : State} {bs : List Byte} (ok : s.Canon) :
    (if s.slotOf x.1 != 0 then (s, bs ++ List.replicate x.2 0xFF)
      else if s.hbmBad x.1 x.2 then
        ({ s.postEvent 0 0x24 ⟨hbmDie x.1 % 3, by omega⟩ 0 (leBytes 8 x.1 ++ [0x41]) with
            fresh := (s.postEvent 0 0x24 ⟨hbmDie x.1 % 3, by omega⟩ 0 (leBytes 8 x.1 ++ [0x41])).fresh + x.2 },
          bs ++ freeBytes (s.postEvent 0 0x24 ⟨hbmDie x.1 % 3, by omega⟩ 0 (leBytes 8 x.1 ++ [0x41])).fresh x.2)
      else (s, bs ++ s.hbm.readN x.1 x.2)).1.Canon := by
  split
  · exact ok
  · split
    · exact State.canon_with (State.canon_postEvent ok) rfl
    · exact ok

theorem State.canon_bar4Read {s : State} {off n : Nat} (ok : s.Canon) : CanonOpt (s.bar4Read off n) := by
  unfold State.bar4Read
  split
  · exact canonOpt_none
  · extract_lets answer
    have answered (u : State) (a : Option (List Byte)) (k : u.Canon) : (answer u a).Canon := State.canon_with k rfl
    split
    · exact canonOpt_some (answered _ _ (State.canon_unsupported ok))
    · exact canonOpt_some (answered _ _ (State.canon_foldFst (p := (s, [])) ok fun _ _ k => State.canon_bar4Piece k))

theorem State.canon_bar4Write {s : State} {off : Nat} {bs : List Byte} (ok : s.Canon) : CanonOpt (s.bar4Write off bs) := by
  unfold State.bar4Write
  split
  · exact canonOpt_none
  · split
    · exact canonOpt_some (State.canon_unsupported ok)
    · refine canonOpt_some (State.canon_foldl ok (fun u x k => ?_))
      split
      · exact k
      · exact State.canon_hbmPut k

theorem State.canon_writeMgmt {s : State} {off : Nat} {v : Word} (ok : s.Canon) : (s.writeMgmt off v).Canon := by
  unfold State.writeMgmt
  split
  · exact State.canon_with ok rfl
  · exact State.canon_with ok rfl
  · exact State.canon_with ok rfl
  · exact State.canon_with ok rfl
  · exact State.canon_with ok rfl
  · split
    · exact State.canon_with ok rfl
    · exact ok

theorem State.canon_writeBar0 {s : State} {fn : BitVec 6} {off : Nat} {v : Word} (ok : s.Canon) : (s.writeBar0 fn off v).Canon := by
  unfold State.writeBar0
  split
  · exact State.canon_onFn ok
  · exact State.canon_onFn ok
  · exact State.canon_onFn ok
  · exact State.canon_onFn ok
  · split
    · exact State.canon_writeMgmt ok
    · exact ok

theorem State.canon_writeBar2 {s : State} {fn : BitVec 6} {off : Nat} {v : Word} (ok : s.Canon) : (s.writeBar2 fn off v).Canon := by
  unfold State.writeBar2
  dsimp only
  split
  · exact State.canon_onQueue ok
  · exact ok

theorem State.canon_giveSpace {s : State} {fn : BitVec 6} {asid : BitVec 8} (ok : s.Canon) : (s.giveSpace fn asid).Canon :=
  State.canon_onFn (State.canon_same ok rfl rfl rfl)

theorem State.canon_writeEntry {s : State} {fn : BitVec 6} {level : Nat} {pa : Nat} {w : Word} (ok : s.Canon) :
    (s.writeEntry fn level pa w).Canon := by
  unfold State.writeEntry
  dsimp only
  split
  · exact ok
  · exact State.canon_hbmPut ok

theorem State.canon_firmwareWrite {s : State} {d : DieId} {n : Nat} {v : Word} (ok : s.Canon) : CanonOpt (s.firmwareWrite d n v) := by
  unfold State.firmwareWrite
  split
  · exact canonOpt_some (State.canon_writeSup ok)
  · exact canonOpt_none

theorem State.canon_registerWrite {s : State} {a1 : RegWrite} (ok : s.Canon) : CanonOpt (s.registerWrite a1) := by
  unfold State.registerWrite
  split
  · exact State.canon_sregStep ok
  · exact State.canon_firmwareWrite ok
  · split
    · exact canonOpt_some (State.canon_giveSpace ok)
    · exact canonOpt_none
  · split
    · exact canonOpt_some (State.canon_writeEntry ok)
    · exact canonOpt_none
  · exact canonOpt_some (State.canon_hostPut ok)
  · split
    · exact canonOpt_some (State.canon_onMgmt ok (State.canon_writeMgmt ok))
    · split
      · exact canonOpt_some ok
      · exact canonOpt_none
  · split
    · split
      · exact canonOpt_some (State.canon_hostWrite ok (State.canon_writeBar0 ok))
      · split
        · exact canonOpt_some ok
        · exact canonOpt_none
    · split
      · split
        · exact canonOpt_some (State.canon_hostWrite ok (State.canon_writeBar2 ok))
        · split
          · exact canonOpt_some ok
          · exact canonOpt_none
      · exact canonOpt_none

theorem State.canon_invalWrite {s : State} {a1 : RegWrite} (ok : s.Canon) : CanonOpt (s.invalWrite a1) := by
  unfold State.invalWrite
  split
  · exact State.canon_sregStep ok
  · split
    · exact canonOpt_some (State.canon_invalidate ok)
    · exact canonOpt_none
  · exact canonOpt_none
  · exact canonOpt_none
  · exact canonOpt_none
  · exact canonOpt_none
  · exact canonOpt_none

theorem State.canon_slotmapWrite {s : State} {a1 : RegWrite} (ok : s.Canon) : CanonOpt (s.slotmapWrite a1) := by
  unfold State.slotmapWrite
  split
  · exact State.canon_sregStep ok
  · split
    · exact canonOpt_some (State.canon_moveSlots ok)
    · exact canonOpt_none
  · exact canonOpt_none
  · exact canonOpt_none
  · exact canonOpt_none
  · exact canonOpt_none
  · exact canonOpt_none

/-! ### Paddock -/

theorem State.canon_putPen {s : State} {n : Nat} {p : Pen} (ok : s.Canon) : (s.putPen n p).Canon := State.canon_same ok rfl rfl rfl

theorem State.canon_dropPen {s : State} {n : Nat} (ok : s.Canon) : (s.dropPen n).Canon := State.canon_same ok rfl rfl rfl

theorem State.canon_feedOne {s : State} {n : Nat} (ok : s.Canon) : (s.feedOne n).Canon := by
  unfold State.feedOne
  split
  · exact ok
  · split
    · exact ok
    · refine State.canon_fxEnd ?_
      split
      · exact State.canon_putPen (State.canon_same ok rfl rfl rfl)
      · exact State.canon_same ok rfl rfl rfl

theorem State.canon_feedRecv {s : State} {n : Nat} (ok : s.Canon) : (s.feedRecv n).Canon :=
  State.canon_foldl ok (fun u x k => State.canon_feedOne k)

theorem State.canon_truncatePen {s : State} {n : Nat} {reason : Nat} (ok : s.Canon) : (s.truncatePen n reason).Canon := by
  unfold State.truncatePen
  split
  · exact State.canon_feedRecv (State.canon_putPen ok)
  · exact ok

theorem State.canon_offerAction {s : State} {lid : BitVec 32} {n : Nat} {x : MbSlot} (ok : s.Canon) :
    (s.offerAction lid n x).1.Canon := by
  unfold State.offerAction
  dsimp only
  split
  · exact ok
  · split
    · exact ok
    · split
      · exact ok
      · split
        · exact ok
        · split
          · exact ok
          · split
            · split
              · exact State.canon_putPen ok
              · split
                · exact State.canon_truncatePen ok
                · exact ok
            · split
              · exact State.canon_putPen ok
              · split
                · exact State.canon_truncatePen ok
                · exact ok

theorem State.canon_penCreate {s : State} {t : Task} {own : DieId} {a : Word} (ok : s.Canon) : (s.penCreate t own a).1.Canon := by
  unfold State.penCreate
  dsimp only
  split
  · exact ok
  · split
    · exact ok
    · split
      · exact ok
      · split
        · exact ok
        · exact State.canon_putPen ok

theorem State.canon_penReset {s : State} {t : Task} {n : Nat} {p : Pen} (ok : s.Canon) : (s.penReset t n p).1.Canon := by
  unfold State.penReset
  split
  · exact ok
  · exact State.canon_putPen ok

theorem State.canon_penHalt {s : State} {n : Nat} {p : Pen} (ok : s.Canon) : (s.penHalt n p).1.Canon := by
  unfold State.penHalt
  split
  · exact ok
  · split
    · exact State.canon_feedRecv (State.canon_putPen ok)
    · exact State.canon_truncatePen ok

theorem State.canon_penSnap {s : State} {t : Task} {p : Pen} {a : Word} (ok : s.Canon) : (s.penSnap t p a).1.Canon := by
  unfold State.penSnap
  split
  · exact ok
  · split
    · exact ok
    · split
      · exact ok
      · exact State.canon_writeVirt ok

theorem State.canon_penReadrec {s : State} {t : Task} {p : Pen} {a : Word} (ok : s.Canon) : (s.penReadrec t p a).1.Canon := by
  unfold State.penReadrec
  split
  · exact ok
  · split
    · exact ok
    · exact State.canon_writeVirt ok

theorem State.canon_penDestroy {s : State} {n : Nat} (ok : s.Canon) : (s.penDestroy n).1.Canon :=
  State.canon_feedRecv (State.canon_dropPen ok)

theorem State.canon_penControl {s : State} {t : Task} {own : DieId} {op : PenOp} {n : Nat} {a : Word} (ok : s.Canon) :
    (s.penControl t own op n a).1.Canon := by
  unfold State.penControl
  split
  · exact State.canon_penCreate ok
  · split
    · exact ok
    · split
      · exact ok
      · split
        · exact State.canon_penReset ok
        · exact State.canon_penHalt ok
        · exact State.canon_penSnap ok
        · exact State.canon_penReadrec ok
        · exact State.canon_penDestroy ok

theorem State.canon_hartSwitch {s : State} {h : Nat} {n : Nat} (ok : s.Canon) : CanonOpt (s.hartSwitch h n) := by
  unfold State.hartSwitch
  split
  · split
    · exact canonOpt_none
    · split
      · exact canonOpt_none
      · exact canonOpt_some (State.canon_same ok rfl rfl rfl)
  · exact canonOpt_none

theorem State.canon_hardwareError {s : State} {p : Pen} {t : Task} {n : Nat} (ok : s.Canon) : (s.hardwareError p t n).Canon :=
  State.canon_taskEvent (State.canon_truncatePen ok)

theorem State.canon_paddockError {s : State} {n : Nat} (ok : s.Canon) : CanonOpt (s.paddockError n) := by
  unfold State.paddockError
  split
  · split
    · split
      · exact canonOpt_none
      · exact canonOpt_some (State.canon_hardwareError ok)
    · exact canonOpt_none
  · exact canonOpt_none

/-! ### Queues -/

theorem State.canon_leave {s : State} {d : DieId} {c : CtxId} {e : Entry} {p : Option (QPort × Value)} (ok : s.Canon) :
    (s.leave d c e p).Canon :=
  State.canon_onCtxAt ok

theorem State.canon_setEntry {s : State} {d : DieId} {c : CtxId} {e : Entry} (ok : s.Canon) : (s.setEntry d c e).Canon :=
  State.canon_onCtxAt ok

theorem State.canon_holdAccess {s : State} {d : DieId} {c : CtxId} {e : Entry} {addr : Word} {queue : Nat} {code : BitVec 8}
    {reason : BitVec 4} (ok : s.Canon) : (s.holdAccess d c e addr queue code reason).Canon :=
  State.canon_defer (State.canon_setEntry ok)

theorem State.canon_holdEntry {s : State} {d : DieId} {c : CtxId} {e : Entry} {code : BitVec 8} {reason : BitVec 4} (ok : s.Canon) :
    (s.holdEntry d c e code reason).Canon :=
  State.canon_holdAccess ok

theorem State.canon_checkRead {s : State} {t : Task} {d : DieId} {a : Word} {l : List Nat} (ok : s.Canon) :
    (s.checkRead t d a l).1.Canon := by
  unfold State.checkRead
  split
  · exact State.canon_eccReads ok
  · split
    · exact State.canon_checkTask ok
    · exact ok
  · exact ok

theorem State.canon_writeAt {s : State} {t : Task} {d : DieId} {a : Word} {l : List (Nat × Byte)} (ok : s.Canon) :
    (s.writeAt t d a l).Canon := by
  unfold State.writeAt
  split
  · exact State.canon_onDieAt ok (fun k => Die.canon_writeBytes k)
  · refine State.canon_with (State.canon_foldl ok (fun u x k => ?_)) rfl
    split
    · exact State.canon_hbmPut k
    · exact k
  · exact ok

theorem State.canon_performLoad {s : State} {t : Task} {d : DieId} {c : CtxId} {e : Entry} {piece : List Nat} (ok : s.Canon) :
    (s.performLoad t d c e piece).Canon := by
  unfold State.performLoad
  dsimp only
  split
  next t0 run1 =>
    exact State.canon_setEntry (State.canon_of_eq run1 (State.canon_checkRead ok))
  next t0 run1 =>
    split
    · exact State.canon_leave (State.canon_of_eq run1 (State.canon_checkRead ok))
    · exact State.canon_setEntry (State.canon_of_eq run1 (State.canon_checkRead ok))

theorem State.canon_performStore {s : State} {t : Task} {d : DieId} {c : CtxId} {e : Entry} {piece : List Nat} (ok : s.Canon) :
    (s.performStore t d c e piece).Canon := by
  unfold State.performStore
  dsimp only
  split
  · refine State.canon_leave ?_
    split
    · exact State.canon_onDieAt ok (fun k => Die.canon_writeRow k)
    · exact State.canon_onDieAt ok (fun k => Die.canon_writeBytes k)
    · exact State.canon_writeAt ok
  · refine State.canon_setEntry ?_
    split
    · exact State.canon_onDieAt ok (fun k => Die.canon_writeRow k)
    · exact State.canon_onDieAt ok (fun k => Die.canon_writeBytes k)
    · exact State.canon_writeAt ok

theorem State.canon_performAmo {s : State} {t : Task} {d : DieId} {c : CtxId} {e : Entry} {op : AmoOp} {wide : Bool} {v : Word}
    {exp : Word} (ok : s.Canon) : (s.performAmo t d c e op wide v exp).Canon := by
  unfold State.performAmo
  dsimp only
  split
  next t0 run1 =>
    exact State.canon_setEntry (State.canon_of_eq run1 (State.canon_checkRead ok))
  next t0 run1 =>
    refine State.canon_leave ?_
    split
    · exact State.canon_of_eq run1 (State.canon_checkRead ok)
    · exact State.canon_writeAt (State.canon_of_eq run1 (State.canon_checkRead ok))

theorem State.canon_channelAccess {s t : State} {d : DieId} {c : CtxId} {e : Entry} {dd : DieId} {ch : Fin 16} {off : Nat}
    {x : Option (QPort × Value)} (ok : s.Canon) (run : s.channelAccess d c e dd ch off = some (t, x)) : t.Canon := by
  have cleared (b : Bool) : (if b then s.clearErr dd ch else s).Canon := by
    split
    · exact State.canon_clearErr ok
    · exact ok
  unfold State.channelAccess at run
  dsimp only at run
  split at run
  · split at run
    · obtain ⟨rfl, -⟩ := Prod.mk.inj (Option.some.inj run); exact ok
    · cases run
  · split at run
    · obtain ⟨rfl, -⟩ := Prod.mk.inj (Option.some.inj run); exact State.canon_startCopy ok
    · split at run
      · obtain ⟨rfl, -⟩ := Prod.mk.inj (Option.some.inj run); exact cleared _
      · cases run
  · split at run
    · obtain ⟨rfl, -⟩ := Prod.mk.inj (Option.some.inj run); exact State.canon_startCopy ok
    · split at run
      · obtain ⟨rfl, -⟩ := Prod.mk.inj (Option.some.inj run); exact cleared _
      · cases run
  · split at run
    · obtain ⟨rfl, -⟩ := Prod.mk.inj (Option.some.inj run); exact cleared _
    · cases run
  · split at run
    · obtain ⟨rfl, -⟩ := Prod.mk.inj (Option.some.inj run); exact State.canon_startCopy ok
    · cases run
  · cases run

theorem State.canon_performChannel {s : State} {t : Task} {d : DieId} {c : CtxId} {e : Entry} (ok : s.Canon) :
    (s.performChannel t d c e).Canon := by
  unfold State.performChannel
  extract_lets hit s1
  have reached (u : State) (r : Option (QPort × Value)) (run : hit = some (u, r)) : u.Canon := by
    unfold hit at run
    split at run
    · obtain ⟨p, -, run⟩ := Option.bind_eq_some_iff.1 run
      split at run
      · exact State.canon_channelAccess ok run
      · cases run
    · cases run
  clear_value hit
  split
  next u r => exact State.canon_leave (reached u r rfl)
  next =>
    refine State.canon_holdEntry ?_
    unfold s1
    split
    · exact State.canon_onCtxAt ok
    · exact ok

theorem State.canon_checkEntry {s : State} {t : Task} {d : DieId} {c : CtxId} {e : Entry} {pa : Nat} (ok : s.Canon) :
    (s.checkEntry t d c e pa).Canon :=
  State.canon_setEntry (State.canon_checkTask ok)

theorem State.canon_performLocal {s : State} {t : Task} {d : DieId} {c : CtxId} {e : Entry} {off : Nat} (ok : s.Canon) :
    (s.performLocal t d c e off).Canon := by
  unfold State.performLocal
  dsimp only
  split
  · exact State.canon_performChannel ok
  · split
    · exact State.canon_checkEntry ok
    · split
      · exact State.canon_holdEntry ok
      · split
        · refine State.canon_learn ?_
          split
          · exact State.canon_performLoad ok
          · exact State.canon_performLoad ok
          · exact State.canon_performAmo ok
          · exact State.canon_performStore ok
        · split
          · exact State.canon_performLoad ok
          · exact State.canon_performLoad ok
          · exact State.canon_performAmo ok
          · exact State.canon_performStore ok

theorem State.canon_performMlr {s : State} {t : Task} {d : DieId} {c : CtxId} {e : Entry} {op : RemOp} {dst : Word} {st : Bool}
    {off : Nat} (ok : s.Canon) : (s.performMlr t d c e op dst st off).Canon := by
  unfold State.performMlr
  dsimp only
  split
  · exact State.canon_checkEntry ok
  · split
    · exact State.canon_holdAccess ok
    · split
      · exact State.canon_fxEnd (State.canon_writeAt ok)
      · exact State.canon_setEntry (State.canon_writeAt ok)

theorem State.canon_performRemote {s : State} {t : Task} {d : DieId} {c : CtxId} {e : Entry} {op : RemOp} {st : Bool}
    {off : Nat} (ok : s.Canon) : CanonOpt (s.performRemote t d c e op st off) := by
  unfold State.performRemote
  dsimp only
  split
  · split
    · exact State.canon_sendRemote ok
    · split
      · exact canonOpt_none
      · exact canonOpt_some (State.canon_performMlr ok)
  · split
    · exact canonOpt_none
    · exact canonOpt_some (State.canon_arrive ok)
  · exact canonOpt_some (State.canon_fxEnd (State.canon_offerAction ok))
  · exact canonOpt_some (State.canon_fxEnd ok)
  · split
    · exact canonOpt_none
    · split
      · refine canonOpt_some (State.canon_fxEnd ?_)
        split
        · exact State.canon_putPen ok
        · exact ok
      · exact canonOpt_some (State.canon_with (State.canon_setEntry ok) rfl)
  · split
    · exact canonOpt_some (State.canon_checkEntry ok)
    · exact canonOpt_some (State.canon_fxEnd (State.canon_penControl ok))
  · split
    · exact canonOpt_none
    · exact State.canon_sendRemote ok

theorem State.canon_perform {s : State} {k : EntryStep} {d : DieId} {c : CtxId} {seq : Nat} {off : Nat} (ok : s.Canon) :
    CanonOpt (s.perform k d c seq off) := by
  unfold State.perform
  dsimp only
  split
  · split
    · exact canonOpt_none
    · split
      · exact canonOpt_some (State.canon_leave ok)
      · exact canonOpt_some (State.canon_leave (State.canon_writeQueued ok))
      · exact canonOpt_some (State.canon_leave (State.canon_publish ok))
      · exact State.canon_performRemote ok
      · exact canonOpt_some (State.canon_performLocal ok)
  · exact canonOpt_none

/-! ### Pens -/

theorem State.canon_writeBound {s : State} {h : Nat} {n : Nat} {v : Word} (ok : s.Canon) : (s.writeBound h n v).Canon :=
  State.canon_same ok rfl rfl rfl

theorem State.canon_penWrites {s : State} {wr : List RvWr} (ok : s.Canon) : (s.penWrites wr).Canon := by
  unfold State.penWrites
  refine State.canon_foldl ok (fun u x k => ?_)
  split
  · exact State.canon_hbmPut k
  · exact State.canon_writeBound k
  · exact k

theorem State.canon_penActed {s : State} {n : Nat} (ok : s.Canon) : (s.penActed n).Canon := State.canon_same ok rfl rfl rfl

theorem State.canon_retirePen {s : State} {n : Nat} {p : Pen} {h : Hart} {wr : List RvWr} (ok : s.Canon) :
    (s.retirePen n p h wr).Canon := by
  unfold State.retirePen
  dsimp only
  split
  · exact State.canon_feedRecv (State.canon_putPen (State.canon_penWrites ok))
  · exact State.canon_putPen (State.canon_penWrites ok)

theorem State.canon_penRetires {s : State} {k : RetireKind} {n : Nat} (ok : s.Canon) : CanonOpt (s.penRetires k n) := by
  unfold State.penRetires
  split
  · exact canonOpt_none
  · split
    · exact canonOpt_none
    · split
      · split
        · exact canonOpt_none
        · exact canonOpt_some (State.canon_penActed (State.canon_retirePen ok))
      · exact canonOpt_none

theorem State.canon_penError {s : State} {e : RvEnv} {n : Nat} {pa : Nat} (ok : s.Canon) : (s.penError e n pa).Canon :=
  State.canon_checkTask (State.canon_hardwareError ok)

theorem State.canon_penInstruction {s : State} {n : Nat} (ok : s.Canon) : CanonOpt (s.penInstruction n) := by
  unfold State.penInstruction
  split
  · exact canonOpt_none
  · split
    · exact canonOpt_none
    · split
      · exact canonOpt_some (State.canon_penActed (State.canon_putPen (State.canon_penWrites ok)))
      · exact canonOpt_some (State.canon_penActed (State.canon_penError ok))
      · exact State.canon_penRetires ok

theorem State.canon_penWfi {s : State} {n : Nat} (ok : s.Canon) : CanonOpt (s.penWfi n) := by
  unfold State.penWfi
  split
  · exact canonOpt_none
  · split
    · exact canonOpt_none
    · split
      · split
        · exact canonOpt_some (State.canon_penActed (State.canon_putPen ok))
        · split
          · exact canonOpt_none
          · exact canonOpt_some (State.canon_penActed (State.canon_putPen ok))
      · exact canonOpt_none

theorem State.canon_penWake {s : State} {n : Nat} (ok : s.Canon) : CanonOpt (s.penWake n) := by
  unfold State.penWake
  split
  · exact canonOpt_none
  · split
    · exact canonOpt_none
    · exact canonOpt_some (State.canon_penActed (State.canon_putPen ok))

theorem State.canon_copyPage {s : State} {n : Nat} {g : Nat} (ok : s.Canon) : CanonOpt (s.copyPage n g) := by
  unfold State.copyPage
  split
  · exact canonOpt_none
  · split
    · exact canonOpt_none
    · split
      · split
        · exact canonOpt_none
        · split
          · exact canonOpt_some (State.canon_penActed (State.canon_putPen (State.canon_penWrites ok)))
          · exact canonOpt_some (State.canon_penActed (State.canon_penError ok))
          · exact canonOpt_none
      · exact canonOpt_none

theorem State.canon_penAccessFault {s : State} {n : Nat} (ok : s.Canon) : CanonOpt (s.penAccessFault n) := by
  unfold State.penAccessFault
  split
  · exact canonOpt_none
  · split
    · exact canonOpt_none
    · split
      · exact canonOpt_some (State.canon_penActed (State.canon_truncatePen (State.canon_putPen (State.canon_penWrites ok))))
      · exact canonOpt_none

theorem State.canon_penBudget {s : State} {reason : Nat} {n : Nat} (ok : s.Canon) : CanonOpt (s.penBudget reason n) := by
  unfold State.penBudget
  split
  · exact canonOpt_none
  · split
    · exact canonOpt_some (State.canon_penActed (State.canon_truncatePen ok))
    · exact canonOpt_none

theorem State.canon_wallBackstop {s : State} {n : Nat} (ok : s.Canon) : CanonOpt (s.wallBackstop n) := by
  unfold State.wallBackstop
  dsimp only
  split
  · exact canonOpt_none
  · split
    · split
      · exact canonOpt_some (State.canon_truncatePen ok)
      · exact canonOpt_none
    · split
      · exact canonOpt_some (State.canon_truncatePen ok)
      · exact canonOpt_none

theorem State.canon_sbi {s : State} {c : SbiCall} {n : Nat} (ok : s.Canon) : CanonOpt (s.sbi c n) := by
  unfold State.sbi
  split
  · exact canonOpt_none
  · split
    · exact canonOpt_none
    · split
      · split
        · exact canonOpt_none
        · exact canonOpt_some (State.canon_penActed (State.canon_putPen ok))
      · exact canonOpt_none

/-! ### Save -/

theorem State.canon_finishFills {s : State} {t : Task} (ok : s.Canon) : (s.finishFills t).Canon :=
  State.canon_foldl ok (fun u x k => State.canon_foldl k (fun u1 x1 k1 => State.canon_transfers k1))

theorem State.canon_putArea {s : State} {k : BitVec 4} {e : List (Nat × Nat)} {off : Nat} {bs : List Byte} (ok : s.Canon) :
    (s.putArea k e off bs).Canon :=
  State.canon_foldl ok (fun u x k => State.canon_hbmPut k)

theorem Die.canon_loadSettings {d : Die} (ok : d.Canon) : d.loadSettings.Canon := Die.canon_same ok rfl rfl rfl

theorem State.canon_saveSections {s : State} {t : Task} {d : DieId} {c : CtxId} (ok : s.Canon) : (s.saveSections t d c).Canon := by
  unfold State.saveSections
  refine State.canon_with ?_ rfl
  split
  · exact State.canon_putArea (State.canon_putArea (State.canon_putArea (State.canon_putArea (State.canon_putArea (State.canon_putArea
      (State.canon_putArea (State.canon_putArea (State.canon_putArea (State.canon_putArea ok)))))))))
  · exact State.canon_putArea ok

theorem State.canon_saveHead {s : State} {t : Task} {d : DieId} {c : CtxId} (ok : s.Canon) : (s.saveHead t d c).Canon :=
  State.canon_putArea ok

theorem State.canon_saveBegin {s : State} {t : Task} {d : DieId} {c : CtxId} (ok : s.Canon) : (s.saveBegin t d c).Canon :=
  State.canon_putArea ok

theorem Die.canon_leave {d : Die} {c : CtxId} (ok : d.Canon) : (d.leave c).Canon := by
  have left : ((chansOf c).foldl (fun (d : Die) k => { d with chans := d.chans.set k.val (d.chans.get k).left k.isLt }) d).Canon :=
    Die.canon_foldl ok fun _ _ k => Die.canon_same k rfl rfl rfl
  unfold Die.leave
  refine Die.canon_onCtxAt ?_
  generalize (chansOf c).foldl (fun (d : Die) k => { d with chans := d.chans.set k.val (d.chans.get k).left k.isLt }) d = x at left ⊢
  split
  · exact Die.canon_same left rfl rfl rfl
  · exact Die.canon_same left rfl rfl rfl

theorem State.canon_letGo {s : State} {t : Task} (ok : s.Canon) : (s.letGo t).Canon := by
  unfold State.letGo
  split
  · exact State.canon_onTask ok
  · split
    · exact State.canon_onTask (State.canon_eachCtx ok (fun u x w k => State.canon_onCtxAt k))
    · refine State.canon_onTask (State.canon_eachCtx ok (fun u x w k => ?_))
      split
      · exact k
      · refine State.canon_onDieAt (State.canon_onCtxAt k) (fun k => ?_)
        split
        · exact Die.canon_refillLanes k
        · exact k

theorem State.canon_saveOverflow {s : State} {t : Task} {d : DieId} {c : CtxId} (ok : s.Canon) : (s.saveOverflow t d c).Canon :=
  State.canon_letGo (State.canon_onTask (State.canon_postEvent (State.canon_eachCtx ok
    (fun u x w k => State.canon_saveSections k))))

theorem State.canon_readyRows {s : State} {t : Task} (ok : s.Canon) : (s.readyRows t).1.Canon := by
  refine State.canon_foldFst (State.canon_eachCtx ok fun u d c k => ?_) fun p x k => State.canon_eccReads k
  split
  · exact State.canon_onDieAt k Die.canon_putSettings
  · exact k

theorem State.canon_saveAll {s : State} {t : Task} (ok : s.Canon) : (s.saveAll t).Canon :=
  State.canon_with (State.canon_onTask (State.canon_eachCtx (State.canon_eachCtx ok (fun u x w k => State.canon_saveHead
    (State.canon_saveSections k))) (fun u x w k => State.canon_onDieAt k (fun k1 => Die.canon_leave k1)))) rfl

theorem State.canon_saveTask {s : State} {lid : BitVec 32} (ok : s.Canon) : CanonOpt (s.saveTask lid) := by
  unfold State.saveTask
  dsimp only
  split
  · exact canonOpt_none
  · split
    · exact canonOpt_none
    · split
      · exact canonOpt_some (State.canon_finishFills ok)
      · split
        · exact canonOpt_some (State.canon_checkTask (State.canon_finishFills ok))
        · split
          · exact canonOpt_some (State.canon_readyRows (State.canon_finishFills ok))
          · split
            · exact canonOpt_some (State.canon_saveOverflow (State.canon_eachCtx (State.canon_readyRows (State.canon_finishFills ok))
                (fun u x w k => State.canon_saveBegin k)))
            · exact canonOpt_some (State.canon_saveAll (State.canon_eachCtx (State.canon_readyRows (State.canon_finishFills ok))
                (fun u x w k => State.canon_saveBegin k)))

theorem Die.canon_restoreBounds {d : Die} {bounds : List (Nat × Nat)} {owned : List (Nat × Nat)}
    {rows : List (Nat × Row)} (ok : d.Canon) : (d.restoreBounds bounds owned rows).Canon := by
  unfold Die.restoreBounds
  refine Die.canon_writeRows (Die.canon_foldl ok (fun y x k => ?_))
  split
  · exact k
  · exact Die.canon_zeroUnits k

theorem Die.canon_restoreCtx {d : Die} {y : SavedCtx} (ok : d.Canon) : (d.restoreCtx y).Canon := by
  unfold Die.restoreCtx
  refine Die.canon_onCtxAt (Die.canon_foldl ?_ (fun y x k => Die.canon_same k rfl rfl rfl))
  split
  · exact Die.canon_loadSettings (Die.canon_same ok rfl rfl rfl)
  · exact ok

theorem State.canon_restoreTask {s : State} {t : Task} (ok : s.Canon) : (s.restoreTask t).Canon := by
  unfold State.restoreTask
  dsimp only
  split
  · exact State.canon_checkTask (State.canon_letGo (State.canon_onTask (State.canon_foldl (State.canon_foldl ok
      (fun u x k => State.canon_onDieAt k (fun k1 => Die.canon_restoreBounds k1)))
      (fun u x k => State.canon_onDieAt k (fun k1 => Die.canon_restoreCtx k1)))))
  · exact State.canon_letGo (State.canon_onTask (State.canon_foldl (State.canon_foldl ok (fun u x k => State.canon_onDieAt k
      (fun k1 => Die.canon_restoreBounds k1))) (fun u x k => State.canon_onDieAt k (fun k1 => Die.canon_restoreCtx k1))))

/-! ### Scheduler -/

theorem State.canon_settleHead {q : BitVec 10} {n : Nat} {s : State} (ok : s.Canon) : (State.settleHead q n s).Canon := by
  induction n generalizing s with
  | zero => exact ok
  | succ n ih =>
    have queued (u : State) (k : u.Canon) (f : Queue → Queue) : (u.onQueue q f).Canon := State.canon_onQueue k
    have waits (u : State) (k : u.Canon) (b : Bool) : (if b then
        (if (u.queue q).eligible then u else u.onQueue q fun x => { x with eligible := true, age := (u.dieAt 1).tick.toNat })
        else u.onQueue q fun x => { x with eligible := false, deficit := 0 }).Canon := by
      split
      · split
        · exact k
        · exact queued u k _
      · exact queued u k _
    unfold State.settleHead
    dsimp only
    split
    · exact queued s ok _
    · exact waits s ok _
    · split
      · exact ih (State.canon_dropRecord ok)
      · split
        · exact queued _ (queued s ok _) _
        · split
          · exact ih (State.canon_dropRecord (queued s ok _))
          · exact waits _ (queued s ok _) _

theorem State.canon_preempt {s : State} {t : Task} (ok : s.Canon) : (s.preempt t).Canon := by
  unfold State.preempt
  split
  · exact ok
  · split
    · exact State.canon_onTask ok
    · exact State.canon_stopVictim ok

theorem State.canon_decidePreempt {s : State} {h : SchedHead} {ep : Nat} (ok : s.Canon) : (s.decidePreempt h ep).Canon := by
  unfold State.decidePreempt
  dsimp only
  split
  · exact State.canon_foldl ok (fun u x k => State.canon_preempt k)
  · exact ok

theorem Die.canon_takeTask {d : Die} {bounds : List (Nat × Nat)} {timed : Bool} (ok : d.Canon) : (d.takeTask bounds timed).Canon := by
  unfold Die.takeTask
  split
  · exact Die.canon_same (Die.canon_foldl ok (fun y x k => Die.canon_zeroUnits k)) rfl rfl rfl
  · exact Die.canon_foldl ok (fun y x k => Die.canon_zeroUnits k)

theorem State.canon_startPhase {s : State} {t : Task} (ok : s.Canon) : (s.startPhase t).Canon := by
  unfold State.startPhase
  split
  · split
    · exact State.canon_defer ok
    · exact ok
  · exact ok

theorem State.canon_dispatchLaunch {s : State} {q : BitVec 10} {lid : BitVec 32} {r : List Byte} {ds : List DieId} (ok : s.Canon) :
    (s.dispatchLaunch q lid r ds).Canon := by
  unfold State.dispatchLaunch
  split
  · exact ok
  · refine State.canon_startPhase (State.canon_with (State.canon_onQueue (State.canon_foldl (State.canon_foldl ?_
      (fun u x k => State.canon_onDieAt k (fun k1 => Die.canon_takeTask k1))) (fun u x k => State.canon_onCtxAt k))) rfl)
    split
    · exact State.canon_onDieAt ok (fun k => Die.canon_same k rfl rfl rfl)
    · exact ok

theorem State.canon_dispatchXfer {s : State} {q : BitVec 10} {lid : BitVec 32} {r : List Byte} (ok : s.Canon) :
    (s.dispatchXfer q lid r).Canon :=
  State.canon_with (State.canon_onQueue (State.canon_onFn ok)) rfl

theorem State.canon_dispatch {s : State} {q : BitVec 10} {h : SchedHead} {ds : List DieId} (ok : s.Canon) :
    (s.dispatch q h ds).Canon := by
  unfold State.dispatch
  split
  · exact State.canon_onQueue (State.canon_restoreTask ok)
  · split
    · exact State.canon_dispatchXfer ok
    · exact State.canon_dispatchLaunch ok

theorem Pass.canon_serve {lvl : Nat} {q : BitVec 10} {n : Nat} {p : Pass} (ok : p.st.Canon) : (Pass.serve lvl q n p).st.Canon := by
  induction n generalizing p with
  | zero => exact ok
  | succ n ih =>
    unfold Pass.serve
    dsimp only
    split
    · exact ok
    · split
      · exact ok
      · split
        · exact ok
        · exact ih (State.canon_with (State.canon_settleHead (State.canon_dispatch (State.canon_onQueue ok))) rfl)

theorem Pass.canon_queue {lvl : Nat} {p : Pass × List DieId} {q : BitVec 10} (ok : p.1.st.Canon) : (Pass.queue lvl p q).1.st.Canon := by
  unfold Pass.queue
  dsimp only
  split
  · exact ok
  next h _ =>
    split
    · exact ok
    · have raised : (if (p.1.st.queue q).deficit < h.cost then
          p.1.st.onQueue q fun x => { x with deficit := min (x.deficit + x.weightOf) (x.weightOf + 12) } else p.1.st).Canon := by
        split
        · exact State.canon_onQueue ok
        · exact ok
      generalize (if (p.1.st.queue q).deficit < h.cost then
          p.1.st.onQueue q fun x => { x with deficit := min (x.deficit + x.weightOf) (x.weightOf + 12) } else p.1.st) = u at raised ⊢
      have served : (Pass.serve lvl q 70 { st := u, blocked := p.1.blocked }).st.Canon := Pass.canon_serve raised
      split
      · exact served
      · split
        · exact State.canon_decidePreempt served
        · exact served

theorem Pass.canon_level {p : Pass} {lvl : Nat} (ok : p.st.Canon) : (p.level lvl).st.Canon := by
  have each (l : List (BitVec 10)) (x : Pass × List DieId) (k : x.1.st.Canon) : (l.foldl (Pass.queue lvl) x).1.st.Canon := by
    induction l generalizing x with
    | nil => exact k
    | cons q l ih => exact ih _ (Pass.canon_queue k)
  unfold Pass.level
  generalize p.st.atLevel lvl = l
  exact each l (p, []) ok

theorem State.canon_pass {s : State} (ok : s.Canon) : s.pass.Canon := by
  have levels (l : List Nat) (p : Pass) (k : p.st.Canon) : (l.foldl Pass.level p).st.Canon := by
    induction l generalizing p with
    | nil => exact k
    | cons x l ih =>
      rw [List.foldl_cons]
      exact ih _ (Pass.canon_level k)
  have begun : ({ s with sched := { s.sched with want := false, passAt := (s.dieAt 1).tick } } : State).Canon := State.canon_with ok rfl
  unfold State.pass
  generalize ({ s with sched := { s.sched with want := false, passAt := (s.dieAt 1).tick } } : State) = u at begun ⊢
  dsimp only
  generalize u.toSettle = queues
  generalize [7, 6, 5, 4, 3, 2, 1, 0] = prios
  exact levels prios ⟨_, _⟩ (State.canon_foldl begun fun _ _ k => State.canon_settleHead k)

theorem State.canon_dispatchPass {s : State} (ok : s.Canon) : CanonOpt s.dispatchPass := by
  unfold State.dispatchPass
  split
  · exact canonOpt_some (State.canon_pass ok)
  · exact canonOpt_none

theorem State.canon_endXfer {s : State} {x : Xfer} {outcome : Nat} {detail : Nat} (ok : s.Canon) :
    (s.endXfer x outcome detail).Canon :=
  State.canon_complete (State.canon_same ok rfl rfl rfl)

theorem State.canon_transferIn {s : State} {lid : BitVec 32} (ok : s.Canon) : CanonOpt (s.transferIn lid) := by
  unfold State.transferIn
  dsimp only
  split
  · exact canonOpt_none
  · split
    · exact canonOpt_some (State.canon_endXfer ok)
    · split
      · exact canonOpt_some (State.canon_endXfer (State.canon_foldl ok (fun u x k => State.canon_writeVirt k)))
      · exact canonOpt_some (State.canon_endXfer (State.canon_postEvent (State.canon_writeVirt ok)))

theorem State.canon_outChunk {s : State} {asid : BitVec 8} {va n : Nat} (ok : s.Canon) : (s.outChunk asid va n).1.Canon := by
  refine State.canon_foldFst (p := (s, [])) ok fun p a k => ?_
  dsimp only
  split
  · exact k
  · split
    · exact State.canon_with (State.canon_postEvent k) rfl
    · exact k

theorem State.canon_sealChunk {s : State} {x : Xfer} {i : Nat} {off : Nat} {n : Nat} (ok : s.Canon) : (s.sealChunk x i off n).Canon :=
  State.canon_hostPut (State.canon_outChunk ok)

theorem State.canon_transferOut {s : State} {lid : BitVec 32} (ok : s.Canon) : CanonOpt (s.transferOut lid) := by
  unfold State.transferOut
  dsimp only
  split
  · exact canonOpt_none
  · split
    · exact canonOpt_some (State.canon_endXfer ok)
    · exact canonOpt_some (State.canon_endXfer (State.canon_foldl ok (fun u x k => State.canon_sealChunk k)))

theorem State.canon_budgetExpiry {s : State} {lid : BitVec 32} (ok : s.Canon) : CanonOpt (s.budgetExpiry lid) := by
  unfold State.budgetExpiry
  split
  · exact canonOpt_none
  · split
    · exact canonOpt_none
    · exact canonOpt_some (State.canon_endTask ok)

end Sys2Proof.Machine
end

section
/-! Every step keeps every memory in canonical form (log 4): a move writes no memory, an event by the operations above. -/

namespace Sys2Proof.Machine

/-! ### Outcomes -/

/-- The next state, where there is one, has its memories in canonical form. -/
def OutCanon (o : Out) : Prop := ∀ t, o = .next t → t.Canon

theorem outCanon_next {s : State} (ok : s.Canon) : OutCanon (.next s) := fun _ e => Host.Outcome.next.inj e ▸ ok

theorem outCanon_refused {r : Refusal} : OutCanon (.refused r) := fun _ e => nomatch e

theorem outCanon_enabled {name : String} {o : Option State} (ok : CanonOpt o) : OutCanon (enabled name o) := by
  cases o with
  | none => exact outCanon_refused
  | some s => exact outCanon_next (ok s rfl)

theorem canonOpt_ite {p : Prop} [Decidable p] {x y : Option State} (h : CanonOpt x) (k : CanonOpt y) : CanonOpt (if p then x else y) := by
  split
  · exact h
  · exact k

theorem State.canon_recordSubmit {s : State} {fn : BitVec 6} {q : BitVec 10} {off : Nat} {bs : List Byte} (ok : s.Canon) :
    CanonOpt (s.recordSubmit fn q off bs) := by
  unfold State.recordSubmit
  split
  · exact canonOpt_none
  · refine canonOpt_some (State.canon_hostWrite ok ?_)
    split
    · exact State.canon_submit (State.canon_onQueue ok)
    · exact ok

/-! ### Instructions -/

/-- Every event, by the operation that it is. -/
theorem outCanon_event {i : Instr} {s : State} (event : i.parts = .event) (ok : s.Canon) : OutCanon (exec i s) := by
  cases i with
  | perstRelease => exact outCanon_enabled (State.canon_perst ok)
  | stageA => exact outCanon_enabled (State.canon_stageA ok)
  | stageB => exact outCanon_enabled (State.canon_stageB ok)
  | stageC => exact outCanon_enabled (State.canon_stageC ok)
  | stageD => exact outCanon_enabled (State.canon_stageD ok)
  | stageE => exact outCanon_enabled (State.canon_stageE ok)
  | stageFailure => exact outCanon_enabled (State.canon_stageFailure ok)
  | pfReset => exact outCanon_enabled (State.canon_pfReset ok)
  | functionLevelReset => exact outCanon_enabled (State.canon_flr ok)
  | thermalPowerOff => exact outCanon_enabled (State.canon_thermalOff ok)
  | clockMachineCheck => exact outCanon_enabled (State.canon_clockCheck ok)
  | controlParity => exact outCanon_enabled (State.canon_parity ok)
  | farLaneFrame => exact outCanon_enabled (State.canon_farFrame ok)
  | farPathLost => exact outCanon_enabled (State.canon_farPathLost ok)
  | countMessageSend => exact outCanon_enabled (State.canon_countSend ok)
  | countMessage => exact outCanon_enabled (State.canon_countMessage ok)
  | countMessagesMissing => exact outCanon_enabled (State.canon_countsMissing ok)
  | freezeEventMessage => exact outCanon_enabled (State.canon_freezeMessage ok)
  | stopEventMessage => exact outCanon_enabled (State.canon_stopMessage ok)
  | freezeDebtPaid => exact outCanon_enabled (State.canon_debtPaid ok)
  | scrubRead => exact outCanon_enabled (State.canon_scrub ok)
  | lossOfLight => exact outCanon_enabled (State.canon_lossOfLight ok)
  | spareLaserLock => exact outCanon_enabled (State.canon_spareLock ok)
  | spareWavelengthLock => exact outCanon_enabled (State.canon_lambdaLock ok)
  | dataFlit => exact outCanon_enabled (State.canon_dataFlit ok)
  | idleFlit => exact outCanon_enabled (State.canon_control (State.canon_takeCtl ok))
  | acknowledgement => exact outCanon_enabled (State.canon_control (State.canon_takeCtl ok))
  | restripeMarker => exact outCanon_enabled (State.canon_control (State.canon_takeCtl ok))
  | creditReturn => exact outCanon_enabled (State.canon_control (State.canon_takeCtl ok))
  | drainMarker => exact outCanon_enabled (State.canon_control (State.canon_takeCtl ok))
  | replayRequest => exact outCanon_enabled (State.canon_control (State.canon_takeCtl ok))
  | replayTimeout => exact outCanon_enabled (canonOpt_ite canonOpt_none (State.canon_control (State.canon_replay ok)))
  | replayRequestRepeat => exact outCanon_enabled (canonOpt_ite canonOpt_none (State.canon_control (State.canon_onPort ok)))
  | acknowledgementTimer => exact outCanon_enabled (State.canon_control (State.canon_onPort ok))
  | planeDrain => exact outCanon_next (State.canon_onMgmt ok (State.canon_planeDrain ok))
  | planeDrainForce => exact outCanon_next (State.canon_onMgmt ok (State.canon_planeDrain ok))
  | planeEnable => exact outCanon_next (State.canon_onMgmt ok (State.canon_planeEnable ok))
  | planeEnableCommit => exact outCanon_next (State.canon_onMgmt ok (State.canon_planeEnable ok))
  | planeDrained => exact outCanon_enabled (State.canon_planeDrained ok)
  | planeEnabled => exact outCanon_enabled (State.canon_planeEnabled ok)
  | membersetWrite => exact outCanon_next (State.canon_onMgmt ok (State.canon_writeMember ok))
  | readRequest => exact outCanon_enabled (State.canon_serveAt ok)
  | readResponse => exact outCanon_enabled (State.canon_respond ok)
  | writeRequest => exact outCanon_enabled (State.canon_serveAt ok)
  | flagRequest => exact outCanon_enabled (State.canon_serveAt ok)
  | writeAndFlagResponse => exact outCanon_enabled (State.canon_writeAnswer ok)
  | atomicRequest => exact outCanon_enabled (State.canon_serveAmo ok)
  | atomicResponse => exact outCanon_enabled (State.canon_respond ok)
  | orderedAtomicRequest => exact outCanon_enabled (State.canon_serveOrd ok)
  | orderedFetchedValueWrite => exact outCanon_enabled (State.canon_fetchedWrite ok)
  | orderedAtomicStatus => exact outCanon_enabled (State.canon_ordStatus ok)
  | threePartyRequest => exact outCanon_enabled (State.canon_serveAt ok)
  | delivery => exact outCanon_enabled (State.canon_serveAt ok)
  | threePartyStatus => exact outCanon_enabled (State.canon_threePartyStatus ok)
  | reductionRead => exact outCanon_enabled (State.canon_serveAt ok)
  | reductionValue => exact outCanon_enabled (State.canon_reductionValue ok)
  | superstepArrive => exact outCanon_enabled (State.canon_sstepMsg ok)
  | superstepReady => exact outCanon_enabled (State.canon_sstepMsg ok)
  | superstepAbort => exact outCanon_enabled (State.canon_sstepMsg ok)
  | superstepDone => exact outCanon_enabled (State.canon_sstepMsg ok)
  | superstepTimeout => exact outCanon_enabled (State.canon_sstepTimeout ok)
  | streamRow => exact outCanon_enabled (State.canon_streamRow ok)
  | streamCredit => exact outCanon_enabled (State.canon_streamCredit ok)
  | fabricTimeout => exact outCanon_enabled (State.canon_fabricTimeout ok)
  | streamtimeout => exact outCanon_enabled (State.canon_streamTimeout ok)
  | stageWrite => exact outCanon_enabled (State.canon_stageWrite ok)
  | recordSubmit => exact outCanon_enabled (State.canon_recordSubmit ok)
  | flush => exact outCanon_next (State.canon_flush ok)
  | qcfgWrite => exact outCanon_next (State.canon_writeQcfg ok)
  | dmwinWrite => exact outCanon_next (State.canon_writeDmwin ok)
  | bar4Read => exact outCanon_enabled (State.canon_bar4Read ok)
  | bar4Write => exact outCanon_enabled (State.canon_bar4Write ok)
  | pwrlimWrite => exact outCanon_next (State.canon_onMgmt ok (State.canon_writePwrlim ok))
  | lowpwrWrite => exact outCanon_next (State.canon_onMgmt ok (State.canon_writePwrmode ok))
  | wake => exact outCanon_next (State.canon_wake ok)
  | wakeHoldEnd => exact outCanon_enabled (State.canon_wakeHoldEnd ok)
  | registerWrite => exact outCanon_enabled (State.canon_registerWrite ok)
  | getVersion => exact outCanon_enabled (State.canon_getVersion ok)
  | getCapabilities => exact outCanon_enabled (State.canon_spdmAt ok (State.canon_answer (State.canon_setSpdm ok)))
  | negotiateAlgorithms => exact outCanon_enabled (State.canon_negotiate ok)
  | getDigests => exact outCanon_enabled (State.canon_spdmRequest ok (State.canon_answer ok))
  | getCertificate => exact outCanon_enabled (State.canon_spdmRequest ok (State.canon_answer ok))
  | challenge => exact outCanon_enabled (State.canon_spdmRequest ok (State.canon_answer ok))
  | getMeasurements => exact outCanon_enabled (State.canon_getMeasurements ok)
  | keyExchange => exact outCanon_enabled (State.canon_keyExchange ok)
  | finish => exact outCanon_enabled (State.canon_finishSession ok)
  | heartbeat => exact outCanon_enabled (State.canon_spdmRequest ok (State.canon_answer ok))
  | heartbeatFailure => exact outCanon_enabled (canonOpt_ite (canonOpt_some (State.canon_endSession ok)) canonOpt_none)
  | keyUpdate => exact outCanon_enabled (State.canon_spdmRequest ok (State.canon_answer ok))
  | endSession => exact outCanon_enabled (State.canon_spdmRequest ok (State.canon_endSession (State.canon_answer ok)))
  | ideKeyManagement => exact outCanon_enabled (State.canon_ideKey ok)
  | ideStreamInsecure => exact outCanon_enabled (State.canon_ideInsecure ok)
  | lockInterface => exact outCanon_enabled (State.canon_lock ok)
  | startInterface => exact outCanon_enabled (State.canon_startTdi ok)
  | stopInterface => exact outCanon_enabled (State.canon_stopTdi ok)
  | loadObject => exact outCanon_enabled (canonOpt_ite canonOpt_none (canonOpt_ite (canonOpt_some ok)
      (canonOpt_ite (canonOpt_some (State.canon_respondObj ok)) (canonOpt_some (State.canon_respondObj (State.canon_load ok))))))
  | unloadObject => exact outCanon_enabled (canonOpt_ite canonOpt_none (canonOpt_ite (canonOpt_some ok)
      (canonOpt_some (State.canon_respondObj (State.canon_unload ok)))))
  | attestationLogRead => exact outCanon_enabled (State.canon_logRead ok)
  | dispatchPass => exact outCanon_enabled (State.canon_dispatchPass ok)
  | sealedTransferIn => exact outCanon_enabled (State.canon_transferIn ok)
  | sealedTransferOut => exact outCanon_enabled (State.canon_transferOut ok)
  | foldStart => exact outCanon_enabled (State.canon_foldStart ok)
  | agreedCount => exact outCanon_enabled (State.canon_agreedCount ok)
  | noPreemptOverrun => exact outCanon_enabled (State.canon_overrun ok)
  | save => exact outCanon_enabled (State.canon_saveTask ok)
  | budgetExpiry => exact outCanon_enabled (State.canon_budgetExpiry ok)
  | governorSettlement => exact outCanon_enabled (State.canon_settlement ok)
  | freezeDebtRaise => exact outCanon_enabled (State.canon_raiseDebt ok)
  | freeContextSwitch => exact outCanon_enabled (State.canon_freeSwitch ok)
  | contextRetire => exact outCanon_enabled (State.canon_retire ok)
  | alignRelease => exact outCanon_enabled (State.canon_alignRelease ok)
  | alignmentTimeout => exact outCanon_enabled (State.canon_alignTimeout ok)
  | stopctlResume => exact outCanon_enabled (State.canon_sregStep ok)
  | stopctlEnd => exact outCanon_enabled (State.canon_sregStep ok)
  | queueEntryPerformed => exact outCanon_enabled (State.canon_perform ok)
  | fillStart => exact outCanon_enabled (State.canon_fillStart ok)
  | fillCompletion => exact outCanon_enabled (State.canon_fillDone ok)
  | tableLoadComplete => exact outCanon_enabled (State.canon_tableDone ok)
  | solveComplete => exact outCanon_enabled (State.canon_solveDone ok)
  | pinComplete => exact outCanon_enabled (State.canon_pinDone ok)
  | copyComplete => exact outCanon_enabled (State.canon_copyStep ok)
  | copyFailure => exact outCanon_enabled (State.canon_copyFailure ok)
  | copyErrClear => exact outCanon_enabled (State.canon_perform ok)
  | invalWrite => exact outCanon_enabled (State.canon_invalWrite ok)
  | slotmapWrite => exact outCanon_enabled (State.canon_slotmapWrite ok)
  | polgenWrite => exact outCanon_enabled (State.canon_perform ok)
  | rmodeWrite => exact outCanon_enabled (State.canon_sregStep ok)
  | windowDescriptorWrite => exact outCanon_enabled (State.canon_perform ok)
  | streamcfgWrite => exact outCanon_enabled (State.canon_perform ok)
  | obspost => exact outCanon_enabled (State.canon_penRetires ok)
  | actpop => exact outCanon_enabled (State.canon_penRetires ok)
  | wfi => exact outCanon_enabled (State.canon_penWfi ok)
  | wfiWake => exact outCanon_enabled (State.canon_penWake ok)
  | copyOnWrite => exact outCanon_enabled (State.canon_copyPage ok)
  | penAccessFault => exact outCanon_enabled (State.canon_penAccessFault ok)
  | stepBudget => exact outCanon_enabled (State.canon_penBudget ok)
  | episodeBudget => exact outCanon_enabled (State.canon_penBudget ok)
  | wallBackstop => exact outCanon_enabled (State.canon_wallBackstop ok)
  | paddockHardwareError => exact outCanon_enabled (State.canon_paddockError ok)
  | penCreate => exact outCanon_enabled (State.canon_perform ok)
  | penReset => exact outCanon_enabled (State.canon_perform ok)
  | penHalt => exact outCanon_enabled (State.canon_perform ok)
  | penSnap => exact outCanon_enabled (State.canon_perform ok)
  | penReadrec => exact outCanon_enabled (State.canon_perform ok)
  | penDestroy => exact outCanon_enabled (State.canon_perform ok)
  | sbiGetSpecVersion => exact outCanon_enabled (State.canon_sbi ok)
  | sbiGetImplId => exact outCanon_enabled (State.canon_sbi ok)
  | sbiGetImplVersion => exact outCanon_enabled (State.canon_sbi ok)
  | sbiProbeExtension => exact outCanon_enabled (State.canon_sbi ok)
  | sbiGetMvendorid => exact outCanon_enabled (State.canon_sbi ok)
  | sbiGetMarchid => exact outCanon_enabled (State.canon_sbi ok)
  | sbiGetMimpid => exact outCanon_enabled (State.canon_sbi ok)
  | sbiNotSupported => exact outCanon_enabled (State.canon_sbi ok)
  | keyRenewalRetraining =>
    exact outCanon_enabled (canonOpt_ite canonOpt_none (State.canon_control (State.canon_onPort (State.canon_newKeys (State.canon_floorBack ok)))))
  | hbmRefreshScrub => exact outCanon_enabled (State.canon_hbmScrub ok)
  | penHartSwitch => exact outCanon_enabled (State.canon_hartSwitch ok)
  | penInstruction => exact outCanon_enabled (State.canon_penInstruction ok)
  | _ => cases event

theorem outCanon_exec {i : Instr} {s : State} (ok : s.Canon) : OutCanon (exec i s) := by
  by_cases event : i.parts = .event
  · exact outCanon_event event ok
  · exact fun _ run => (quiet_exec event run).canon ok

/-! ### The next move -/

/-- The state in which the next move is run has its memories in canonical form. -/
structure NextMove.Canon (m : NextMove) : Prop where
  run : ∀ i s, m = .run i s → s.Canon
  idle : ∀ s, m = .idle s → s.Canon

theorem NextMove.canon_run {i : Instr} {s : State} (ok : s.Canon) : (NextMove.run i s).Canon :=
  ⟨fun _ _ e => by cases e; exact ok, (fun _ e => nomatch e)⟩

theorem NextMove.canon_idle {s : State} (ok : s.Canon) : (NextMove.idle s).Canon :=
  ⟨(fun _ _ e => nomatch e), fun _ e => by cases e; exact ok⟩

theorem State.canon_runSlot {s : State} {x : Slot} (ok : s.Canon) : (s.runSlot x).Canon := by
  unfold State.runSlot
  split
  · exact NextMove.canon_run ok
  · exact NextMove.canon_idle ((State.quiet_takeFault ..).canon ok)

theorem State.canon_issueGroup {s : State} {c : CtxId} {nf : Flags} {na : List (Fin 4 × Bool × BitVec 32)} (ok : s.Canon) :
    (s.issueGroup c nf na).Canon := by
  unfold State.issueGroup
  split
  next run => exact NextMove.canon_idle (State.canon_groupFault (State.canon_openNext ok run).1)
  next run =>
    have opened := (State.canon_openNext ok run).2 _ rfl
    split
    · exact State.canon_runSlot (State.canon_traceGroup opened)
    · exact NextMove.canon_idle (State.canon_endGroup opened)

theorem State.canon_issueFree {s : State} {c : CtxId} (ok : s.Canon) : (s.issueFree c).Canon := by
  unfold State.issueFree
  dsimp only
  refine State.canon_issueGroup (State.canon_settled ?_)
  split
  · exact State.canon_onCtxAt ok
  · exact ok

theorem State.canon_freeIssue {s : State} (ok : s.Canon) : s.freeIssue.Canon := by
  have idle (c : Option CtxId) : (NextMove.idle (s.setCurrent c).emptyCycle).Canon :=
    NextMove.canon_idle (State.canon_emptyCycle (State.canon_setCurrent ok))
  unfold State.freeIssue
  extract_lets pick
  have picked (l : List CtxId) : (pick l).Canon := by
    unfold pick
    split
    · exact State.canon_issueFree (State.canon_setCurrent ok)
    · exact idle none
  split
  · split
    · split
      · exact State.canon_issueFree ok
      · exact idle _
    · exact picked _
  · exact picked _

theorem State.canon_startCycle {s : State} (ok : s.Canon) : s.startCycle.Canon := by
  have started : s.cycleStart.Canon := State.canon_cycleStart ok
  unfold State.startCycle
  generalize s.cycleStart = u at started ⊢
  dsimp only
  split
  · exact NextMove.canon_idle (State.canon_endCycle started)
  · split
    · exact State.canon_freeIssue started
    next c _ =>
      have settled : (if (u.die.ctxAt c).fcHolds then (u, 0, []) else u.settled c).1.Canon := by
        split
        · exact started
        · exact State.canon_settled started
      generalize (if (u.die.ctxAt c).fcHolds then (u, 0, []) else u.settled c) = p at settled ⊢
      split
      · exact State.canon_issueGroup settled
      · exact State.canon_freeIssue settled

theorem State.canon_nextMove {s : State} (ok : s.Canon) : s.nextMove.Canon := by
  unfold State.nextMove
  split
  · exact NextMove.canon_idle (State.canon_nextTurn ok)
  · split
    · exact State.canon_startCycle ok
    · split
      · exact State.canon_runSlot ok
      · exact NextMove.canon_idle (State.canon_endGroup ok)

theorem State.canon_advance {s : State} (ok : s.Canon) : OutCanon s.advance := by
  unfold State.advance
  extract_lets issue
  have issued : OutCanon issue := by
    have next := State.canon_nextMove ok
    unfold issue
    split
    next run => exact outCanon_exec (next.run _ _ run)
    next run => exact outCanon_next (next.idle _ run)
  split
  · exact issued
  · split
    · split
      · exact outCanon_exec (State.canon_with ok rfl)
      · exact outCanon_refused
    · split
      · exact outCanon_exec ok
      · exact issued

end Sys2Proof.Machine

namespace Sys2Proof.Proofs

open Sys2Proof.Machine Sys2Proof.Claims

/-- Settles O5: whatever a step runs keeps the form, from every state. -/
theorem stepKeepsMemoryCanonical : Obligations.StepKeepsMemoryCanonical := fun _ t ok run => State.canon_advance ok t run

end Sys2Proof.Proofs
end
